-- ==== Sys2Proof/Word.lean ====
section
/-! DEFINITION. The widths of the Ivsivar's data (00_scope.md R5 to R7): bytes, 32-bit register words, 64-bit
register pairs, and the little-endian reading of byte lists. -/

namespace Sys2Proof

/-- One byte. -/
abbrev Byte := BitVec 8

/-- One 32-bit register word. -/
abbrev Word := BitVec 32

/-- One 64-bit register value (14_control.md R387). -/
abbrev Dword := BitVec 64

/-- 1 KiB, 1 MiB and 1 GiB in bytes (R5). -/
def kib : Nat := 1024
def mib : Nat := 1024 * 1024
def gib : Nat := 1024 * 1024 * 1024

/-- Bytes of one LBA (R37). -/
def lbaBytes : Nat := 4096

/-- LBAs of one zone's address range (R37). -/
def zoneLbas : Nat := 1048576

/-- LBAs of one slot (R139). -/
def slotLbas : Nat := 16

/-- Little-endian value of a byte list (R7). -/
def leNat : List Byte → Nat
  | [] => 0
  | b :: bs => b.toNat + 256 * leNat bs

/-- The `n` low bytes of a number, little-endian (R7). -/
def leBytes : Nat → Nat → List Byte
  | 0, _ => []
  | n + 1, v => BitVec.ofNat 8 v :: leBytes n (v / 256)

/-- `n` bytes of a list from offset `o`, zero beyond its end. -/
def bytesAt (bs : List Byte) (o n : Nat) : List Byte :=
  let t := (bs.drop o).take n
  t ++ List.replicate (n - t.length) 0#8

/-- The little-endian field of `n` bytes at offset `o`. -/
def fieldAt (bs : List Byte) (o n : Nat) : Nat := leNat (bytesAt bs o n)

/-- Bits `hi:lo` of a number (R6). -/
def bits (v hi lo : Nat) : Nat := (v / 2 ^ lo) % 2 ^ (hi + 1 - lo)

/-- Bit `i` of a number. -/
def bit (v i : Nat) : Bool := (v / 2 ^ i) % 2 == 1

/-- The least of a number and the largest value of an `n`-bit field. -/
def satBits (n v : Nat) : Nat := Nat.min v (2 ^ n - 1)

/-- `⌈a / b⌉`. -/
def ceilDiv (a b : Nat) : Nat := (a + b - 1) / b

end Sys2Proof
end

