-- ==== Sys2Proof/Types.lean ====
section
/-! DEFINITION. The data that commands carry and that the state is built from: NVMe entries and statuses, zone
shapes, flash descriptors, Balwen frames, NVMe-MI requests, and the sparse tables the state is held in. -/

namespace Sys2Proof

/-- An NVMe status: status code type and status code (00_scope.md, written forms). -/
structure Status where
  sct : Nat := 0
  sc  : Nat := 0
deriving DecidableEq, Repr

/-- The contents of one 4 KiB LBA, as the host sees them. -/
abbrev Block := List Byte

/-- A submission queue entry as host software wrote it, together with the host memory its data pointer names:
`blocks` for LBA data, `payload` for other data, `ranges` for a Copy's source range list (first LBA, LBAs), `sgl` for the types of the
SGL descriptors that it names where PSDT says SGL. -/
structure Entry where
  opc     : Nat := 0
  fuse    : Nat := 0
  psdt    : Nat := 0
  cid     : Nat := 0
  nsid    : Nat := 0
  cdw2    : Nat := 0
  cdw3    : Nat := 0
  mptr    : Nat := 0
  prp1    : Nat := 0
  prp2    : Nat := 0
  cdw10   : Nat := 0
  cdw11   : Nat := 0
  cdw12   : Nat := 0
  cdw13   : Nat := 0
  cdw14   : Nat := 0
  cdw15   : Nat := 0
  payload : List Byte := []
  blocks  : List Block := []
  ranges  : List (Nat × Nat) := []
  sgl     : List Nat := []
deriving DecidableEq, Repr

/-- The masters of the register fabric (14_control.md R386). -/
inductive Master where
  | attic
  | core (n : Nat)
  | coreUser (n : Nat)
  | jtag
  | host (port : Nat)
  | engine (n : Nat)
deriving DecidableEq, Repr

/-- The bus-master classes (R13, R386), in the coding of SYS_ACC_INFO.CLASS. -/
inductive MClass where
  | secure
  | priv
  | normal
  | host
  | engine
deriving DecidableEq, Repr

/-- A zone shape (02_zones.md R44). -/
structure Shape where
  density  : Nat := 1
  comp     : Bool := false
  life     : Nat := 1
  trimType : Nat := 0
  trimKeep : Nat := 0
  domain   : Nat := 0
  keySlot  : Nat := 0
deriving DecidableEq, Repr

/-- The states of a zone (02_zones.md R62). -/
inductive ZState where
  | empty
  | implOpen
  | explOpen
  | closed
  | full
  | readOnly
  | offline
deriving DecidableEq, Repr

/-- A descriptor of a die queue (07_flash_channels.md R201), with the instant it was posted. -/
structure Desc where
  op      : Nat := 0
  die     : Nat := 0
  queue   : Nat := 0
  dens    : Nat := 0
  pass    : Nat := 0
  planes  : Nat := 15
  suspMax : Nat := 0
  block   : Nat := 0
  wl      : Nat := 0
  level   : Nat := 0
  cw      : Nat := 0
  thr     : Nat := 0
  tag     : Nat := 0
  addr    : Nat := 0
  rsvd    : Nat := 0
  posted  : Nat := 0
deriving DecidableEq, Repr

/-- Who posts a descriptor and what its result is for (R252, R262); the Scarab sequencer's own operations answer to no issuer. -/
inductive Issuer where
  | hostRead (ctx : Nat) (zone lba : Nat)
  | constituent (tag : Nat)
  | background (zone : Nat)
  | patrol (band : Nat)
  | assembler (zone : Nat)
  | dump
  | firmware
  | sequencer
deriving DecidableEq, Repr

/-- What a status poll of a die shows (R204, R209, R210). -/
inductive DieStatus where
  | busy
  | suspended
  | complete
  /-- Complete, with the die's failure bit set. -/
  | failed
deriving DecidableEq, Repr

/-- A STAMP as a decoder found it (08_flash_integrity.md R220, R221). -/
structure Stamp where
  index : Nat := 0
  kind  : Nat := 0
  band  : Nat := 0
  bgen  : Nat := 0
deriving DecidableEq, Repr

/-- A wrapped key blob, held symbolically: the wrapping key and the plaintext (06_cipher.md, RFC 5649). -/
structure Wrapped where
  kek   : Nat := 0
  plain : List Byte := []
deriving DecidableEq, Repr

/-- A received Balwen frame (11_balwen.md R324, R326): its header fields and whether its CRCs pass. -/
structure BFrame where
  ver    : Nat := 1
  cls    : Nat := 0
  unseq  : Bool := false
  ttl    : Nat := 0
  dst    : Nat := 0
  src    : Nat := 0
  seq    : Nat := 0
  ack    : Nat := 0
  len    : Nat := 0
  credit : Nat := 0
  creditClass : Nat := 0
  rsvd   : Nat := 0
  hcrcOk : Bool := true
  pcrcOk : Bool := true
  /-- Destination MAC address and EtherType of the IEEE 802.3 frame that carried it on an Ethernet-mode link (R323). -/
  dmac   : Nat := 0
  etype  : Nat := 0x88B5
  /-- The TYPE that the header holds, where it is none that R327 lists. -/
  typ    : Option Nat := none
deriving DecidableEq, Repr

/-- A token of a compressed payload (05_transforms.md R144): a literal byte, or a match of a length and a distance. -/
inductive Tok where
  | lit (b : Byte)
  | copy (len dist : Nat)
deriving DecidableEq, Repr

/-- A cipher unit as it is stored: what it was sealed from and under (R166, R167). Its plaintext is the LBAs of `plain`, or the compressed
payload `pay` (R143); `ctr` is the counter value it was sealed under, `nonce` the CTR stored with it, and `poison` marks data that cannot
authenticate (R357). -/
structure Sealed where
  plain  : List Block := []
  pay    : List Byte := []
  key    : Nat := 0
  salt   : Nat := 0
  ctr    : Nat := 0
  lba    : Nat := 0
  nsid   : Nat := 0
  zone   : Nat := 0
  bgen   : Nat := 0
  nonce  : Nat := 0
  poison : Bool := false
deriving DecidableEq, Repr

/-- One LBA of a zone without compression: its codeword position in the band (R197) and, while the Granary holds it,
its segment (R281). -/
structure LUnit where
  pos  : Nat := 0
  sealed : Sealed := {}
  seg  : Option Nat := none
deriving DecidableEq, Repr

/-- One frame of a compressed zone (R140, R142): `off` is its stream unit once it has one (R147), `hdr` its 48-byte header as stored. -/
structure Frame where
  slot     : Nat := 0
  first    : Nat := 0
  count    : Nat := 16
  raw      : Bool := false
  part     : Bool := false
  trimmed  : Bool := false
  payBytes : Nat := 0
  sealed   : Sealed := {}
  off      : Option Nat := none
  seg      : Option Nat := none
  abandoned : Bool := false
  hdr      : List Byte := []
deriving DecidableEq, Repr

/-- The compact index of a compressed zone, in the index block of its band (R152 to R154): slot entries that are not UNWRITTEN, checkpoints that
have been set, and whether the block is lost and waits to be rebuilt (R156, 12_memory.md R357). -/
structure Index where
  entries : List (Nat × Nat) := []
  ckpts   : List (Nat × Nat) := []
  lost    : Bool := false
deriving DecidableEq, Repr

/-- The outcome of a ticketed append in a ticket set (R94, R96). -/
structure Ticket where
  ticket  : Nat := 0
  lba     : Nat := 0
  nlb     : Nat := 0
  applied : Bool := false
  ctx     : Nat := 0
deriving DecidableEq, Repr

/-- A move of a zone by the Termite (duty 1 to 4) or by die-failure migration (duty 0) (R242, R245). -/
structure Move where
  target : Nat := 0
  gen    : Nat := 0
  duty   : Nat := 0
  keys   : List (Nat × Nat) := []
  /-- The key and salt of the first unit, once it has been moved (06_cipher.md R171). -/
  first  : Option (Nat × Nat) := none
  ctr    : Nat := 0
  /-- The earliest end that the copy rate allows (R246). -/
  due    : Nat := 0
deriving DecidableEq, Repr

/-- A zone (02_zones.md R62, R71). Pointers are offsets from ZSLBA. `ap` is the accepted pointer of R303, `stream` the
units of the stream (R147), `tail` those in its last codeword where that is not full, `starts` the first LBA and
length of every applied write (R305), `fills` (first position and length) and `closedCw` the fill record (R290), `parity` the
stripes whose running parity the Granary holds, with its segment, and `waiting` the commands that wait for the writes already
validated to apply (R64). -/
structure Zone where
  st        : ZState := .empty
  shape     : Option Shape := none
  shaped    : Bool := false
  band      : Option Nat := none
  /-- Data die-blocks of the band that the zone was bound to, which fix its ZCAP from binding until reset (R51). -/
  width     : Nat := 15
  vp        : Nat := 0
  wp        : Nat := 0
  ap        : Nat := 0
  zfc       : Bool := false
  fzr       : Bool := false
  ext       : Option (List Byte) := none
  fill      : Nat := 0
  abandoned : Nat := 0
  headers   : Nat := 0
  stream    : Nat := 0
  tail      : Nat := 0
  nextPos   : Nat := 0
  fills     : List (Nat × Nat) := []
  parity    : List (Nat × Nat) := []
  closedCw  : List (Nat × Nat) := []
  units     : List (Nat × LUnit) := []
  frames    : List Frame := []
  index     : Index := {}
  /-- The zone table entry is lost to an uncorrectable error, and commands to the zone wait for firmware to rebuild it (12_memory.md R357). -/
  rebuilding : Bool := false
  tickets   : List Ticket := []
  starts    : List (Nat × Nat) := []
  queue     : List Nat := []
  relGen    : Nat := 0
  lastWrite : Nat := 0
  stopped   : Bool := false
  waiting   : List Nat := []
  move      : Option Move := none
  refresh   : Bool := false
  deltas    : Bool := false
  /-- The number of the newest journal record of the zone's state, which the floor of 10_granary.md R285 asks for; 0 none. -/
  jseq      : Nat := 0
deriving DecidableEq, Repr

/-- A block-state journal record (R233). -/
structure JRec where
  typ    : Nat := 0
  cause  : Nat := 0
  ch     : Nat := 0
  die    : Nat := 0
  block  : Nat := 0
  aux    : Nat := 0
  erases : Nat := 0
  bgen   : Nat := 0
deriving DecidableEq, Repr

/-- One Granary page copied to or from a mirror partner (R333), or a state record (R334): one that names a page (`zone` and `lba`), a zone table delta
(`delta`, without the zone's data), or a journal record (`jrec`). -/
structure MirrorPage where
  offset : Nat := 0
  kind   : Nat := 0
  ctr    : Nat := 0
  tag    : Nat := 0
  bytes  : Nat := 4096
  state  : Bool := false
  zone   : Nat := 0
  lba    : Nat := 0
  accEnd : Nat := 0
  sealed : Sealed := {}
  delta  : Option Zone := none
  jrec   : Option JRec := none
deriving DecidableEq, Repr

/-- An NVMe-MI request (17_attic.md R461 to R465): endpoint (0 SMBus, 1 I3C, 2 + p port p), opcode and data. -/
structure MiReq where
  endpoint : Nat := 0
  opcode   : Nat := 0
  fn       : Nat := 0
  arg      : Nat := 0
  off      : Nat := 0
  data     : List Byte := []
  cmd      : Entry := {}
deriving DecidableEq, Repr

/-- The PLLs of the clock tree (15_clocks.md R412). -/
inductive Pll where
  | root
  | dphy
  | pphy
  | hphy (port : Nat)
deriving DecidableEq, Repr

/-- The outcome of one read of the memory correction path (12_memory.md R354 to R357): no error, an error confined
to one device or bit, or an uncorrectable error. -/
inductive MemErr where
  | none
  | corrected (dev : Nat)
  | uncorrectable
deriving DecidableEq, Repr

/-- What wakes DOZE or CELLAR (16_power_thermal.md R438, R439). -/
inductive WakeSrc where
  | hostTlp
  | eventIrq
  | balwen
  | timer
  | mailbox
  | l12Exit
  | perst
  | attic
  | warm
deriving DecidableEq, Repr

/-- The memory regions of MI_ERR_INFO.REGION (12_memory.md R357, R368). -/
inductive MemRegion where
  | coreLocal
  | l2
  | scarab
  | attic
  | zoneTable (zone : Nat)
  | larder (ctx : Nat)
  | contexts
  | granData (zone lba : Nat)
  | granState
  | index (zone : Nat)
  | threshold (blk : Nat)
  | firmware
  | other
deriving DecidableEq, Repr

/-- A demand read of a memory (12_memory.md R356): the memory, its region, the address and what the read finds there. -/
structure MemRead where
  sram   : Bool := false
  region : MemRegion := .other
  addr   : Nat := 0
  err    : MemErr := .none
deriving DecidableEq, Repr

end Sys2Proof
end

