-- ==== Sys2Proof/Syntax.lean ====
section
/-! DEFINITION. The commands of the Ivsivar: one constructor for every row of spec/opcode_table.json, with the
operands the row's rule gives it. A context operand names a command context (03_queues.md R76); the others name the
function, queue, zone, die, link, register or master that the event concerns, and the measured values that the
outside world supplies with it. -/

namespace Sys2Proof

/-- One step of the part, as opcode_table.json lists them. -/
inductive Instr where
  /-- SQ_TAIL_DOORBELL (R121). Host writes a submission queue tail doorbell, which is recorded and makes the queue fetchable. -/
  | sqTailDoorbell (fn : Nat) (sqid : Nat) (tail : Nat) (entries : List Entry)
  /-- CQ_HEAD_DOORBELL (R82). Host writes a completion queue head doorbell, which frees completion queue slots for posting. -/
  | cqHeadDoorbell (fn : Nat) (cqid : Nat) (head : Nat)
  /-- ARBITRATION_ROUND (R128). At each 1 µs round start, functions gain WEIGHT and fetch while their deficit and token buckets allow. -/
  | arbitrationRound
  /-- COMMAND_STARTED (R78). A FETCHED command whose checks passed starts once every earlier command of its queue has started and the queue is not frozen. -/
  | commandStarted (ctx : Nat)
  /-- COMPLETION_POSTED (R82). A COMPLETED command is posted once every earlier command of its queue is posted and a CQ slot is free, raising MSI-X as configured. -/
  | completionPosted (fn : Nat) (sqid : Nat)
  /-- COMPLETION_POSTING_WAIT (R82). A posting has waited over 1 ms on a full completion queue and event source 101 is raised. -/
  | completionPostingWait (fn : Nat) (sqid : Nat)
  /-- READ (R18). Read command served per LBA from the Granary, as zeros at or above the write pointer, or from flash. -/
  | read (ctx : Nat) (mem : Option MemRead := none)
  /-- READ_DATA_TRANSFERRED (R79). All data of a Read has been transferred to the host, which reaches its commit point and fixes its DW0 margin status. -/
  | readDataTransferred (ctx : Nat)
  /-- WRITE (R59). Write command is validated against its zone and starts moving data along the write path. -/
  | write (ctx : Nat)
  /-- ZONE_APPEND (R95). Zone Append takes the validation pointer as its LBA, with ticket handling when Ticketed Append is on. -/
  | zoneAppend (ctx : Nat)
  /-- WRITE_ZEROES (R111). Write Zeroes writes zeros as data at the validation pointer. -/
  | writeZeroes (ctx : Nat)
  /-- VERIFY (R157). Verify decodes and checks tags of the range and transfers no data. -/
  | verify (ctx : Nat)
  /-- FLUSH (R88). Flush waits until every covered write is on flash, forcing stripes and partial slots. -/
  | flush (ctx : Nat)
  /-- COPY (R111). Copy reads source ranges and writes them at the destination zone's validation pointer. -/
  | copy (ctx : Nat)
  /-- ZONE_SHAPE (R45). Zone Shape sets the shape of one Empty zone or the namespace default after ordered checks. -/
  | zoneShape (ctx : Nat)
  /-- PEER_COPY (R340). Peer Copy copies LBAs from a source node's namespace into a zone of the issuing function. -/
  | peerCopy (ctx : Nat)
  /-- OPEN (R62). Zone Management Send Open explicitly opens a zone, binding a band and taking resources. -/
  | zoneOpen (ctx : Nat)
  /-- CLOSE (R62). Zone Management Send Close closes an opened zone after validated writes apply. -/
  | zoneClose (ctx : Nat)
  /-- FINISH (R62). Zone Management Send Finish makes a zone Full, forcing partial slots and the open stripe. -/
  | zoneFinish (ctx : Nat)
  /-- RESET (R64). Zone Management Send Reset returns a zone to Empty, clearing shape and extension and unbinding its band. -/
  | zoneReset (ctx : Nat)
  /-- OFFLINE (R62). Zone Management Send Offline moves a Read Only zone to Offline and unbinds its band. -/
  | zoneOffline (ctx : Nat)
  /-- SET_ZONE_DESCRIPTOR_EXTENSION (R68). Stores a 64-byte extension on an Empty zone, binding a band and moving it to Closed. -/
  | setZoneDescriptorExtension (ctx : Nat)
  /-- SELECT_ALL (R535). A Zone Management Send with Select All applies its action to each eligible zone in ascending order. -/
  | selectAll (ctx : Nat)
  /-- REPORT_ZONES (R66). Zone Management Receive Report Zones returns zone descriptors. -/
  | reportZones (ctx : Nat)
  /-- EXTENDED_REPORT_ZONES (R68). Zone Management Receive Extended Report Zones returns descriptors with stored extensions. -/
  | extendedReportZones (ctx : Nat)
  /-- DELETE_IO_SUBMISSION_QUEUE (R105). Deletes a submission queue, aborting unstarted fetched commands with 0x0/0x08. -/
  | deleteIoSubmissionQueue (ctx : Nat)
  /-- CREATE_IO_SUBMISSION_QUEUE (R110). Creates a physically contiguous I/O submission queue. -/
  | createIoSubmissionQueue (ctx : Nat)
  /-- DELETE_IO_COMPLETION_QUEUE (R110). Deletes an I/O completion queue. -/
  | deleteIoCompletionQueue (ctx : Nat)
  /-- CREATE_IO_COMPLETION_QUEUE (R110). Creates a physically contiguous I/O completion queue. -/
  | createIoCompletionQueue (ctx : Nat)
  /-- IDENTIFY (R117). Returns Identify data, including the Primary Controller Capabilities and Secondary Controller List. -/
  | identify (ctx : Nat)
  /-- ABORT (R106). Abort decides atomically whether the target command is aborted according to its state. -/
  | abortCmd (ctx : Nat)
  /-- ASYNCHRONOUS_EVENT_REQUEST (R82). Queues a request that is posted when an asynchronous event is ready, outside queue order. -/
  | asynchronousEventRequest (ctx : Nat)
  /-- NAMESPACE_CREATE (R123). Namespace Management create makes a zoned namespace with its zone count and optional limits. -/
  | namespaceCreate (ctx : Nat)
  /-- NAMESPACE_DELETE (R55). Namespace Management delete removes a namespace and its zones. -/
  | namespaceDelete (ctx : Nat)
  /-- NAMESPACE_ATTACH (R124). Attaches a namespace to one controller, with its zones and settings unchanged. -/
  | namespaceAttach (ctx : Nat)
  /-- NAMESPACE_DETACH (R125). Detaches a namespace at one instant and completes after started commands post. -/
  | namespaceDetach (ctx : Nat)
  /-- FORMAT_NVM (R110). Format NVM with SES 0 and LBAF 0 resets every zone of the namespace. -/
  | formatNvm (ctx : Nat)
  /-- FIRMWARE_IMAGE_DOWNLOAD (R478). Stages a piece of a firmware or configuration image. -/
  | firmwareImageDownload (ctx : Nat)
  /-- FIRMWARE_COMMIT (R479). Checks and writes a staged image into its slot and programs COMMIT. -/
  | firmwareCommit (ctx : Nat)
  /-- FIRMWARE_ACTIVATION (R504). Commit action 011 stops fetching, drains started commands, and resets firmware into the new image. -/
  | firmwareActivation (ctx : Nat)
  /-- ACTIVATION_DRAIN_TIMEOUT (R505). Started commands have not all posted within 100 ms, so fetching resumes under the old image. -/
  | activationDrainTimeout
  /-- SECONDARY_CONTROLLER_ASSIGN (R118). Sets a secondary controller's VQ or VI count from the shared pool. -/
  | secondaryControllerAssign (ctx : Nat)
  /-- SECONDARY_CONTROLLER_ONLINE (R118). Brings a secondary controller online. -/
  | secondaryControllerOnline (ctx : Nat)
  /-- SECONDARY_CONTROLLER_OFFLINE (R118). Takes a secondary controller offline. -/
  | secondaryControllerOffline (ctx : Nat)
  /-- NVME_MI_SEND (R110). Admin NVMe-MI Send carries an NVMe-MI command in band. -/
  | nvmeMiSend (ctx : Nat)
  /-- NVME_MI_RECEIVE (R110). Admin NVMe-MI Receive returns NVMe-MI data in band. -/
  | nvmeMiReceive (ctx : Nat)
  /-- INSTALL_ROOT_TRANSPORT_KEY (R181). Security Send operation 1 installs the root transport key through tunnelling. -/
  | installRootTransportKey (ctx : Nat)
  /-- LOAD_FUNCTION_TRANSPORT_KEY (R181). Security Send operation 2 unwraps and loads a function transport key. -/
  | loadFunctionTransportKey (ctx : Nat) (blob : Wrapped)
  /-- LOAD_SLOT (R181). Security Send operation 3 unwraps a slot record and loads it into a key slot. -/
  | loadSlot (ctx : Nat) (blob : Wrapped)
  /-- ERASE_SLOT (R182). Security Send operation 4 erases a key slot. -/
  | eraseSlot (ctx : Nat)
  /-- SLOT_STATUS (R184). Security Receive returns 16-byte slot status entries. -/
  | slotStatus (ctx : Nat)
  /-- SECURITY_PROTOCOL_LIST (R179). Security Receive with SECP 0x00 lists the supported protocols. -/
  | securityProtocolList (ctx : Nat)
  /-- CONTINUE (R103). Resume Queue Continue posts held completions, starts held commands and resumes fetching. -/
  | resumeContinue (ctx : Nat)
  /-- DISCARD (R104). Resume Queue Discard posts started commands and completes held fetched ones with 0x7/0xC0, optionally draining the queue. -/
  | resumeDiscard (ctx : Nat)
  /-- GET_FEATURES (R112). Returns the current value of a feature. -/
  | getFeatures (ctx : Nat)
  /-- SET_TENANT_SHARE (R133). Feature 0xD0 sets a function's shares and grant table. -/
  | setTenantShare (ctx : Nat)
  /-- SET_THERMAL_GRACE (R451). Feature 0xD1 sets the thermal grace time. -/
  | setThermalGrace (ctx : Nat)
  /-- SET_DETOUR_POLICY (R264). Feature 0xD2 sets a namespace deadline or a domain's detour budget. -/
  | setDetourPolicy (ctx : Nat)
  /-- SET_TICKETED_APPEND (R93). Feature 0xD3 turns ticketed appends on or off for a namespace. -/
  | setTicketedAppend (ctx : Nat)
  /-- SET_MIRROR_MODE (R307). Feature 0xD4 sets mirror mode, partner, policy and timeout. -/
  | setMirrorMode (ctx : Nat)
  /-- SET_VOLATILE_WRITE_CACHE (R87). Set Features 0x06 accepts WCE 1 and fails WCE 0. -/
  | setVolatileWriteCache (ctx : Nat)
  /-- SET_POWER_MANAGEMENT (R444). Feature 0x02 selects a power state whose flash cap feeds FT_CAP_LIM. -/
  | setPowerManagement (ctx : Nat)
  /-- SET_HOST_CONTROLLED_THERMAL_MANAGEMENT (R450). Feature 0x10 sets TMT1 and TMT2. -/
  | setHostControlledThermalManagement (ctx : Nat)
  /-- SET_TEMPERATURE_THRESHOLD (R448). Feature 0x04 sets the composite temperature threshold. -/
  | setTemperatureThreshold (ctx : Nat)
  /-- GET_LOG_PAGE (R110). Returns a standard log page such as SMART / Health. -/
  | getLogPage (ctx : Nat)
  /-- FREEZE_LOG (R100). Log page 0xC0 returns the function's frozen queues and unmasks the freeze event. -/
  | freezeLog (ctx : Nat)
  /-- ZONE_PHYSICAL_USAGE_LOG (R69). Log page 0xC1 returns band and zone usage of a namespace. -/
  | zonePhysicalUsageLog (ctx : Nat)
  /-- BLOCK_WEAR_LOG (R240). Log page 0xC2 returns row summaries or die-block detail. -/
  | blockWearLog (ctx : Nat)
  /-- EVENT_RECORDER_LOG (R473). Log page 0xC3 returns a snapshot of the event recorder, optionally clearing it. -/
  | eventRecorderLog (ctx : Nat)
  /-- PEER_RECOVERY_LOG (R337). Log page 0xC4 reports held owner copies, or discards an entry with LSP bit 0. -/
  | peerRecoveryLog (ctx : Nat)
  /-- HOLD_UP_HEALTH_LOG (R313). Log page 0xC5 reports hold-up health, dumps and forcing counts. -/
  | holdUpHealthLog (ctx : Nat)
  /-- READ_MARGIN_HISTOGRAM_LOG (R274). Log page 0xC6 returns margin bins, optionally clearing them. -/
  | readMarginHistogramLog (ctx : Nat)
  /-- FLR (R134). A function-level reset increments the function generation and squashes the function's work. -/
  | flr (fn : Nat)
  /-- VF_DISABLE (R134). Clearing VF Enable or reducing NumVFs squashes the disabled VFs' work. -/
  | vfDisable (port : Nat) (numVfs : Nat)
  /-- VF_ENABLE (R119). VF Enable makes the covered VFs' configuration space appear. -/
  | vfEnable (port : Nat) (numVfs : Nat)
  /-- CONTROLLER_RESET (R502). CC.EN written from 1 to 0 takes the function's work away as an FLR does. -/
  | controllerReset (fn : Nat)
  /-- CONTROLLER_ENABLE (R491). CC.EN set enables a controller, which reports ready once the device is ready. -/
  | controllerEnable (fn : Nat)
  /-- SHUTDOWN_NOTIFICATION (R441). CC.SHN set on every enabled PF leads to QUIESCE. -/
  | shutdownNotification (fn : Nat)
  /-- PERST_N (R502). HP_n_PERST_N resets the port's PCIe logic and acts as an FLR of its PF. -/
  | perstN (port : Nat)
  /-- SQUASH_DONE (R134). Old-generation contexts have all returned to FREE, and the reset is reported complete. -/
  | squashDone (fn : Nat)
  /-- FALL_BACK_SQUASH (R134). At 50 ms, remaining old-generation contexts are squashed by force and event source 65 is raised. -/
  | fallBackSquash (fn : Nat) (bufs : List Word := [])
  /-- HOST_PHY_PLL_LOSS (R413). A host PHY PLL loses lock and that port's link fails. -/
  | hostPhyPllLoss (port : Nat)
  /-- QUEUE_RE_HOMING (R109). Firmware re-homes a queue, incrementing its epoch and redelivering its firmware commands. -/
  | queueReHoming (fn : Nat) (sqid : Nat) (cluster : Nat)
  /-- ZE_FBL_PUSH (R74). Writing a band number appends an erased free band to the selected domain's free-band list. -/
  | zeFblPush (m : Master) (v : Word)
  /-- FRAME_PACKED (R54). A compressed write's frames are packed and its physical fit is settled atomically with applying the first LBA. -/
  | framePacked (ctx : Nat)
  /-- GRANARY_APPLY (R15). A write's data is copied into the Granary, advancing the write pointer and fixing status unless it must wait for flash. -/
  | granaryApply (ctx : Nat)
  /-- GRANARY_SPACE_OBTAINED (R17). A write held for Granary space obtains it in wait order and proceeds. -/
  | granarySpaceObtained
  /-- ZONE_TABLE_CHECKPOINT (R283). Firmware writes a zone table checkpoint at least every 60 s. -/
  | zoneTableCheckpoint
  /-- CIPHER_UNIT_DONE (R168). A cipher unit's encryption or decryption and tag check ends. -/
  | cipherUnitDone (ctx : Nat) (unit : Nat)
  /-- SHADOW_PENDING_TIMEOUT (R189). A shadow has been pending over 100 ms and event source 265 is raised. -/
  | shadowPendingTimeout (slot : Nat)
  /-- CI_KW_LOAD (R170). CI_KW_CMD OP 1 loads the staged key, salt and floor into the selected slot. -/
  | ciKwLoad (m : Master)
  /-- CI_KW_ERASE (R170). CI_KW_CMD OP 2 erases the selected slot. -/
  | ciKwErase (m : Master)
  /-- CI_KS_CTR_WRITE (R188). A write to CI_KS_CTR raises the slot counter only if above the current value. -/
  | ciKsCtrWrite (m : Master) (hi : Word)
  /-- CI_KS_CEIL_WRITE (R177). A write to CI_KS_CEIL raises the counter ceiling and releases writes waiting at it. -/
  | ciKsCeilWrite (m : Master) (hi : Word)
  /-- DESCRIPTOR_POST (R537). A descriptor is posted to a die queue, waiting for room if the queue is full. -/
  | descriptorPost (ch : Nat) (d : Desc) (who : Issuer)
  /-- DIE_ISSUE (R253). An idle die issues the next descriptor by the service order once its tokens are granted. -/
  | dieIssue (ch : Nat) (die : Nat)
  /-- TOKEN_GRANT (R214). The token arbiter grants a waiting head request once it fits in the pool. -/
  | tokenGrant
  /-- TOKEN_WAIT_TIMEOUT (R215). A token request has waited over 10 ms and the channel's odd event source is raised. -/
  | tokenWaitTimeout (ch : Nat) (die : Nat)
  /-- STATUS_POLL (R204). The Scarab sequencer polls a die with Read Status Enhanced at its poll interval. -/
  | statusPoll (ch : Nat) (die : Nat) (shows : DieStatus)
  /-- OPERATION_RESUME (R255). A suspended operation is resumed when the read queue empties or the window's read count or time ends. -/
  | operationResume (ch : Nat) (die : Nat)
  /-- PAGE_READ_DONE (R205). A page read ends, its codewords move to the hard decoders and its tokens return. -/
  | pageReadDone (ch : Nat) (die : Nat)
  /-- SOFT_READ_DONE (R206). A soft-read set ends and its codewords go to a soft decoder. -/
  | softReadDone (ch : Nat) (die : Nat)
  /-- CALIBRATION_READ_DONE (R206). A calibration read ends and returns bit counts. -/
  | calibrationReadDone (ch : Nat) (die : Nat) (counts : List Nat)
  /-- PROGRAM_PASS_DONE (R207). A program pass ends, OK or PROG_FAIL, and its completion is returned. -/
  | programPassDone (ch : Nat) (die : Nat) (ok : Bool)
  /-- ERASE_DONE (R208). An erase ends, OK or ERASE_FAIL, and its completion is returned. -/
  | eraseDone (ch : Nat) (die : Nat) (ok : Bool)
  /-- DUMP_PROGRAM_DONE (R208). One SLC dump wordline has been programmed into the Garret. -/
  | dumpProgramDone (ch : Nat) (die : Nat) (ok : Bool := true)
  /-- DIE_OPERATION_DONE (R202). An Identify, Set or Get Features or Reset LUN die operation ends. -/
  | dieOperationDone (ch : Nat) (die : Nat) (step : Nat := 0)
  /-- DIE_TEMPERATURE_READ (R229). Every 1 s the Scarab sequencer reads each die's temperature by Get Features. -/
  | dieTemperatureRead (ch : Nat) (die : Nat) (temp : Int)
  /-- OPERATION_TIMEOUT (R212). An operation is not complete within its limit, so Reset LUN is issued and it completes TIMEOUT. -/
  | operationTimeout (ch : Nat) (die : Nat)
  /-- SC_CANCEL (R203). Cancels every queued, unissued descriptor carrying the written TAG. -/
  | scCancel (m : Master) (ch : Nat) (tag : Word)
  /-- SC_CTL_RUN (R200). Setting RUN starts initialisation from HALTED or resumes from PARKED. -/
  | scCtlRun (m : Master) (ch : Nat)
  /-- SC_UC_DATA_WRITE (R199). Writes a microcode word into a halted sequencer and advances the address. -/
  | scUcDataWrite (m : Master) (ch : Nat) (v : Word)
  /-- FLASH_DOMAIN_POWERED (R200). FLASH_k is powered and its sequencers go from OFF to HALTED. -/
  | flashDomainPowered (k : Nat)
  /-- CHANNEL_INIT_DONE (R211). Channel initialisation ends and the sequencer enters RUNNING. -/
  | channelInitDone (ch : Nat) (dies : List (Nat × Nat))
  /-- INIT_LIMIT_EXPIRED (R211). At 200 ms the dies that have not finished initialisation are marked unusable. -/
  | initLimitExpired (ch : Nat)
  /-- HARD_DECODE_DONE (R225). A hard decoder finishes a codeword, giving its margin or a failure that starts the soft-read set. -/
  | hardDecodeDone (tag : Nat) (errors : Option Nat) (stamp : Stamp)
  /-- SOFT_DECODE_DONE (R222). A three-bit soft decode ends, succeeding or passing the codeword to firmware ladder steps. -/
  | softDecodeDone (tag : Nat) (ok : Bool) (stamp : Stamp)
  /-- STRIPE_REBUILD_DONE (R222). A page has been rebuilt from its stripe, or the codeword is unrecovered. -/
  | stripeRebuildDone (tag : Nat) (ok : Bool) (margins : List Nat := [])
  /-- LD_EWQ_POP (R250). Reading LD_EWQ_POP returns and removes the oldest early-warning entry. -/
  | ldEwqPop (m : Master)
  /-- DETOUR_LATE_TEST (R260). At deadline minus r_own, an unissued page read is tested once more for a detour. -/
  | detourLateTest (tag : Nat) (cross : Bool := false)
  /-- DETOUR_ASSEMBLED (R261). The decoded constituents are XORed and the rebuilt page continues at read stage 4. -/
  | detourAssembled (tag : Nat) (stamp : Option Stamp := none)
  /-- MIGRATION_MOVE_DONE (R242). A die-failure migration move ends, switching the zone's map and unbinding the source band. -/
  | migrationMoveDone (nsid : Nat) (zone : Nat)
  /-- TERMITE_MOVE_START (R245). The Termite begins moving a Full zone, incrementing its relocation generation. -/
  | termiteMoveStart (nsid : Nat) (zone : Nat) (target : Nat) (duty : Nat)
  /-- TERMITE_MOVE_DONE (R245). A Termite move ends and the map switches if the generation is unchanged. -/
  | termiteMoveDone (nsid : Nat) (zone : Nat)
  /-- PATROL (R247). At its interval, patrol reads sample codewords of every band holding data. -/
  | patrol (band : Nat) (margins : List Nat)
  /-- AGE_REFRESH (R248). A Full zone's powered age reaches its limit and it is queued for refresh. -/
  | ageRefresh (nsid : Nat) (zone : Nat)
  /-- LINE_HALF_PERIOD (R294). A line peak or zero crossing arrives and the line monitor updates its lock and half-period. -/
  | lineHalfPeriod (us : Nat)
  /-- LINE_LOSS_DETECTED (R293). No peak, edge or DC level arrives in time and line loss starts HOLDUP. -/
  | lineLossDetected (mv : Nat := 0) (us : Nat := 0)
  /-- BO1_CROSSED (R295). BO_SENSE falls below BO1 and HOLDUP starts. -/
  | bo1Crossed (mv : Nat)
  /-- BO2_CROSSED (R295). BO_SENSE falls below BO2 and no new pulse is issued. -/
  | bo2Crossed (mv : Nat)
  /-- HU_LINE_LOW (R296). HU_LINE is low for 200 ns and the device enters HOLDUP. -/
  | huLineLow (ns : Nat)
  /-- TRIP (R453). A sensor reaches 115 °C, entering HOLDUP and driving THERM_TRIP_N low. -/
  | trip (sensor : Nat) (temp : Int)
  /-- DUMP_END (R300). The dump writes its end record and event recorder copy and the sequencers stop. -/
  | dumpEnd
  /-- HOLD_UP_COMPLETED_RESET (R302). 100 ms after the dump end, with power still present, the Cellar issues a chip warm reset. -/
  | holdUpCompletedReset (mv : Nat)
  /-- HOLD_UP_TEST_START (R311). 10 min after LOAD and every 24 h the Attic starts the hold-up health test. -/
  | holdUpTestStart (v0 : Nat)
  /-- HU_TEST_START (R314). Writing HU_TEST.START starts the hold-up health test. -/
  | huTestStart (m : Master) (v0 : Nat)
  /-- HOLD_UP_TEST_END (R311). At t_T, or on crossing BOT, HU_TEST_N is released and V1 sampled. -/
  | holdUpTestEnd (v1 : Nat) (us : Nat := 0)
  /-- HOLD_UP_TEST_RESULT (R312). 2 s after the test, the result is applied and write-through lifted if good. -/
  | holdUpTestResult
  /-- MIRROR_PARTNER_LOST (R309). The partner does not acknowledge within TMO and is judged lost. -/
  | mirrorPartnerLost (ms : Nat := 0)
  /-- MIRROR_PARTNER_RESTORED (R309). The partner returns, unreleased pages are copied to it and mirrored acceptance resumes. -/
  | mirrorPartnerRestored
  /-- OWNER_LOST (R335). No frame from the owner for PB_ORPH.TMO, so the partner begins persisting its copies. -/
  | ownerLost (node : Nat) (ms : Nat := 0)
  /-- ORPHAN_PULL_TIMEOUT (R336). No answer to ORPHAN_PULL within 20 s, so the owner recovers from its dump alone. -/
  | orphanPullTimeout
  /-- PL_CTL_EN (R319). Setting EN starts link negotiation, and clearing it fails the sessions. -/
  | plCtlEn (m : Master) (link : Nat) (v : Word)
  /-- NEGOTIATION_SUCCEEDS (R317). Link negotiation succeeds, DISCOVER is sent and the link is UP. -/
  | negotiationSucceeds (link : Nat) (rate : Nat) (lanes : Nat) (peerFecOff : Bool)
  /-- TRAINING_TIMEOUT (R319). No success within 500 ms, so training is retried after 1 s. -/
  | trainingTimeout (link : Nat)
  /-- SESSION_LOSS_TIMEOUT (R319). 1 s after leaving UP, the link's sessions fail. -/
  | sessionLossTimeout (link : Nat)
  /-- LINK_LOSS (R319). No valid frame for 1 ms or too many FEC failures sends the link to TRAINING. -/
  | linkLoss (link : Nat) (us : Nat := 0) (fec : Nat := 0)
  /-- RETRAIN (R343). Writing PL_CTL_n.RETRAIN retrains the link. -/
  | retrain (m : Master) (link : Nat)
  /-- KEEPALIVE_TIMER (R319). An idle UP link sends KEEPALIVE every 100 µs. -/
  | keepaliveTimer (link : Nat)
  /-- REPLAY_TIMER (R329). No ACK progress for 20 µs or 200 µs, so the sender replays from ACK. -/
  | replayTimer (link : Nat) (node : Nat)
  /-- SESSION_IDLE_CLOSE (R328). An Ethernet session idle for 10 s closes. -/
  | sessionIdleClose (link : Nat) (node : Nat)
  /-- PEER_PHY_PLL_LOSS (R413). The peer PHY PLL loses lock and every UP link leaves UP. -/
  | peerPhyPllLoss
  /-- KEEPALIVE (R327). A KEEPALIVE frame is received, showing link liveness. -/
  | keepalive (link : Nat) (f : BFrame)
  /-- ACK (R329). An ACK frame is received, covering sequenced frames and returning credits. -/
  | ack (link : Nat) (f : BFrame)
  /-- NAK (R329). A NAK frame is received and the sender replays from ACK. -/
  | nak (link : Nat) (f : BFrame)
  /-- DISCOVER (R327). A DISCOVER frame opens a session and gives the neighbour's node ID and links. -/
  | discover (link : Nat) (f : BFrame) (neighbours : List (Nat × Nat))
  /-- DISCOVER_REPLY (R327). A DISCOVER_REPLY frame answers a DISCOVER. -/
  | discoverReply (link : Nat) (f : BFrame) (neighbours : List (Nat × Nat))
  /-- TIME_SYNC_INTERVAL (R339). Every 100 ms the device sends TIME_SYNC to the reference node. -/
  | timeSyncInterval
  /-- TIME_SYNC (R339). A TIME_SYNC frame is received and answered with TIME_REPLY. -/
  | timeSync (link : Nat) (f : BFrame) (t1 : Nat)
  /-- TIME_REPLY (R339). A TIME_REPLY is received and the federation time offset is computed and slewed. -/
  | timeReply (link : Nat) (f : BFrame) (t1 : Nat) (t2 : Nat) (t3 : Nat)
  /-- HOLDUP_NOTICE (R338). A hold-up notice is received, marking a mirror owner or partner lost. -/
  | holdupNotice (link : Nat) (f : BFrame) (cause : Nat) (tb : Nat := 0)
  /-- MIRROR_DATA (R333). A partner receives a Granary page copy and answers MIRROR_ACK once it is held. -/
  | mirrorData (link : Nat) (f : BFrame) (page : MirrorPage)
  /-- MIRROR_STATE (R334). A partner receives zone table deltas and journal records to hold. -/
  | mirrorState (link : Nat) (f : BFrame) (page : MirrorPage)
  /-- MIRROR_ACK (R333). The owner receives the partner's acknowledgement and may fix the write's status. -/
  | mirrorAck (link : Nat) (f : BFrame) (offset : Nat)
  /-- MIRROR_RELEASE (R334). The partner frees the copies listed, or all copies for an empty list. -/
  | mirrorRelease (link : Nat) (f : BFrame) (offsets : List Nat)
  /-- ORPHAN_PULL (R336). The partner returns every held copy for the owner as ORPHAN_DATA. -/
  | orphanPull (link : Nat) (f : BFrame)
  /-- ORPHAN_DATA (R336). The owner receives a held copy and applies it during recovery. -/
  | orphanData (link : Nat) (f : BFrame) (page : MirrorPage)
  /-- COPY_REQ (R342). A source serves a Peer Copy chunk request, or stops on a cancel. -/
  | copyReq (link : Nat) (f : BFrame) (nsid : Nat) (slba : Nat) (n : Nat) (cancel : Bool) (ctx : Nat := 0)
  /-- COPY_DATA (R342). The destination receives one source LBA and applies it in order. -/
  | copyData (link : Nat) (f : BFrame) (ctx : Nat) (block : Block)
  /-- COPY_END (R342). The issuer receives the end of a chunk with its status. -/
  | copyEnd (link : Nat) (f : BFrame) (ctx : Nat) (st : Status)
  /-- DRAM_REFRESH (R348). Every tREFI the controller issues an all-bank refresh to every subchannel. -/
  | dramRefresh
  /-- MR4_READ (R349). Every 16 ms MR4 is read and tREFI adjusted for DRAM case temperature. -/
  | mr4Read (temps : List Nat)
  /-- WEEVIL_READ (R363). The Weevil reads the next DRAM access or SRAM word through the correction path. -/
  | weevilRead (sram : Bool) (region : MemRegion) (err : MemErr)
  /-- RETIRE (R361). DM_RET_CMD OP 1 copies a page to a spare and remaps it. -/
  | retire (m : Master)
  /-- REINSTATE (R362). DM_RET_CMD OP 2 reinstates a recorded retirement without copying. -/
  | reinstate (m : Master)
  /-- DM_ZERO_GO (R367). DM_ZERO_CTL.GO starts zeroing the DRAM from address 0. -/
  | dmZeroGo (m : Master)
  /-- ZEROING_DONE (R367). DRAM zeroing ends and DONE is set. -/
  | zeroingDone
  /-- LOOPBACK_COMPARE (R352). DM_LB_CTL.GO runs the PRBS31 loopback compare at DM_LB_ADDR. -/
  | loopbackCompare (m : Master)
  /-- LOOPBACK_DONE (R352). The loopback compare ends with its failing lanes recorded. -/
  | loopbackDone (stored : List Nat) (margin : List Nat)
  /-- MODE_REGISTER_WRITE (R351). DM_MRW.GO writes a DRAM mode register. -/
  | modeRegisterWrite (m : Master) (v : Word)
  /-- MI_ERR_POP (R368). Writing POP removes the head record of the memory error FIFO. -/
  | miErrPop (m : Master)
  /-- ALLOCATE (R372). An engine requests a Larder buffer, granted or queued in its credit queue. -/
  | bufAllocate (owner : Nat) (size : Nat) (p5 : Bool) (spill : Bool) (rd : Bool)
  /-- REQUEST_WAIT_TIMEOUT (R373). A Larder request waits over 100 µs and event source 321 is raised. -/
  | requestWaitTimeout (pool : Nat) (idx : Nat)
  /-- LR_REQ (R373). A firmware request through LR_REQ is granted at once or ends with NONE. -/
  | lrReq (m : Master) (v : Word)
  /-- FREE (R376). The owner frees an OWNED buffer. -/
  | bufFree (owner : Nat) (handle : Word)
  /-- HAND_OFF (R376). The owner hands an OWNED buffer to a new owner. -/
  | bufHandOff (owner : Nat) (handle : Word) (dest : Nat)
  /-- SHARE (R376). A privileged owner makes a buffer SHARED with a reference count. -/
  | bufShare (owner : Nat) (handle : Word) (n : Nat)
  /-- ADD_REFERENCE (R376). A privileged owner adds references to a SHARED buffer. -/
  | bufAddReference (owner : Nat) (handle : Word) (n : Nat)
  /-- RELEASE (R376). A privileged owner releases references, freeing the buffer at zero. -/
  | bufRelease (owner : Nat) (handle : Word) (n : Nat)
  /-- RECLAIM (R379). Firmware forces a buffer FREE through LR_OP. -/
  | bufReclaim (m : Master) (handle : Word)
  /-- MB_DOORBELL (R396). A sender rings a mailbox doorbell, making it FULL and interrupting the receiver. -/
  | mbDoorbell (m : Master) (mb : Nat)
  /-- MB_ACK (R396). The receiver acknowledges a mailbox, which becomes EMPTY. -/
  | mbAck (m : Master) (mb : Nat)
  /-- EV_SW (R402). Firmware raises a software event source 472 to 479. -/
  | evSw (m : Master) (v : Word)
  /-- EVENT_RECORD (R469). The recorder takes one event from its FIFO, merging repeats or storing a record. -/
  | eventRecord
  /-- CRICKET_KICK (R403). Writing 0x00A5 to CK_KICK returns a watchdog to stage 0. -/
  | cricketKick (m : Master) (w : Nat) (v : Word)
  /-- CRICKET_STAGE_1 (R403). A watchdog reaches T and raises its stage 1 event. -/
  | cricketStage1 (w : Nat)
  /-- CRICKET_STAGE_2 (R403). A watchdog reaches 2T and resets its cluster or the firmware domain. -/
  | cricketStage2 (w : Nat)
  /-- CRICKET_STAGE_3 (R403). A watchdog reaches 2T + 500 ms and enters HOLDUP with CAUSE 5. -/
  | cricketStage3 (w : Nat)
  /-- REGISTER_WRITE (R13). A register write with no row of its own is judged field by field and applied by access code. -/
  | registerWrite (m : Master) (addr : Nat) (v : Word)
  /-- REGISTER_PARITY_MISMATCH (R390). A register parity mismatch faults the function or sends the device to SAFE. -/
  | registerParityMismatch (fn : Option Nat) (offset : Nat)
  /-- WINDOW_COPY_OUT_VOTED (R392). A window copy disagrees with the majority and is rewritten. -/
  | windowCopyOutVoted (offset : Nat) (cp : Nat) (value : Word)
  /-- CLK_SEL_WRITE (R416). A write to CLK_SEL_d starts a glitch-free handover, or is refused. -/
  | clkSelWrite (m : Master) (d : Nat) (v : Word)
  /-- HANDOVER_FORCED (R417). The old source gives no falling edge in 256 FIRC cycles and the handover is forced. -/
  | handoverForced (d : Nat)
  /-- XA_FAULT (R421). The XA monitor trips, moving domains to FIRC and beginning reference fallback. -/
  | xaFault
  /-- ROOT_PLL_FAULT (R421). The root PLL monitor trips and its domains move to FIRC. -/
  | rootPllFault
  /-- FIRC_FAULT (R421). The FIRC monitor trips and the Cellar restarts FIRC. -/
  | fircFault
  /-- SIRC_FAULT (R421). The SIRC monitor trips and Cellar counting moves to XB. -/
  | sircFault
  /-- FIRC_READY (R422). FIRC becomes READY after a restart and gated domains run again. -/
  | fircReady
  /-- FIRC_RESTART_TIMEOUT (R422). FIRC is not READY 200 µs after restart, so a clock-fault chip warm reset follows. -/
  | fircRestartTimeout
  /-- REFERENCE_FALLBACK_RELOCK (R423). The root and DRAM PHY PLLs relock from FIRC and the DRAM leaves self-refresh. -/
  | referenceFallbackRelock
  /-- PLL_READY (R412). A PLL has held lock for 10 µs and its READY flag is set. -/
  | pllReady (pll : Pll)
  /-- XA_READY (R427). XA becomes READY and the time base is caught up after CELLAR. -/
  | xaReady (c1 : Nat)
  /-- CLK_PLL_WRITE (R430). A write to CLK_PLL enables or disables PLLs, refusing unsafe disables. -/
  | clkPllWrite (m : Master) (v : Word)
  /-- FF_CFG_WRITE (R425). A write to FF_CFG changes the Firefly source or divisor glitch-free, or is refused. -/
  | ffCfgWrite (m : Master) (v : Word)
  /-- PW_REQ_DOZE (R438). Firmware requests DOZE, entered when idle conditions hold. -/
  | pwReqDoze (m : Master)
  /-- PW_REQ_CELLAR (R439). Firmware requests CELLAR, entered when its conditions hold. -/
  | pwReqCellar (m : Master)
  /-- PW_REQ_QUIESCE (R441). Firmware requests QUIESCE, the orderly stop. -/
  | pwReqQuiesce (m : Master)
  /-- PW_REQ_HALT (R441). Firmware requests HALT through QUIESCE. -/
  | pwReqHalt (m : Master)
  /-- CELLAR_ENTRY_DONE (R439). CELLAR entry completes with DRAM self-refresh, retention and clocks stopped. -/
  | cellarEntryDone (c0 : Nat)
  /-- DOZE_WAKE (R438). A wake event ends DOZE within 8 µs. -/
  | dozeWake (src : WakeSrc)
  /-- CELLAR_WAKE (R439). A wake event restores power and runs the CELLAR wake sequence. -/
  | cellarWake (src : WakeSrc)
  /-- QUIESCE_DONE (R441). The orderly stop ends with the Granary drained and a checkpoint on flash. -/
  | quiesceDone
  /-- PW_SW_WRITE (R455). A firmware write to a power switch changes a FLASH_k or PEERIF domain state, or is refused. -/
  | pwSwWrite (m : Master) (k : Nat) (v : Word)
  /-- RST_HOLD_WRITE (R455). A firmware write to a reset hold holds a domain in reset, or is refused. -/
  | rstHoldWrite (m : Master) (k : Nat) (v : Word)
  /-- DOMAIN_STATE_TIMEOUT (R455). A domain does not reach its new state within 200 µs and the device stops. -/
  | domainStateTimeout (k : Nat)
  /-- FT_CAP_LIM_WRITE (R444). Writing FT_CAP_LIM enters or leaves CAPPED and resizes the token pool. -/
  | ftCapLimWrite (m : Master) (v : Word)
  /-- SENSOR_SAMPLE (R447). Every 1 ms the sensors are sampled and the composite temperature computed. -/
  | sensorSample (temps : List Int)
  /-- THERMAL_TICK (R449). Every 1 s in ENFORCE the enforcement limit is lowered, raised or held. -/
  | thermalTick
  /-- GRACE_EXPIRED (R449). The grace timer reaches the grace time and enforcement begins. -/
  | graceExpired
  /-- COMPENSATION_UPDATE (R454). Every 1 ms the Cellar interpolates oscillator and bandgap trims. -/
  | compensationUpdate
  /-- LOCKSTEP_MISMATCH (R459). The Attic cores disagree and the Attic is reset. -/
  | lockstepMismatch
  /-- NVME_MI_REQUEST (R465). The Attic takes the next NVMe-MI request from its single queue. -/
  | nvmeMiRequest (arrived : List MiReq)
  /-- READ_NVME_MI_DATA_STRUCTURE (R462). Returns an NVMe-MI data structure. -/
  | readNvmeMiDataStructure
  /-- NVM_SUBSYSTEM_HEALTH_STATUS_POLL (R462). Returns subsystem health status. -/
  | nvmSubsystemHealthStatusPoll
  /-- CONTROLLER_HEALTH_STATUS_POLL (R462). Returns controller health status. -/
  | controllerHealthStatusPoll
  /-- CONFIGURATION_SET (R462). Sets an NVMe-MI configuration. -/
  | configurationSet
  /-- CONFIGURATION_GET (R462). Returns an NVMe-MI configuration. -/
  | configurationGet
  /-- VPD_READ (R462). Returns VPD bytes. -/
  | vpdRead
  /-- VPD_WRITE (R462). Writes VPD bytes. -/
  | vpdWrite
  /-- NVME_MI_RESET (R462). NVMe-MI Reset performs a chip warm reset, refused in HALT when hot. -/
  | nvmeMiReset
  /-- PAUSE (R462). NVMe-MI control primitive Pause. -/
  | miPause (endpoint : Nat)
  /-- RESUME (R462). NVMe-MI control primitive Resume. -/
  | miResume (endpoint : Nat)
  /-- NVME_MI_ABORT (R462). NVMe-MI control primitive Abort. -/
  | nvmeMiAbort (endpoint : Nat)
  /-- GET_STATE (R462). NVMe-MI control primitive Get State. -/
  | miGetState (endpoint : Nat)
  /-- REPLAY (R462). NVMe-MI control primitive Replay. -/
  | miReplay (endpoint : Nat)
  /-- NVME_BASIC_MANAGEMENT_COMMAND (R461). An SMBus block read at 0x6A returns basic management data. -/
  | nvmeBasicManagementCommand
  /-- TUNNELLED_ADMIN_COMMAND (R463). A tunnelled admin command runs with PF rights on the named controller. -/
  | tunnelledAdminCommand
  /-- PROGRAM_KEY_HASH (R464). Vendor 0xC0 blows a KEYHASH fuse. -/
  | programKeyHash
  /-- REVOKE_KEY (R464). Vendor 0xC1 blows a REVOKE bit. -/
  | revokeKey
  /-- REQUIRE_LMS (R464). Vendor 0xC2 blows LMS_KEYHASH and LMS_REQ. -/
  | requireLms
  /-- LOCK_DEBUG (R483). Vendor 0xC3 blows DEBUG_LOCK. -/
  | lockDebug
  /-- READ_FUSES (R464). Vendor 0xC4 returns the fuse table. -/
  | readFuses
  /-- READ_BOARD_SENSORS (R464). Vendor 0xC5 returns board sensor readings. -/
  | readBoardSensors
  /-- BOARD_SENSOR_POLL (R466). Every 1 s the Attic polls each board sensor and checks its limits. -/
  | boardSensorPoll (idx : Nat) (reading : Option Int)
  /-- RECOVERY_DOWNLOAD (R501). Under fault codes 13 or 14 the Attic writes a missing image piece straight to boot flash. -/
  | recoveryDownload (typ : Nat) (off : Nat) (bytes : List Byte) (last : Bool)
  /-- ER_WIN_LATCH (R471). Reading window word 0 latches the oldest record at or after the cursor. -/
  | erWinLatch (m : Master) (bank : Nat)
  /-- ER_WIN_ADVANCE (R471). Reading window word 7 advances the cursor past the latched record. -/
  | erWinAdvance (m : Master) (bank : Nat)
  /-- ER_CTL_CLEAR (R472). Writing CLEAR removes every record and zeroes the drop counters. -/
  | erCtlClear (m : Master)
  /-- STANDBY_POWER_UP (R486). Standby rails rise and everything, including retention and the Attic, is reset. -/
  | standbyPowerUp
  /-- SECURE_LBIST_DONE (R496). SECURE-class LBIST and Attic MBIST end and the Attic is released or held. -/
  | secureLbistDone (ok : Bool)
  /-- MAIN_PG_RISE (R519). MAIN_PG goes high, releasing POR and sampling the straps. -/
  | mainPgRise (straps : Nat) (testEn : Bool)
  /-- MAIN_PG_FALL (R520). MAIN_PG goes low, no further pulse is issued and the device enters OFF. -/
  | mainPgFall
  /-- CHIP_WARM_RESET (R486). The chip is reset as POR keeping the time base and transport keys. -/
  | chipWarmReset (cause : Nat)
  /-- NVM_SUBSYSTEM_RESET (R489). An NVM Subsystem Reset drains the Granary, then performs a chip warm reset. -/
  | nvmSubsystemReset (fn : Nat)
  /-- RS_REQ_FIRMWARE_DOMAIN_RESET (R503). RS_REQ OP 1 resets the control cores, parks the sequencers and increments queue epochs. -/
  | rsReqFirmwareDomainReset (m : Master) (v : Word)
  /-- RS_REQ_CHIP_WARM_RESET (R489). RS_REQ OP 2 performs a chip warm reset, refused while the Granary is occupied. -/
  | rsReqChipWarmReset (m : Master) (v : Word)
  /-- BOOT_VERIFY (R493). With the temperature below 92 °C, the Attic verifies the selected slot and releases a core. -/
  | bootVerify
  /-- AVS_ACKNOWLEDGE (R521). The regulator acknowledges a VDD_CORE request and SELFTEST may end. -/
  | avsAcknowledge
  /-- SELFTEST_DONE (R499). Self-tests end, failing engines are fenced, and LOAD, SAFE or HALT follows. -/
  | selftestDone (failed : List Nat) (mbistOk : Bool)
  /-- DATA_CLASS_TEST_DONE (R497). The data-class test at the end of QUIESCE records its verdict and clean-shutdown flag. -/
  | dataClassTestDone (failed : List Nat)
  /-- RECOVERY (R303). Firmware recovers each zone from the checkpoint, journal and dump to its accepted pointer. -/
  | recovery (bad : List Nat := [])
  /-- DEVICE_READY (R304). Once the checkpoint is on flash and the other Garret half armed, controllers report ready. -/
  | deviceReady
  /-- MINIMUM_RUN_REACHED (R254). A program pass or erase reaches its DS_MINRUN minimum run while reads are queued, and the Scarab sequencer suspends it. -/
  | minimumRunReached (ch : Nat) (die : Nat)
  /-- TRAINING_RETRY (R319). One second after a failed negotiation, the link begins negotiation again from TRAINING. -/
  | trainingRetry (link : Nat)
  /-- XB_READY (R411). XB passes 8 consecutive SIRC checks and becomes READY, so the SIRC monitor and the 32.768 kHz counter may use it. -/
  | xbReady
  /-- STANDBY_POWER_LOSS (R486). VDD_AON and VDD_STBY are removed, losing the Attic, transport keys, Cellar retention and the event recorder. -/
  | standbyPowerLoss
  /-- DEBUG_SESSION_START (R483). A JTAG debug session starts with DEBUG_LOCK intact, raising event source 489. -/
  | debugSessionStart
  /-- DEBUG_CORE_HALT (R404). A control core is halted or released through the debug port, pausing or resuming watchdogs with DBG_PAUSE set. -/
  | debugCoreHalt (core : Nat) (halt : Bool)
deriving DecidableEq, Repr

end Sys2Proof
end

