-- ==== Sys2Proof/Config.lean ====
section
/-! DEFINITION. What an implementation fixes and the free values: constants without a body, which no proof can see
(notes/assumptions/3.md). -/

namespace Sys2Proof

/-- The free values that steps take, numbered by `State.free`: any natural number. -/
opaque Config.freeNat : Nat → Nat

/-- The number by which an event's parameter shows a value that the spec names and does not code, by source and the value's
place in the spec's list (notes/assumptions/7.md). -/
opaque Config.eventParam : Nat → Nat → Nat

/-- The largest trim codes of FIRC, SIRC and the bandgap (16_power_thermal.md R454). -/
opaque Config.trimMax : Nat → Nat

/-- What the device's compressor makes of a slot's 64 KiB: literal/length code lengths, distance code lengths and tokens (05_transforms.md
R145: any valid payload). -/
opaque Config.compress : List Byte → List Nat × List Nat × List Tok

/-- The 16-byte GCM tag of a key, an IV, the additional authenticated data and the plaintext (06_cipher.md R166; NIST SP 800-38D defines
it). -/
opaque Config.gcmTag : (key : Nat) → (iv aad plain : List Byte) → List Byte

/-- SHA-384 and SHA-256 of a message (17_attic.md R475, R476); their standards, not this spec, define them. -/
opaque Config.sha384 : List Byte → List Byte
opaque Config.sha256 : List Byte → List Byte

/-- Whether an ECDSA P-384 signature over a message verifies under a public key, and whether an LMS public key and signature
verify over it (R475, R476). -/
opaque Config.ecdsaOk : (key : List Byte) → (msg : List Byte) → (sig : List Byte) → Bool
opaque Config.lmsOk : (msg : List Byte) → (lms : List Byte) → Bool

/-- The LMS public key at the start of the LMS bytes of an image (SP 800-208). -/
opaque Config.lmsKey : List Byte → List Byte

/-- Bytes of NVMe and NVMe-MI data structures that those standards define and this spec does not: by structure and place. -/
opaque Config.miBytes : (which : Nat) → (arg : Nat) → List Byte

/-- NVMe-MI response statuses: 0 success, 1 Internal Error, 2 Invalid Command Opcode, 3 Invalid Parameter, 4 the refusal of a
Reset (the NVMe-MI standard gives their numbers). -/
opaque Config.miStatus : Nat → Nat

/-- The Scarab microcode section of a firmware image's body; the spec does not give the section table's form (R493). -/
opaque Config.microcode : List Byte → List Byte

/-- The thresholds that firmware finds from a calibration read's bit counts, by a method of its own (08_flash_integrity.md R231): of a density, the set
read at and the counts. -/
opaque Config.calibrate : (dens : Nat) → (set : List Int) → (counts : List Nat) → List Int

/-- The ciphertext of a cipher unit (06_cipher.md R166; NIST SP 800-38D defines it): of a key, an IV and the plaintext. -/
opaque Config.gcmData : (key : Nat) → (iv plain : List Byte) → List Byte

/-- The words of the boot ROM (14_control.md R384), which the spec does not give. -/
opaque Config.bootRom : Nat → BitVec 32

/-- The base address of a Larder pool (13_larder.md R370), which the spec does not give. -/
opaque Config.poolBase : Nat → Nat

end Sys2Proof
end

