-- ==== Sys2Proof/Machine/Regs.lean ====
section
/-! DEFINITION. The register tables: every register of the chapters with its block base (14_control.md R385), offset, copies,
reset value and fields. Each row cites the rule whose table it restates; the window registers are those of R429 and R455. -/

namespace Sys2Proof.Machine

/-- Access codes (00_scope.md R9). -/
inductive Acc where
  | ro | rw | wo | rw1c | rw1s | rc | rwl
deriving DecidableEq, Repr

/-- Who marks (R13); `perBank` is the mark of a recorder bank (17_attic.md R484). -/
inductive Who where
  | any | priv | secure | perBank
deriving DecidableEq, Repr

/-- Register blocks (R385). -/
inductive Blk where
  | zoneEngine | commandEngine | transform | cipher | flCh | flashToken | readIntegrity | dieScheduling | holdup | balwen | memory | larder | sysctl | event | mailbox | cricket | clock | window | power | attic
deriving DecidableEq, Repr

/-- The registers. -/
inductive RegId where
  | zeLimits | zeCounts | zeFblSel | zeFblStat | zeFblPush | ceQctx | ceCtxFree | ceAdmFree
  | ceFrozen | ceFnSel | ceFnStat | ceFnArb | txCompActive | txCompFenced | txDecoActive | txDecoFenced
  | txOvf | txCnt | ciEngActive | ciEngFenced | ciKsSel | ciKsStat | ciKsInfl | ciKsCtr
  | ciKsCeil | ciKwSel | ciKwKey | ciKwSalt | ciKwFloor | ciKwCmd | ciKwStat | ciOvf
  | ciCnt | scCtl | scStat | scDiePres | scDieFail | scUcAddr | scUcData | scPoll
  | scQSel | scQStat | scCancel | scOvf | scCnt | ftBudget | ftThermLim | ftCapLim
  | ftPool | ftHeld | ftPeHeld | ftCfg | ftCost | ftLock | ldFamily | ldLimit
  | ldEw | ldHardFenced | ldSoftFenced | ldThtBase | ldEwqStat | ldEwqPop | ldOvf | ldCnt
  | ldLock | dsCtl | dsSusp | dsMinrun | dsWin | dsAge | dsDomSel | dsDomCfg
  | dsDomStat | dsOvf | dsCnt | grCfg | grOcc | grPress | lmCfg | lmLevel
  | lmStat | boTrim | boOfs | huStat | huTest | huLock | pbNode | pbEth
  | pbTime | pbFtime | pbRtSel | pbRt | pbOrph | pbSess | plCtl | plStat
  | plOvf | plCnt | dmCfg | dmCap | dmRef | dmLaneSel | dmLaneDly | dmVref
  | dmMrw | dmLbCtl | dmLbErr | dmLbAddr | dmZero | dmZeroCtl | dmRetAddr | dmRetCmd
  | wvCfg | miInjTgt | miInjMask | miErrStat | miErrInfo | miErrAddr | miErrPop | dmLock
  | miOvf | miCnt | lrPoolSel | lrPoolStat | lrPoolCfg | lrLock | lrReq | lrResult
  | lrReqStat | lrOpHandle | lrOp | lrOpStat | lrOvf | lrCnt | sysId | sysParStat
  | sysParAddr | sysAccAddr | sysAccInfo | evSw | evSwP | evClaim | evPend | evCfg
  | mbData | mbTag | mbCtl | mbCfg | ckCfg | ckKick | ckStat | clkStat
  | clkDstat | clkPll | clkGate | clkMon | clkFault | ffCfg | tb | tbSleep
  | clkLock | pwSw | rstHold | pwMode | pwReq | pwCfg | pwDom | pwAvs
  | thComp | thSel | thVal | thCfg | thHctm | pwAdmit | cmpOfs | pwLock
  | erCtl | erStat | erNewseq | erDrop | erCur | erWseq | erWin | fwStat
  | rsCause | rsRet | rsAge | rsFmask | rsBist | rsReq | clkSel | pbLock
deriving DecidableEq, Repr

/-- A field of a register. -/
structure Field where
  hi  : Nat
  lo  : Nat
  acc : Acc
  who : Who
deriving DecidableEq, Repr

/-- A register, or an array of them: copies `i < n1`, `j < n2` lie at `base + off + s1 * i + s2 * j`; `rst` gives the reset
value of each copy, the last for all beyond. -/
structure RegD where
  id   : RegId
  blk  : Blk
  base : Nat
  off  : Nat
  n1   : Nat := 1
  s1   : Nat := 4
  n2   : Nat := 1
  s2   : Nat := 4
  wide : Bool := false
  rst  : List Nat := [0]
  fields : List Field
deriving DecidableEq, Repr

/-- A register instance as the register file keys it: its address and its reset value. -/
structure Ref where
  addr : Nat
  rst  : Nat
deriving DecidableEq, Repr

/-- The copy of a register that a selector register or a bank chooses. -/
def Ref.bank (r : Ref) (b : Nat) : Ref := { r with addr := r.addr + 4294967296 * b }

/-- ZE_LIMITS (02_zones.md R73): OPEN_MAX, ACTIVE_MAX. -/
def D.zeLimits : RegD :=
  { id := .zeLimits, blk := .zoneEngine, base := 0x10110000, off := 0x0, rst := [0x40001000], fields := [⟨12, 0, .ro, .any⟩, ⟨30, 16, .ro, .any⟩] }
/-- ZE_COUNTS (02_zones.md R73): OPEN_NOW, ACTIVE_NOW. -/
def D.zeCounts : RegD :=
  { id := .zeCounts, blk := .zoneEngine, base := 0x10110000, off := 0x4, fields := [⟨12, 0, .ro, .any⟩, ⟨30, 16, .ro, .any⟩] }
/-- ZE_FBL_SEL (02_zones.md R73): DOMAIN. -/
def D.zeFblSel : RegD :=
  { id := .zeFblSel, blk := .zoneEngine, base := 0x10110000, off := 0x10, fields := [⟨7, 0, .rw, .priv⟩] }
/-- ZE_FBL_STAT (02_zones.md R73): DEPTH, LOW_MARK, EMPTY_SEEN. -/
def D.zeFblStat : RegD :=
  { id := .zeFblStat, blk := .zoneEngine, base := 0x10110000, off := 0x14, rst := [0x200000], fields := [⟨8, 0, .ro, .priv⟩, ⟨24, 16, .rw, .priv⟩, ⟨31, 31, .rw1c, .priv⟩] }
/-- ZE_FBL_PUSH (02_zones.md R73): BAND. -/
def D.zeFblPush : RegD :=
  { id := .zeFblPush, blk := .zoneEngine, base := 0x10110000, off := 0x18, fields := [⟨18, 0, .wo, .priv⟩] }

/-- The registers of the block `zoneEngine`. -/
def regsOfZoneEngine : List RegD :=
  [D.zeLimits, D.zeCounts, D.zeFblSel, D.zeFblStat, D.zeFblPush]

/-- CE_QCTX (03_queues.md R113): QCTX_MAX. -/
def D.ceQctx : RegD :=
  { id := .ceQctx, blk := .commandEngine, base := 0x10100000, off := 0x0, rst := [0x100], fields := [⟨12, 0, .rw, .priv⟩] }
/-- CE_CTX_FREE (03_queues.md R113): IO_FREE. -/
def D.ceCtxFree : RegD :=
  { id := .ceCtxFree, blk := .commandEngine, base := 0x10100000, off := 0x4, rst := [0x1F000], fields := [⟨16, 0, .ro, .any⟩] }
/-- CE_ADM_FREE (03_queues.md R113): ADMIN_FREE. -/
def D.ceAdmFree : RegD :=
  { id := .ceAdmFree, blk := .commandEngine, base := 0x10100000, off := 0x8, rst := [0x1000], fields := [⟨12, 0, .ro, .any⟩] }
/-- CE_FROZEN (03_queues.md R113): FROZEN_SQS, FROZE_SEEN. -/
def D.ceFrozen : RegD :=
  { id := .ceFrozen, blk := .commandEngine, base := 0x10100000, off := 0xC, fields := [⟨14, 0, .ro, .any⟩, ⟨31, 31, .rw1c, .priv⟩] }
/-- CE_FN_SEL (04_tenants.md R137): FN. -/
def D.ceFnSel : RegD :=
  { id := .ceFnSel, blk := .commandEngine, base := 0x10100000, off := 0x20, fields := [⟨11, 0, .rw, .priv⟩] }
/-- CE_FN_STAT (04_tenants.md R137): GEN, CTX_LIVE, SQUASHING, PAUSED, CAPPED. -/
def D.ceFnStat : RegD :=
  { id := .ceFnStat, blk := .commandEngine, base := 0x10100000, off := 0x24, fields := [⟨7, 0, .ro, .priv⟩, ⟨24, 8, .ro, .priv⟩, ⟨29, 29, .ro, .priv⟩, ⟨30, 30, .ro, .priv⟩, ⟨31, 31, .ro, .priv⟩] }
/-- CE_FN_ARB (04_tenants.md R137): DEFICIT, WEIGHT. -/
def D.ceFnArb : RegD :=
  { id := .ceFnArb, blk := .commandEngine, base := 0x10100000, off := 0x28, fields := [⟨11, 0, .ro, .priv⟩, ⟨25, 16, .ro, .priv⟩] }

/-- The registers of the block `commandEngine`. -/
def regsOfCommandEngine : List RegD :=
  [D.ceQctx, D.ceCtxFree, D.ceAdmFree, D.ceFrozen, D.ceFnSel, D.ceFnStat, D.ceFnArb]

/-- TX_COMP_ACTIVE (05_transforms.md R163): ACTIVE. -/
def D.txCompActive : RegD :=
  { id := .txCompActive, blk := .transform, base := 0x10120000, off := 0x0, rst := [0xFFFF], fields := [⟨16, 0, .ro, .priv⟩] }
/-- TX_COMP_FENCED (05_transforms.md R163): FENCED. -/
def D.txCompFenced : RegD :=
  { id := .txCompFenced, blk := .transform, base := 0x10120000, off := 0x4, fields := [⟨16, 0, .ro, .priv⟩] }
/-- TX_DECO_ACTIVE (05_transforms.md R163): ACTIVE. -/
def D.txDecoActive : RegD :=
  { id := .txDecoActive, blk := .transform, base := 0x10120000, off := 0x8, rst := [0xFFFF], fields := [⟨16, 0, .ro, .priv⟩] }
/-- TX_DECO_FENCED (05_transforms.md R163): FENCED. -/
def D.txDecoFenced : RegD :=
  { id := .txDecoFenced, blk := .transform, base := 0x10120000, off := 0xC, fields := [⟨16, 0, .ro, .priv⟩] }
/-- TX_OVF (05_transforms.md R163): OVF. -/
def D.txOvf : RegD :=
  { id := .txOvf, blk := .transform, base := 0x10120000, off := 0x10, fields := [⟨4, 0, .rw1c, .priv⟩] }
/-- TX_CNT (05_transforms.md R163): COUNT. -/
def D.txCnt : RegD :=
  { id := .txCnt, blk := .transform, base := 0x10120000, off := 0x20, n1 := 5, s1 := 0x8, wide := true, fields := [⟨63, 0, .ro, .priv⟩] }

/-- The registers of the block `transform`. -/
def regsOfTransform : List RegD :=
  [D.txCompActive, D.txCompFenced, D.txDecoActive, D.txDecoFenced, D.txOvf, D.txCnt]

/-- CI_ENG_ACTIVE (06_cipher.md R188): ACTIVE. -/
def D.ciEngActive : RegD :=
  { id := .ciEngActive, blk := .cipher, base := 0x10130000, off := 0x0, rst := [0xFF], fields := [⟨8, 0, .ro, .priv⟩] }
/-- CI_ENG_FENCED (06_cipher.md R188): FENCED. -/
def D.ciEngFenced : RegD :=
  { id := .ciEngFenced, blk := .cipher, base := 0x10130000, off := 0x4, fields := [⟨8, 0, .ro, .priv⟩] }
/-- CI_KS_SEL (06_cipher.md R188): SLOT. -/
def D.ciKsSel : RegD :=
  { id := .ciKsSel, blk := .cipher, base := 0x10130000, off := 0x10, fields := [⟨12, 0, .rw, .priv⟩] }
/-- CI_KS_STAT (06_cipher.md R188): LOADED, SHADOW, EXHAUSTED, WARN, AT_CEIL. -/
def D.ciKsStat : RegD :=
  { id := .ciKsStat, blk := .cipher, base := 0x10130000, off := 0x14, fields := [⟨0, 0, .ro, .priv⟩, ⟨1, 1, .ro, .priv⟩, ⟨2, 2, .ro, .priv⟩, ⟨3, 3, .ro, .priv⟩, ⟨4, 4, .ro, .priv⟩] }
/-- CI_KS_INFL (06_cipher.md R188): INFLIGHT. -/
def D.ciKsInfl : RegD :=
  { id := .ciKsInfl, blk := .cipher, base := 0x10130000, off := 0x18, fields := [⟨17, 0, .ro, .priv⟩] }
/-- CI_KS_CTR (06_cipher.md R188): CTR. -/
def D.ciKsCtr : RegD :=
  { id := .ciKsCtr, blk := .cipher, base := 0x10130000, off := 0x20, wide := true, fields := [⟨63, 0, .rw, .priv⟩] }
/-- CI_KS_CEIL (06_cipher.md R188): CEIL. -/
def D.ciKsCeil : RegD :=
  { id := .ciKsCeil, blk := .cipher, base := 0x10130000, off := 0x28, wide := true, fields := [⟨63, 0, .rw, .priv⟩] }
/-- CI_KW_SEL (06_cipher.md R188): SLOT. -/
def D.ciKwSel : RegD :=
  { id := .ciKwSel, blk := .cipher, base := 0x10130000, off := 0x40, fields := [⟨12, 0, .rw, .secure⟩] }
/-- CI_KW_KEY (06_cipher.md R188): KEY. -/
def D.ciKwKey : RegD :=
  { id := .ciKwKey, blk := .cipher, base := 0x10130000, off := 0x44, n1 := 8, s1 := 0x4, fields := [⟨31, 0, .wo, .secure⟩] }
/-- CI_KW_SALT (06_cipher.md R188): SALT. -/
def D.ciKwSalt : RegD :=
  { id := .ciKwSalt, blk := .cipher, base := 0x10130000, off := 0x64, fields := [⟨31, 0, .wo, .secure⟩] }
/-- CI_KW_FLOOR (06_cipher.md R188): FLOOR. -/
def D.ciKwFloor : RegD :=
  { id := .ciKwFloor, blk := .cipher, base := 0x10130000, off := 0x68, wide := true, fields := [⟨63, 0, .wo, .secure⟩] }
/-- CI_KW_CMD (06_cipher.md R188): OP. -/
def D.ciKwCmd : RegD :=
  { id := .ciKwCmd, blk := .cipher, base := 0x10130000, off := 0x70, fields := [⟨1, 0, .wo, .secure⟩] }
/-- CI_KW_STAT (06_cipher.md R188): BUSY, REFUSED. -/
def D.ciKwStat : RegD :=
  { id := .ciKwStat, blk := .cipher, base := 0x10130000, off := 0x74, fields := [⟨0, 0, .ro, .secure⟩, ⟨1, 1, .rc, .secure⟩] }
/-- CI_OVF (06_cipher.md R188): OVF. -/
def D.ciOvf : RegD :=
  { id := .ciOvf, blk := .cipher, base := 0x10130000, off := 0x78, fields := [⟨3, 0, .rw1c, .priv⟩] }
/-- CI_CNT (06_cipher.md R188): COUNT. -/
def D.ciCnt : RegD :=
  { id := .ciCnt, blk := .cipher, base := 0x10130000, off := 0x80, n1 := 4, s1 := 0x8, wide := true, fields := [⟨63, 0, .ro, .priv⟩] }

/-- The registers of the block `cipher`. -/
def regsOfCipher : List RegD :=
  [D.ciEngActive, D.ciEngFenced, D.ciKsSel, D.ciKsStat, D.ciKsInfl, D.ciKsCtr, D.ciKsCeil, D.ciKwSel, D.ciKwKey, D.ciKwSalt, D.ciKwFloor, D.ciKwCmd, D.ciKwStat, D.ciOvf, D.ciCnt]

/-- SC_CTL (07_flash_channels.md R216): RUN, WP_HIGH. -/
def D.scCtl : RegD :=
  { id := .scCtl, blk := .flCh, base := 0x10200000, off := 0x0, n1 := 64, s1 := 0x1000, fields := [⟨0, 0, .rw, .priv⟩, ⟨1, 1, .ro, .priv⟩] }
/-- SC_STAT (07_flash_channels.md R216): STATE, USABLE. -/
def D.scStat : RegD :=
  { id := .scStat, blk := .flCh, base := 0x10200000, off := 0x4, n1 := 64, s1 := 0x1000, fields := [⟨2, 0, .ro, .any⟩, ⟨14, 8, .ro, .any⟩] }
/-- SC_DIE_PRES (07_flash_channels.md R216): USABLE. -/
def D.scDiePres : RegD :=
  { id := .scDiePres, blk := .flCh, base := 0x10200000, off := 0x8, n1 := 64, s1 := 0x1000, wide := true, fields := [⟨63, 0, .ro, .any⟩] }
/-- SC_DIE_FAIL (07_flash_channels.md R216): FAILED. -/
def D.scDieFail : RegD :=
  { id := .scDieFail, blk := .flCh, base := 0x10200000, off := 0x10, n1 := 64, s1 := 0x1000, wide := true, fields := [⟨63, 0, .ro, .any⟩] }
/-- SC_UC_ADDR (07_flash_channels.md R216): ADDR. -/
def D.scUcAddr : RegD :=
  { id := .scUcAddr, blk := .flCh, base := 0x10200000, off := 0x20, n1 := 64, s1 := 0x1000, fields := [⟨16, 2, .rw, .priv⟩] }
/-- SC_UC_DATA (07_flash_channels.md R216): DATA. -/
def D.scUcData : RegD :=
  { id := .scUcData, blk := .flCh, base := 0x10200000, off := 0x24, n1 := 64, s1 := 0x1000, fields := [⟨31, 0, .wo, .priv⟩] }
/-- SC_POLL (07_flash_channels.md R216): RD_IVL, PG_IVL, ER_IVL. -/
def D.scPoll : RegD :=
  { id := .scPoll, blk := .flCh, base := 0x10200000, off := 0x30, n1 := 64, s1 := 0x1000, rst := [0x320501], fields := [⟨7, 0, .rw, .priv⟩, ⟨15, 8, .rw, .priv⟩, ⟨23, 16, .rw, .priv⟩] }
/-- SC_Q_SEL (07_flash_channels.md R216): DIE. -/
def D.scQSel : RegD :=
  { id := .scQSel, blk := .flCh, base := 0x10200000, off := 0x40, n1 := 64, s1 := 0x1000, fields := [⟨5, 0, .rw, .priv⟩] }
/-- SC_Q_STAT (07_flash_channels.md R216): READ, PROG, ERASE, BACK, SUSPENDED. -/
def D.scQStat : RegD :=
  { id := .scQStat, blk := .flCh, base := 0x10200000, off := 0x44, n1 := 64, s1 := 0x1000, fields := [⟨5, 0, .ro, .priv⟩, ⟨10, 8, .ro, .priv⟩, ⟨13, 12, .ro, .priv⟩, ⟨19, 16, .ro, .priv⟩, ⟨24, 24, .ro, .priv⟩] }
/-- SC_CANCEL (07_flash_channels.md R216): TAG. -/
def D.scCancel : RegD :=
  { id := .scCancel, blk := .flCh, base := 0x10200000, off := 0x48, n1 := 64, s1 := 0x1000, fields := [⟨31, 0, .wo, .priv⟩] }
/-- SC_OVF (07_flash_channels.md R216): OVF. -/
def D.scOvf : RegD :=
  { id := .scOvf, blk := .flCh, base := 0x10200000, off := 0x78, n1 := 64, s1 := 0x1000, fields := [⟨4, 0, .rw1c, .priv⟩] }
/-- SC_CNT (07_flash_channels.md R216): COUNT. -/
def D.scCnt : RegD :=
  { id := .scCnt, blk := .flCh, base := 0x10200000, off := 0x80, n1 := 64, s1 := 0x1000, n2 := 5, s2 := 0x8, wide := true, fields := [⟨63, 0, .ro, .priv⟩] }

/-- The registers of the block `flCh`. -/
def regsOfFlCh : List RegD :=
  [D.scCtl, D.scStat, D.scDiePres, D.scDieFail, D.scUcAddr, D.scUcData, D.scPoll, D.scQSel, D.scQStat, D.scCancel, D.scOvf, D.scCnt]

/-- FT_BUDGET (07_flash_channels.md R217): TOKENS. -/
def D.ftBudget : RegD :=
  { id := .ftBudget, blk := .flashToken, base := 0x10160000, off := 0x0, rst := [0x7D00], fields := [⟨16, 0, .rwl, .priv⟩] }
/-- FT_THERM_LIM (07_flash_channels.md R217): TOKENS. -/
def D.ftThermLim : RegD :=
  { id := .ftThermLim, blk := .flashToken, base := 0x10160000, off := 0x4, fields := [⟨16, 0, .ro, .priv⟩] }
/-- FT_CAP_LIM (07_flash_channels.md R217): TOKENS. -/
def D.ftCapLim : RegD :=
  { id := .ftCapLim, blk := .flashToken, base := 0x10160000, off := 0x8, fields := [⟨16, 0, .rw, .priv⟩] }
/-- FT_POOL (07_flash_channels.md R217): SIZE. -/
def D.ftPool : RegD :=
  { id := .ftPool, blk := .flashToken, base := 0x10160000, off := 0xC, rst := [0x7D00], fields := [⟨16, 0, .ro, .any⟩] }
/-- FT_HELD (07_flash_channels.md R217): HELD, HOLDUP. -/
def D.ftHeld : RegD :=
  { id := .ftHeld, blk := .flashToken, base := 0x10160000, off := 0x10, fields := [⟨16, 0, .ro, .any⟩, ⟨31, 31, .ro, .any⟩] }
/-- FT_PE_HELD (07_flash_channels.md R217): HELD. -/
def D.ftPeHeld : RegD :=
  { id := .ftPeHeld, blk := .flashToken, base := 0x10160000, off := 0x14, fields := [⟨16, 0, .ro, .priv⟩] }
/-- FT_CFG (07_flash_channels.md R217): PE_FLOOR. -/
def D.ftCfg : RegD :=
  { id := .ftCfg, blk := .flashToken, base := 0x10160000, off := 0x18, rst := [0xFA0], fields := [⟨16, 0, .rw, .priv⟩] }
/-- FT_COST (07_flash_channels.md R217): READ, PROG, DUMP, ERASE. -/
def D.ftCost : RegD :=
  { id := .ftCost, blk := .flashToken, base := 0x10160000, off := 0x20, n1 := 4, s1 := 0x4, rst := [0xF080805, 0xF0A0A06, 0xF0C0C07, 0xF0C0C08], fields := [⟨7, 0, .rwl, .priv⟩, ⟨15, 8, .rwl, .priv⟩, ⟨23, 16, .rwl, .priv⟩, ⟨31, 24, .rwl, .priv⟩] }
/-- FT_LOCK (07_flash_channels.md R217): LOCK. -/
def D.ftLock : RegD :=
  { id := .ftLock, blk := .flashToken, base := 0x10160000, off := 0xF0, fields := [⟨0, 0, .rw1s, .priv⟩] }

/-- The registers of the block `flashToken`. -/
def regsOfFlashToken : List RegD :=
  [D.ftBudget, D.ftThermLim, D.ftCapLim, D.ftPool, D.ftHeld, D.ftPeHeld, D.ftCfg, D.ftCost, D.ftLock]

/-- LD_FAMILY (08_flash_integrity.md R250): FAMILY. -/
def D.ldFamily : RegD :=
  { id := .ldFamily, blk := .readIntegrity, base := 0x10140000, off := 0x0, rst := [0x1], fields := [⟨0, 0, .rwl, .priv⟩] }
/-- LD_LIMIT (08_flash_integrity.md R250): T_A, T_B. -/
def D.ldLimit : RegD :=
  { id := .ldLimit, blk := .readIntegrity, base := 0x10140000, off := 0x4, rst := [0x11000D0], fields := [⟨8, 0, .ro, .any⟩, ⟨24, 16, .ro, .any⟩] }
/-- LD_EW (08_flash_integrity.md R250): SLC, TLC, QLC, PLC. -/
def D.ldEw : RegD :=
  { id := .ldEw, blk := .readIntegrity, base := 0x10140000, off := 0x8, rst := [0x40383028], fields := [⟨7, 0, .rw, .priv⟩, ⟨15, 8, .rw, .priv⟩, ⟨23, 16, .rw, .priv⟩, ⟨31, 24, .rw, .priv⟩] }
/-- LD_HARD_FENCED (08_flash_integrity.md R250): FENCED. -/
def D.ldHardFenced : RegD :=
  { id := .ldHardFenced, blk := .readIntegrity, base := 0x10140000, off := 0x10, wide := true, fields := [⟨63, 0, .ro, .priv⟩] }
/-- LD_SOFT_FENCED (08_flash_integrity.md R250): FENCED. -/
def D.ldSoftFenced : RegD :=
  { id := .ldSoftFenced, blk := .readIntegrity, base := 0x10140000, off := 0x18, fields := [⟨15, 0, .ro, .priv⟩] }
/-- LD_THT_BASE (08_flash_integrity.md R250): BASE. -/
def D.ldThtBase : RegD :=
  { id := .ldThtBase, blk := .readIntegrity, base := 0x10140000, off := 0x20, wide := true, fields := [⟨63, 0, .rwl, .priv⟩] }
/-- LD_EWQ_STAT (08_flash_integrity.md R250): DEPTH, OVERFLOW. -/
def D.ldEwqStat : RegD :=
  { id := .ldEwqStat, blk := .readIntegrity, base := 0x10140000, off := 0x30, fields := [⟨10, 0, .ro, .priv⟩, ⟨31, 31, .rw1c, .priv⟩] }
/-- LD_EWQ_POP (08_flash_integrity.md R250): BAND, MARGIN, VALID. -/
def D.ldEwqPop : RegD :=
  { id := .ldEwqPop, blk := .readIntegrity, base := 0x10140000, off := 0x34, fields := [⟨18, 0, .rc, .priv⟩, ⟨26, 19, .rc, .priv⟩, ⟨31, 31, .rc, .priv⟩] }
/-- LD_OVF (08_flash_integrity.md R250): OVF. -/
def D.ldOvf : RegD :=
  { id := .ldOvf, blk := .readIntegrity, base := 0x10140000, off := 0x78, fields := [⟨5, 0, .rw1c, .priv⟩] }
/-- LD_CNT (08_flash_integrity.md R250): COUNT. -/
def D.ldCnt : RegD :=
  { id := .ldCnt, blk := .readIntegrity, base := 0x10140000, off := 0x80, n1 := 6, s1 := 0x8, wide := true, fields := [⟨63, 0, .ro, .priv⟩] }
/-- LD_LOCK (08_flash_integrity.md R250): LOCK. -/
def D.ldLock : RegD :=
  { id := .ldLock, blk := .readIntegrity, base := 0x10140000, off := 0xF0, fields := [⟨0, 0, .rw1s, .priv⟩] }

/-- The registers of the block `readIntegrity`. -/
def regsOfReadIntegrity : List RegD :=
  [D.ldFamily, D.ldLimit, D.ldEw, D.ldHardFenced, D.ldSoftFenced, D.ldThtBase, D.ldEwqStat, D.ldEwqPop, D.ldOvf, D.ldCnt, D.ldLock]

/-- DS_CTL (09_tail_latency.md R276): DETOUR_EN, GAIN. -/
def D.dsCtl : RegD :=
  { id := .dsCtl, blk := .dieScheduling, base := 0x10150000, off := 0x0, rst := [0x3201], fields := [⟨0, 0, .rw, .priv⟩, ⟨15, 8, .rw, .priv⟩] }
/-- DS_SUSP (09_tail_latency.md R276): PROG_MAX, ERASE_MAX. -/
def D.dsSusp : RegD :=
  { id := .dsSusp, blk := .dieScheduling, base := 0x10150000, off := 0x4, rst := [0xC8], fields := [⟨3, 0, .rw, .priv⟩, ⟨7, 4, .rw, .priv⟩] }
/-- DS_MINRUN (09_tail_latency.md R276): PROG, ERASE. -/
def D.dsMinrun : RegD :=
  { id := .dsMinrun, blk := .dieScheduling, base := 0x10150000, off := 0x8, rst := [0xC8003C], fields := [⟨9, 0, .rw, .priv⟩, ⟨25, 16, .rw, .priv⟩] }
/-- DS_WIN (09_tail_latency.md R276): READS, TIME. -/
def D.dsWin : RegD :=
  { id := .dsWin, blk := .dieScheduling, base := 0x10150000, off := 0xC, rst := [0x2580008], fields := [⟨5, 0, .rw, .priv⟩, ⟨25, 16, .rw, .priv⟩] }
/-- DS_AGE (09_tail_latency.md R276): PG_AGE, ER_AGE, BG_AGE. -/
def D.dsAge : RegD :=
  { id := .dsAge, blk := .dieScheduling, base := 0x10150000, off := 0x10, rst := [0x143214], fields := [⟨7, 0, .rw, .priv⟩, ⟨15, 8, .rw, .priv⟩, ⟨23, 16, .rw, .priv⟩] }
/-- DS_DOM_SEL (09_tail_latency.md R276): DOMAIN. -/
def D.dsDomSel : RegD :=
  { id := .dsDomSel, blk := .dieScheduling, base := 0x10150000, off := 0x20, fields := [⟨7, 0, .rw, .priv⟩] }
/-- DS_DOM_CFG (09_tail_latency.md R276): RATE, DEPTH. -/
def D.dsDomCfg : RegD :=
  { id := .dsDomCfg, blk := .dieScheduling, base := 0x10150000, off := 0x24, fields := [⟨15, 0, .rw, .priv⟩, ⟨31, 16, .rw, .priv⟩] }
/-- DS_DOM_STAT (09_tail_latency.md R276): LEVEL, EMPTY_SEEN. -/
def D.dsDomStat : RegD :=
  { id := .dsDomStat, blk := .dieScheduling, base := 0x10150000, off := 0x28, fields := [⟨15, 0, .ro, .priv⟩, ⟨31, 31, .rw1c, .priv⟩] }
/-- DS_OVF (09_tail_latency.md R276): OVF. -/
def D.dsOvf : RegD :=
  { id := .dsOvf, blk := .dieScheduling, base := 0x10150000, off := 0x78, fields := [⟨4, 0, .rw1c, .priv⟩] }
/-- DS_CNT (09_tail_latency.md R276): COUNT. -/
def D.dsCnt : RegD :=
  { id := .dsCnt, blk := .dieScheduling, base := 0x10150000, off := 0x80, n1 := 5, s1 := 0x8, wide := true, fields := [⟨63, 0, .ro, .priv⟩] }

/-- The registers of the block `dieScheduling`. -/
def regsOfDieScheduling : List RegD :=
  [D.dsCtl, D.dsSusp, D.dsMinrun, D.dsWin, D.dsAge, D.dsDomSel, D.dsDomCfg, D.dsDomStat, D.dsOvf, D.dsCnt]

/-- GR_CFG (10_granary.md R314): SIZE, WT, LIMITED. -/
def D.grCfg : RegD :=
  { id := .grCfg, blk := .holdup, base := 0x10070000, off := 0x0, fields := [⟨6, 0, .ro, .any⟩, ⟨8, 8, .ro, .any⟩, ⟨9, 9, .ro, .any⟩] }
/-- GR_OCC (10_granary.md R314): SEGS, PEAK. -/
def D.grOcc : RegD :=
  { id := .grOcc, blk := .holdup, base := 0x10070000, off := 0x4, fields := [⟨14, 0, .ro, .priv⟩, ⟨30, 16, .rc, .priv⟩] }
/-- GR_PRESS (10_granary.md R314): HIGH, LOW. -/
def D.grPress : RegD :=
  { id := .grPress, blk := .holdup, base := 0x10070000, off := 0x8, rst := [0x4B55], fields := [⟨6, 0, .rw, .priv⟩, ⟨14, 8, .rw, .priv⟩] }
/-- LM_CFG (10_granary.md R314): MODE, HU_DRIVE. -/
def D.lmCfg : RegD :=
  { id := .lmCfg, blk := .holdup, base := 0x10070000, off := 0x10, rst := [0x10], fields := [⟨1, 0, .rwl, .priv⟩, ⟨4, 4, .rwl, .priv⟩] }
/-- LM_LEVEL (10_granary.md R314): PK_MIN, DC_MIN. -/
def D.lmLevel : RegD :=
  { id := .lmLevel, blk := .holdup, base := 0x10070000, off := 0x14, rst := [0x17700C8], fields := [⟨11, 0, .rwl, .priv⟩, ⟨27, 16, .rwl, .priv⟩] }
/-- LM_STAT (10_granary.md R314): LOCKED, HALF_PERIOD, LOSS_SEEN. -/
def D.lmStat : RegD :=
  { id := .lmStat, blk := .holdup, base := 0x10070000, off := 0x18, fields := [⟨0, 0, .ro, .any⟩, ⟨23, 8, .ro, .any⟩, ⟨31, 31, .rw1c, .priv⟩] }
/-- BO_TRIM (10_granary.md R314): BO1, BO2. -/
def D.boTrim : RegD :=
  { id := .boTrim, blk := .holdup, base := 0x10070000, off := 0x20, rst := [0x25802BC], fields := [⟨11, 0, .ro, .any⟩, ⟨27, 16, .ro, .any⟩] }
/-- BO_OFS (10_granary.md R314): BO1_OFS, BO2_OFS. -/
def D.boOfs : RegD :=
  { id := .boOfs, blk := .holdup, base := 0x10070000, off := 0x24, fields := [⟨7, 0, .rwl, .priv⟩, ⟨15, 8, .rwl, .priv⟩] }
/-- HU_STAT (10_granary.md R314): HU_IN, HOLDUP, CAUSE, DUMP, ARMED, ARMED_OK. -/
def D.huStat : RegD :=
  { id := .huStat, blk := .holdup, base := 0x10070000, off := 0x30, rst := [0x1], fields := [⟨0, 0, .ro, .any⟩, ⟨1, 1, .ro, .any⟩, ⟨6, 4, .ro, .any⟩, ⟨9, 8, .ro, .any⟩, ⟨12, 12, .ro, .any⟩, ⟨13, 13, .ro, .any⟩] }
/-- HU_TEST (10_granary.md R314): START, RUNNING, RESULT, BOT. -/
def D.huTest : RegD :=
  { id := .huTest, blk := .holdup, base := 0x10070000, off := 0x34, rst := [0x2EE0000], fields := [⟨0, 0, .wo, .secure⟩, ⟨1, 1, .ro, .secure⟩, ⟨3, 2, .ro, .secure⟩, ⟨27, 16, .rw, .secure⟩] }
/-- HU_LOCK (10_granary.md R314): LOCK. -/
def D.huLock : RegD :=
  { id := .huLock, blk := .holdup, base := 0x10070000, off := 0xF0, fields := [⟨0, 0, .rw1s, .priv⟩] }

/-- The registers of the block `holdup`. -/
def regsOfHoldup : List RegD :=
  [D.grCfg, D.grOcc, D.grPress, D.lmCfg, D.lmLevel, D.lmStat, D.boTrim, D.boOfs, D.huStat, D.huTest, D.huLock]

/-- PB_NODE (11_balwen.md R343): ID. -/
def D.pbNode : RegD :=
  { id := .pbNode, blk := .balwen, base := 0x10190000, off := 0x0, fields := [⟨17, 0, .rwl, .priv⟩] }
/-- PB_ETH (11_balwen.md R343): ETYPE, MAC_B1. -/
def D.pbEth : RegD :=
  { id := .pbEth, blk := .balwen, base := 0x10190000, off := 0x4, rst := [0xB088B5], fields := [⟨15, 0, .rwl, .priv⟩, ⟨23, 16, .rwl, .priv⟩] }
/-- PB_TIME (11_balwen.md R343): REF, SYNC_EN. -/
def D.pbTime : RegD :=
  { id := .pbTime, blk := .balwen, base := 0x10190000, off := 0x8, fields := [⟨17, 0, .rwl, .priv⟩, ⟨31, 31, .rw, .priv⟩] }
/-- PB_FTIME (11_balwen.md R343): FTIME. -/
def D.pbFtime : RegD :=
  { id := .pbFtime, blk := .balwen, base := 0x10190000, off := 0x10, wide := true, fields := [⟨63, 0, .ro, .any⟩] }
/-- PB_RT_SEL (11_balwen.md R343): IDX. -/
def D.pbRtSel : RegD :=
  { id := .pbRtSel, blk := .balwen, base := 0x10190000, off := 0x20, fields := [⟨2, 0, .rw, .priv⟩] }
/-- PB_RT (11_balwen.md R343): NODE, LINK, HOPS, VALID. -/
def D.pbRt : RegD :=
  { id := .pbRt, blk := .balwen, base := 0x10190000, off := 0x24, fields := [⟨17, 0, .rw, .priv⟩, ⟨21, 20, .rw, .priv⟩, ⟨25, 24, .rw, .priv⟩, ⟨31, 31, .rw, .priv⟩] }
/-- PB_ORPH (11_balwen.md R343): DOMAIN, TMO. -/
def D.pbOrph : RegD :=
  { id := .pbOrph, blk := .balwen, base := 0x10190000, off := 0x28, rst := [0x3E80000], fields := [⟨7, 0, .rwl, .priv⟩, ⟨25, 16, .rwl, .priv⟩] }
/-- PB_SESS (11_balwen.md R343): OPEN. -/
def D.pbSess : RegD :=
  { id := .pbSess, blk := .balwen, base := 0x10190000, off := 0x2C, fields := [⟨10, 0, .ro, .priv⟩] }
/-- PL_CTL (11_balwen.md R343): EN, MODE, RATE_MAX, FEC_OFF_OK, RETRAIN. -/
def D.plCtl : RegD :=
  { id := .plCtl, blk := .balwen, base := 0x10190000, off := 0x100, n1 := 4, s1 := 0x40, fields := [⟨0, 0, .rw, .priv⟩, ⟨1, 1, .rwl, .priv⟩, ⟨3, 2, .rwl, .priv⟩, ⟨4, 4, .rwl, .priv⟩, ⟨5, 5, .wo, .priv⟩] }
/-- PL_STAT (11_balwen.md R343): STATE, RATE, WIDTH, FEC, PEER, FAULT. -/
def D.plStat : RegD :=
  { id := .plStat, blk := .balwen, base := 0x10190000, off := 0x104, n1 := 4, s1 := 0x40, fields := [⟨1, 0, .ro, .any⟩, ⟨3, 2, .ro, .any⟩, ⟨6, 4, .ro, .any⟩, ⟨7, 7, .ro, .any⟩, ⟨25, 8, .ro, .any⟩, ⟨29, 26, .ro, .any⟩] }
/-- PL_OVF (11_balwen.md R343): OVF. -/
def D.plOvf : RegD :=
  { id := .plOvf, blk := .balwen, base := 0x10190000, off := 0x108, n1 := 4, s1 := 0x40, fields := [⟨3, 0, .rw1c, .priv⟩] }
/-- PL_CNT (11_balwen.md R343): COUNT. -/
def D.plCnt : RegD :=
  { id := .plCnt, blk := .balwen, base := 0x10190000, off := 0x110, n1 := 4, s1 := 0x40, n2 := 4, s2 := 0x8, wide := true, fields := [⟨63, 0, .ro, .priv⟩] }
/-- PB_LOCK (14_control.md R395): LOCK. -/
def D.pbLock : RegD :=
  { id := .pbLock, blk := .balwen, base := 0x10190000, off := 0xF0, fields := [⟨0, 0, .rw1s, .priv⟩] }

/-- The registers of the block `balwen`. -/
def regsOfBalwen : List RegD :=
  [D.pbNode, D.pbEth, D.pbTime, D.pbFtime, D.pbRtSel, D.pbRt, D.pbOrph, D.pbSess, D.plCtl, D.plStat, D.plOvf, D.plCnt, D.pbLock]

/-- DM_CFG (12_memory.md R368): CHANNELS, DENSITY, GRAIN. -/
def D.dmCfg : RegD :=
  { id := .dmCfg, blk := .memory, base := 0x10180000, off := 0x0, rst := [0x42], fields := [⟨0, 0, .rwl, .priv⟩, ⟨2, 1, .rwl, .priv⟩, ⟨7, 4, .rwl, .priv⟩] }
/-- DM_CAP (12_memory.md R368): CAP_MIB. -/
def D.dmCap : RegD :=
  { id := .dmCap, blk := .memory, base := 0x10180000, off := 0x4, fields := [⟨19, 0, .ro, .any⟩] }
/-- DM_REF (12_memory.md R368): FAST, HOT95. -/
def D.dmRef : RegD :=
  { id := .dmRef, blk := .memory, base := 0x10180000, off := 0x8, fields := [⟨0, 0, .ro, .any⟩, ⟨1, 1, .ro, .any⟩] }
/-- DM_LANE_SEL (12_memory.md R368): CH, SUB, LANE. -/
def D.dmLaneSel : RegD :=
  { id := .dmLaneSel, blk := .memory, base := 0x10180000, off := 0x10, fields := [⟨1, 0, .rw, .priv⟩, ⟨2, 2, .rw, .priv⟩, ⟨13, 8, .rw, .priv⟩] }
/-- DM_LANE_DLY (12_memory.md R368): TX, RX, GATE. -/
def D.dmLaneDly : RegD :=
  { id := .dmLaneDly, blk := .memory, base := 0x10180000, off := 0x14, rst := [0x404040], fields := [⟨6, 0, .rwl, .priv⟩, ⟨14, 8, .rwl, .priv⟩, ⟨22, 16, .rwl, .priv⟩] }
/-- DM_VREF (12_memory.md R368): RXV. -/
def D.dmVref : RegD :=
  { id := .dmVref, blk := .memory, base := 0x10180000, off := 0x18, rst := [0x1E], fields := [⟨6, 0, .rwl, .priv⟩] }
/-- DM_MRW (12_memory.md R368): MA, OP, ALL, BUSY, GO. -/
def D.dmMrw : RegD :=
  { id := .dmMrw, blk := .memory, base := 0x10180000, off := 0x1C, fields := [⟨7, 0, .wo, .priv⟩, ⟨15, 8, .wo, .priv⟩, ⟨16, 16, .wo, .priv⟩, ⟨30, 30, .ro, .priv⟩, ⟨31, 31, .wo, .priv⟩] }
/-- DM_LB_CTL (12_memory.md R368): GO, MARGIN, PASSES, DONE. -/
def D.dmLbCtl : RegD :=
  { id := .dmLbCtl, blk := .memory, base := 0x10180000, off := 0x20, rst := [0x400], fields := [⟨0, 0, .wo, .priv⟩, ⟨14, 8, .rw, .priv⟩, ⟨16, 16, .rw, .priv⟩, ⟨31, 31, .ro, .priv⟩] }
/-- DM_LB_ERR (12_memory.md R368): LANES. -/
def D.dmLbErr : RegD :=
  { id := .dmLbErr, blk := .memory, base := 0x10180000, off := 0x28, wide := true, fields := [⟨39, 0, .ro, .priv⟩] }
/-- DM_LB_ADDR (12_memory.md R368): ADDR. -/
def D.dmLbAddr : RegD :=
  { id := .dmLbAddr, blk := .memory, base := 0x10180000, off := 0x30, wide := true, fields := [⟨63, 20, .rw, .priv⟩] }
/-- DM_ZERO (12_memory.md R368): WMARK. -/
def D.dmZero : RegD :=
  { id := .dmZero, blk := .memory, base := 0x10180000, off := 0x40, wide := true, fields := [⟨63, 0, .ro, .priv⟩] }
/-- DM_ZERO_CTL (12_memory.md R368): GO, DONE. -/
def D.dmZeroCtl : RegD :=
  { id := .dmZeroCtl, blk := .memory, base := 0x10180000, off := 0x48, fields := [⟨0, 0, .wo, .priv⟩, ⟨31, 31, .ro, .priv⟩] }
/-- DM_RET_ADDR (12_memory.md R368): PAGE. -/
def D.dmRetAddr : RegD :=
  { id := .dmRetAddr, blk := .memory, base := 0x10180000, off := 0x50, wide := true, fields := [⟨63, 12, .rw, .priv⟩] }
/-- DM_RET_CMD (12_memory.md R368): OP, BUSY, USED. -/
def D.dmRetCmd : RegD :=
  { id := .dmRetCmd, blk := .memory, base := 0x10180000, off := 0x58, fields := [⟨1, 0, .wo, .priv⟩, ⟨8, 8, .ro, .priv⟩, ⟨29, 16, .ro, .priv⟩] }
/-- WV_CFG (12_memory.md R368): PERIOD, EN. -/
def D.wvCfg : RegD :=
  { id := .wvCfg, blk := .memory, base := 0x10180000, off := 0x60, rst := [0x80000018], fields := [⟨4, 0, .rw, .priv⟩, ⟨31, 31, .rw, .priv⟩] }
/-- MI_INJ_TGT (12_memory.md R368): ARM, SPACE, ADDR. -/
def D.miInjTgt : RegD :=
  { id := .miInjTgt, blk := .memory, base := 0x10180000, off := 0x70, wide := true, fields := [⟨0, 0, .rw, .priv⟩, ⟨1, 1, .rw, .priv⟩, ⟨63, 3, .rw, .priv⟩] }
/-- MI_INJ_MASK (12_memory.md R368): MASK. -/
def D.miInjMask : RegD :=
  { id := .miInjMask, blk := .memory, base := 0x10180000, off := 0x78, wide := true, fields := [⟨63, 0, .rw, .priv⟩] }
/-- MI_ERR_STAT (12_memory.md R368): DEPTH, OVERFLOW. -/
def D.miErrStat : RegD :=
  { id := .miErrStat, blk := .memory, base := 0x10180000, off := 0x80, fields := [⟨6, 0, .ro, .priv⟩, ⟨31, 31, .rw1c, .priv⟩] }
/-- MI_ERR_INFO (12_memory.md R368): SPACE, UE, RECUR, SRC, CH, SUB, DEV, REGION, VALID. -/
def D.miErrInfo : RegD :=
  { id := .miErrInfo, blk := .memory, base := 0x10180000, off := 0x84, fields := [⟨0, 0, .ro, .priv⟩, ⟨1, 1, .ro, .priv⟩, ⟨2, 2, .ro, .priv⟩, ⟨5, 4, .ro, .priv⟩, ⟨9, 8, .ro, .priv⟩, ⟨10, 10, .ro, .priv⟩, ⟨15, 12, .ro, .priv⟩, ⟨19, 16, .ro, .priv⟩, ⟨31, 31, .ro, .priv⟩] }
/-- MI_ERR_ADDR (12_memory.md R368): ADDR. -/
def D.miErrAddr : RegD :=
  { id := .miErrAddr, blk := .memory, base := 0x10180000, off := 0x88, wide := true, fields := [⟨63, 0, .ro, .priv⟩] }
/-- MI_ERR_POP (12_memory.md R368): POP. -/
def D.miErrPop : RegD :=
  { id := .miErrPop, blk := .memory, base := 0x10180000, off := 0x90, fields := [⟨0, 0, .wo, .priv⟩] }
/-- DM_LOCK (12_memory.md R368): LOCK. -/
def D.dmLock : RegD :=
  { id := .dmLock, blk := .memory, base := 0x10180000, off := 0xF0, fields := [⟨0, 0, .rw1s, .priv⟩] }
/-- MI_OVF (12_memory.md R368): OVF. -/
def D.miOvf : RegD :=
  { id := .miOvf, blk := .memory, base := 0x10180000, off := 0xF8, fields := [⟨5, 0, .rw1c, .priv⟩] }
/-- MI_CNT (12_memory.md R368): COUNT. -/
def D.miCnt : RegD :=
  { id := .miCnt, blk := .memory, base := 0x10180000, off := 0x100, n1 := 6, s1 := 0x8, wide := true, fields := [⟨63, 0, .ro, .priv⟩] }

/-- The registers of the block `memory`. -/
def regsOfMemory : List RegD :=
  [D.dmCfg, D.dmCap, D.dmRef, D.dmLaneSel, D.dmLaneDly, D.dmVref, D.dmMrw, D.dmLbCtl, D.dmLbErr, D.dmLbAddr, D.dmZero, D.dmZeroCtl, D.dmRetAddr, D.dmRetCmd, D.wvCfg, D.miInjTgt, D.miInjMask, D.miErrStat, D.miErrInfo, D.miErrAddr, D.miErrPop, D.dmLock, D.miOvf, D.miCnt]

/-- LR_POOL_SEL (13_larder.md R380): POOL. -/
def D.lrPoolSel : RegD :=
  { id := .lrPoolSel, blk := .larder, base := 0x10170000, off := 0x0, fields := [⟨2, 0, .rw, .priv⟩] }
/-- LR_POOL_STAT (13_larder.md R380): FREE, WAITING. -/
def D.lrPoolStat : RegD :=
  { id := .lrPoolStat, blk := .larder, base := 0x10170000, off := 0x4, rst := [0x4000], fields := [⟨14, 0, .ro, .priv⟩, ⟨30, 16, .ro, .priv⟩] }
/-- LR_POOL_CFG (13_larder.md R380): COUNT, RSV. -/
def D.lrPoolCfg : RegD :=
  { id := .lrPoolCfg, blk := .larder, base := 0x10170000, off := 0x8, rst := [0x8004000], fields := [⟨14, 0, .ro, .priv⟩, ⟨30, 16, .rwl, .priv⟩] }
/-- LR_LOCK (13_larder.md R380): LOCK. -/
def D.lrLock : RegD :=
  { id := .lrLock, blk := .larder, base := 0x10170000, off := 0xC, fields := [⟨0, 0, .rw1s, .priv⟩] }
/-- LR_REQ (13_larder.md R380): SIZE, SPILL, READ, P5, GO. -/
def D.lrReq : RegD :=
  { id := .lrReq, blk := .larder, base := 0x10170000, off := 0x10, fields := [⟨18, 0, .wo, .priv⟩, ⟨24, 24, .wo, .priv⟩, ⟨25, 25, .wo, .priv⟩, ⟨26, 26, .wo, .priv⟩, ⟨31, 31, .wo, .priv⟩] }
/-- LR_RESULT (13_larder.md R380): HANDLE. -/
def D.lrResult : RegD :=
  { id := .lrResult, blk := .larder, base := 0x10170000, off := 0x14, fields := [⟨31, 0, .ro, .priv⟩] }
/-- LR_REQ_STAT (13_larder.md R380): VALID, NONE, ERR. -/
def D.lrReqStat : RegD :=
  { id := .lrReqStat, blk := .larder, base := 0x10170000, off := 0x18, fields := [⟨0, 0, .rc, .priv⟩, ⟨1, 1, .rc, .priv⟩, ⟨4, 2, .rc, .priv⟩] }
/-- LR_OP_HANDLE (13_larder.md R380): HANDLE. -/
def D.lrOpHandle : RegD :=
  { id := .lrOpHandle, blk := .larder, base := 0x10170000, off := 0x1C, fields := [⟨31, 0, .rw, .priv⟩] }
/-- LR_OP (13_larder.md R380): OP, ARG. -/
def D.lrOp : RegD :=
  { id := .lrOp, blk := .larder, base := 0x10170000, off := 0x20, fields := [⟨2, 0, .wo, .priv⟩, ⟨15, 8, .wo, .priv⟩] }
/-- LR_OP_STAT (13_larder.md R380): DONE, ERR. -/
def D.lrOpStat : RegD :=
  { id := .lrOpStat, blk := .larder, base := 0x10170000, off := 0x24, fields := [⟨0, 0, .rc, .priv⟩, ⟨3, 1, .rc, .priv⟩] }
/-- LR_OVF (13_larder.md R380): OVF. -/
def D.lrOvf : RegD :=
  { id := .lrOvf, blk := .larder, base := 0x10170000, off := 0x78, fields := [⟨4, 0, .rw1c, .priv⟩] }
/-- LR_CNT (13_larder.md R380): COUNT. -/
def D.lrCnt : RegD :=
  { id := .lrCnt, blk := .larder, base := 0x10170000, off := 0x80, n1 := 5, s1 := 0x8, wide := true, fields := [⟨63, 0, .ro, .priv⟩] }

/-- The registers of the block `larder`. -/
def regsOfLarder : List RegD :=
  [D.lrPoolSel, D.lrPoolStat, D.lrPoolCfg, D.lrLock, D.lrReq, D.lrResult, D.lrReqStat, D.lrOpHandle, D.lrOp, D.lrOpStat, D.lrOvf, D.lrCnt]

/-- SYS_ID (14_control.md R406): PART, STEP. -/
def D.sysId : RegD :=
  { id := .sysId, blk := .sysctl, base := 0x10000000, off := 0x0, rst := [0xB06400], fields := [⟨15, 0, .ro, .any⟩, ⟨23, 16, .ro, .any⟩] }
/-- SYS_PAR_STAT (14_control.md R406): FN_FAULT, GLOBAL. -/
def D.sysParStat : RegD :=
  { id := .sysParStat, blk := .sysctl, base := 0x10000000, off := 0x10, fields := [⟨0, 0, .rw1c, .priv⟩, ⟨1, 1, .ro, .priv⟩] }
/-- SYS_PAR_ADDR (14_control.md R406): OFFSET. -/
def D.sysParAddr : RegD :=
  { id := .sysParAddr, blk := .sysctl, base := 0x10000000, off := 0x14, fields := [⟨27, 0, .ro, .priv⟩] }
/-- SYS_ACC_ADDR (14_control.md R406): ADDR. -/
def D.sysAccAddr : RegD :=
  { id := .sysAccAddr, blk := .sysctl, base := 0x10000000, off := 0x20, wide := true, fields := [⟨63, 0, .ro, .priv⟩] }
/-- SYS_ACC_INFO (14_control.md R406): CLASS, WRITE, KIND, VALID. -/
def D.sysAccInfo : RegD :=
  { id := .sysAccInfo, blk := .sysctl, base := 0x10000000, off := 0x28, fields := [⟨2, 0, .rc, .priv⟩, ⟨3, 3, .rc, .priv⟩, ⟨5, 4, .rc, .priv⟩, ⟨31, 31, .rc, .priv⟩] }
/-- RS_CAUSE (18_bring_up.md R508): LAST, UNDUMPED. -/
def D.rsCause : RegD :=
  { id := .rsCause, blk := .sysctl, base := 0x10000000, off := 0x100, rst := [0x1], fields := [⟨3, 0, .ro, .any⟩, ⟨16, 16, .ro, .any⟩] }
/-- RS_RET (18_bring_up.md R508): CLEAN, VERDICT. -/
def D.rsRet : RegD :=
  { id := .rsRet, blk := .sysctl, base := 0x10000000, off := 0x104, fields := [⟨0, 0, .ro, .priv⟩, ⟨2, 1, .ro, .priv⟩] }
/-- RS_AGE (18_bring_up.md R508): SECONDS. -/
def D.rsAge : RegD :=
  { id := .rsAge, blk := .sysctl, base := 0x10000000, off := 0x108, rst := [0xFFFFFFFF], fields := [⟨31, 0, .ro, .priv⟩] }
/-- RS_FMASK (18_bring_up.md R508): FAILED. -/
def D.rsFmask : RegD :=
  { id := .rsFmask, blk := .sysctl, base := 0x10000000, off := 0x110, n1 := 5, s1 := 0x4, fields := [⟨31, 0, .ro, .priv⟩] }
/-- RS_BIST (18_bring_up.md R508): SEC_OK, DATA_RAN, MBIST_OK. -/
def D.rsBist : RegD :=
  { id := .rsBist, blk := .sysctl, base := 0x10000000, off := 0x130, fields := [⟨0, 0, .ro, .priv⟩, ⟨1, 1, .ro, .priv⟩, ⟨2, 2, .ro, .priv⟩] }
/-- RS_REQ (18_bring_up.md R508): OP, KEY. -/
def D.rsReq : RegD :=
  { id := .rsReq, blk := .sysctl, base := 0x10000000, off := 0x140, fields := [⟨1, 0, .wo, .priv⟩, ⟨15, 8, .wo, .priv⟩] }

/-- The registers of the block `sysctl`. -/
def regsOfSysctl : List RegD :=
  [D.sysId, D.sysParStat, D.sysParAddr, D.sysAccAddr, D.sysAccInfo, D.rsCause, D.rsRet, D.rsAge, D.rsFmask, D.rsBist, D.rsReq]

/-- EV_SW (14_control.md R407): N, SEV, CODE. -/
def D.evSw : RegD :=
  { id := .evSw, blk := .event, base := 0x10010000, off := 0x40, fields := [⟨2, 0, .wo, .priv⟩, ⟨5, 4, .wo, .priv⟩, ⟨31, 16, .wo, .priv⟩] }
/-- EV_SW_P (14_control.md R407): PARAM. -/
def D.evSwP : RegD :=
  { id := .evSwP, blk := .event, base := 0x10010000, off := 0x44, n1 := 3, s1 := 0x4, fields := [⟨31, 0, .rw, .priv⟩] }
/-- EV_CLAIM (14_control.md R407): SRC, VALID. -/
def D.evClaim : RegD :=
  { id := .evClaim, blk := .event, base := 0x10010000, off := 0x60, fields := [⟨8, 0, .ro, .any⟩, ⟨31, 31, .ro, .any⟩] }
/-- EV_PEND (14_control.md R407): PEND. -/
def D.evPend : RegD :=
  { id := .evPend, blk := .event, base := 0x10010000, off := 0x100, n1 := 16, s1 := 0x4, fields := [⟨31, 0, .rw1c, .priv⟩] }
/-- EV_CFG (14_control.md R407): REC, IRQ, CORE, ATTIC, FAULT. -/
def D.evCfg : RegD :=
  { id := .evCfg, blk := .event, base := 0x10010000, off := 0x1000, n1 := 512, s1 := 0x4, rst := [0x1], fields := [⟨0, 0, .rw, .priv⟩, ⟨1, 1, .rw, .priv⟩, ⟨5, 2, .rw, .priv⟩, ⟨6, 6, .rw, .secure⟩, ⟨7, 7, .rw, .secure⟩] }

/-- The registers of the block `event`. -/
def regsOfEvent : List RegD :=
  [D.evSw, D.evSwP, D.evClaim, D.evPend, D.evCfg]

/-- MB_DATA (14_control.md R408): DATA. -/
def D.mbData : RegD :=
  { id := .mbData, blk := .mailbox, base := 0x10020000, off := 0x0, n1 := 32, s1 := 0x80, n2 := 16, s2 := 0x4, fields := [⟨31, 0, .rw, .priv⟩] }
/-- MB_TAG (14_control.md R408): TAG. -/
def D.mbTag : RegD :=
  { id := .mbTag, blk := .mailbox, base := 0x10020000, off := 0x40, n1 := 32, s1 := 0x80, wide := true, fields := [⟨63, 0, .rw, .priv⟩] }
/-- MB_CTL (14_control.md R408): DOORBELL, ACK, FULL, REFUSED. -/
def D.mbCtl : RegD :=
  { id := .mbCtl, blk := .mailbox, base := 0x10020000, off := 0x48, n1 := 32, s1 := 0x80, fields := [⟨0, 0, .wo, .priv⟩, ⟨1, 1, .wo, .priv⟩, ⟨2, 2, .ro, .priv⟩, ⟨3, 3, .rw1c, .priv⟩] }
/-- MB_CFG (14_control.md R408): RX_CORE, RX_ATTIC, TX_CORE, ACK_IRQ. -/
def D.mbCfg : RegD :=
  { id := .mbCfg, blk := .mailbox, base := 0x10020000, off := 0x4C, n1 := 32, s1 := 0x80, fields := [⟨3, 0, .rw, .priv⟩, ⟨4, 4, .rw, .priv⟩, ⟨11, 8, .rw, .priv⟩, ⟨16, 16, .rw, .priv⟩] }

/-- The registers of the block `mailbox`. -/
def regsOfMailbox : List RegD :=
  [D.mbData, D.mbTag, D.mbCtl, D.mbCfg]

/-- CK_CFG (14_control.md R409): T, EN, DBG_PAUSE, LOCK. -/
def D.ckCfg : RegD :=
  { id := .ckCfg, blk := .cricket, base := 0x10030000, off := 0x0, n1 := 5, s1 := 0x10, rst := [0x1F4, 0x1F4, 0x1F4, 0x1F4, 0x7D0], fields := [⟨15, 0, .rwl, .priv⟩, ⟨16, 16, .rw1s, .priv⟩, ⟨17, 17, .rwl, .priv⟩, ⟨31, 31, .rw1s, .priv⟩] }
/-- CK_KICK (14_control.md R409): KEY. -/
def D.ckKick : RegD :=
  { id := .ckKick, blk := .cricket, base := 0x10030000, off := 0x4, n1 := 5, s1 := 0x10, fields := [⟨15, 0, .wo, .priv⟩] }
/-- CK_STAT (14_control.md R409): STAGE, ELAPSED. -/
def D.ckStat : RegD :=
  { id := .ckStat, blk := .cricket, base := 0x10030000, off := 0x8, n1 := 5, s1 := 0x10, fields := [⟨1, 0, .ro, .any⟩, ⟨31, 16, .ro, .any⟩] }

/-- The registers of the block `cricket`. -/
def regsOfCricket : List RegD :=
  [D.ckCfg, D.ckKick, D.ckStat]

/-- CLK_STAT (15_clocks.md R430): FIRC_RDY, SIRC_RDY, XA_RDY, XB_RDY, ROOT_RDY, DPHY_RDY, PPHY_RDY, HPHY_RDY, REFFB, TB_FIRC. -/
def D.clkStat : RegD :=
  { id := .clkStat, blk := .clock, base := 0x10050000, off := 0x0, rst := [0x3], fields := [⟨0, 0, .ro, .any⟩, ⟨1, 1, .ro, .any⟩, ⟨2, 2, .ro, .any⟩, ⟨3, 3, .ro, .any⟩, ⟨4, 4, .ro, .any⟩, ⟨5, 5, .ro, .any⟩, ⟨6, 6, .ro, .any⟩, ⟨11, 8, .ro, .any⟩, ⟨16, 16, .ro, .any⟩, ⟨17, 17, .ro, .any⟩] }
/-- CLK_DSTAT (15_clocks.md R430): SRC. -/
def D.clkDstat : RegD :=
  { id := .clkDstat, blk := .clock, base := 0x10050000, off := 0x4, fields := [⟨11, 0, .ro, .any⟩] }
/-- CLK_PLL (15_clocks.md R430): ROOT_EN, DPHY_EN, PPHY_EN. -/
def D.clkPll : RegD :=
  { id := .clkPll, blk := .clock, base := 0x10050000, off := 0x10, fields := [⟨0, 0, .rw, .priv⟩, ⟨1, 1, .rw, .priv⟩, ⟨2, 2, .rw, .priv⟩] }
/-- CLK_GATE (15_clocks.md R430): IDLE, DIS. -/
def D.clkGate : RegD :=
  { id := .clkGate, blk := .clock, base := 0x10050000, off := 0x14, rst := [0x40], fields := [⟨7, 0, .rw, .priv⟩, ⟨13, 8, .rw, .priv⟩] }
/-- CLK_MON (15_clocks.md R430): XB_FITTED. -/
def D.clkMon : RegD :=
  { id := .clkMon, blk := .clock, base := 0x10050000, off := 0x18, fields := [⟨0, 0, .rwl, .priv⟩] }
/-- CLK_FAULT (15_clocks.md R430): XA, ROOT, FIRC, SIRC, FORCED, REFFB. -/
def D.clkFault : RegD :=
  { id := .clkFault, blk := .clock, base := 0x10050000, off := 0x20, fields := [⟨0, 0, .rw1c, .priv⟩, ⟨1, 1, .rw1c, .priv⟩, ⟨2, 2, .rw1c, .priv⟩, ⟨3, 3, .rw1c, .priv⟩, ⟨4, 4, .rw1c, .priv⟩, ⟨5, 5, .rw1c, .priv⟩] }
/-- FF_CFG (15_clocks.md R430): EN, SRC, PORT, DIV. -/
def D.ffCfg : RegD :=
  { id := .ffCfg, blk := .clock, base := 0x10050000, off := 0x30, fields := [⟨0, 0, .rw, .priv⟩, ⟨7, 4, .rw, .priv⟩, ⟨9, 8, .rw, .priv⟩, ⟨31, 16, .rw, .priv⟩] }
/-- TB (15_clocks.md R430): NS. -/
def D.tb : RegD :=
  { id := .tb, blk := .clock, base := 0x10050000, off := 0x40, wide := true, fields := [⟨63, 0, .ro, .any⟩] }
/-- TB_SLEEP (15_clocks.md R430): NS. -/
def D.tbSleep : RegD :=
  { id := .tbSleep, blk := .clock, base := 0x10050000, off := 0x48, wide := true, fields := [⟨63, 0, .ro, .priv⟩] }
/-- CLK_LOCK (15_clocks.md R430): LOCK. -/
def D.clkLock : RegD :=
  { id := .clkLock, blk := .clock, base := 0x10050000, off := 0xF0, fields := [⟨0, 0, .rw1s, .priv⟩] }

/-- The registers of the block `clock`. -/
def regsOfClock : List RegD :=
  [D.clkStat, D.clkDstat, D.clkPll, D.clkGate, D.clkMon, D.clkFault, D.ffCfg, D.tb, D.tbSleep, D.clkLock]

/-- PW_SW (16_power_thermal.md R455): STATE, Reserved, CHECK. -/
def D.pwSw : RegD :=
  { id := .pwSw, blk := .window, base := 0x10040000, off := 0x40, n1 := 13, s1 := 0x4, rst := [0xFFFF0000], fields := [⟨1, 0, .rw, .priv⟩, ⟨15, 2, .rw, .priv⟩, ⟨31, 16, .rw, .priv⟩] }
/-- RST_HOLD (16_power_thermal.md R455): HOLD, Reserved, CHECK. -/
def D.rstHold : RegD :=
  { id := .rstHold, blk := .window, base := 0x10040000, off := 0x80, n1 := 13, s1 := 0x4, rst := [0xFFFF0000], fields := [⟨0, 0, .rw, .priv⟩, ⟨15, 1, .rw, .priv⟩, ⟨31, 16, .rw, .priv⟩] }
/-- CLK_SEL (15_clocks.md R429): VALUE, CHECK. -/
def D.clkSel : RegD :=
  { id := .clkSel, blk := .window, base := 0x10040000, off := 0x0, n1 := 6, s1 := 0x4, rst := [0xFFFF0000], fields := [⟨15, 0, .rw, .priv⟩, ⟨31, 16, .rw, .priv⟩] }

/-- The registers of the block `window`. -/
def regsOfWindow : List RegD :=
  [D.pwSw, D.rstHold, D.clkSel]

/-- PW_MODE (16_power_thermal.md R456): MODE, PREV, CAUSE. -/
def D.pwMode : RegD :=
  { id := .pwMode, blk := .power, base := 0x10060000, off := 0x0, rst := [0x1], fields := [⟨3, 0, .ro, .any⟩, ⟨7, 4, .ro, .any⟩, ⟨11, 8, .ro, .any⟩] }
/-- PW_REQ (16_power_thermal.md R456): MODE, REFUSED. -/
def D.pwReq : RegD :=
  { id := .pwReq, blk := .power, base := 0x10060000, off := 0x4, fields := [⟨3, 0, .wo, .priv⟩, ⟨16, 16, .rw1c, .priv⟩] }
/-- PW_CFG (16_power_thermal.md R456): DOZE_TMR, CELLAR_TMR. -/
def D.pwCfg : RegD :=
  { id := .pwCfg, blk := .power, base := 0x10060000, off := 0x8, rst := [0xE100000], fields := [⟨15, 0, .rw, .priv⟩, ⟨31, 16, .rw, .priv⟩] }
/-- PW_DOM (16_power_thermal.md R456): STATE. -/
def D.pwDom : RegD :=
  { id := .pwDom, blk := .power, base := 0x10060000, off := 0xC, fields := [⟨25, 0, .ro, .any⟩] }
/-- PW_AVS (16_power_thermal.md R456): TARGET. -/
def D.pwAvs : RegD :=
  { id := .pwAvs, blk := .power, base := 0x10060000, off := 0x10, rst := [0x2EE], fields := [⟨9, 0, .ro, .any⟩] }
/-- TH_COMP (16_power_thermal.md R456): TEMP, STATE, FAULTED, Reserved. -/
def D.thComp : RegD :=
  { id := .thComp, blk := .power, base := 0x10060000, off := 0x20, fields := [⟨7, 0, .ro, .any⟩, ⟨9, 8, .ro, .any⟩, ⟨16, 12, .ro, .any⟩, ⟨31, 17, .ro, .any⟩] }
/-- TH_SEL (16_power_thermal.md R456): SENSOR. -/
def D.thSel : RegD :=
  { id := .thSel, blk := .power, base := 0x10060000, off := 0x24, fields := [⟨4, 0, .rw, .priv⟩] }
/-- TH_VAL (16_power_thermal.md R456): TEMP, FAULT. -/
def D.thVal : RegD :=
  { id := .thVal, blk := .power, base := 0x10060000, off := 0x28, fields := [⟨7, 0, .ro, .priv⟩, ⟨31, 31, .ro, .priv⟩] }
/-- TH_CFG (16_power_thermal.md R456): STEP, FLOOR, HYST, GRACE. -/
def D.thCfg : RegD :=
  { id := .thCfg, blk := .power, base := 0x10060000, off := 0x2C, rst := [0x503190A], fields := [⟨6, 0, .rw, .priv⟩, ⟨14, 8, .rw, .priv⟩, ⟨19, 16, .rw, .priv⟩, ⟨29, 24, .rw, .priv⟩] }
/-- TH_HCTM (16_power_thermal.md R456): TMT1, TMT2. -/
def D.thHctm : RegD :=
  { id := .thHctm, blk := .power, base := 0x10060000, off := 0x30, fields := [⟨15, 0, .rw, .priv⟩, ⟨31, 16, .rw, .priv⟩] }
/-- PW_ADMIT (16_power_thermal.md R456): A. -/
def D.pwAdmit : RegD :=
  { id := .pwAdmit, blk := .power, base := 0x10060000, off := 0x34, fields := [⟨5, 0, .ro, .any⟩] }
/-- CMP_OFS (16_power_thermal.md R456): FIRC, SIRC, BG. -/
def D.cmpOfs : RegD :=
  { id := .cmpOfs, blk := .power, base := 0x10060000, off := 0x40, fields := [⟨7, 0, .rwl, .priv⟩, ⟨15, 8, .rwl, .priv⟩, ⟨23, 16, .rwl, .priv⟩] }
/-- PW_LOCK (16_power_thermal.md R456): LOCK. -/
def D.pwLock : RegD :=
  { id := .pwLock, blk := .power, base := 0x10060000, off := 0xF0, fields := [⟨0, 0, .rw1s, .priv⟩] }

/-- The registers of the block `power`. -/
def regsOfPower : List RegD :=
  [D.pwMode, D.pwReq, D.pwCfg, D.pwDom, D.pwAvs, D.thComp, D.thSel, D.thVal, D.thCfg, D.thHctm, D.pwAdmit, D.cmpOfs, D.pwLock]

/-- ER_CTL (17_attic.md R484): CLEAR. -/
def D.erCtl : RegD :=
  { id := .erCtl, blk := .attic, base := 0x10080000, off := 0x0, fields := [⟨0, 0, .wo, .priv⟩] }
/-- ER_STAT (17_attic.md R484): COUNT, LOST. -/
def D.erStat : RegD :=
  { id := .erStat, blk := .attic, base := 0x10080000, off := 0x4, rst := [0x10000], fields := [⟨14, 0, .ro, .priv⟩, ⟨16, 16, .rw1c, .priv⟩] }
/-- ER_NEWSEQ (17_attic.md R484): SEQ. -/
def D.erNewseq : RegD :=
  { id := .erNewseq, blk := .attic, base := 0x10080000, off := 0x8, fields := [⟨31, 0, .ro, .priv⟩] }
/-- ER_DROP (17_attic.md R484): COUNT. -/
def D.erDrop : RegD :=
  { id := .erDrop, blk := .attic, base := 0x10080000, off := 0x10, n1 := 4, s1 := 0x4, fields := [⟨31, 0, .ro, .priv⟩] }
/-- ER_CUR (17_attic.md R484): SEQ. -/
def D.erCur : RegD :=
  { id := .erCur, blk := .attic, base := 0x10080000, off := 0x100, n1 := 2, s1 := 0x40, fields := [⟨31, 0, .rw, .perBank⟩] }
/-- ER_WSEQ (17_attic.md R484): SEQ, VALID. -/
def D.erWseq : RegD :=
  { id := .erWseq, blk := .attic, base := 0x10080000, off := 0x104, n1 := 2, s1 := 0x40, fields := [⟨30, 0, .ro, .perBank⟩, ⟨31, 31, .ro, .perBank⟩] }
/-- ER_WIN (17_attic.md R484): DATA. -/
def D.erWin : RegD :=
  { id := .erWin, blk := .attic, base := 0x10080000, off := 0x110, n1 := 2, s1 := 0x40, n2 := 8, s2 := 0x4, fields := [⟨31, 0, .ro, .perBank⟩] }
/-- FW_STAT (17_attic.md R484): RUN_SLOT, NEXT_SLOT, SVN_FUSED, LMS_REQ, DEBUG_LOCK, ATT_CLK. -/
def D.fwStat : RegD :=
  { id := .fwStat, blk := .attic, base := 0x10080000, off := 0x200, fields := [⟨0, 0, .ro, .any⟩, ⟨2, 1, .ro, .any⟩, ⟨9, 3, .ro, .any⟩, ⟨10, 10, .ro, .any⟩, ⟨11, 11, .ro, .any⟩, ⟨12, 12, .ro, .any⟩] }

/-- The registers of the block `attic`. -/
def regsOfAttic : List RegD :=
  [D.erCtl, D.erStat, D.erNewseq, D.erDrop, D.erCur, D.erWseq, D.erWin, D.fwStat]

/-- Every register. -/
def allRegs : List RegD :=
  regsOfZoneEngine ++ regsOfCommandEngine ++ regsOfTransform ++ regsOfCipher ++ regsOfFlCh ++ regsOfFlashToken ++ regsOfReadIntegrity ++ regsOfDieScheduling ++ regsOfHoldup ++ regsOfBalwen ++ regsOfMemory ++ regsOfLarder ++ regsOfSysctl ++ regsOfEvent ++ regsOfMailbox ++ regsOfCricket ++ regsOfClock ++ regsOfWindow ++ regsOfPower ++ regsOfAttic

/-! ### The instances by name -/

def R.zeLimits : Ref := { addr := 0x10110000, rst := 0x40001000 }
def R.zeCounts : Ref := { addr := 0x10110004, rst := 0x0 }
def R.zeFblSel : Ref := { addr := 0x10110010, rst := 0x0 }
def R.zeFblStat : Ref := { addr := 0x10110014, rst := 0x200000 }
def R.zeFblPush : Ref := { addr := 0x10110018, rst := 0x0 }
def R.ceQctx : Ref := { addr := 0x10100000, rst := 0x100 }
def R.ceCtxFree : Ref := { addr := 0x10100004, rst := 0x1F000 }
def R.ceAdmFree : Ref := { addr := 0x10100008, rst := 0x1000 }
def R.ceFrozen : Ref := { addr := 0x1010000C, rst := 0x0 }
def R.ceFnSel : Ref := { addr := 0x10100020, rst := 0x0 }
def R.ceFnStat : Ref := { addr := 0x10100024, rst := 0x0 }
def R.ceFnArb : Ref := { addr := 0x10100028, rst := 0x0 }
def R.txCompActive : Ref := { addr := 0x10120000, rst := 0xFFFF }
def R.txCompFenced : Ref := { addr := 0x10120004, rst := 0x0 }
def R.txDecoActive : Ref := { addr := 0x10120008, rst := 0xFFFF }
def R.txDecoFenced : Ref := { addr := 0x1012000C, rst := 0x0 }
def R.txOvf : Ref := { addr := 0x10120010, rst := 0x0 }
def R.txCnt (i : Nat) : Ref := { addr := 0x10120020 + 0x8 * i, rst := 0x0 }
def R.ciEngActive : Ref := { addr := 0x10130000, rst := 0xFF }
def R.ciEngFenced : Ref := { addr := 0x10130004, rst := 0x0 }
def R.ciKsSel : Ref := { addr := 0x10130010, rst := 0x0 }
def R.ciKsStat : Ref := { addr := 0x10130014, rst := 0x0 }
def R.ciKsInfl : Ref := { addr := 0x10130018, rst := 0x0 }
def R.ciKsCtr : Ref := { addr := 0x10130020, rst := 0x0 }
def R.ciKsCeil : Ref := { addr := 0x10130028, rst := 0x0 }
def R.ciKwSel : Ref := { addr := 0x10130040, rst := 0x0 }
def R.ciKwKey (i : Nat) : Ref := { addr := 0x10130044 + 0x4 * i, rst := 0x0 }
def R.ciKwSalt : Ref := { addr := 0x10130064, rst := 0x0 }
def R.ciKwFloor : Ref := { addr := 0x10130068, rst := 0x0 }
def R.ciKwCmd : Ref := { addr := 0x10130070, rst := 0x0 }
def R.ciKwStat : Ref := { addr := 0x10130074, rst := 0x0 }
def R.ciOvf : Ref := { addr := 0x10130078, rst := 0x0 }
def R.ciCnt (i : Nat) : Ref := { addr := 0x10130080 + 0x8 * i, rst := 0x0 }
def R.scCtl (i : Nat) : Ref := { addr := 0x10200000 + 0x1000 * i, rst := 0x0 }
def R.scStat (i : Nat) : Ref := { addr := 0x10200004 + 0x1000 * i, rst := 0x0 }
def R.scDiePres (i : Nat) : Ref := { addr := 0x10200008 + 0x1000 * i, rst := 0x0 }
def R.scDieFail (i : Nat) : Ref := { addr := 0x10200010 + 0x1000 * i, rst := 0x0 }
def R.scUcAddr (i : Nat) : Ref := { addr := 0x10200020 + 0x1000 * i, rst := 0x0 }
def R.scUcData (i : Nat) : Ref := { addr := 0x10200024 + 0x1000 * i, rst := 0x0 }
def R.scPoll (i : Nat) : Ref := { addr := 0x10200030 + 0x1000 * i, rst := 0x320501 }
def R.scQSel (i : Nat) : Ref := { addr := 0x10200040 + 0x1000 * i, rst := 0x0 }
def R.scQStat (i : Nat) : Ref := { addr := 0x10200044 + 0x1000 * i, rst := 0x0 }
def R.scCancel (i : Nat) : Ref := { addr := 0x10200048 + 0x1000 * i, rst := 0x0 }
def R.scOvf (i : Nat) : Ref := { addr := 0x10200078 + 0x1000 * i, rst := 0x0 }
def R.scCnt (i : Nat) (j : Nat) : Ref := { addr := 0x10200080 + 0x1000 * i + 0x8 * j, rst := 0x0 }
def R.ftBudget : Ref := { addr := 0x10160000, rst := 0x7D00 }
def R.ftThermLim : Ref := { addr := 0x10160004, rst := 0x0 }
def R.ftCapLim : Ref := { addr := 0x10160008, rst := 0x0 }
def R.ftPool : Ref := { addr := 0x1016000C, rst := 0x7D00 }
def R.ftHeld : Ref := { addr := 0x10160010, rst := 0x0 }
def R.ftPeHeld : Ref := { addr := 0x10160014, rst := 0x0 }
def R.ftCfg : Ref := { addr := 0x10160018, rst := 0xFA0 }
def R.ftCost (i : Nat) : Ref := { addr := 0x10160020 + 0x4 * i, rst := match i with | 0 => 0xF080805 | 1 => 0xF0A0A06 | 2 => 0xF0C0C07 | _ => 0xF0C0C08 }
def R.ftLock : Ref := { addr := 0x101600F0, rst := 0x0 }
def R.ldFamily : Ref := { addr := 0x10140000, rst := 0x1 }
def R.ldLimit : Ref := { addr := 0x10140004, rst := 0x11000D0 }
def R.ldEw : Ref := { addr := 0x10140008, rst := 0x40383028 }
def R.ldHardFenced : Ref := { addr := 0x10140010, rst := 0x0 }
def R.ldSoftFenced : Ref := { addr := 0x10140018, rst := 0x0 }
def R.ldThtBase : Ref := { addr := 0x10140020, rst := 0x0 }
def R.ldEwqStat : Ref := { addr := 0x10140030, rst := 0x0 }
def R.ldEwqPop : Ref := { addr := 0x10140034, rst := 0x0 }
def R.ldOvf : Ref := { addr := 0x10140078, rst := 0x0 }
def R.ldCnt (i : Nat) : Ref := { addr := 0x10140080 + 0x8 * i, rst := 0x0 }
def R.ldLock : Ref := { addr := 0x101400F0, rst := 0x0 }
def R.dsCtl : Ref := { addr := 0x10150000, rst := 0x3201 }
def R.dsSusp : Ref := { addr := 0x10150004, rst := 0xC8 }
def R.dsMinrun : Ref := { addr := 0x10150008, rst := 0xC8003C }
def R.dsWin : Ref := { addr := 0x1015000C, rst := 0x2580008 }
def R.dsAge : Ref := { addr := 0x10150010, rst := 0x143214 }
def R.dsDomSel : Ref := { addr := 0x10150020, rst := 0x0 }
def R.dsDomCfg : Ref := { addr := 0x10150024, rst := 0x0 }
def R.dsDomStat : Ref := { addr := 0x10150028, rst := 0x0 }
def R.dsOvf : Ref := { addr := 0x10150078, rst := 0x0 }
def R.dsCnt (i : Nat) : Ref := { addr := 0x10150080 + 0x8 * i, rst := 0x0 }
def R.grCfg : Ref := { addr := 0x10070000, rst := 0x0 }
def R.grOcc : Ref := { addr := 0x10070004, rst := 0x0 }
def R.grPress : Ref := { addr := 0x10070008, rst := 0x4B55 }
def R.lmCfg : Ref := { addr := 0x10070010, rst := 0x10 }
def R.lmLevel : Ref := { addr := 0x10070014, rst := 0x17700C8 }
def R.lmStat : Ref := { addr := 0x10070018, rst := 0x0 }
def R.boTrim : Ref := { addr := 0x10070020, rst := 0x25802BC }
def R.boOfs : Ref := { addr := 0x10070024, rst := 0x0 }
def R.huStat : Ref := { addr := 0x10070030, rst := 0x1 }
def R.huTest : Ref := { addr := 0x10070034, rst := 0x2EE0000 }
def R.huLock : Ref := { addr := 0x100700F0, rst := 0x0 }
def R.pbNode : Ref := { addr := 0x10190000, rst := 0x0 }
def R.pbEth : Ref := { addr := 0x10190004, rst := 0xB088B5 }
def R.pbTime : Ref := { addr := 0x10190008, rst := 0x0 }
def R.pbFtime : Ref := { addr := 0x10190010, rst := 0x0 }
def R.pbRtSel : Ref := { addr := 0x10190020, rst := 0x0 }
def R.pbRt : Ref := { addr := 0x10190024, rst := 0x0 }
def R.pbOrph : Ref := { addr := 0x10190028, rst := 0x3E80000 }
def R.pbSess : Ref := { addr := 0x1019002C, rst := 0x0 }
def R.plCtl (i : Nat) : Ref := { addr := 0x10190100 + 0x40 * i, rst := 0x0 }
def R.plStat (i : Nat) : Ref := { addr := 0x10190104 + 0x40 * i, rst := 0x0 }
def R.plOvf (i : Nat) : Ref := { addr := 0x10190108 + 0x40 * i, rst := 0x0 }
def R.plCnt (i : Nat) (j : Nat) : Ref := { addr := 0x10190110 + 0x40 * i + 0x8 * j, rst := 0x0 }
def R.dmCfg : Ref := { addr := 0x10180000, rst := 0x42 }
def R.dmCap : Ref := { addr := 0x10180004, rst := 0x0 }
def R.dmRef : Ref := { addr := 0x10180008, rst := 0x0 }
def R.dmLaneSel : Ref := { addr := 0x10180010, rst := 0x0 }
def R.dmLaneDly : Ref := { addr := 0x10180014, rst := 0x404040 }
def R.dmVref : Ref := { addr := 0x10180018, rst := 0x1E }
def R.dmMrw : Ref := { addr := 0x1018001C, rst := 0x0 }
def R.dmLbCtl : Ref := { addr := 0x10180020, rst := 0x400 }
def R.dmLbErr : Ref := { addr := 0x10180028, rst := 0x0 }
def R.dmLbAddr : Ref := { addr := 0x10180030, rst := 0x0 }
def R.dmZero : Ref := { addr := 0x10180040, rst := 0x0 }
def R.dmZeroCtl : Ref := { addr := 0x10180048, rst := 0x0 }
def R.dmRetAddr : Ref := { addr := 0x10180050, rst := 0x0 }
def R.dmRetCmd : Ref := { addr := 0x10180058, rst := 0x0 }
def R.wvCfg : Ref := { addr := 0x10180060, rst := 0x80000018 }
def R.miInjTgt : Ref := { addr := 0x10180070, rst := 0x0 }
def R.miInjMask : Ref := { addr := 0x10180078, rst := 0x0 }
def R.miErrStat : Ref := { addr := 0x10180080, rst := 0x0 }
def R.miErrInfo : Ref := { addr := 0x10180084, rst := 0x0 }
def R.miErrAddr : Ref := { addr := 0x10180088, rst := 0x0 }
def R.miErrPop : Ref := { addr := 0x10180090, rst := 0x0 }
def R.dmLock : Ref := { addr := 0x101800F0, rst := 0x0 }
def R.miOvf : Ref := { addr := 0x101800F8, rst := 0x0 }
def R.miCnt (i : Nat) : Ref := { addr := 0x10180100 + 0x8 * i, rst := 0x0 }
def R.lrPoolSel : Ref := { addr := 0x10170000, rst := 0x0 }
def R.lrPoolStat : Ref := { addr := 0x10170004, rst := 0x4000 }
def R.lrPoolCfg : Ref := { addr := 0x10170008, rst := 0x8004000 }
def R.lrLock : Ref := { addr := 0x1017000C, rst := 0x0 }
def R.lrReq : Ref := { addr := 0x10170010, rst := 0x0 }
def R.lrResult : Ref := { addr := 0x10170014, rst := 0x0 }
def R.lrReqStat : Ref := { addr := 0x10170018, rst := 0x0 }
def R.lrOpHandle : Ref := { addr := 0x1017001C, rst := 0x0 }
def R.lrOp : Ref := { addr := 0x10170020, rst := 0x0 }
def R.lrOpStat : Ref := { addr := 0x10170024, rst := 0x0 }
def R.lrOvf : Ref := { addr := 0x10170078, rst := 0x0 }
def R.lrCnt (i : Nat) : Ref := { addr := 0x10170080 + 0x8 * i, rst := 0x0 }
def R.sysId : Ref := { addr := 0x10000000, rst := 0xB06400 }
def R.sysParStat : Ref := { addr := 0x10000010, rst := 0x0 }
def R.sysParAddr : Ref := { addr := 0x10000014, rst := 0x0 }
def R.sysAccAddr : Ref := { addr := 0x10000020, rst := 0x0 }
def R.sysAccInfo : Ref := { addr := 0x10000028, rst := 0x0 }
def R.evSw : Ref := { addr := 0x10010040, rst := 0x0 }
def R.evSwP (i : Nat) : Ref := { addr := 0x10010044 + 0x4 * i, rst := 0x0 }
def R.evClaim : Ref := { addr := 0x10010060, rst := 0x0 }
def R.evPend (i : Nat) : Ref := { addr := 0x10010100 + 0x4 * i, rst := 0x0 }
def R.evCfg (i : Nat) : Ref := { addr := 0x10011000 + 0x4 * i, rst := 0x1 }
def R.mbData (i : Nat) (j : Nat) : Ref := { addr := 0x10020000 + 0x80 * i + 0x4 * j, rst := 0x0 }
def R.mbTag (i : Nat) : Ref := { addr := 0x10020040 + 0x80 * i, rst := 0x0 }
def R.mbCtl (i : Nat) : Ref := { addr := 0x10020048 + 0x80 * i, rst := 0x0 }
def R.mbCfg (i : Nat) : Ref := { addr := 0x1002004C + 0x80 * i, rst := 0x0 }
def R.ckCfg (i : Nat) : Ref := { addr := 0x10030000 + 0x10 * i, rst := match i with | 0 => 0x1F4 | 1 => 0x1F4 | 2 => 0x1F4 | 3 => 0x1F4 | _ => 0x7D0 }
def R.ckKick (i : Nat) : Ref := { addr := 0x10030004 + 0x10 * i, rst := 0x0 }
def R.ckStat (i : Nat) : Ref := { addr := 0x10030008 + 0x10 * i, rst := 0x0 }
def R.clkStat : Ref := { addr := 0x10050000, rst := 0x3 }
def R.clkDstat : Ref := { addr := 0x10050004, rst := 0x0 }
def R.clkPll : Ref := { addr := 0x10050010, rst := 0x0 }
def R.clkGate : Ref := { addr := 0x10050014, rst := 0x40 }
def R.clkMon : Ref := { addr := 0x10050018, rst := 0x0 }
def R.clkFault : Ref := { addr := 0x10050020, rst := 0x0 }
def R.ffCfg : Ref := { addr := 0x10050030, rst := 0x0 }
def R.tb : Ref := { addr := 0x10050040, rst := 0x0 }
def R.tbSleep : Ref := { addr := 0x10050048, rst := 0x0 }
def R.clkLock : Ref := { addr := 0x100500F0, rst := 0x0 }
def R.pwSw (i : Nat) : Ref := { addr := 0x10040040 + 0x4 * i, rst := 0xFFFF0000 }
def R.rstHold (i : Nat) : Ref := { addr := 0x10040080 + 0x4 * i, rst := 0xFFFF0000 }
def R.pwMode : Ref := { addr := 0x10060000, rst := 0x1 }
def R.pwReq : Ref := { addr := 0x10060004, rst := 0x0 }
def R.pwCfg : Ref := { addr := 0x10060008, rst := 0xE100000 }
def R.pwDom : Ref := { addr := 0x1006000C, rst := 0x0 }
def R.pwAvs : Ref := { addr := 0x10060010, rst := 0x2EE }
def R.thComp : Ref := { addr := 0x10060020, rst := 0x0 }
def R.thSel : Ref := { addr := 0x10060024, rst := 0x0 }
def R.thVal : Ref := { addr := 0x10060028, rst := 0x0 }
def R.thCfg : Ref := { addr := 0x1006002C, rst := 0x503190A }
def R.thHctm : Ref := { addr := 0x10060030, rst := 0x0 }
def R.pwAdmit : Ref := { addr := 0x10060034, rst := 0x0 }
def R.cmpOfs : Ref := { addr := 0x10060040, rst := 0x0 }
def R.pwLock : Ref := { addr := 0x100600F0, rst := 0x0 }
def R.erCtl : Ref := { addr := 0x10080000, rst := 0x0 }
def R.erStat : Ref := { addr := 0x10080004, rst := 0x10000 }
def R.erNewseq : Ref := { addr := 0x10080008, rst := 0x0 }
def R.erDrop (i : Nat) : Ref := { addr := 0x10080010 + 0x4 * i, rst := 0x0 }
def R.erCur (i : Nat) : Ref := { addr := 0x10080100 + 0x40 * i, rst := 0x0 }
def R.erWseq (i : Nat) : Ref := { addr := 0x10080104 + 0x40 * i, rst := 0x0 }
def R.erWin (i : Nat) (j : Nat) : Ref := { addr := 0x10080110 + 0x40 * i + 0x4 * j, rst := 0x0 }
def R.fwStat : Ref := { addr := 0x10080200, rst := 0x0 }
def R.rsCause : Ref := { addr := 0x10000100, rst := 0x1 }
def R.rsRet : Ref := { addr := 0x10000104, rst := 0x0 }
def R.rsAge : Ref := { addr := 0x10000108, rst := 0xFFFFFFFF }
def R.rsFmask (i : Nat) : Ref := { addr := 0x10000110 + 0x4 * i, rst := 0x0 }
def R.rsBist : Ref := { addr := 0x10000130, rst := 0x0 }
def R.rsReq : Ref := { addr := 0x10000140, rst := 0x0 }
def R.clkSel (i : Nat) : Ref := { addr := 0x10040000 + 0x4 * i, rst := 0xFFFF0000 }
def R.pbLock : Ref := { addr := 0x101900F0, rst := 0x0 }

end Sys2Proof.Machine
end

