-- ==== Sys2Proof/Machine/State.lean ====
section
/-! DEFINITION. The state of the Ivsivar as plain data: one structure for each part of the device, the whole of them in
`State`, and `State.reset`, the device at the release of POR after a standby power-up. Large indexed collections are
sparse tables (`List (Nat × _)`): keys rising, and no entry equal to what an unlisted key reads as. -/

namespace Sys2Proof.Machine

/-! ### Command engine (03_queues.md, 04_tenants.md) -/

/-- The states of a command context (R78); FREE is a context that the table does not list. -/
inductive CtxState where
  | fetched
  | started
  | committed
  | completed
deriving DecidableEq, Repr

/-- A source LBA of a Read, Verify or Copy whose data is sealed, as it stood when the command started: the key slot and the
key number captured, the zone, the cipher unit with the LBA's place in it, the bytes of the unit, the band and
the codewords that hold it where it is on flash. -/
structure SrcRef where
  slot    : Nat := 0
  gen     : Nat := 0
  zone    : Nat := 0
  sealed  : Sealed := {}
  place   : Nat := 0
  bytes   : Nat := 4096
  band    : Nat := 0
  pos     : List Nat := []
  /-- The additional authenticated data of the place that is read, the band generation it was looked up under, the check of R146 that its frame
  fails (0 none), and whether the unit is read only because it is data of the slot (R157). -/
  aad     : List Byte := []
  bgen    : Nat := 0
  check   : Nat := 0
  extra   : Bool := false
deriving DecidableEq, Repr

/-- A command context (R76, R78): the entry as fetched, the generations it was fetched under, its fixed status, and
how far its work has come. -/
structure Ctx where
  fn       : Nat := 0
  sqid     : Nat := 0
  fgen     : Nat := 0
  epoch    : Nat := 0
  st       : CtxState := .fetched
  e        : Entry := {}
  status   : Status := {}
  dw0      : Nat := 0
  dw1      : Nat := 0
  cause    : Nat := 0
  errZone  : Option Nat := none
  errLba   : Option Nat := none
  tunnel   : Bool := false
  inFw     : Bool := false
  mbSent   : Bool := false
  /-- Namespace and zone index of the zone a write was validated in, and its first LBA and length there (R59). -/
  nsid     : Nat := 0
  zone     : Nat := 0
  first    : Nat := 0
  nlb      : Nat := 0
  validated : Bool := false
  /-- Key slots captured (R171): slot, and the key generation of the slot that the capture holds. -/
  keys     : List (Nat × Nat) := []
  ctr      : Nat := 0
  ctrLeft  : Nat := 0
  waitCeil : Bool := false
  waitSpace : Bool := false
  waitTicket : Bool := false
  /-- LBAs whose data has arrived in the Larder, cipher units ended, LBAs applied (R79, R135). -/
  arrived  : Nat := 0
  unitsDone : List Nat := []
  packed   : Nat := 0
  applied  : Nat := 0
  ticket   : Nat := 0
  fua      : Bool := false
  waitFlash : Bool := false
  waitMirror : Bool := false
  /-- The data of a write has been discarded with its zone's band: it waits for flash no more (R64). -/
  discarded : Bool := false
  /-- A write that had its status fixed when hold-up health became degraded: its entry is held until its data is on flash (R86). -/
  through  : Bool := false
  /-- What a Flush covers and is not yet on flash (R88): zone key, first LBA offset and end. -/
  cover    : List (Nat × (Nat × Nat)) := []
  /-- The namespaces that a Namespace Management delete waits to delete (R125). -/
  covered  : List (Nat × Nat) := []
  /-- The namespaces attached to the function when an admin command started: its checks of NSID use them (R125). -/
  named    : Option (List Nat) := none
  /-- The grant check that a waiting command has passed: zone key, placement domain and key slot (R127). -/
  passed   : Option (Nat × (Nat × Nat)) := none
  /-- Reads and copies (R18): codewords still to come from flash (zone key and position), source LBAs not yet served, and
  the LBAs served with their data, by their place in the source. -/
  need     : List (Nat × Nat) := []
  todo     : List Nat := []
  got      : List (Nat × Block) := []
  /-- The sealed source LBAs, by their place in the source, and the key and salt a write is encrypted with. -/
  src      : List (Nat × SrcRef) := []
  encKey   : Option (Nat × Nat) := none
  started  : Bool := false
  badTag   : Bool := false
  margin   : Nat := 255
  detour   : Bool := false
  recon    : Bool := false
  reloc    : Bool := false
  /-- Data returned to the host by a command that returns a data structure. -/
  out      : List Byte := []
  /-- Peer Copy (R342): LBAs asked for so far and chunks outstanding. -/
  asked    : Nat := 0
  chunks   : Nat := 0
  /-- The sessions that its requests went out in; of a chunk that is served, that in which its request came. -/
  via      : List Nat := []
deriving DecidableEq, Repr

/-- A Freeze Log entry (R100), which also marks its queue as frozen at `ctx` (R98). -/
structure Freeze where
  ctx      : Nat := 0
  cid      : Nat := 0
  nsid     : Nat := 0
  zslba    : Option Nat := none
  lba      : Option Nat := none
  status   : Status := {}
  cause    : Nat := 0
  refrozen : Bool := false
  opc      : Nat := 0
  time     : Nat := 0
deriving DecidableEq, Repr

/-- A submission queue (R75, R77, R98, R109): `entries` are the entries host memory holds from the head on, `live` its
contexts in submission order, `continuing` those that a Continue runs (R103), `drain` the entries that a Discard with DRAIN completes
(R104). -/
structure Sq where
  cqid    : Nat := 0
  size    : Nat := 2
  head    : Nat := 0
  tail    : Nat := 0
  entries : List Entry := []
  live    : List Nat := []
  frozen  : Option Freeze := none
  epoch   : Nat := 0
  home    : Nat := 0
  deleting : Option Nat := none
  continuing : List Nat := []
  drain   : List Entry := []
  /-- A Discard in progress (R104): the Resume Queue that asked for it, and the held commands whose entries are still to be posted. -/
  discarding : Option (Nat × List Nat) := none
  /-- A re-homing that waits for stale messages of the queue to leave the mailboxes (R31). -/
  rehomeTo : Option Nat := none
  /-- Messages about the queue's commands that a cluster has taken and not yet answered (R31): context, epoch of the message and cluster. -/
  taken   : List (Nat × (Nat × Nat)) := []
  /-- A Continue in progress (R102, R103): the Resume Queue that asked for it, the held commands, and those of them it has to start. -/
  resuming : Option (Nat × (List Nat × List Nat)) := none
  /-- What posted writes of the queue that failed had applied and is not yet on flash: zone key, first LBA offset and end (R88). -/
  partials : List (Nat × (Nat × Nat)) := []
deriving DecidableEq, Repr

/-- A completion queue entry as posted (R82, R84). -/
structure Cqe where
  sqid   : Nat := 0
  sqHead : Nat := 0
  cid    : Nat := 0
  status : Status := {}
  dw0    : Nat := 0
  dw1    : Nat := 0
  phase  : Bool := true
  irq    : Bool := false
  /-- The PCIe function whose routing ID the entry and its MSI-X carry (R115, R121). -/
  rid    : Nat := 0
deriving DecidableEq, Repr

/-- A completion queue (R82): `posted` is what the device has written to host memory, newest first. -/
structure Cq where
  size   : Nat := 2
  head   : Nat := 0
  tail   : Nat := 0
  phase  : Bool := true
  irq    : Option Nat := none
  posted : List Cqe := []
deriving DecidableEq, Repr

/-- A function's shares and grants, Feature 0xD0 (R133). `ksRanges` holds first slot and count, `domains` is the bit
mask of granted domains, `peers` holds node ID and NSID of the valid entries, and `raw` the bytes of the last Set. -/
structure Share where
  weight   : Nat := 16
  burst    : Nat := 10
  iopsCap  : Nat := 0
  bwCap    : Nat := 0
  ksRanges : List (Nat × Nat) := []
  domains  : Nat := 0
  peers    : List (Nat × Nat) := []
  raw      : List Byte := []
deriving DecidableEq, Repr

/-- How a function is being taken away (R134, R502). -/
inductive SquashKind where
  | flr
  | vfDisable
  | controllerReset
  | parity
deriving DecidableEq, Repr

/-- One function and its controller (R115 to R120, R128, R134). Bucket levels are in thousandths of a command and in
bytes. -/
structure Fn where
  gen      : Nat := 0
  present  : Bool := false
  online   : Bool := false
  nvq      : Nat := 0
  nvi      : Nat := 0
  en       : Bool := false
  rdy      : Bool := false
  cfs      : Bool := false
  shn      : Bool := false
  shst     : Nat := 0
  squash   : Option SquashKind := none
  share    : Share := {}
  /-- WEIGHT, caps and BURST that arbitration uses, taken from `share` at each round start (R130). -/
  inForce  : Share := {}
  deficit  : Nat := 0
  cmdBucket  : Int := 0
  byteBucket : Int := 0
  rrNext   : Nat := 0
  freezeMasked : Bool := false
  asyncEvents : List (Nat × Nat × Nat) := []
  tempThreshold : Nat := 368
  tempCrossed : Bool := false
deriving DecidableEq, Repr

/-- A PCIe host port (R116, R120, R413, R502). -/
structure Port where
  vfEnable : Bool := false
  numVfs   : Nat := 0
  perst    : Bool := false
  linkUp   : Bool := false
  l12      : Bool := false
deriving DecidableEq, Repr

/-- The command engine (R75 to R138). Queues are keyed by 65,536 × function index + queue ID. -/
structure Engine where
  ctxs     : List (Nat × Ctx) := []
  sqs      : List (Nat × Sq) := []
  cqs      : List (Nat × Cq) := []
  fns      : List (Nat × Fn) := []
  ports    : List (Nat × Port) := []
  turn     : Nat := 0
  fetchStop : Bool := true
  paused   : List Nat := []
  vqPool   : Nat := 16128
  viPool   : Nat := 32508
  /-- Abort notices (14_control.md R397, R398) that wait for their cluster's mailbox: cluster, entry and tag. -/
  notices  : List (Nat × (Entry × Nat)) := []
deriving DecidableEq, Repr

/-! ### Zone engine (02_zones.md, 05_transforms.md) -/

/-- Read Margin Histogram of a namespace (R274). Bins are keyed by 256 × density + margin. -/
structure Hist where
  since     : Nat := 0
  codewords : Nat := 0
  detours   : Nat := 0
  recon     : Nat := 0
  granary   : Nat := 0
  abandoned : Nat := 0
  bins      : List (Nat × Nat) := []
deriving DecidableEq, Repr

/-- A namespace (R48, R58, R93, R123, R124, R264), with the saved values of its features. -/
structure Ns where
  zones    : Nat := 0
  mor      : Nat := 4096
  mar      : Nat := 16384
  dflt     : Shape := {}
  attached : Option Nat := none
  ticketed : Bool := false
  ticketedSaved : Bool := false
  deadline : Nat := 300
  deadlineSaved : Nat := 300
  hist     : Hist := {}
deriving DecidableEq, Repr

/-- A band (R39, R51, R56, R230): the zone bound to it (namespace and zone index), whether it is erased, its
generation, and for each channel position the wordlines whose coarse and whose final pass have ended (R207). -/
structure Band where
  zone     : Option (Nat × Nat) := none
  erased   : Bool := false
  erasing  : Bool := false
  gen      : Nat := 0
  retired  : Bool := false
  dens     : Option Nat := none
  prog     : List (Nat × (Nat × Nat)) := []
  issued   : List (Nat × Nat) := []
  temps    : List (Nat × Int) := []
  lastFinal : Nat := 0
  /-- The life time of the last patrol since the start-up (R247). -/
  patrolled : Option Nat := none
deriving DecidableEq, Repr

/-- A die row (R40 to R42, R241 to R243): its recorded domain, and the use that the journal records (0 full-width,
1 narrowed, 2 unused), the position a narrowed row lacks, and the positions of dies marked failed since. -/
structure Row where
  domain   : Option Nat := none
  use      : Option Nat := none
  absent : Option Nat := none
  failedPos : List Nat := []
  migrating : Bool := false
deriving DecidableEq, Repr

/-- A placement domain's free-band list (R73) and detour budget (R263): the level in thousandths of a
unit as it stood at the time `lvAt`, full where absent, and the times of the refusals of the last second. RATE and DEPTH are those in force. -/
structure Domain where
  fbl     : List Nat := []
  rate    : Nat := 0
  depth   : Nat := 0
  rateSaved : Nat := 65535
  depthSaved : Nat := 65535
  level   : Option Nat := none
  lvAt    : Nat := 0
  refused : List Nat := []
  refAt   : Option Nat := none
deriving DecidableEq, Repr

/-- The zone engine (R37 to R74). Zones are keyed by 2^20 × NSID + zone index. -/
structure ZoneEngine where
  nss     : List (Nat × Ns) := []
  zones   : List (Nat × Zone) := []
  bands   : List (Nat × Band) := []
  rows    : List (Nat × Row) := []
  domains : List (Nat × Domain) := []
  stamp   : Nat := 0
  bandWait : List Nat := []
deriving DecidableEq, Repr

/-! ### Cipher (06_cipher.md) -/

/-- A key slot (R170 to R177). `keyGen` counts the keys that have been current, so that a capture names one of them;
`old` holds a key kept for work in flight after an Erase. -/
structure Slot where
  loaded   : Bool := false
  key      : Nat := 0
  salt     : Nat := 0
  shadow   : Option (Nat × Nat) := none
  old      : List (Nat × (Nat × Nat)) := []
  keyGen   : Nat := 0
  ctr      : Nat := 0
  ceil     : Nat := 0
  recorded : Nat := 0
  exhausted : Bool := false
  warned   : Bool := false
  /-- A Load's FLOOR has taken the counter to within 2^23 of the ceiling or past it, and firmware has not yet raised it (R177). -/
  floored  : Bool := false
deriving DecidableEq, Repr

/-- The cipher block's staging registers (R188) and fences (R185). -/
structure Cipher where
  slots    : List (Nat × Slot) := []
  kwKey    : List (Nat × Nat) := []
  kwSalt   : Nat := 0
  kwFloor  : Nat := 0
  kwRefused : Bool := false
deriving DecidableEq, Repr

/-! ### Flash (07_flash_channels.md, 08_flash_integrity.md, 09_tail_latency.md) -/

/-- The states of a Scarab sequencer (R200), in the coding of SC_STAT.STATE. -/
inductive ScState where
  | off
  | halted
  | init
  | running
  | parked
  | holdup
  | stopped
deriving DecidableEq, Repr

/-- Where an operation of a die stands (R205, R209, R254). -/
inductive OpPhase where
  | waitTokens
  | running
  | suspending
  | suspended
deriving DecidableEq, Repr

/-- An operation of a die: its descriptor and poster, its phase, the tokens it holds and their class (0 read, 1
program and erase, 2 dump), its suspend count, the time it was issued, that of its last resume and the time it has spent suspended, and the offsets of
the threshold sets that it reads at (08_flash_integrity.md R228, R229). -/
structure Op where
  d       : Desc := {}
  who     : Issuer := .firmware
  phase   : OpPhase := .waitTokens
  tokens  : Nat := 0
  cls     : Nat := 0
  suspends : Nat := 0
  issued  : Nat := 0
  since   : Nat := 0
  spent   : Nat := 0
  sets    : List (List Int) := []
deriving DecidableEq, Repr

/-- A die (R200 to R212, R253 to R255): its four queues with the posters, the posts to the head of a queue and to its end that wait for room
(R537), the operation chosen or in progress and the one suspended. A descriptor leaves its queue when it is issued. -/
structure Die where
  q       : List (Desc × Issuer) := []
  heads   : List (Desc × Issuer) := []
  posts   : List (Desc × Issuer) := []
  cur     : Option Op := none
  susp    : Option Op := none
  tmoRow  : Nat := 0
  winReads : Nat := 0
  winStart : Nat := 0
  resuming : Bool := false
  temp    : Option Int := none
  resetLun : Bool := false
  /-- The temperature that the Get Features in progress returns (R229). -/
  reading : Option Int := none
  /-- Die-blocks of the last 16 tracked threshold sets used, newest first, and the explicit sets that firmware has written (R228). -/
  tracked : List Nat := []
  explicit : List (Nat × List Int) := []
deriving DecidableEq, Repr

/-- A flash channel (R192, R199, R200, R216). Masks have one bit for each die; `initDone` holds the dies that have finished initialisation with
the step they failed at (0 none), `volumes` the volumes appointed and `vol` the one selected. -/
structure Chan where
  st       : ScState := .off
  usable   : Nat := 0
  failed   : Nat := 0
  uc       : List (Nat × Nat) := []
  initDone : List (Nat × Nat) := []
  volumes  : List Nat := []
  vol      : Option Nat := none
deriving DecidableEq, Repr

/-- A descriptor's completion, as its issuer receives it (R203); a calibration read's returns bit counts (R206). -/
structure FCpl where
  ch     : Nat := 0
  tag    : Nat := 0
  status : Nat := 0
  who    : Issuer := .firmware
  counts : List Nat := []
deriving DecidableEq, Repr

/-- A die-block's record (R232, R238, R240): `dens` is the density of a program since the last erase that ended, `lastDens` that of the last
program, `prog` counts the wordlines programmed in one that serves no band, and `epoch` is the number of the newest checkpoint when it was last
programmed (R234). -/
structure DieBlk where
  st     : Nat := 0
  erases : Nat := 0
  life   : Nat := 0
  wear   : Nat := 0
  dens   : Option Nat := none
  lastDens : Nat := 0
  serves : Option Nat := none
  startOpen : Bool := false
  prog   : Nat := 0
  epoch  : Nat := 0
deriving DecidableEq, Repr

/-- A wordline of a metadata die-block (R282, R283): die key, die-block and wordline, the checkpoint its codewords belong to, and the journal records
that begin in it, by the number of the first and how many. -/
structure MetaWl where
  die   : Nat := 0
  block : Nat := 0
  wl    : Nat := 0
  ckpt  : Nat := 0
  first : Nat := 0
  n     : Nat := 0
deriving DecidableEq, Repr

/-- A threshold set in the threshold table (R227). -/
structure ThrSet where
  off   : List Int := []
  valid : Bool := false
  dirty : Bool := false
deriving DecidableEq, Repr

/-- A read of flash in progress: what it is for, where its codeword lies, its deadline (R257), the ladder step it has
reached (R222) and, for a detour, the constituents still out and their least margin (R261). -/
structure ReadJob where
  who      : Issuer := .firmware
  nsid     : Nat := 0
  zone     : Nat := 0
  relGen   : Nat := 0
  band     : Nat := 0
  bgen     : Nat := 0
  index    : Nat := 0
  ch       : Nat := 0
  die      : Nat := 0
  dens     : Nat := 0
  posted   : Nat := 0
  deadline : Nat := 0
  step     : Nat := 1
  detour   : Bool := false
  parts    : List Nat := []
  margin   : Nat := 255
  left     : List Nat := []
  desc     : Desc := {}
  /-- The data has been read into the decoder; the late test has been made (R260); the thresholds that step 3 found (R223). -/
  ready    : Bool := false
  tested   : Bool := false
  offs     : List Int := []
  /-- The direct descriptor was issued in the cycle of its cancel: it and the detour both run (R262). -/
  both     : Bool := false
deriving DecidableEq, Repr

/-- A request of the token arbiter (R214): die key (64 × channel + die), cost, and whether it has raised its wait
event. -/
structure TokReq where
  die  : Nat := 0
  cost : Nat := 0
  warned : Bool := false
deriving DecidableEq, Repr

/-- The flash side. Dies are keyed by 64 × channel + die, die-blocks by 4,096 × die key + block. -/
structure Flash where
  chans   : List (Nat × Chan) := []
  dies    : List (Nat × Die) := []
  cpls    : List FCpl := []
  blks    : List (Nat × DieBlk) := []
  journal : List JRec := []
  jFlash  : Nat := 0
  /-- The first copy of a journal wordline (R283): records it covers, and the quadrant of its die. -/
  jHalf   : Option (Nat × Nat) := none
  /-- Zone table deltas that are journal records too (R285): the record's number, the zone, and its state. -/
  jZones  : List (Nat × (Nat × Zone)) := []
  /-- The metadata wordlines that have been written (R282, R283). -/
  metaWls : List MetaWl := []
  thr     : List (Nat × ThrSet) := []
  jobs    : List (Nat × ReadJob) := []
  rdHeld  : Nat := 0
  peHeld  : Nat := 0
  dumpHeld : Nat := 0
  poolDump : Bool := false
  rdReq   : List TokReq := []
  peReq   : List TokReq := []
  dumpReq : List TokReq := []
  ewq     : List (Nat × Nat) := []
  lifeStart : Nat := 0
  nextTag : Nat := 0
  /-- Die keys identified before, and the journal records of a first identification that waits for recovery (R236). -/
  known   : List Nat := []
  startRecs : List JRec := []
  /-- Posts of issuers that are held because an earlier post of theirs waits for room (R537): channel, descriptor and issuer. -/
  heldPosts : List (Nat × (Desc × Issuer)) := []
  /-- The time until which Termite moves have spent the copy rate (R246, R249). -/
  copyBusy : Nat := 0
deriving DecidableEq, Repr

/-! ### Granary, hold-up and mirror (10_granary.md, 11_balwen.md) -/

/-- An item placed in a Granary segment: the byte at which it lies, its length, what it is (a zone key and first LBA offset; for a delta the key;
for journal records the number of the last; for a partner's copy its node and offset), and the order in which it was placed. -/
structure GItem where
  off   : Nat := 0
  bytes : Nat := 0
  a     : Nat := 0
  b     : Nat := 0
  num   : Nat := 0
deriving DecidableEq, Repr

/-- A P_5 segment of the Granary (R281): its kind (0 write data, 1 partial frames, 2 running parity, 3 zone table
deltas, 4 journal, 5 partner copies), the bytes placed in it, the items in it not yet released, the handle of its P_5 buffer (13_larder.md
R370), and what has been placed in it. -/
structure Seg where
  kind   : Nat := 0
  used   : Nat := 0
  live   : Nat := 0
  handle : Nat := 0
  items  : List GItem := []
deriving DecidableEq, Repr

/-- Hold-up health (R311, R312). -/
inductive Health where
  | unknown
  | good
  | degraded
deriving DecidableEq, Repr

/-- A dump in a half of the Garret (R298 to R300): its DUMP_ID, the zone table, journal and slots as HOLDUP entry froze them, the segments it writes
in their order and how many of them are the state region, the usable dies of then, the wordlines whose program has ended, the codewords in the Garret by SEQ with
their ADDR (R282), and the partner's copies with their segments. -/
structure Dump where
  id       : Nat := 0
  zones    : List (Nat × Zone) := []
  journal  : List JRec := []
  slots    : List (Nat × Slot) := []
  segs     : List (Nat × Seg) := []
  stateSegs : Nat := 0
  dies     : List Nat := []
  tried    : List Nat := []
  cws      : List (Nat × Nat) := []
  ended    : Bool := false
  cut      : Bool := false
  cause    : Nat := 0
  time     : Nat := 0
  recs     : Nat := 0
  mirror   : List (Nat × (Nat × MirrorPage)) := []
deriving DecidableEq, Repr

/-- A zone table checkpoint on flash (R283), with the retirement list (R362) and the life times (R248) it holds. -/
structure Ckpt where
  num     : Nat := 0
  zones   : List (Nat × Zone) := []
  retired : List (Nat × Nat) := []
  life    : Nat := 0
  lStart  : Nat := 0
  slots   : List (Nat × Slot) := []
  /-- The time base when it was taken (R283). -/
  time    : Nat := 0
deriving DecidableEq, Repr

/-- The Granary and the hold-up block. -/
structure Granary where
  size     : Nat := 0
  limited  : Bool := false
  segs     : List (Nat × Seg) := []
  nextSeg  : Nat := 0
  nextItem : Nat := 0
  peak     : Nat := 0
  waiters  : List Nat := []
  /-- State items, by segment kind, that wait for a free segment: the Granary never exceeds its size (R17). -/
  late     : List (Nat × GItem) := []
  /-- Recovered items of a dump wait for a free segment. -/
  unplaced : Bool := false
  pressing : Bool := false
  pressCount : Nat := 0
  halves   : List (Nat × Dump) := []
  armed    : Nat := 0
  armedOk  : Bool := false
  lastId   : Nat := 0
  ckpt     : Option Ckpt := none
  dumpSt   : Nat := 0
  holdup   : Bool := false
  huCause  : Nat := 0
  endTime  : Nat := 0
  bo2      : Bool := false
  lmLocked : Bool := false
  lmRun    : List Nat := []
  huIn     : Bool := true
  huTestN  : Bool := true
  health   : Health := .unknown
  recorded : Option Bool := none
  testing  : Bool := false
  botCrossed : Bool := false
  testV0   : Nat := 0
  testV1   : Nat := 0
  testEnded : Bool := false
  /-- The result of the test that has ended, until it is applied (R311). -/
  testGood : Bool := false
  wtForced : Bool := false
  dv       : Nat := 0
  lastTest : Nat := 0
  tests    : Nat := 0
  testsFailed : Nat := 0
  dumps    : Nat := 0
  lastDumpUs : Nat := 0
  lastDumpMib : Nat := 0
  lastDumpCause : Nat := 0
  dumpFailed : Bool := false
  fillCw   : Nat := 0
  forceFua : Nat := 0
  forceFlush : Nat := 0
  forceWt  : Nat := 0
  forcePress : Nat := 0
  wtNs     : Nat := 0
  wtSince  : Nat := 0
  mirEn    : Bool := false
  mirPolicy : Nat := 0
  mirPartner : Nat := 0
  mirTmo   : Nat := 10
  mirLost  : Bool := false
  mirOut   : List (Nat × Nat) := []
  mirHeld  : List Nat := []
  mirLbas  : List (Nat × (Nat × Nat)) := []
  mirNext  : Nat := 0
  pulled   : List MirrorPage := []
  pullSent : Bool := false
  pullDone : Bool := false
  recovered : Bool := false
deriving DecidableEq, Repr

/-- The states of a Balwen link (R319), in the coding of PL_STAT_n.STATE. -/
inductive LinkState where
  | off
  | training
  | up
  | fault
deriving DecidableEq, Repr

/-- A Balwen link (R316 to R319). `known` says that its neighbour's DISCOVER has given `peer`. -/
structure Link where
  st     : LinkState := .off
  rate   : Nat := 0
  width  : Nat := 0
  fec    : Bool := false
  peer   : Nat := 0
  known  : Bool := false
  fault  : Nat := 0
  retryWait : Bool := false
  /-- Frames sent since the last bulk frame while bulk frames wait (R331). -/
  run    : Nat := 0
deriving DecidableEq, Repr

/-- A frame that a link sends: type, destination and class, whether it is sequenced, its sequence number, length and
the fields of its MSG. -/
structure TxFrame where
  typ   : Nat := 0
  src   : Nat := 0
  dst   : Nat := 0
  cls   : Nat := 0
  seqd  : Bool := false
  seq   : Nat := 0
  ack   : Nat := 0
  len   : Nat := 0
  ttl   : Nat := 0
  credit : Nat := 0
  creditClass : Nat := 0
  msg   : List Nat := []
  block : Block := []
  sealed : Sealed := {}
  delta : Option Zone := none
  jrec  : Option JRec := none
  /-- Destination MAC address and EtherType, on an Ethernet-mode link (R323). -/
  dmac  : Nat := 0
  etype : Nat := 0
deriving DecidableEq, Repr

/-- A session (R328 to R330): next sequence number to send and to expect, replay buffer, credits by class, the frames that
wait for credits, and replays without progress. -/
structure Session where
  txSeq   : Nat := 0
  rxSeq   : Nat := 0
  replay  : List TxFrame := []
  queue   : List TxFrame := []
  credits : List (Nat × Nat) := []
  replays : Nat := 0
  lastUse : Nat := 0
deriving DecidableEq, Repr

/-- What a device holds as the mirror partner of one owner (R333 to R337): its copies in order, each with its Granary segment. -/
structure Owner where
  state  : Nat := 0
  notice : Bool := false
  domFull : Bool := false
  bands  : List Nat := []
  pages  : List (Nat × MirrorPage) := []
  lostTime : Nat := 0
  /-- The copies that the owner's bands hold, in their order; and of a persisting under way how many of `pages` it takes in and the bands it writes
  (R335). -/
  saved  : List MirrorPage := []
  job    : Nat := 0
  jobBands : List Nat := []
deriving DecidableEq, Repr

/-- A Peer Copy chunk request that a source serves (11_balwen.md R342): the node and the context there that it serves, and the LBAs. -/
structure ChunkReq where
  node : Nat := 0
  ctx  : Nat := 0
  nsid : Nat := 0
  slba : Nat := 0
  n    : Nat := 0
  /-- The session that the request came in. -/
  via  : Nat := 0
deriving DecidableEq, Repr

/-- The Balwen block. Sessions are keyed by 262,144 × link + node. `sent` is what the links have sent, newest first. -/
structure Balwen where
  /-- The chunk requests that wait to be served (R342). -/
  chunks   : List ChunkReq := []
  links    : List (Nat × Link) := []
  sessions : List (Nat × Session) := []
  sent     : List (Nat × TxFrame) := []
  owners   : List (Nat × Owner) := []
  offset   : Int := 0
  /-- The offset in force at the time `slewAt`, from which it slews towards `offset` (R339). -/
  slewFrom : Int := 0
  slewAt   : Nat := 0
  syncFails : Nat := 0
  syncOut  : Bool := false
deriving DecidableEq, Repr

/-! ### Memory and Larder (12_memory.md, 13_larder.md) -/

/-- A record of the memory error FIFO (R358, R368). -/
structure MemRec where
  sram   : Bool := false
  ue     : Bool := false
  recur  : Bool := false
  src    : Nat := 0
  ch     : Nat := 0
  sub    : Nat := 0
  dev    : Nat := 0
  region : Nat := 0
  addr   : Nat := 0
deriving DecidableEq, Repr

/-- The memory block: the words that masters have written to the DRAM and the SRAM, by address / 4 (14_control.md R384), the error FIFO, the
recurrence list (R359), the retirement table (R361), the time base at which zeroing began (R367), the loopback result (R352), the Weevil's place (R363), the accesses that hold uncorrectable data and those with an injected correctable error, and the
refreshes issued. `bad` and the keys of `injected` are 2 × address, and one more for the SRAM; `injected` gives the device. -/
structure Memory where
  dram     : List (Nat × Nat) := []
  sram     : List (Nat × Nat) := []
  fifo     : List MemRec := []
  recent   : List Nat := []
  recurs   : List (Nat × List Nat) := []
  remap    : List (Nat × Nat) := []
  used     : Nat := 0
  zeroing  : Bool := false
  zeroDone : Bool := false
  zeroAt   : Nat := 0
  /-- The injection was armed, while zeroing ran, at a place that it had passed (R365). -/
  injPast  : Bool := false
  fast     : Bool := false
  hot95    : Bool := false
  coolReads : Nat := 0
  lbRun    : Bool := false
  lbDone   : Bool := false
  lbErr    : List (Nat × Nat) := []
  mrs      : List (Nat × Nat) := []
  weevil   : Nat := 0
  weevilSram : Nat := 0
  passCorr : Nat := 0
  bad      : List Nat := []
  refresh  : Nat := 0
  injected : List (Nat × Nat) := []
  /-- SMART critical warning bit 2 (R357, R361). -/
  degraded : Bool := false
deriving DecidableEq, Repr

/-- A Larder buffer (R374, R376): state (0 FREE, 1 OWNED, 2 SHARED), owner, count and generation. -/
structure Buf where
  st    : Nat := 0
  owner : Nat := 0
  count : Nat := 0
  gen   : Nat := 0
deriving DecidableEq, Repr

/-- A request that waits in a credit queue (R373). -/
structure LWait where
  owner : Nat := 0
  rd    : Bool := false
  warned : Bool := false
deriving DecidableEq, Repr

/-- A request or operation result of one control core's banked registers (R380). -/
structure LBank where
  result : Nat := 0
  valid  : Bool := false
  none   : Bool := false
  reqErr : Nat := 0
  done   : Bool := false
  opErr  : Nat := 0
deriving DecidableEq, Repr

/-- The Larder. Buffers are keyed by 2^23 × pool + index, credit queues by pool, banks by control core. -/
structure Larder where
  bufs  : List (Nat × Buf) := []
  queues : List (Nat × List LWait) := []
  banks : List (Nat × LBank) := []
  grants : List (Nat × Nat) := []
  /-- Errors returned for refused requests and operations, newest first: issuer, handle and error (R377). -/
  refused : List (Nat × (Nat × Nat)) := []
deriving DecidableEq, Repr

/-! ### Control, events, clocks, power, Attic (14_control.md to 18_bring_up.md) -/

/-- A mailbox (R396). DATA words and the tag stand in the register file; `ackIrq` is the interrupt that an ACK gave its
sender, until the next message. -/
structure Mailbox where
  full   : Bool := false
  ackIrq : Bool := false
deriving DecidableEq, Repr

/-- A Cricket watchdog (R403): its stage, and the time since its last kick in ms and, beyond them, in ns. -/
structure Dog where
  stage   : Nat := 0
  elapsed : Nat := 0
  ns      : Nat := 0
deriving DecidableEq, Repr

/-- The modes of a control core (R382). -/
inductive CoreMode where
  | machine
  | supervisor
  | user
deriving DecidableEq, Repr

/-- A control core (R382, R404, R499): `mode`, `sv39` and `pc` are as it starts with, at the reset vector; what its instructions make of them is
firmware's, and no command of the table. -/
structure Core where
  running : Bool := false
  halted  : Bool := false
  fenced  : Bool := false
  mode    : CoreMode := .machine
  sv39    : Bool := false
  pc      : Nat := 0
deriving DecidableEq, Repr

/-- An event on its way to the recorder, or a record of it (R401, R468). -/
structure Event where
  src  : Nat := 0
  code : Option Nat := none
  sev  : Nat := 0
  p0   : Nat := 0
  p1   : Nat := 0
  p2   : Nat := 0
  time : Nat := 0
deriving DecidableEq, Repr

/-- A stored event record (R468), with its sequence number. -/
structure ERec where
  seq     : Nat := 0
  ev      : Event := {}
  lastOfs : Nat := 0
  repeats : Nat := 1
  carried : Bool := false
  trunc   : Bool := false
deriving DecidableEq, Repr

/-- The event recorder (R467 to R473). `drops` is keyed by severity, `latched` by bank. -/
structure Recorder where
  fifo    : List Event := []
  recs    : List ERec := []
  newSeq  : Nat := 0
  drops   : List (Nat × Nat) := []
  truncNext : Bool := false
  latched : List (Nat × ERec) := []
  snapshot : List ERec := []
  snapDrops : List (Nat × Nat) := []
  garret  : List ERec := []
deriving DecidableEq, Repr

/-- The register file: what software has written to RW, RWL, RW1C and RW1S bits and what hardware has set in them,
keyed by register address (and bank), and the staging registers of R388, one for each master. -/
structure RegFile where
  regs  : List (Nat × Nat) := []
  stage : List (Nat × Nat) := []
  copies : List (Nat × Nat) := []
  voted : List (Nat × Nat) := []
deriving DecidableEq, Repr

/-- System control and the control cores. -/
structure Control where
  boxes   : List (Nat × Mailbox) := []
  dogs    : List (Nat × Dog) := []
  cores   : List (Nat × Core) := []
  parGlobal : Bool := false
  parAddr : Nat := 0
  accAddr : Nat := 0
  accClass : Nat := 0
  accWrite : Bool := false
  accKind : Nat := 0
  accValid : Bool := false
  /-- The lines of the DRAM that a cluster's L2 holds, oldest first, and whether they are dirty, by cluster (R383). -/
  l2      : List (Nat × List (Nat × Bool)) := []
  /-- Words of the lines that L2s hold, by their DRAM address; the L2s are coherent, so a line has one content. -/
  l2data   : List (Nat × Nat) := []
deriving DecidableEq, Repr

/-- The clock tree (R411 to R430). `dsrc` is CLK_DSTAT by domain. -/
structure Clocks where
  fircRdy : Bool := true
  sircRdy : Bool := true
  xaRdy   : Bool := false
  xbRdy   : Bool := false
  rootRdy : Bool := false
  dphyRdy : Bool := false
  pphyRdy : Bool := false
  hphyRdy : List Nat := []
  refFb   : Bool := false
  relocking : Bool := false
  tbFirc  : Bool := false
  cellarOnXb : Bool := false
  dsrc    : List (Nat × Nat) := []
  handing : List (Nat × Nat) := []
  tb      : Nat := 0
  tbStopped : Bool := false
  c0      : Nat := 0
  tbSleep : Nat := 0
deriving DecidableEq, Repr

/-- Why QUIESCE was entered (R436, R441, R489). -/
inductive StopCause where
  | shutdown
  | management
  | request
  | halt
  | crit
  | domain
  | warmReset
deriving DecidableEq, Repr

/-- States of thermal enforcement (R449), in the coding of TH_COMP.STATE. -/
inductive ThState where
  | normal
  | grace
  | enforce
deriving DecidableEq, Repr

/-- Modes, domains and heat (R432 to R457). Domains are keyed as in R455; their states are coded as PW_SW_k. -/
structure Power where
  mode    : Nat := 1
  prev    : Nat := 0
  cause   : Nat := 0
  doms    : List (Nat × Nat) := []
  backTo  : Nat := 4
  entering : Bool := false
  waking  : Bool := false
  /-- A wake has happened and firmware has not yet switched ENGINE, FLASH, FABRIC and DRAMC to the root PLL (R35). -/
  wakeHold : Bool := false
  stop    : Option StopCause := none
  /-- The data-class test of an orderly stop has run, and the stop is done (R441). -/
  stopTested : Bool := false
  stopDone : Bool := false
  avsAcked : Bool := false
  avsTarget : Nat := 750
  avsReq  : Nat := 750
  temps   : List Int := []
  faulted : List Nat := []
  comp    : Int := 0
  critRow : Nat := 0
  th      : ThState := .normal
  graceAt : Nat := 0
  limit   : Nat := 0
  hctm    : Nat := 0
  tripped : Bool := false
  satSeen : List Nat := []
  capPs   : Nat := 0
  capMgmt : Nat := 0
  hctmT1  : Nat := 0
  hctmT2  : Nat := 0
  hctmCount : List (Nat × Nat) := []
  warnNs  : Nat := 0
  critNs  : Nat := 0
  /-- Trim codes in force for FIRC, SIRC and the bandgap, times 3,850 (R454). -/
  codes   : List Int := []
  safeCause : Nat := 0
  safePending : Bool := false
deriving DecidableEq, Repr

/-- A fuse bank (R482). -/
structure Fuses where
  keyHash : List (Nat × List Byte) := []
  revoke  : Nat := 0
  lmsHash : List Byte := []
  lmsReq  : Bool := false
  rollback : Nat := 0
  debugLock : Bool := false
  /-- Trim codes of FIRC, SIRC and the bandgap at −20 °C, 50 °C and 105 °C (R454). -/
  trims   : List (List Int) := [[0, 0, 0], [0, 0, 0], [0, 0, 0]]
deriving DecidableEq, Repr

/-- A selection record (18_bring_up.md R494). -/
structure SelRec where
  seq   : Nat := 0
  slot  : Nat := 1
  trial : Bool := false
  tries : Nat := 0
deriving DecidableEq, Repr

/-- A download in progress (R478): its owner (function index, 4,096 for the management controller, or 4,097 until the piece at
offset 0 has come), its pieces and, when it is written straight to the boot flash, the offset expected next. -/
structure Download where
  owner  : Nat := 0
  pieces : List (Nat × List Byte) := []
  direct : Bool := false
  next   : Nat := 0
deriving DecidableEq, Repr

/-- An entry of the configuration image's list of board sensors (R466): 7-bit address, register, width of 8 or 16 bits, signed scale and offset, and the
lower and the upper limit. -/
structure BoardSensor where
  addr   : Nat := 0
  reg    : Nat := 0
  width  : Nat := 8
  scale  : Int := 1
  offset : Int := 0
  lo     : Int := 0
  hi     : Int := 0
deriving DecidableEq, Repr

/-- A board sensor's last reading (R466). -/
structure BSensor where
  reading : Option Int := none
  misses  : Nat := 0
  outside : Bool := false
  unavail : Bool := false
deriving DecidableEq, Repr

/-- An NVMe-MI response (R462 to R465): endpoint, status and data. -/
structure MiResp where
  endpoint : Nat := 0
  status   : Nat := 0
  data     : List Byte := []
deriving DecidableEq, Repr

/-- The Attic (17_attic.md). Boot flash images are byte lists: 0 slot A, 1 slot B, 2 and 3 the configuration copies. -/
structure Attic where
  released : Bool := false
  failed   : Bool := false
  rootKey  : Option Nat := none
  fnKeys   : List (Nat × Nat) := []
  fuses    : Fuses := {}
  images   : List (Nat × List Byte) := []
  committed : List Nat := []
  sel      : List SelRec := []
  runSlot  : Nat := 1
  trialRun : Bool := false
  download : Option Download := none
  miQueue  : List MiReq := []
  miCur    : Option MiReq := none
  miOut    : List MiResp := []
  miPaused : List Nat := []
  miLast   : List (Nat × MiResp) := []
  miConfig : List (Nat × Nat) := []
  vpd      : List Byte := []
  sensors  : List (Nat × BSensor) := []
  evrec    : Recorder := {}
deriving DecidableEq, Repr

/-- Reset control and Cellar retention (18_bring_up.md R497, R498, R508), the start-up's progress (R491) and the
package's sampled straps (19_package.md R529). -/
structure Resets where
  last     : Nat := 1
  undumped : Bool := false
  clean    : Bool := false
  verdict  : Nat := 0
  age      : Nat := 4294967295
  fmask    : List Nat := []
  secOk    : Bool := false
  dataRan  : Bool := false
  mbistOk  : Bool := false
  faultCode : Option Nat := none
  stage    : Nat := 0
  mainPg   : Bool := true
  standby  : Bool := true
  straps   : Nat := 0
  testEn   : Bool := false
  pendWarm : Option Nat := none
  activating : Option Nat := none
  actSlot  : Nat := 0
deriving DecidableEq, Repr

/-- What the configuration image and the die profile declare (R41, R194, R249, R284, R320, R480), which start-up loads.
`domainMap` is absent when the image carries none. -/
structure Board where
  domainMap : Option (List Nat) := none
  /-- The RWL fields that the configuration image gives beside those named here (14_control.md R395): the key of a register in the register file and
  its value. -/
  rwl       : List (Nat × Nat) := []
  planes    : Nat := 4
  wordlines : Nat := 512
  dieBlocks : Nat := 1640
  twoPass   : Bool := true
  familyB   : Bool := true
  readUs10  : List Nat := [250, 550, 850, 1400]
  /-- Typical times of the die profile in tenths of a microsecond (R538): program passes (single pass of each density, then coarse and
  fine of QLC and PLC), erase by density, and Identify, Set Features, Get Features and Reset LUN. -/
  passUs10  : List Nat := [400, 4500, 16000, 32000, 5500, 10500, 11000, 21000]
  eraseUs10 : List Nat := [50000, 50000, 50000, 50000]
  miscUs10  : List Nat := [10, 10, 10, 10]
  /-- Typical array times of a soft read (each of its two reads) and a calibration read, in tenths of a microsecond by density (R538). -/
  softUs10  : List Nat := [250, 550, 850, 1400]
  calUs10   : List Nat := [250, 550, 850, 1400]
  /-- Endurance in P/E cycles by density (R238). -/
  endurance : List Nat := [60000, 6000, 1800, 700]
  /-- Soft steps by density, cross-temperature slopes by density and reference, the volumes fitted on each channel with the LUNs of each (R192,
  R194), and the suspend and resume opcodes. -/
  softSteps : List Nat := [0, 0, 0, 0]
  slopes    : List (List Int) := [[], [], [], []]
  volumes   : Nat := 16
  luns      : Nat := 4
  suspOps   : List Nat := [0, 0, 0, 0]
  budget    : Nat := 32000
  eHu       : Nat := 36000
  eFixed    : Nat := 3000
  pDump     : Nat := 150
  pTest     : Nat := 60
  dvMax     : Nat := 0
  nodeId    : Nat := 0
  mirSaved  : Bool := false
  mirSavedPolicy : Nat := 0
  mirSavedPartner : Nat := 0
  mirSavedTmo : Nat := 10
  lmMode    : Nat := 0
  xbFitted  : Bool := false
  dramMib   : Nat := 262112
  moves     : Nat := 16
  copyRate  : Nat := 4000
  spread    : Nat := 2000
  patrolDays : List Nat := [30, 14, 7, 3]
  ageDays   : List Nat := [0, 0, 0, 0, 0, 0, 0, 0, 0, 365, 180, 90, 730, 365, 180, 90]
  sensors   : List (Nat × BoardSensor) := []
  graceSaved : Nat := 5
  minTemp   : Int := 0
  /-- MiB of the firmware regions in the DRAM (R155). -/
  fwMib     : Nat := 0
  /-- Factory bad-block marks on the dies (R236), by 4,096 × die key + die-block. -/
  factoryBad : List Nat := []
deriving DecidableEq, Repr

/-- The whole machine. `free` is the model's own field: it numbers the free values that steps take (Config.freeNat). -/
structure State where
  pending : List Instr := []
  free    : Nat := 0
  rf      : RegFile := {}
  ce      : Engine := {}
  ze      : ZoneEngine := {}
  ci      : Cipher := {}
  fl      : Flash := {}
  gr      : Granary := {}
  pb      : Balwen := {}
  dm      : Memory := {}
  lr      : Larder := {}
  ctl     : Control := {}
  ck      : Clocks := {}
  pw      : Power := {}
  att     : Attic := {}
  rs      : Resets := {}
  board   : Board := {}
deriving DecidableEq, Repr

/-- Faults of a step. The block has none: whatever goes wrong in it is a status, an event, a mode or an interrupt line,
all of them state (INVENTORY.md, Faults). -/
inductive Fault where
deriving DecidableEq, Repr

/-- Refusals of a step. -/
inductive Refusal where
  /-- The dispatch arm of a command that has no meaning yet (Machine/Dispatch.lean raises it, by the command's mnemonic).
  Safe: the model answers nothing for it. No arm raises it now. -/
  | notModelled (mnemonic : String)
deriving DecidableEq, Repr

/-- Right after reset: the release of POR after a standby power-up (R486). Every register stands at its reset value, no
namespace exists and no command waits. The values the spec does not give are in notes/assumptions/2.md. -/
def State.reset : State := {}

end Sys2Proof.Machine
end

