-- ==== Sys2Proof/Machine/Table.lean ====
section
/-! DEFINITION. Sparse tables: lists of (key, value) with rising keys, read with a value for unlisted keys or as options. -/

namespace Sys2Proof.Machine

variable {α : Type}

/-- The entry of a key, if the table lists one. -/
def tfind : List (Nat × α) → Nat → Option α
  | [], _ => none
  | (j, v) :: r, k => if j = k then some v else tfind r k

/-- The value of a key, `d` where the table lists none. -/
def tget (d : α) (t : List (Nat × α)) (k : Nat) : α := (tfind t k).getD d

/-- The table without a key. -/
def tdel (k : Nat) (t : List (Nat × α)) : List (Nat × α) := t.filter (fun p => p.1 != k)

/-- A new entry put before the first larger key. -/
def tins (k : Nat) (v : α) : List (Nat × α) → List (Nat × α)
  | [] => [(k, v)]
  | (j, w) :: r => if j < k then (j, w) :: tins k v r else (k, v) :: (j, w) :: r

/-- The table with a key's entry set. -/
def tset (k : Nat) (v : α) (t : List (Nat × α)) : List (Nat × α) := tins k v (tdel k t)

/-- The table with a key's value set, where unlisted keys read `d`. -/
def tput [DecidableEq α] (d : α) (k : Nat) (v : α) (t : List (Nat × α)) : List (Nat × α) :=
  if v = d then tdel k t else tset k v t

/-- An entry changed, where unlisted keys read `d`. -/
def tmod [DecidableEq α] (d : α) (k : Nat) (f : α → α) (t : List (Nat × α)) : List (Nat × α) :=
  tput d k (f (tget d t k)) t

/-- A listed entry changed; nothing where the table lists none. -/
def talter (k : Nat) (f : α → α) (t : List (Nat × α)) : List (Nat × α) :=
  match tfind t k with
  | none => t
  | some v => tset k (f v) t

/-- Every listed entry changed by `f`, keys kept. -/
def tmap (f : Nat → α → α) (t : List (Nat × α)) : List (Nat × α) := t.map (fun p => (p.1, f p.1 p.2))

/-- Whether a table's keys rise strictly. -/
def tsorted : List (Nat × α) → Bool
  | [] => true
  | [_] => true
  | a :: b :: r => decide (a.1 < b.1) && tsorted (b :: r)

/-- A list put in the order of `le`, equal elements as they stood. -/
def sortBy (le : α → α → Bool) : List α → List α
  | [] => []
  | a :: r => put a (sortBy le r)
where put (a : α) : List α → List α
  | [] => [a]
  | b :: r => if le a b then a :: b :: r else b :: put a r

/-- The least number of `[from, from + fuel)` that `p` accepts. -/
def leastFrom (p : Nat → Bool) : Nat → Nat → Option Nat
  | _, 0 => none
  | k, fuel + 1 => if p k then some k else leastFrom p (k + 1) fuel

/-- The least key of `[lo, lo + n)` that a table does not list. No more than its length and one keys are tried. -/
def tfree (t : List (Nat × α)) (lo n : Nat) : Option Nat :=
  leastFrom (fun k => (tfind t k).isNone) lo (Nat.min n (t.length + 1))

end Sys2Proof.Machine
end

