-- ==== Sys2Proof/Machine/Ops.lean ====
section
/-! DEFINITION. The operations every part of the device uses: changes of one part of the state, reads and writes of stored
register values, and the raising of an event (14_control.md R401, 17_attic.md R467). -/

namespace Sys2Proof.Machine

/-! ### Changes of one part of the state -/

def onRf (f : RegFile → RegFile) (s : State) : State := { s with rf := f s.rf }
def onCe (f : Engine → Engine) (s : State) : State := { s with ce := f s.ce }
def onZe (f : ZoneEngine → ZoneEngine) (s : State) : State := { s with ze := f s.ze }
def onCi (f : Cipher → Cipher) (s : State) : State := { s with ci := f s.ci }
def onFl (f : Flash → Flash) (s : State) : State := { s with fl := f s.fl }
def onGr (f : Granary → Granary) (s : State) : State := { s with gr := f s.gr }
def onPb (f : Balwen → Balwen) (s : State) : State := { s with pb := f s.pb }
def onDm (f : Memory → Memory) (s : State) : State := { s with dm := f s.dm }
def onLr (f : Larder → Larder) (s : State) : State := { s with lr := f s.lr }
def onCtl (f : Control → Control) (s : State) : State := { s with ctl := f s.ctl }
def onCk (f : Clocks → Clocks) (s : State) : State := { s with ck := f s.ck }
def onPw (f : Power → Power) (s : State) : State := { s with pw := f s.pw }
def onAtt (f : Attic → Attic) (s : State) : State := { s with att := f s.att }
def onRs (f : Resets → Resets) (s : State) : State := { s with rs := f s.rs }
def onBoard (f : Board → Board) (s : State) : State := { s with board := f s.board }

/-- A change made only where a condition holds. -/
def onlyIf (b : Bool) (f : State → State) (s : State) : State := if b then f s else s

/-- A change made for each element of a list, in order. -/
def forEach {α : Type} (l : List α) (f : α → State → State) (s : State) : State := l.foldl (fun t a => f a t) s

/-- The change that a present value gives. -/
def whenSome {α : Type} (o : Option α) (f : α → State → State) (s : State) : State :=
  match o with
  | none => s
  | some a => f a s

/-! ### Stored register values -/

/-- The stored value of a register instance: what was last stored, or its reset value (R9). -/
def rd (s : State) (r : Ref) : Nat := tget r.rst s.rf.regs r.addr

/-- Bits `hi:lo` of a stored register value. -/
def rdf (s : State) (r : Ref) (hi lo : Nat) : Nat := bits (rd s r) hi lo

/-- One bit of a stored register value. -/
def rdb (s : State) (r : Ref) (i : Nat) : Bool := bit (rd s r) i

/-- A register instance stored. -/
def wr (r : Ref) (v : Nat) (s : State) : State := onRf (fun f => { f with regs := tput r.rst r.addr v f.regs }) s

/-- A number with its bits `hi:lo` replaced. -/
def setBits (v hi lo x : Nat) : Nat :=
  v - bits v hi lo * 2 ^ lo + (x % 2 ^ (hi + 1 - lo)) * 2 ^ lo

/-- Bits `hi:lo` of a register stored. -/
def wrf (r : Ref) (hi lo x : Nat) (s : State) : State := wr r (setBits (rd s r) hi lo x) s

/-- One bit of a register stored. -/
def wrb (r : Ref) (i : Nat) (b : Bool) (s : State) : State := wrf r i i b.toNat s

/-- A statistics counter advanced: it saturates, and at its limit sets its sticky bit in the block's OVF register
(14_control.md R405). -/
def count (cnt ovf : Ref) (i n : Nat) (s : State) : State :=
  let v := rd s cnt + n
  if v < 18446744073709551616 then wr cnt v s
  else s |> wr cnt 18446744073709551615 |> wrb ovf i true

/-! ### CRC-32C -/

/-- CRC-32C of bytes (polynomial 0x1EDC6F41 reflected, initial and final complement), as images, records and frames carry it. -/
def crcBit (c : Nat) : Nat := if c % 2 = 1 then Nat.xor (c / 2) 0x82F63B78 else c / 2
def crcByte (c : Nat) (b : Byte) : Nat := crcBit (crcBit (crcBit (crcBit (crcBit (crcBit (crcBit (crcBit (Nat.xor c b.toNat))))))))
def crc32c (bs : List Byte) : Nat := Nat.xor (bs.foldl crcByte 0xFFFFFFFF) 0xFFFFFFFF

/-! ### Events -/

/-- Severities (R407). -/
def sevInfo : Nat := 0
def sevWarning : Nat := 1
def sevError : Nat := 2
def sevCritical : Nat := 3

/-- A drop of the recorder: the severity's counter increments and saturates, and the next record stored has TRUNC
(R467, R470). -/
def recDrop (sev : Nat) (r : Recorder) : Recorder :=
  { r with drops := tmod 0 sev (fun n => Nat.min (n + 1) 4294967295) r.drops, truncNext := true }

/-- An event passed to the recorder's input FIFO of 64 entries (R467); `true` when it was dropped. -/
def recPush (e : Event) (r : Recorder) : Recorder × Bool :=
  if r.fifo.length < 64 then ({ r with fifo := r.fifo ++ [e] }, false) else (recDrop e.sev r, true)

/-- The sources that a chapter lists (R400): every other one is reserved and never raises an event. -/
def listedSource (src : Nat) : Bool :=
  [(0, 20), (32, 39), (64, 66), (96, 103), (128, 272), (288, 303), (320, 323), (352, 368), (384, 404), (416, 431), (448, 467), (472, 479),
   (480, 494)].any (fun r => decide (r.1 ≤ src ∧ src ≤ r.2))

/-- Sets the pending bit of a source (R401). -/
def setPend (src : Nat) (s : State) : State := wrb (R.evPend (src / 32)) (src % 32) true s

/-- An event of a source as its chapter gives it: pending bit and recorder, in the same cycle (R401); a reserved source raises none (R400). An event that finds
the recorder's FIFO full raises source 491, whose own record is dropped in the same way (notes/assumptions/6.md). -/
def raiseCode (src : Nat) (code : Option Nat) (sev : Nat) (ps : List Nat) (s : State) : State :=
  if !listedSource src then s else
  let e : Event := { src := src, code := code, sev := sev, p0 := ps.getD 0 0 % 4294967296,
                     p1 := ps.getD 1 0 % 4294967296, p2 := ps.getD 2 0 % 4294967296, time := s.ck.tb }
  let s := setPend src s
  if rdb s (R.evCfg src) 0 then
    let (r, lost) := recPush e s.att.evrec
    let s := onAtt (fun a => { a with evrec := r }) s
    if lost then
      let s := setPend 491 s
      if rdb s (R.evCfg 491) 0 then onAtt (fun a => { a with evrec := recDrop sevWarning a.evrec }) s else s
    else s
  else s

/-- An event with its source's own code. -/
def raise (src sev : Nat) (ps : List Nat) (s : State) : State := raiseCode src none sev ps s

/-- A signed value as a 32-bit parameter, or in a field of `n` bits. -/
def twos (n : Nat) (v : Int) : Nat := (v % (2 ^ n : Int)).toNat

/-- The low and high words of a 64-bit parameter (R534). -/
def words64 (v : Nat) : List Nat := [v % 4294967296, v / 4294967296 % 4294967296]

/-- Channel and die as one parameter (R534). -/
def chDie (ch die : Nat) : Nat := die + 64 * ch

/-! ### Interrupt lines and FAULT_N (R401) -/

/-- Whether a source is pending. -/
def pending? (s : State) (src : Nat) : Bool := rdb s (R.evPend (src / 32)) (src % 32)

/-- The sources 0 to 511. -/
def sources : List Nat := List.range 512

/-- A control core's event interrupt. -/
def coreIrq (s : State) (core : Nat) : Bool :=
  sources.any (fun i => pending? s i && rdb s (R.evCfg i) 1 && (rdf s (R.evCfg i) 5 2 == core))

/-- EV_CLAIM of a core: the lowest pending source routed to it with IRQ set, and VALID (R407). -/
def evClaim (s : State) (core : Nat) : Nat :=
  match sources.find? (fun i => pending? s i && rdb s (R.evCfg i) 1 && (rdf s (R.evCfg i) 5 2 == core)) with
  | none => 0
  | some i => i + 2147483648

/-- The Attic's event interrupt. -/
def atticIrq (s : State) : Bool := sources.any (fun i => pending? s i && rdb s (R.evCfg i) 6)

/-- FAULT_N is low while a pending source has FAULT set, and while a start-up fault holds (18_bring_up.md R500). -/
def faultNLow (s : State) : Bool :=
  s.rs.faultCode.isSome || sources.any (fun i => pending? s i && rdb s (R.evCfg i) 7)

/-! ### Free values -/

/-- The next free value: any natural number. -/
def freeVal (s : State) : Nat := Config.freeNat s.free

/-- The state that has taken a free value. -/
def tookFree (s : State) : State := { s with free := s.free + 1 }

/-! ### Time -/

/-- Whether a time has passed since an instant of the time base; while the time base stands still (15_clocks.md R427) the command is trusted. -/
def elapsed (s : State) (since ns : Nat) : Bool := s.ck.tbStopped || decide (since + ns ≤ s.ck.tb)

/-- A key of `[lo, lo + n)` that a table does not list: which one, the spec leaves open, and the free value `r` chooses. -/
def pickFree {α : Type} (t : List (Nat × α)) (lo n r : Nat) : Option Nat :=
  ((List.range (Nat.min n (t.length + 1))).map (fun i => lo + (r + i) % n)).find? (fun k => (tfind t k).isNone)

end Sys2Proof.Machine
end

