-- ==== Sys2Proof/Machine/RegFile.lean ====
section
/-! DEFINITION. Accesses to the register space: which block and register an address names, who may write which field, what a
write stores, and what happens to an access that is refused or that reaches no block (00_scope.md R9 to R13, 14_control.md
R384 to R395). -/

namespace Sys2Proof.Machine

/-- The register space (R384). -/
def regBase : Nat := 0x10000000

/-- A register instance that an address names: the copies' indexes, and whether the address is that of the HI half. -/
structure Hit where
  d  : RegD
  i  : Nat := 0
  j  : Nat := 0
  hi : Bool := false
deriving DecidableEq, Repr

/-- The instance of a register's table row that lies at an address. -/
def hitOf (addr : Nat) (d : RegD) : Option Hit :=
  if addr < d.base + d.off then none else
  let r := addr - (d.base + d.off)
  let i := if d.n1 = 1 then 0 else r / d.s1
  let r := r - i * d.s1
  let j := if d.n2 = 1 then 0 else r / d.s2
  let r := r - j * d.s2
  if i < d.n1 && j < d.n2 && (r == 0 || (d.wide && r == 4)) then some { d := d, i := i, j := j, hi := r == 4 } else none

/-- The register that an address names (R385); none where no chapter describes it. -/
def findReg (addr : Nat) : Option Hit := allRegs.findSome? (hitOf addr)

/-- The reset value of a copy. -/
def RegD.rstOf (d : RegD) (i j : Nat) : Nat := d.rst.getD (if d.n2 = 1 then i else j) (d.rst.getLastD 0)

/-- A register instance as the register file keys it. -/
def RegD.at (d : RegD) (i j : Nat) : Ref :=
  { addr := d.base + d.off + d.s1 * i + d.s2 * j, rst := d.rstOf (if d.n1 = 1 then j else i) j }

/-- The block that holds an address of the register space, and its channel for FL_CH_nn (R385). -/
def blkAt (addr : Nat) : Option (Blk × Nat) :=
  if 0x10200000 ≤ addr && addr < 0x10240000 then some (.flCh, (addr - 0x10200000) / 4096) else
  match addr / 65536 with
  | 0x1000 => some (.sysctl, 0)
  | 0x1001 => some (.event, 0)
  | 0x1002 => some (.mailbox, 0)
  | 0x1003 => some (.cricket, 0)
  | 0x1004 => some (.window, 0)
  | 0x1005 => some (.clock, 0)
  | 0x1006 => some (.power, 0)
  | 0x1007 => some (.holdup, 0)
  | 0x1008 => some (.attic, 0)
  | 0x1010 => some (.commandEngine, 0)
  | 0x1011 => some (.zoneEngine, 0)
  | 0x1012 => some (.transform, 0)
  | 0x1013 => some (.cipher, 0)
  | 0x1014 => some (.readIntegrity, 0)
  | 0x1015 => some (.dieScheduling, 0)
  | 0x1016 => some (.flashToken, 0)
  | 0x1017 => some (.larder, 0)
  | 0x1018 => some (.memory, 0)
  | 0x1019 => some (.balwen, 0)
  | _ => none

/-- The domain index (R455) of a block's power domain; none for the Cellar and the Attic (R385). -/
def blkDomain (b : Blk) (ch : Nat) : Option Nat :=
  match b with
  | .sysctl | .event | .cricket | .window | .clock | .power | .holdup | .attic => none
  | .mailbox | .commandEngine | .zoneEngine | .transform | .cipher | .readIntegrity | .dieScheduling | .flashToken
  | .larder => some 1
  | .memory => some 10
  | .balwen => some 12
  | .flCh => some (2 + ch / 8)

/-! ### The Vilhar-compatible window (R391, R392) -/

/-- A copy of a window register's VALUE; `off` is its offset in the window, a multiple of 4. -/
def winCopy (s : State) (off k : Nat) : Nat := tget 0 s.rf.copies (off + k)

/-- The bitwise majority of three numbers. -/
def majority (a b c : Nat) : Nat := Nat.lor (Nat.land a b) (Nat.lor (Nat.land a c) (Nat.land b c))

/-- The voted VALUE of a window register. -/
def winVal (s : State) (off : Nat) : Nat := majority (winCopy s off 0) (winCopy s off 1) (winCopy s off 2)

/-- All three copies set in the same cycle. -/
def winSet (off v : Nat) (s : State) : State :=
  onRf (fun f => { f with copies := tput 0 off v (tput 0 (off + 1) v (tput 0 (off + 2) v f.copies)) }) s

/-- What a read of a window register returns for a VALUE: with CHECK, its complement. -/
def withCheck (v : Nat) : Nat := v % 65536 + (65535 - v % 65536) * 65536

/-- Whether a window write carries the complement of its VALUE (R391). -/
def checkOk (v : Nat) : Bool := v / 65536 % 65536 == 65535 - v % 65536

/-- Window offsets of CLK_SEL_d, PW_SW_k and RST_HOLD_k (R429, R455). -/
def clkSelOff (d : Nat) : Nat := 4 * d
def pwSwOff (k : Nat) : Nat := 0x40 + 4 * k
def rstHoldOff (k : Nat) : Nat := 0x80 + 4 * k

/-! ### Reaching a block -/

/-- The state in force of a power domain: 0 OFF, 1 RET, 2 ON (R433, R455). -/
def domState (s : State) (k : Nat) : Nat := tget 0 s.pw.doms k

/-- Whether a domain's blocks are held in reset (R455). -/
def domHeld (s : State) (k : Nat) : Bool := bit (winVal s (rstHoldOff k)) 0

/-- Whether a block is reachable: its domain is ON and it is not held in reset (R385). -/
def reachable (s : State) (b : Blk) (ch : Nat) : Bool :=
  match blkDomain b ch with
  | none => true
  | some k => domState s k == 2 && !domHeld s k

/-- The class that a master's accesses have (R386). -/
def masterCls : Master → MClass
  | .attic => .secure
  | .core _ => .priv
  | .jtag => .priv
  | .coreUser _ => .normal
  | .host _ => .host
  | .engine _ => .engine

/-- Classes as SYS_ACC_INFO.CLASS codes them (R406). -/
def clsCode : MClass → Nat
  | .secure => 0
  | .priv => 1
  | .normal => 2
  | .host => 3
  | .engine => 4

/-- A master's number, which names its staging registers (R388); a core has one set in all its modes. -/
def masterKey : Master → Nat
  | .attic => 0
  | .jtag => 1
  | .core n => 2 + n
  | .coreUser n => 2 + n
  | .host n => 32 + n
  | .engine n => 64 + n

/-- Whether a Who mark admits a class (R13); a bank's mark is PRIV for bank 0 and SECURE for bank 1 (R484). -/
def Who.admits (w : Who) (bank : Nat) (c : MClass) : Bool :=
  match w, c with
  | _, .host | _, .engine => false
  | _, .secure => true
  | .any, _ => true
  | .priv, .priv => true
  | .perBank, .priv => bank == 0
  | _, _ => false

/-- A refused or failed access recorded in SYS_ACC_ADDR and SYS_ACC_INFO, and its event (R386, R394, R406): kind 1 class,
2 off or in reset, 3 unmapped. The address takes two of an event's three parameters (R534), so the direction has no place in it
(notes/assumptions/7.md). -/
def accessEvent (m : Master) (addr : Nat) (write : Bool) (kind : Nat) (s : State) : State :=
  s |> onCtl (fun c => { c with accAddr := addr, accClass := clsCode (masterCls m), accWrite := write, accKind := kind, accValid := true })
    |> raise (if kind = 1 then 461 else 462) sevWarning (words64 addr ++ [clsCode (masterCls m), write.toNat])

/-- Whether the debug port issues nothing (R386, R483). -/
def masterSilent (s : State) (m : Master) : Bool := m == .jtag && s.att.fuses.debugLock

/-- The LOCK bit of a register's block (R395); a watchdog has its own. -/
def lockRef (d : RegD) (i : Nat) : Option (Ref × Nat) :=
  match d.blk with
  | .clock => some (R.clkLock, 0)
  | .power => some (R.pwLock, 0)
  | .holdup => some (R.huLock, 0)
  | .readIntegrity => some (R.ldLock, 0)
  | .flashToken => some (R.ftLock, 0)
  | .larder => some (R.lrLock, 0)
  | .memory => some (R.dmLock, 0)
  | .balwen => some (R.pbLock, 0)
  | .cricket => some (R.ckCfg i, 31)
  | _ => none

/-- Whether a register's RWL fields are locked (R11). -/
def isLocked (s : State) (d : RegD) (i : Nat) : Bool :=
  match lockRef d i with
  | none => false
  | some (r, b) => rdb s r b

/-- The value after a write to one field by its access code (R9). -/
def Field.store (f : Field) (locked : Bool) (old v : Nat) : Nat :=
  let x := bits v f.hi f.lo
  let c := bits old f.hi f.lo
  match f.acc with
  | .rw => setBits old f.hi f.lo x
  | .rwl => if locked then old else setBits old f.hi f.lo x
  | .rw1c => setBits old f.hi f.lo (Nat.xor c (Nat.land c x))
  | .rw1s => setBits old f.hi f.lo (Nat.lor c x)
  | .ro | .rc | .wo => old

/-- Whether a write to a locked field would change it (R11). -/
def Field.lockHit (f : Field) (locked : Bool) (old v : Nat) : Bool :=
  f.acc == .rwl && locked && bits v f.hi f.lo != bits old f.hi f.lo

/-- The bits of a write that lie in the given fields. -/
def maskTo (fs : List Field) (v : Nat) : Nat := fs.foldl (fun a f => a + bits v f.hi f.lo * 2 ^ f.lo) 0

/-- Whether a field is of an access code that makes its register writable (R388). -/
def writable (f : Field) : Bool := f.acc == .rw || f.acc == .rwl || f.acc == .wo

/-- One write of a register, judged field by field (R13). DESIGN CHOICE (notes/assumptions/29.md): the offset that event source 467 carries
counts from the base of the register space, and is that of LO for a write to HI; RWL fields are judged by LOCK as it stands before the
write, also where the same write sets LOCK. `ref` is where the instance is stored; a write to LO of a 64-bit
register is staged in the master's one staging register and a write to HI commits both halves (R388). `act` is what the write does beyond storing: it gets the
bits written into admitted fields. -/
def accessReg (m : Master) (d : RegD) (i j : Nat) (hi : Bool) (ref : Ref) (v : Nat) (act : Nat → State → State)
    (s : State) : State :=
  let at0 := d.at i j
  let addr := at0.addr + (if hi then 4 else 0)
  if masterSilent s m then s else
  if masterCls m == MClass.host || masterCls m == MClass.engine then accessEvent m addr true 1 s else
  if !reachable s d.blk i then accessEvent m addr true 2 s else
  let bank := i
  let ok := d.fields.filter (fun f => f.who.admits bank (masterCls m))
  let no := d.fields.filter (fun f => !f.who.admits bank (masterCls m))
  if ok.isEmpty then accessEvent m addr true 1 s else
  if d.wide && !hi then onlyIf (d.fields.any writable) (onRf (fun f => { f with stage := tput 0 (masterKey m) v f.stage })) s else
  let v := if d.wide then v * 4294967296 + tget 0 s.rf.stage (masterKey m) else v
  let s := onlyIf (maskTo no v != 0) (accessEvent m addr true 1) s
  let old := rd s ref
  let locked := isLocked s d i
  let s := onlyIf (ok.any (fun f => f.lockHit locked old v)) (raise 467 sevWarning [at0.addr - regBase, clsCode (masterCls m)]) s
  let new := ok.foldl (fun a f => f.store locked a v) old
  act (maskTo ok v) (onlyIf (new != old) (wr ref new) s)

/-- One read of a register (R13): `act` is what the read does beyond returning the value. -/
def accessRd (m : Master) (d : RegD) (i j : Nat) (act : State → State) (s : State) : State :=
  let addr := (d.at i j).addr
  if masterSilent s m then s
  else if masterCls m == MClass.host || masterCls m == MClass.engine then accessEvent m addr false 1 s
  else if !reachable s d.blk i then accessEvent m addr false 2 s
  else if d.fields.any (fun f => f.who.admits i (masterCls m)) then act s
  else accessEvent m addr false 1 s

/-- A write of a register with one copy at its own address. -/
def accessOne (m : Master) (d : RegD) (v : Nat) (act : Nat → State → State) (s : State) : State :=
  accessReg m d 0 0 d.wide (d.at 0 0) v act s

/-- The window's part of a write (R391): a bad CHECK is ignored and raises event source 463; otherwise `act` gets VALUE. -/
def accessWindow (m : Master) (d : RegD) (k : Nat) (v : Nat) (act : Nat → State → State) (s : State) : State :=
  let off := d.off + d.s1 * k
  if masterSilent s m then s else
  if masterCls m != MClass.secure && masterCls m != MClass.priv then accessEvent m (d.base + off) true 1 s else
  if checkOk v then act (v % 65536) s else raise 463 sevWarning [off] s

end Sys2Proof.Machine
end

