-- ==== Sys2Proof/Machine/Cmd.lean ====
section
/-! DEFINITION. Functions, queues and command contexts: the operations that fetch, complete, freeze, post and squash share
(03_queues.md, 04_tenants.md). -/

namespace Sys2Proof.Machine

/-! ### Functions -/

/-- A number of slots, domains and weights that PFs have at first (04_tenants.md R133). -/
def pfShare : Share := { weight := 64, ksRanges := [(0, 8192)], domains := 2 ^ 256 - 1 }

/-- A function as it stands before anything happened to it: PFs are present, with private resources (R117, R133). -/
def fnDflt (fn : Nat) : Fn :=
  if fn < 4 then { present := true, online := true, nvq := 64, nvi := 65, share := pfShare, inForce := pfShare } else {}

def fnOf (s : State) (fn : Nat) : Fn := tget (fnDflt fn) s.ce.fns fn

def modFn (fn : Nat) (f : Fn → Fn) (s : State) : State :=
  onCe (fun e => { e with fns := tput (fnDflt fn) fn (f (tget (fnDflt fn) e.fns fn)) e.fns }) s

/-- Whether a function index is a PF's; the port of a function; the function indexes of a port's VFs (R115). -/
def isPf (fn : Nat) : Bool := decide (fn < 4)
def portOf (fn : Nat) : Nat := if fn < 4 then fn else (fn - 4) / 512
def vfFn (port v : Nat) : Nat := 4 + 512 * port + (v - 1)
def vfsOf (port : Nat) : List Nat := (List.range 512).map (fun i => 4 + 512 * port + i)

/-- The CNTLID of a function, and the function of a CNTLID (R115). -/
def cntlidOf (fn : Nat) : Nat := if fn < 4 then 1 + fn else 0x1000 + (fn - 4)
def fnOfCntlid (c : Nat) : Option Nat :=
  if 1 ≤ c && c ≤ 4 then some (c - 1) else if 0x1000 ≤ c && c < 0x1800 then some (4 + (c - 0x1000)) else none

/-- Whether a function's controller works: present, online, enabled, ready, not faulted and not being taken away. -/
def fnLive (f : Fn) : Bool := f.present && f.online && f.en && f.rdy && !f.cfs && f.squash.isNone

/-! ### Queues and contexts -/

def qKey (fn q : Nat) : Nat := 65536 * fn + q

def sqOf (s : State) (fn q : Nat) : Option Sq := tfind s.ce.sqs (qKey fn q)
def cqOf (s : State) (fn q : Nat) : Option Cq := tfind s.ce.cqs (qKey fn q)
def modSq (fn q : Nat) (f : Sq → Sq) (s : State) : State := onCe (fun e => { e with sqs := talter (qKey fn q) f e.sqs }) s
def modCq (fn q : Nat) (f : Cq → Cq) (s : State) : State := onCe (fun e => { e with cqs := talter (qKey fn q) f e.cqs }) s

/-- A context that is not FREE. -/
def ctxOf (s : State) (c : Nat) : Option Ctx := tfind s.ce.ctxs c
def modCtx (c : Nat) (f : Ctx → Ctx) (s : State) : State := onCe (fun e => { e with ctxs := talter c f e.ctxs }) s

/-- The first I/O context, the number of contexts (R76), and the index that a tunnelled command takes, which is none of
them (17_attic.md R463). -/
def ioCtx : Nat := 4096
def nCtx : Nat := 131072
def tunnelCtx : Nat := 131072

/-- Free contexts, as CE_CTX_FREE and CE_ADM_FREE show them (R113). -/
def ioFree (s : State) : Nat := (nCtx - ioCtx) - (s.ce.ctxs.filter (fun p => decide (ioCtx ≤ p.1 ∧ p.1 < nCtx))).length
def admFree (s : State) : Nat := ioCtx - (s.ce.ctxs.filter (fun p => decide (p.1 < ioCtx))).length

/-- A context returned to FREE: it leaves the table and its queue. -/
def freeCtx (c : Nat) (s : State) : State :=
  match ctxOf s c with
  | none => s
  | some x =>
    s |> onCe (fun e => { e with ctxs := tdel c e.ctxs })
      |> modSq x.fn x.sqid (fun q => { q with
           live := q.live.filter (fun i => i != c), continuing := q.continuing.filter (fun i => i != c) })

/-- Whether a context was fetched under its function's present generation (R30). -/
def ctxFresh (s : State) (x : Ctx) : Bool := x.fgen == (fnOf s x.fn).gen

/-- Whether a context lies in a queue before another (submission order). -/
def before (l : List Nat) (a b : Nat) : Bool := decide (l.idxOf a < l.idxOf b)

/-! ### Asynchronous events -/

/-- Completion DW0 of an Asynchronous Event Request: type, information and log page. -/
def asyncDw0 (ev : Nat × Nat × Nat) : Nat := ev.1 + 256 * ev.2.1 + 65536 * ev.2.2

/-- The oldest waiting Asynchronous Event Request of a function. -/
def waitingAer (s : State) (fn : Nat) : Option Nat :=
  ((sqOf s fn 0).map (fun q => q.live)).getD [] |>.find? (fun c =>
    match ctxOf s c with
    | some x => x.e.opc == 0x0C && x.st == .started && x.fgen == (fnOf s fn).gen
    | none => false)

/-- An asynchronous event of a function: it completes a waiting request or waits for one (R82). -/
def sendAsync (fn : Nat) (ev : Nat × Nat × Nat) (s : State) : State :=
  match waitingAer s fn with
  | some c => modCtx c (fun x => { x with st := .completed, status := {}, dw0 := asyncDw0 ev }) s
  | none => modFn fn (fun f => { f with asyncEvents := f.asyncEvents ++ [ev] }) s

/-- An asynchronous event sent to every enabled controller. -/
def sendAsyncAll (ev : Nat × Nat × Nat) (s : State) : State :=
  forEach (s.ce.fns.filterMap (fun p => if p.2.en then some p.1 else none)) (fun fn => sendAsync fn ev) s

/-! ### Fixing a status, and freezing (R97, R98) -/

def stOk : Status := { sct := 0, sc := 0 }
def stBadOpcode : Status := { sct := 0, sc := 0x01 }
def stBadField : Status := { sct := 0, sc := 0x02 }
def stAborted : Status := { sct := 0, sc := 0x07 }
def stSqDeleted : Status := { sct := 0, sc := 0x08 }
def stBadNs : Status := { sct := 0, sc := 0x0B }
def stSequence : Status := { sct := 0, sc := 0x0C }
def stProtected : Status := { sct := 0, sc := 0x20 }
def stUnrecovered : Status := { sct := 2, sc := 0x81 }
def stDiscard : Status := { sct := 7, sc := 0xC0 }
def stCapacity : Status := { sct := 7, sc := 0xC1 }
def stKeyExhausted : Status := { sct := 7, sc := 0xC2 }
def stKeyUnavailable : Status := { sct := 7, sc := 0xC3 }
def stAuth : Status := { sct := 7, sc := 0xC4 }
def stGrant : Status := { sct := 7, sc := 0xC5 }
def stDomainFull : Status := { sct := 7, sc := 0xC6 }
def stReplayed : Status := { sct := 7, sc := 0xC7 }

/-- Every status but Success, Command Abort Requested and Append Replayed is freezing (R97). -/
def freezing (st : Status) : Bool := st != stOk && st != stAborted && st != stReplayed

/-- The Freeze Log entry of a freezing command (R100). -/
def freezeEntry (s : State) (c : Nat) (x : Ctx) : Freeze :=
  { ctx := c, cid := x.e.cid, nsid := x.e.nsid, zslba := x.errZone.map (fun z => z * zoneLbas), lba := x.errLba,
    status := x.status, cause := x.cause, opc := x.e.opc, time := s.ck.tb }

/-- The queue of a context whose freezing status has just been fixed freezes, or its freeze moves to an earlier command
(R98). -/
def freezeQueue (c : Nat) (s : State) : State :=
  match ctxOf s c with
  | none => s
  | some x =>
    if x.sqid = 0 || x.tunnel || !freezing x.status then s else
    match sqOf s x.fn x.sqid with
    | none => s
    | some q =>
      if q.deleting.isSome then s else
      let e := freezeEntry s c x
      let ev := raise 97 sevWarning [x.fn, x.sqid, x.status.sct * 256 + x.status.sc]
      match q.frozen with
      | none =>
        let s := s |> modSq x.fn x.sqid (fun q => { q with frozen := some { e with refrozen := q.continuing.contains c } })
                   |> wrb R.ceFrozen 31 true |> ev
        if (fnOf s x.fn).freezeMasked then s
        else s |> modFn x.fn (fun f => { f with freezeMasked := true }) |> sendAsync x.fn (7, 0xC0, 0xC0)
      | some f =>
        if q.live.contains f.ctx && before q.live c f.ctx then
          s |> modSq x.fn x.sqid (fun q => { q with frozen := some { e with time := f.time, refrozen := q.continuing.contains c } }) |> ev
        else s

/-- The response to the NVMe-MI request in progress, on the endpoint that carried it (17_attic.md R465). -/
def miRespond (status : Nat) (data : List Byte) (s : State) : State :=
  match s.att.miCur with
  | none => s
  | some r =>
    let o : MiResp := { endpoint := r.endpoint, status := status, data := data }
    onAtt (fun a => { a with miOut := a.miOut ++ [o], miLast := tset r.endpoint o a.miLast, miCur := none }) s

/-- The response of the management endpoint to a tunnelled command: completion DW0, DW1, DW3 and data (17_attic.md R463). -/
def tunnelReply (x : Ctx) (s : State) : State :=
  miRespond (Config.miStatus 0) (leBytes 4 x.dw0 ++ leBytes 4 x.dw1 ++ leBytes 4 (x.status.sc * 2 ^ 17 + x.status.sct * 2 ^ 25) ++ x.out) s

/-- A context's status fixed (R78): it reaches COMPLETED, and a freezing status freezes its queue. Work of an old function
generation ends without an entry (R30, R134), and a tunnelled command answers its endpoint. -/
def complete (c : Nat) (st : Status) (dw0 dw1 : Nat) (s : State) : State :=
  match ctxOf s c with
  | none => s
  | some x =>
    if x.tunnel then
      s |> tunnelReply { x with status := st, dw0 := dw0, dw1 := dw1 } |> onCe (fun e => { e with ctxs := tdel c e.ctxs })
    else if !ctxFresh s x then freeCtx c s
    else if x.st = .completed then s
    else
      s |> modCtx c (fun x => { x with st := .completed, status := st, dw0 := dw0, dw1 := dw1, inFw := false })
        |> freezeQueue c

/-- Success with no DW0. -/
def succeed (c : Nat) (s : State) : State := complete c stOk 0 0 s

/-- A failure, with its CAUSE (R101) and the zone and LBA that the Freeze Log names. DW0 is 0, that of a Read or Verify too which never began:
the spec gives its MARGIN only where codewords, the Granary or zeros served it (R90; DESIGN CHOICE, notes/assumptions/31.md). -/
def failAt (c : Nat) (st : Status) (cause : Nat) (zone lba : Option Nat) (s : State) : State :=
  s |> modCtx c (fun x => { x with cause := cause, errZone := zone, errLba := lba }) |> complete c st 0 0

/-- A failure with no finer cause and no place. -/
def fail (c : Nat) (st : Status) (s : State) : State := failAt c st 0 none none s

/-- A failed field or opcode check, CAUSE 0x09 (R101). -/
def failField (c : Nat) (s : State) : State := failAt c stBadField 9 none none s

/-- A grant check failed (04_tenants.md R126): status, CAUSE and event source 102. -/
def failGrant (c cause value : Nat) (zone lba : Option Nat) (s : State) : State :=
  match ctxOf s c with
  | none => s
  | some x => s |> raise 102 sevWarning [x.fn, cause, value] |> failAt c stGrant cause zone lba

/-- A command that a STARTED context of an opcode waits for; the meanings of commands run on such contexts only. -/
def startedWith (s : State) (c opc : Nat) : Option Ctx :=
  match ctxOf s c with
  | none => none
  | some x => if x.e.opc = opc && x.st = .started then some x else none

/-- The effect of a command on a STARTED context of an opcode; nothing where there is none. -/
def onStarted (c opc : Nat) (f : Ctx → State → State) (s : State) : State :=
  match startedWith s c opc with
  | none => s
  | some x => f x s

/-- A STARTED admin command of an opcode, and a STARTED I/O command of an opcode; the two sets share opcodes. -/
def onAdmin (c opc : Nat) (f : Ctx → State → State) (s : State) : State :=
  onStarted c opc (fun x s => if x.sqid = 0 || x.tunnel then f x s else s) s
def onIo (c opc : Nat) (f : Ctx → State → State) (s : State) : State :=
  onStarted c opc (fun x s => if x.sqid = 0 || x.tunnel then s else f x s) s

/-- An admin command that may run only on a PF, or tunnelled with PF rights (R110, R463). -/
def pfOnly (c : Nat) (x : Ctx) (f : State → State) (s : State) : State :=
  if isPf x.fn || x.tunnel then f s else fail c stBadOpcode s

/-- An admin command's data and success. -/
def answer (c : Nat) (data : List Byte) (s : State) : State :=
  s |> modCtx c (fun x => { x with out := data }) |> succeed c

/-! ### Mailboxes (14_control.md R396 to R399) -/

def boxFull (s : State) (m : Nat) : Bool := (tget {} s.ctl.boxes m : Mailbox).full

def setFull (m : Nat) (b : Bool) (s : State) : State :=
  onCtl (fun c => { c with boxes := tput {} m { full := b } c.boxes }) s

/-- The 64 bytes of a submission queue entry. -/
def sqeBytes (e : Entry) : List Byte :=
  leBytes 1 e.opc ++ leBytes 1 (e.fuse % 4 + 64 * e.psdt) ++ leBytes 2 e.cid ++ leBytes 4 e.nsid ++ leBytes 4 e.cdw2 ++ leBytes 4 e.cdw3 ++
  leBytes 8 e.mptr ++ leBytes 8 e.prp1 ++ leBytes 8 e.prp2 ++ leBytes 4 e.cdw10 ++ leBytes 4 e.cdw11 ++ leBytes 4 e.cdw12 ++
  leBytes 4 e.cdw13 ++ leBytes 4 e.cdw14 ++ leBytes 4 e.cdw15

/-- The tag of a message about a context (R398). -/
def mbTag (c fn fgen epoch typ : Nat) : Nat := c + fn * 2 ^ 17 + fgen * 2 ^ 29 + epoch * 2 ^ 37 + typ * 2 ^ 53

/-- A message put into a mailbox, and its doorbell: the sender writes DATA and TAG and the mailbox becomes FULL (R396). -/
def mbPut (m : Nat) (data : List Byte) (tag : Nat) (s : State) : State :=
  s |> forEach (List.range 16) (fun w => wr (R.mbData m w) (fieldAt data (4 * w) 4))
    |> wr (R.mbTag m) tag |> setFull m true

/-- The message type of a context in firmware: admin 0, I/O exception 1, firmware-run I/O 2 (R398). -/
def mbType (c : Nat) (x : Ctx) : Nat :=
  if c < ioCtx then 0
  else if x.e.opc = 0x19 || x.e.opc = 0x79 || x.e.opc = 0x7A || x.e.opc = 0x81 || x.e.opc = 0x85 then 2 else 1

/-- The command engine sends the next waiting message to a cluster once its mailbox is EMPTY (R396, R397): an abort notice first. -/
def mbPump (cluster : Nat) (s : State) : State :=
  if boxFull s cluster then s else
  match s.ce.notices.find? (fun n => n.1 == cluster) with
  | some n => s |> onCe (fun e => { e with notices := e.notices.erase n }) |> mbPut cluster (sqeBytes n.2.1) n.2.2
  | none =>
  match s.ce.ctxs.find? (fun p => p.2.inFw && !p.2.mbSent && p.1 < nCtx &&
      ((sqOf s p.2.fn p.2.sqid).map (fun q => q.home)).getD 0 == cluster) with
  | none => s
  | some (c, x) => s |> mbPut cluster (sqeBytes x.e) (mbTag c x.fn x.fgen x.epoch (mbType c x))
                     |> modCtx c (fun x => { x with mbSent := true })

/-- A context handed to firmware, keeping its place (01_architecture.md R24): its message goes to its home cluster. -/
def toFirmware (c : Nat) (s : State) : State :=
  match ctxOf s c with
  | none => s
  | some x =>
    s |> modCtx c (fun x => { x with inFw := true, mbSent := false })
      |> mbPump (((sqOf s x.fn x.sqid).map (fun q => q.home)).getD 0)

/-- An abort notice, TYPE 3, about a command that has been handed to firmware (R397, R398); one whose message has not gone yet needs none. -/
def noticeAbort (c : Nat) (x : Ctx) (s : State) : State :=
  if !(x.inFw && x.mbSent) then s else
  let home := ((sqOf s x.fn x.sqid).map (fun q => q.home)).getD 0
  s |> onCe (fun e => { e with notices := e.notices ++ [(home, (x.e, mbTag c x.fn x.fgen x.epoch 3))] }) |> mbPump home

/-! ### Data structures -/

/-- A log page or data structure cut at an offset and a length in dwords (Get Log Page LPO, NUMD). -/
def logPart (x : Ctx) (data : List Byte) : List Byte :=
  let numd := x.e.cdw10 / 65536 + (x.e.cdw11 % 65536) * 65536 + 1
  bytesAt data (x.e.cdw12 + x.e.cdw13 * 4294967296) (4 * numd)

end Sys2Proof.Machine
end

