-- ==== Sys2Proof/Machine/Geometry.lean ====
section
/-! DEFINITION. Where data lies on the flash: rows, bands, codeword order, zone capacity and the read margin
(02_zones.md R37 to R52, 07_flash_channels.md R194 to R198, 08_flash_integrity.md R219 to R238). -/

namespace Sys2Proof.Machine

/-! ### Densities and dies -/

/-- Bits per cell of a density (R44). -/
def bitsPerCell (dens : Nat) : Nat := if dens = 0 then 1 else dens + 2

/-- Die-blocks in each die's zone region (R196). -/
def zoneBlocks (b : Board) : Nat := (b.dieBlocks - 40) / 16 * 16

/-- Whether a density is programmed in two passes (R194). -/
def twoPass (b : Board) (dens : Nat) : Bool := b.twoPass && decide (2 ≤ dens)

/-- Whether the die profile enables a density (R194). -/
def densEnabled (b : Board) (dens : Nat) : Bool :=
  decide (dens < 4 ∧ b.planes * b.wordlines * bitsPerCell dens * 60 ≤ 1048576)

/-- Codewords of one die-block, and its capacity in bytes (R196). -/
def blockCws (b : Board) (dens : Nat) : Nat := b.planes * b.wordlines * 4 * bitsPerCell dens
def blockBytes (b : Board) (dens : Nat) : Nat := blockCws b dens * 4096

/-! ### Rows and bands -/

def zKey (nsid zone : Nat) : Nat := 1048576 * nsid + zone
def zNsid (key : Nat) : Nat := key / 1048576
def zIdx (key : Nat) : Nat := key % 1048576

def zoneOf (s : State) (key : Nat) : Zone := tget {} s.ze.zones key
def modZone (key : Nat) (f : Zone → Zone) (s : State) : State := onZe (fun z => { z with zones := tmod {} key f z.zones }) s
def nsOf (s : State) (nsid : Nat) : Option Ns := tfind s.ze.nss nsid
def modNs (nsid : Nat) (f : Ns → Ns) (s : State) : State := onZe (fun z => { z with nss := talter nsid f z.nss }) s
def bandOf (s : State) (b : Nat) : Band := tget {} s.ze.bands b
def modBand (b : Nat) (f : Band → Band) (s : State) : State := onZe (fun z => { z with bands := tmod {} b f z.bands }) s
def rowOf (s : State) (r : Nat) : Row := tget {} s.ze.rows r
def modRow (r : Nat) (f : Row → Row) (s : State) : State := onZe (fun z => { z with rows := tmod {} r f z.rows }) s
def domOf (s : State) (d : Nat) : Domain := tget {} s.ze.domains d
def modDom (d : Nat) (f : Domain → Domain) (s : State) : State := onZe (fun z => { z with domains := tmod {} d f z.domains }) s

/-- Row and die-block index of a band (R39). -/
def bandRow (s : State) (b : Nat) : Nat := b / zoneBlocks s.board
def bandIdx (s : State) (b : Nat) : Nat := b % zoneBlocks s.board
def bandNo (s : State) (row idx : Nat) : Nat := zoneBlocks s.board * row + idx

/-- Whether a row holds bands, and whether they are narrowed (R40). -/
def rowUsed (r : Row) : Bool := r.use == some 0 || r.use == some 1
def rowNarrow (r : Row) : Bool := r.use == some 1

/-- The rows of a domain, and whether it exists (R41). DESIGN CHOICE (notes/assumptions/30.md): a row of the domain's map that is not used
counts neither for the domain's existence nor in ROWS of log 0xC1. -/
def domRows (s : State) (d : Nat) : List Nat :=
  s.ze.rows.filterMap (fun p => if p.2.domain = some d && rowUsed p.2 then some p.1 else none)
def domExists (s : State) (d : Nat) : Bool := !(domRows s d).isEmpty
def bandDom (s : State) (b : Nat) : Option Nat := (rowOf s (bandRow s b)).domain

/-- RATE and DEPTH of a domain's detour budget in force, and its level in thousandths of a unit now: it starts full and refills
continuously (09_tail_latency.md R263). -/
def domRate (s : State) (d : Nat) : Nat := (domOf s d).rate
def domDepth (s : State) (d : Nat) : Nat := (domOf s d).depth
/-- RATE and DEPTH of Feature 0xD2 resolved: 0xFFFF selects the default of a domain of n rows (R263, R264). -/
def rateIn (s : State) (d v : Nat) : Nat := if v = 65535 then (domRows s d).length else v
def depthIn (s : State) (d v : Nat) : Nat := if v = 65535 then 16 * (domRows s d).length else v
def domLevel (s : State) (d : Nat) : Nat :=
  match (domOf s d).level with
  | none => 1000 * domDepth s d
  | some l => Nat.min (1000 * domDepth s d) (l + (s.ck.tb - (domOf s d).lvAt) * domRate s d / 1000)

/-- The channel positions of a row that its bands use, in ascending order. -/
def rowPositions (r : Row) : List Nat := (List.range 16).filter (fun p => r.absent != some p)

/-- The parity position of a band (R39, R40), and its data positions in ascending order (R197). -/
def parityPos (s : State) (b : Nat) : Nat :=
  let ps := rowPositions (rowOf s (bandRow s b))
  ps.getD (bandIdx s b % ps.length) 0
def dataPositions (s : State) (b : Nat) : List Nat :=
  (rowPositions (rowOf s (bandRow s b))).filter (fun p => p != parityPos s b)
def dataWidth (s : State) (b : Nat) : Nat := (dataPositions s b).length

/-- Die key (64 × channel + die) of a position of a row (R38), and the row and position of a die. -/
def dieAt (row pos : Nat) : Nat := 64 * (16 * (row / 64) + pos) + row % 64
def dieRow (ch die : Nat) : Nat := 64 * (ch / 16) + die

/-- The die-block that serves index `i` of a die: an appointed spare, or the die-block itself (R196, R236). -/
def servingBlk (s : State) (dk i : Nat) : Nat :=
  match s.fl.blks.find? (fun p => p.1 / 4096 == dk && p.2.serves == some i && p.2.st != 4) with
  | some p => p.1 % 4096
  | none => i

/-- A die-block that nothing has happened to: factory, metadata and Garret die-blocks are SYSTEM, those of the zone region FREE, and
spares SPARE (R196, R232). -/
def blkDflt (b : Board) (i : Nat) : DieBlk := { st := if i < 16 then 7 else if i < 16 + zoneBlocks b then 0 else 5 }
def blkOf (s : State) (dk i : Nat) : DieBlk := tget (blkDflt s.board i) s.fl.blks (4096 * dk + i)
def modBlk (dk i : Nat) (f : DieBlk → DieBlk) (s : State) : State :=
  onFl (fun x => { x with blks := tmod (blkDflt s.board i) (4096 * dk + i) f x.blks }) s

/-- A channel; whether a die is marked failed, and whether it is usable (07_flash_channels.md R211, R212). -/
def chanOf (s : State) (ch : Nat) : Chan := tget {} s.fl.chans ch
def dieFailed (s : State) (dk : Nat) : Bool := bit (chanOf s (dk / 64)).failed (dk % 64)
def dieUsable (s : State) (dk : Nat) : Bool := bit (chanOf s (dk / 64)).usable (dk % 64) && !dieFailed s dk

/-- The usable dies, and how many they are. -/
def usableKeys (s : State) : List Nat :=
  s.fl.chans.flatMap (fun c => ((List.range 64).filter (fun d => bit c.2.usable d && !bit c.2.failed d)).map (fun d => 64 * c.1 + d))
def usableDies (s : State) : Nat := (usableKeys s).length

/-- The die-blocks of a half of the Garret on a die, those that are retired or bad left out (10_granary.md R299). -/
def halfBlks (s : State) (dk h : Nat) : List Nat :=
  ([12 + 2 * h, 13 + 2 * h].map (servingBlk s dk)).filter (fun b => (blkOf s dk b).st != 4 && (blkOf s dk b).st != 6)

/-- Codewords of a wordline of a die-block in SLC: 16 on four planes. -/
def slcCws (s : State) : Nat := 4 * s.board.planes

/-- Codewords of a dump's segments, 256 each; the SEQ of the first that is not in the Garret, and the number of those before it; and whether the state
region is whole (10_granary.md R300, R303). -/
def dumpTotal (d : Dump) : Nat := 256 * d.segs.length
def dumpKept (d : Dump) : Nat := ((List.range (dumpTotal d)).find? (fun n => !d.cws.any (fun c => c.1 == n))).getD (dumpTotal d)
def dumpWhole (d : Dump) : Bool := dumpKept d == dumpTotal d

/-- The dump wordline that a wordline of the armed half is: j on usable die j mod N, on each die in the order of its die-blocks and wordlines. Which usable
die is the first, the spec leaves open: here that of the lowest channel and index (DESIGN CHOICE, notes/assumptions/38.md). -/
def dumpWl (s : State) (d : Dump) (dk blk wl : Nat) : Option Nat :=
  match d.dies.findIdx? (fun k => k == dk), (halfBlks s dk s.gr.armed).findIdx? (fun b => b == blk) with
  | some i, some b => some ((b * s.board.wordlines + wl) * d.dies.length + i)
  | _, _ => none

/-- ADDR of a dump codeword: the Granary offset of its page in 4 KiB units (10_granary.md R282). -/
def dumpAddr (d : Dump) (seq : Nat) : Nat := match d.segs[seq / 256]? with
  | some g => 256 * (g.2.handle / 64 % 8388608) + seq % 256
  | none => 0xFFFFFFFF

/-- The dump in progress. -/
def armedDump (s : State) : Dump := (tfind s.gr.halves s.gr.armed).getD {}

/-- Die-block index of a band's die-blocks before any retirement (R196). -/
def bandBlkIdx (s : State) (b : Nat) : Nat := 16 + bandIdx s b

/-- The die keys of a band's die-blocks that its row uses. -/
def bandDies (s : State) (b : Nat) : List Nat :=
  (rowPositions (rowOf s (bandRow s b))).map (dieAt (bandRow s b))

/-- The die-blocks of a band changed (R232). -/
def modBandBlks (b : Nat) (f : DieBlk → DieBlk) (s : State) : State :=
  forEach (bandDies s b) (fun dk t => modBlk dk (servingBlk t dk (bandBlkIdx t b)) f t) s

/-- Free bands (R56): those of used rows that are bound to no zone and not retired. `domFree` counts a domain's. -/
def bandFree (b : Band) : Bool := b.zone.isNone && !b.retired
def rowFree (s : State) (r : Nat) : Nat :=
  zoneBlocks s.board - (s.ze.bands.filter (fun p => bandRow s p.1 == r && !bandFree p.2)).length
def domFree (s : State) (d : Nat) : Nat := ((domRows s d).map (rowFree s)).sum

/-! ### Capacity (R50 to R52) -/

/-- Data codewords of a band of `width` data positions. -/
def bandCws (b : Board) (dens width : Nat) : Nat := width * blockCws b dens

/-- ZCAP of a zone with a shape and data width (R50 to R52): the width is that of a full-width band until the zone is bound, and from then
until reset that of the band it was bound to (R51). -/
def zcapOf (s : State) (sh : Shape) (width : Nat) : Nat :=
  if sh.comp then zoneLbas else bandCws s.board sh.density width

/-- Band data capacity in bytes (R52). -/
def bandCapacity (s : State) (sh : Shape) (b : Nat) : Nat := bandCws s.board sh.density (dataWidth s b) * 4096

/-- The shape in effect in a zone: its own, or the namespace default (R47). -/
def shapeOf (s : State) (nsid : Nat) (z : Zone) : Shape :=
  match z.shape with
  | some sh => sh
  | none => ((nsOf s nsid).map (fun n => n.dflt)).getD {}

/-! ### Codeword order (R197, R198) -/

/-- Data codewords of one stripe. -/
def stripeCws (b : Board) (dens width : Nat) : Nat := width * bitsPerCell dens * b.planes * 4

/-- Where codeword `i` of a band lies: wordline, channel position, page level, plane and codeword in the page. -/
structure Place where
  wl    : Nat := 0
  pos   : Nat := 0
  level : Nat := 0
  plane : Nat := 0
  cw    : Nat := 0
deriving DecidableEq, Repr

def placeOf (s : State) (dens b i : Nat) : Place :=
  let P := s.board.planes
  let L := bitsPerCell dens
  let D := dataWidth s b
  { cw := i % 4, plane := i / 4 % P, level := i / (4 * P) % L, pos := (dataPositions s b).getD (i / (4 * P * L) % D) 0,
    wl := i / (4 * P * L * D) }

/-- Codeword of LBA or stream position to its place's die key. -/
def placeDie (s : State) (b : Nat) (p : Place) : Nat := dieAt (bandRow s b) p.pos

/-! ### Release (R286) -/

/-- Whether wordline `w` of a die of a band has met conditions 1 and 2 of R286. -/
def wlOnFlash (s : State) (dens : Nat) (b : Band) (pos w : Nat) : Bool :=
  let f := (tget (0, 0) b.prog pos).2
  decide (w < f) && (!twoPass s.board dens || decide (w + 1 = s.board.wordlines) || decide (w + 1 < f))

/-- Whether the page of codeword `i` of a band meets R286. -/
def cwOnFlash (s : State) (dens b i : Nat) : Bool :=
  let p := placeOf s dens b i
  let bd := bandOf s b
  wlOnFlash s dens bd p.pos p.wl && wlOnFlash s dens bd (parityPos s b) p.wl

/-- A frame's length in 16-byte units (05_transforms.md R142). -/
def frameLen (f : Frame) : Nat := 3 + ceilDiv f.payBytes 16

/-! ### The compact index (05_transforms.md R152 to R156) -/

/-- A slot entry: LEN, RAW, PARTIAL and UNWRITTEN (R153). -/
def idxWord (len : Nat) (raw part unwritten : Bool) : Nat := len % 8192 + 8192 * raw.toNat + 16384 * part.toNat + 32768 * unwritten.toNat
def idxLen (w : Nat) : Nat := bits w 12 0
def idxRaw (w : Nat) : Bool := bit w 13
def idxPartial (w : Nat) : Bool := bit w 14
def idxUnwritten (w : Nat) : Bool := bit w 15

/-- A slot's entry and a checkpoint as they read: UNWRITTEN, and all ones, until they are set (R153, R154). -/
def entryOf (x : Index) (slot : Nat) : Nat := tget 32768 x.entries slot
def ckptOf (x : Index) (g : Nat) : Nat := tget 18446744073709551615 x.ckpts g

/-- OFFSET and ABANDONED_BEFORE of a checkpoint. -/
def ckptWord (off abandoned : Nat) : Nat := off % 4294967296 + 4294967296 * (abandoned % 4294967296)
def ckptOffset (w : Nat) : Nat := bits w 31 0
def ckptAbandoned (w : Nat) : Nat := bits w 63 32

/-- The 139,264 bytes of an index block (R152). -/
def indexBlock (x : Index) : List Byte :=
  (List.range 65536).flatMap (fun i => leBytes 2 (entryOf x i)) ++ (List.range 1024).flatMap (fun g => leBytes 8 (ckptOf x g))

/-- The stream unit at which a slot's span begins: its checkpoint's and the lengths of the slots between (R154, R156). -/
def locate (x : Index) (slot : Nat) : Nat :=
  ckptOffset (ckptOf x (slot / 64)) + ((List.range (slot % 64)).map (fun i => idxLen (entryOf x (64 * (slot / 64) + i)))).sum

/-- LBAs of a slot applied: it is no longer UNWRITTEN. -/
def idxApplied (slot : Nat) (x : Index) : Index :=
  { x with entries := tput 32768 slot (entryOf x slot % 32768) x.entries }

/-- A frame that takes the end of the stream: its slot's entry grows, and the first offset of slot 64g sets checkpoint g (R154). -/
def idxFrame (f : Frame) (off abandoned : Nat) (x : Index) : Index :=
  let w := entryOf x f.slot
  { x with entries := tput 32768 f.slot (idxWord (idxLen w + frameLen f) f.raw (idxPartial w || f.part) false) x.entries,
           ckpts := if f.slot % 64 = 0 && idxLen w = 0 then tput 18446744073709551615 (f.slot / 64) (ckptWord off abandoned) x.ckpts else x.ckpts }

/-! ### Frame headers (R142) -/

/-- A frame's header fields. -/
def hdrRaw (h : List Byte) : Bool := bit (fieldAt h 3 1) 0
def hdrPartial (h : List Byte) : Bool := bit (fieldAt h 3 1) 1
def hdrTrimmed (h : List Byte) : Bool := bit (fieldAt h 3 1) 2
def hdrFirst (h : List Byte) : Nat := bits (fieldAt h 4 1) 3 0
def hdrCount (h : List Byte) : Nat := fieldAt h 5 1
def hdrUnits (h : List Byte) : Nat := fieldAt h 6 2
def hdrSlba (h : List Byte) : Nat := fieldAt h 8 8
def hdrBytes (h : List Byte) : Nat := fieldAt h 24 4

/-- Whether a header agrees with R142: its constant and reserved fields, its place in the slot and its lengths. -/
def hdrValid (h : List Byte) : Bool :=
  h.length == 48 && fieldAt h 0 2 == 0xC5F1 && fieldAt h 2 1 == 1 && decide (fieldAt h 3 1 < 8) && decide (fieldAt h 4 1 < 16) &&
  fieldAt h 28 4 == 0 && decide (1 ≤ hdrBytes h ∧ hdrBytes h ≤ 65536) && hdrUnits h == ceilDiv (hdrBytes h) 16 &&
  (if hdrPartial h then hdrRaw h && decide (1 ≤ hdrCount h ∧ hdrFirst h + hdrCount h ≤ 15) else hdrFirst h == 0 && hdrCount h == 16) &&
  (!hdrRaw h || hdrBytes h == 4096 * hdrCount h)

/-! ### Margin (R225) -/

/-- The rated hard limit T of the code family in force (R219). -/
def hardLimit (s : State) : Nat := if rdb s R.ldFamily 0 then 272 else 208

/-- The read margin of a codeword with `e` corrected bits. -/
def marginOf (s : State) (e : Nat) : Nat := Nat.min 255 (Nat.max 1 (hardLimit s - e))

/-! ### Write-through (R86, R285, R309, R312) -/

/-- Hold-up health as it is applied: degraded, or unknown with no good result recorded (R312). -/
def healthBad (s : State) : Bool :=
  s.gr.health == .degraded || (s.gr.health == .unknown && s.gr.recorded != some true)

/-- Write-through in force: every write is treated as if it carried FUA. -/
def writeThrough (s : State) : Bool :=
  s.gr.limited || s.gr.wtForced || healthBad s || (s.gr.mirEn && s.gr.mirLost && s.gr.mirPolicy == 1)

/-- Forced write-through time so far. -/
def wtNsNow (s : State) : Nat := satBits 64 (s.gr.wtNs + (if writeThrough s then s.ck.tb - s.gr.wtSince else 0))

end Sys2Proof.Machine
end

