-- ==== Sys2Proof/Machine/CipherOps.lean ====
section
/-! DEFINITION. Key slots: capture, reservation of counter values, loading, erasing and the shadow (06_cipher.md R170 to
R177). -/

namespace Sys2Proof.Machine

/-! ### The GCM construction (R166, R167) -/

/-- The 12-byte IV: salt, then counter value. -/
def gcmIv (salt ctr : Nat) : List Byte := leBytes 4 salt ++ leBytes 8 ctr

/-- The 20 bytes of additional authenticated data: LBA, namespace, zone index and band generation. -/
def gcmAad (lba nsid zone bgen : Nat) : List Byte := leBytes 8 lba ++ leBytes 4 nsid ++ leBytes 4 zone ++ leBytes 4 bgen

/-- What a unit was sealed under. -/
def sealIv (u : Sealed) : List Byte := gcmIv u.salt u.ctr
def sealAad (u : Sealed) : List Byte := gcmAad u.lba u.nsid u.zone u.bgen

/-- The plaintext of a unit: its LBAs, or its compressed payload padded with zeros to the 16-byte unit (R142). -/
def sealPlain (u : Sealed) : List Byte := if u.pay.isEmpty then u.plain.flatten else bytesAt u.pay 0 (16 * ceilDiv u.pay.length 16)

/-- The 128-bit tag of a unit. -/
def sealTag (u : Sealed) : List Byte := bytesAt (Config.gcmTag u.key (sealIv u) (sealAad u) (sealPlain u)) 0 16

/-- The 48 bytes of a frame's header (R142). -/
def frameHeader (f : Frame) : List Byte :=
  leBytes 2 0xC5F1 ++ leBytes 1 1 ++ leBytes 1 (f.raw.toNat + 2 * f.part.toNat + 4 * f.trimmed.toNat) ++ leBytes 1 (f.first % 16) ++
  leBytes 1 f.count ++ leBytes 2 (ceilDiv f.payBytes 16) ++ leBytes 8 f.sealed.lba ++ leBytes 8 f.sealed.nonce ++ leBytes 4 f.payBytes ++
  leBytes 4 0 ++ sealTag f.sealed

/-- A frame with the header of what it holds. -/
def withHeader (f : Frame) : Frame := { f with hdr := frameHeader f }

/-- Whether a unit authenticates under a key and salt at the place that is read: the IV of its stored CTR and the additional data of the place
are those it was sealed under (R167, R168; notes/assumptions/11.md). -/
def opens (k : Nat × Nat) (aad : List Byte) (u : Sealed) : Bool :=
  u.key == k.1 && gcmIv k.2 u.nonce == sealIv u && aad == sealAad u && !u.poison

/-- The additional data of an LBA offset of a zone, or of the frame that begins there, on the band that the zone has now. -/
def zoneBgen (s : State) (key : Nat) : Nat := ((zoneOf s key).band.map (fun b => (bandOf s b).gen)).getD 0
def placeAad (s : State) (key off : Nat) : List Byte := gcmAad (zIdx key * zoneLbas + off) (zNsid key) (zIdx key) (zoneBgen s key)

/-! ### Key slots -/

def slotOf (s : State) (k : Nat) : Slot := tget {} s.ci.slots k
def modSlot (k : Nat) (f : Slot → Slot) (s : State) : State := onCi (fun c => { c with slots := tmod {} k f c.slots }) s

/-- Contexts and moves that hold the key of a slot with a key number: the slot's in-flight count (R171). -/
def holders (s : State) (k gen : Nat) : Nat :=
  (s.ce.ctxs.filter (fun p => p.2.keys.contains (k, gen))).length +
  (s.ze.zones.filter (fun z => (z.2.move.map (fun m => m.keys.contains (k, gen))).getD false)).length

/-- The key and salt that a capture names, once it is usable: the current key, or one kept for work in flight. A capture of the
shadow has none until the shadow is current. -/
def keyOf (s : State) (k gen : Nat) : Option (Nat × Nat) :=
  let x := slotOf s k
  if x.loaded && gen = x.keyGen then some (x.key, x.salt) else tfind x.old gen

/-- The key number that a capture made now takes (R171): that of the shadow if one is pending; none for an EMPTY slot. -/
def captureGen (s : State) (k : Nat) : Option Nat :=
  let x := slotOf s k
  if !x.loaded then none else if x.shadow.isSome then some (x.keyGen + 1) else some x.keyGen

/-- Whether every key that a command captured is usable: a command with a capture of a pending shadow begins no cipher operation (R171). -/
def keysUsable (s : State) (x : Ctx) : Bool := x.keys.all (fun q => (keyOf s q.1 q.2).isSome)

/-- The shadow becomes current once nothing holds the old key, and a key kept after an Erase is zeroed (R170). -/
def settleSlot (k : Nat) (s : State) : State :=
  let x := slotOf s k
  let s := modSlot k (fun x => { x with old := x.old.filter (fun o => holders s k o.1 != 0) }) s
  match x.shadow with
  | none => s
  | some (key, salt) =>
    if holders s k x.keyGen != 0 then s else
    s |> modSlot k (fun x => { x with key := key, salt := salt, shadow := none, keyGen := x.keyGen + 1 })
      |> count (R.ciCnt 3) R.ciOvf 3 1
      |> raise 264 sevInfo [k, 3]

/-- A context's captures end with its last cipher unit (R171). -/
def dropKeys (c : Nat) (s : State) : State :=
  match ctxOf s c with
  | none => s
  | some x => s |> modCtx c (fun x => { x with keys := [] }) |> forEach (x.keys.map (fun k => k.1)) settleSlot

/-- The contexts that read the chunks which this device serves as the source of Peer Copies (11_balwen.md R342): 64 beyond those of commands, of no
function. -/
def chunkOpc : Nat := 0x50
def chunkFn : Nat := 4096
def chunkCtx : Nat := 131073
def chunkLive (s : State) : List Nat := s.ce.ctxs.filterMap (fun p => if chunkCtx ≤ p.1 && p.2.e.opc == chunkOpc then some p.1 else none)

/-- The chunks of the nodes, and of the contexts there and the sessions, that are to be served no more. -/
def dropChunks (gone : Nat → Nat → Nat → Bool) (s : State) : State :=
  let cs := s.ce.ctxs.filterMap (fun p => if chunkCtx ≤ p.1 && p.2.e.opc == chunkOpc && gone p.2.e.cdw13 p.2.e.cdw14 (p.2.via.headD 0) then some p.1 else none)
  s |> forEach cs dropKeys
    |> onCe (fun e => { e with ctxs := e.ctxs.filter (fun p => !cs.contains p.1) })
    |> onPb (fun p => { p with chunks := p.chunks.filter (fun q => !gone q.node q.ctx q.via) })

/-- Values remaining in a slot's counter (R174). -/
def counterLeft (x : Slot) : Nat := 18446744073709551615 - x.ctr

/-- The marks of a counter after it has moved: WARN at 2^32 or fewer values, EXHAUSTED at none (R175, R176). -/
def markSlot (k : Nat) (s : State) : State :=
  let x := slotOf s k
  let left := counterLeft x
  let s := if left ≤ 4294967296 && !x.warned then s |> modSlot k (fun x => { x with warned := true }) |> raise 262 sevWarning [k] else s
  if left = 0 && !x.exhausted then s |> modSlot k (fun x => { x with exhausted := true }) |> raise 263 sevError [k] else s

/-- `n` counter values reserved (R174): the first of them. -/
def reserve (k n : Nat) (s : State) : Option (Nat × State) :=
  let x := slotOf s k
  if counterLeft x < n then none
  else some (x.ctr, s |> modSlot k (fun x => { x with ctr := x.ctr + n }) |> markSlot k)

/-- Whether a value lies at or above the ceiling (R177). -/
def pastCeil (s : State) (k v : Nat) : Bool := decide ((slotOf s k).ceil ≤ v)

/-- A counter raised by a Load's FLOOR (R170, R180). -/
def applyFloor (k floor : Nat) (s : State) : State :=
  s |> modSlot k (fun x => { x with ctr := Nat.max x.ctr floor }) |> markSlot k

/-- A Load that has taken effect and whose FLOOR took the counter to within 2^23 of the ceiling, or past it, has firmware raise it in one step
(R177). -/
def noteFloor (k floor : Nat) (s : State) : State :=
  modSlot k (fun x => { x with floored := x.floored || (floor != 0 && x.ctr == floor && decide (x.ceil ≤ x.ctr + 8388608)) }) s

/-- Load (R170): `true` when it was refused because a shadow is pending. -/
def loadSlotOp (k key salt floor : Nat) (s : State) : State × Bool :=
  let x := slotOf s k
  if x.shadow.isSome then (s, true)
  else if x.loaded && holders s k x.keyGen != 0 then
    (s |> modSlot k (fun x => { x with shadow := some (key, salt) }) |> applyFloor k floor |> noteFloor k floor |> raise 264 sevInfo [k, 2], false)
  else
    (s |> modSlot k (fun x => { x with loaded := true, key := key, salt := salt, keyGen := x.keyGen + 1 })
       |> applyFloor k floor |> noteFloor k floor |> raise 264 sevInfo [k, 1], false)

/-- The writes and reads that captured a slot's shadow. -/
def shadowHolders (s : State) (k : Nat) : List Nat :=
  s.ce.ctxs.filterMap (fun p => if p.2.keys.contains (k, (slotOf s k).keyGen + 1) then some p.1 else none)

/-- Erase (R170), without the end of the commands that captured a discarded shadow. -/
def eraseSlotOp (k : Nat) (s : State) : State :=
  let x := slotOf s k
  if !x.loaded then s else
  let keep := holders s k x.keyGen != 0
  s |> modSlot k (fun x => { x with loaded := false, key := 0, salt := 0, shadow := none,
                                    keyGen := if x.shadow.isSome then x.keyGen + 1 else x.keyGen,
                                    old := if keep then tset x.keyGen (x.key, x.salt) x.old else x.old })
    |> raise 264 sevInfo [k, 4]

/-- A raise of a ceiling that is in the journal (R177): writes that waited at it go on. -/
def raiseCeil (k v : Nat) (s : State) : State :=
  s |> modSlot k (fun x => { x with ceil := v, recorded := Nat.max x.recorded v, floored := false })
    |> onCe (fun e => { e with ctxs := tmap (fun _ x =>
         if x.waitCeil && (zoneOf s (zKey x.nsid x.zone)).shape.map (fun h => h.keySlot) == some k && x.ctr + x.ctrLeft ≤ v then { x with waitCeil := false } else x) e.ctxs })

end Sys2Proof.Machine
end

