-- ==== Sys2Proof/Machine/MemoryOps.lean ====
section
/-! DEFINITION. The DRAM's address map and the correction path of the memories: error records, write-backs, merged writes and injection
(12_memory.md R345 to R347, R354 to R360, R365). -/

namespace Sys2Proof.Machine

/-! ### Configuration and address map (R345 to R347) -/

/-- Populated channels, bytes of one device generation's channel, and the grain's exponent (R368). -/
def dmChannels (s : State) : Nat := if rdb s R.dmCfg 0 then 2 else 4
def dmGrain (s : State) : Nat := 8 + Nat.min 8 (rdf s R.dmCfg 7 4)
def dmBig (s : State) : Bool := rdf s R.dmCfg 2 1 != 0

/-- Bytes of the DRAM, and of its address space: the capacity less the 32 MiB of the spare region (R346). -/
def dmBytes (s : State) : Nat := dmChannels s * (if dmBig s then 64 * gib else 32 * gib)
def dmUsable (s : State) : Nat := dmBytes s - 32 * mib

/-- DM_CAP: reported once the block's configuration is locked. -/
def dmCapMib (s : State) : Nat := if rdb s R.dmLock 0 then dmUsable s / mib else 0

/-- Where an access lies (R347). -/
structure DramPlace where
  channel : Nat
  sub     : Nat
  group   : Nat
  bank    : Nat
  column  : Nat
  row     : Nat
deriving DecidableEq, Repr

/-- The address map for a grain of `2^g` bytes, `c` channels (a power of two) and 32-Gbit or 16-Gbit devices (R347). -/
def dramMap (g c : Nat) (big : Bool) (a : Nat) : DramPlace :=
  let l := a / 2 ^ g / c * 2 ^ g + a % 2 ^ g
  let x := l / 128 * 64 + l % 64
  { channel := a / 2 ^ g % c, sub := l / 64 % 2, group := bits x 8 6, bank := bits x 10 9, column := bits x 17 11,
    row := if big then bits x 34 18 else bits x 33 18 }

/-- The DRAM address that an access of the usable space reaches: a retired page lies in the spare region (R361). -/
def dramPhys (s : State) (a : Nat) : Nat :=
  match tfind s.dm.remap (a / 4096) with
  | none => a
  | some spare => dmUsable s + 4096 * spare + a % 4096

/-! ### Errors (R356 to R360) -/

/-- MI_ERR_INFO.REGION of a region (R368). -/
def MemRegionCode : MemRegion → Nat
  | .coreLocal => 0
  | .l2 => 1
  | .scarab => 2
  | .attic => 3
  | .zoneTable _ => 4
  | .larder _ => 5
  | .contexts => 6
  | .granData _ _ => 8
  | .granState => 9
  | .index _ => 10
  | .threshold _ => 11
  | .firmware => 12
  | .other => 13

/-- A record pushed into the error FIFO of 64 entries (R358). -/
def miPush (r : MemRec) (s : State) : State :=
  if s.dm.fifo.length < 64 then onDm (fun d => { d with fifo := d.fifo ++ [r] }) s
  else s |> wrb R.miErrStat 31 true |> raise 301 sevWarning []

/-- Whether the injection is armed for an access or word (R365). -/
def injArmed (s : State) (sram : Bool) (a : Nat) : Bool :=
  let tgt := rd s R.miInjTgt
  bit tgt 0 && (bit tgt 1 == sram) && (if sram then tgt / 8 == a / 8 else tgt / 64 == a / 64)

/-- The write-back of a corrected access, which fires an injection armed for it (R356, R365). The mask's errors then stand in the
access: in one device or bit a correctable one, in more an uncorrectable one. -/
def memWriteBack (sram : Bool) (a : Nat) (s : State) : State :=
  let tgt := rd s R.miInjTgt
  let hit := injArmed s sram a
  let s := onDm (fun d => { d with injected := tdel (2 * a + sram.toNat) d.injected }) s
  if !hit then s else
  let mask := rd s R.miInjMask
  let parts := if sram then (List.range 64).filter (bit mask ·) else (List.range 10).filter (fun k => bits mask (4 * k + 3) (4 * k) != 0)
  s |> wrb R.miInjTgt 0 false
    |> raise 302 sevInfo (words64 (tgt - bits tgt 2 0))
    |> (match parts with
        | [] => id
        | [k] => onDm (fun d => { d with injected := tset (2 * a + sram.toNat) k d.injected })
        | _ => onDm (fun d => { d with bad := (2 * a + sram.toNat) :: d.bad }))

/-- The times of the last errors with RECUR in a page, within 24 h (R360). -/
def recurAdd (a tb : Nat) (t : List (Nat × List Nat)) : List (Nat × List Nat) :=
  tset (a / 4096) (tb :: (tget [] t (a / 4096)).filter (fun x => decide (tb < x + 86400000000000))) t

/-- Whether firmware retires a page now: three errors with RECUR in 24 h (R360). -/
def retireDue (s : State) (page : Nat) : Bool := decide (3 ≤ (tget [] s.dm.recurs page).length)

/-- A corrected error (R358, R359): counted and recorded. -/
def noteCorrected (sram : Bool) (region : MemRegion) (a dev src : Nat) (s : State) : State :=
  let p := dramMap (dmGrain s) (dmChannels s) (dmBig s) (dramPhys s a)
  let recur := !sram && s.dm.recent.contains (a / 64)
  s |> count (R.miCnt (if sram then 2 else 0)) R.miOvf (if sram then 2 else 0) 1
    |> miPush { sram := sram, recur := recur, src := src, ch := if sram then 0 else p.channel, sub := if sram then 0 else p.sub,
                dev := if sram then 15 else dev, region := MemRegionCode region, addr := a }
    |> (if sram then raise 297 sevInfo (MemRegionCode region :: words64 a)
        else raise 288 sevInfo (words64 a ++ [p.channel]))
    |> onlyIf recur (fun t => t |> raise 290 sevWarning (words64 a)
         |> onDm (fun d => { d with recurs := recurAdd a t.ck.tb d.recurs }))
    |> onlyIf (!sram) (onDm (fun d => { d with recent := (a / 64 :: d.recent).take 256 }))

/-- A corrected error of a read: recorded, and the corrected word written back (R356). -/
def memCorrected (sram : Bool) (region : MemRegion) (a dev src : Nat) (s : State) : State :=
  s |> noteCorrected sram region a dev src |> memWriteBack sram a

/-- The record of an uncorrectable error (R357, R358); it is never written back. -/
def memUncorrectable (sram : Bool) (region : MemRegion) (a src : Nat) (s : State) : State :=
  let p := dramMap (dmGrain s) (dmChannels s) (dmBig s) (dramPhys s a)
  s |> count (R.miCnt (if sram then 3 else 1)) R.miOvf (if sram then 3 else 1) 1
    |> miPush { sram := sram, ue := true, src := src, ch := if sram then 0 else p.channel, sub := if sram then 0 else p.sub,
                dev := 15, region := MemRegionCode region, addr := a }
    |> (if sram then raise 298 sevError (MemRegionCode region :: words64 a)
        else raise 289 sevError (words64 a ++ [MemRegionCode region]))
    |> onDm (fun d => { d with bad := if d.bad.contains (2 * a + sram.toNat) then d.bad else (2 * a + sram.toNat) :: d.bad })

/-- A region that a page of the DRAM may serve: which one, firmware's layout says, and the free value `r` stands for it. -/
def someRegion (r : Nat) : MemRegion :=
  [MemRegion.granData 0 0, .granState, .index 0, .threshold 0, .firmware, .other].getD (r % 6) .other

/-- Whether an error stands in the access or word at an address. -/
def memBad (s : State) (sram : Bool) (a : Nat) : Bool :=
  s.dm.bad.any (fun x => x % 2 == sram.toNat && x / 2 / (if sram then 8 else 64) == a / (if sram then 8 else 64))

/-- A write of a whole access or word: what stood in it is gone, and an injection armed for it fires (R365). -/
def memFull (sram : Bool) (a : Nat) (s : State) : State :=
  let unit := if sram then 8 else 64
  s |> onDm (fun d => { d with bad := d.bad.filter (fun x => !(x % 2 == sram.toNat && x / 2 / unit == a / unit)),
                               injected := d.injected.filter (fun p => !(p.1 % 2 == sram.toNat && p.1 / 2 / unit == a / unit)) })
    |> memWriteBack sram a

/-- A write narrower than an access or word (R356): its merge read corrects and records an error, or finds an uncorrectable one, which
refuses the write; the write fires an injection armed for the place (R365). -/
def mergeWrite (sram : Bool) (region : MemRegion) (a : Nat) (s : State) : State :=
  if memBad s sram a then memUncorrectable sram region a 3 s else
  let dev := s.dm.injected.find? (fun p => p.1 == 2 * a + sram.toNat)
  s |> whenSome dev (fun p => noteCorrected sram region a p.2 3) |> memWriteBack sram a

end Sys2Proof.Machine
end

