-- ==== Sys2Proof/Machine/DieOps.lean ====
section
/-! DEFINITION. The dies of a flash channel: their queues, completions, waiting posts and token requests, and what a park and HOLDUP entry do
to them (07_flash_channels.md R192, R193, R200 to R203, R210, R215, R537). -/

namespace Sys2Proof.Machine

/-! ### Dies and channels (R192, R193) -/

def dieOf (s : State) (dk : Nat) : Die := tget {} s.fl.dies dk
def modDie (dk : Nat) (f : Die → Die) (s : State) : State := onFl (fun x => { x with dies := tmod {} dk f x.dies }) s
def modChan (ch : Nat) (f : Chan → Chan) (s : State) : State := onFl (fun x => { x with chans := tmod {} ch f x.chans }) s

/-- Volume, LUN and CE_N of a die index, and the die indexes that the board fits on a channel. -/
def dieVolume (die : Nat) : Nat := die / 4
def dieLun (die : Nat) : Nat := die % 4
def dieCe (die : Nat) : Nat := dieVolume die / 4
def fittedDies (b : Board) : List Nat := (List.range 64).filter (fun d => decide (dieVolume d < b.volumes ∧ dieLun d < b.luns))

/-- Volume Select before an operation, unless the volume is selected already (R192). -/
def selectVolume (ch die : Nat) (s : State) : State := modChan ch (fun c => { c with vol := some (dieVolume die) }) s

/-- WP_N (R193): high in RUNNING and HOLDUP where a usable die may be programmed, but not in CELLAR (16_power_thermal.md R439). -/
def wpHigh (s : State) (ch : Nat) : Bool :=
  let c := chanOf s ch
  (c.st == .running || c.st == .holdup) && (List.range 64).any (fun d => bit c.usable d && !bit c.failed d) && s.pw.mode != 7

/-- The even and odd event sources of a channel (R218). -/
def evEven (ch : Nat) : Nat := 128 + 2 * ch
def evOdd (ch : Nat) : Nat := 129 + 2 * ch

/-! ### Completions and queues (R201 to R203, R537) -/

/-- A descriptor's completion returned to its issuer, with the bit counts of a calibration read (R206); the sequencer's own operations have none. -/
def fcplWith (counts : List Nat) (ch : Nat) (d : Desc) (who : Issuer) (st : Nat) (s : State) : State :=
  onlyIf (who != .sequencer) (onFl (fun f => { f with cpls := f.cpls ++ [{ ch := ch, tag := d.tag, status := st, who := who, counts := counts }] })) s
def fcpl (ch : Nat) (d : Desc) (who : Issuer) (st : Nat) (s : State) : State := fcplWith [] ch d who st s

/-- The agents that post descriptors (R537): the zone engine 0, firmware 1, the dump engine 2 and the band assembler of each quadrant from 3
on; the sequencers' own operations wait for nobody. -/
def agentOf (ch : Nat) : Issuer → Option Nat
  | .hostRead _ _ _ | .constituent _ => some 0
  | .background _ | .patrol _ | .firmware => some 1
  | .dump => some 2
  | .assembler _ => some (3 + ch / 16)
  | .sequencer => none

/-- Whether a descriptor is a read of the recovery ladder beyond its first step (R222). -/
def isLadder (s : State) (d : Desc) : Bool := (tfind s.fl.jobs d.tag).any (fun j => decide (2 ≤ j.step))

/-- The agent that posted a descriptor: of the ladder's reads those of step 2 come from the LDPC decoders (7), those of later steps from firmware
(R206, R222). -/
def posterOf (s : State) (ch : Nat) (e : Desc × Issuer) : Option Nat :=
  match tfind s.fl.jobs e.1.tag with
  | some j => if j.step = 2 then some 7 else if 3 ≤ j.step then some 1 else agentOf ch e.2
  | none => agentOf ch e.2

/-- Entries that each die queue holds (R201). -/
def queueCap (q : Nat) : Nat := [32, 4, 2, 8].getD q 0

/-- Whether a die queue has room for one entry more. -/
def hasEntry (x : Die) (q : Nat) : Bool := decide ((x.q.filter (fun e => e.1.queue == q)).length < queueCap q)

/-- Waiting posts enter their queues, those to the head first, in the order in which they began to wait, as far as there is room (R537). -/
def pumpPosts (dk : Nat) (s : State) : State :=
  modDie dk (fun x =>
    let x := x.heads.foldl (fun y e => if hasEntry y e.1.queue then { y with q := e :: y.q } else { y with heads := y.heads ++ [e] }) { x with heads := [] }
    x.posts.foldl (fun y e =>
      if hasEntry y e.1.queue && !(y.posts.any (fun p => p.1.queue == e.1.queue)) then { y with q := y.q ++ [e] } else { y with posts := y.posts ++ [e] })
      { x with posts := [] }) s

/-- Every descriptor of a die that is not issued. -/
def unissued (x : Die) : List (Desc × Issuer) := x.q ++ x.heads ++ x.posts

/-- Whether an agent is held: a post of its own waits for room, or for an earlier one that does (R537). -/
def agentHeld (s : State) (a : Option Nat) : Bool :=
  a.isSome && (s.fl.dies.any (fun d => (d.2.heads ++ d.2.posts).any (fun e => posterOf s (d.1 / 64) e == a)) ||
               s.fl.heldPosts.any (fun e => posterOf s e.1 e.2 == a))

/-- A descriptor added to a die queue, or left waiting for room. -/
def enqueue (dk : Nat) (e : Desc × Issuer) (s : State) : State :=
  s |> modDie dk (fun x => { x with posts := x.posts ++ [e] }) |> pumpPosts dk
def enqueueHead (dk : Nat) (e : Desc × Issuer) (s : State) : State :=
  s |> modDie dk (fun x => { x with heads := x.heads ++ [e] }) |> pumpPosts dk

/-! ### Operations that are not issued -/

/-- A die's token requests withdrawn. -/
def withdraw (dk : Nat) (s : State) : State :=
  onFl (fun f => { f with rdReq := f.rdReq.filter (fun r => r.die != dk), peReq := f.peReq.filter (fun r => r.die != dk),
                          dumpReq := f.dumpReq.filter (fun r => r.die != dk) }) s

/-- Whether a die has chosen an operation that waits for its tokens. -/
def choosing (x : Die) : Bool := (x.cur.map (fun o => o.phase == .waitTokens)).getD false

/-- A choice or a resume that waits for tokens given up: the descriptor stays in its queue, the suspended operation suspended. -/
def unchoose (dk : Nat) (s : State) : State :=
  let x := dieOf s dk
  if choosing x || x.resuming then
    s |> modDie dk (fun x => { x with cur := if choosing x then none else x.cur, resuming := false }) |> withdraw dk
  else s

/-- Descriptors not issued that a test picks leave the die and complete with a status; their room goes to posts that wait (R203, R537). -/
def dropDescs (dk st : Nat) (p : Desc × Issuer → Bool) (s : State) : State :=
  let x := dieOf s dk
  let hit := (unissued x).filter p
  if hit.isEmpty then s else
  s |> onlyIf (choosing x && ((x.cur.map (fun o => hit.contains (o.d, o.who))).getD false)) (unchoose dk)
    |> modDie dk (fun y => { y with q := y.q.filter (fun e => !p e), heads := y.heads.filter (fun e => !p e), posts := y.posts.filter (fun e => !p e) })
    |> forEach hit (fun e => fcpl (dk / 64) e.1 e.2 st)
    |> pumpPosts dk

/-! ### Park, HOLDUP and stop (R200, R210, R215) -/

/-- The dies of channels in one of some states. -/
def diesIn (s : State) (p : ScState → Bool) : List Nat := s.fl.dies.filterMap (fun d => if p (chanOf s (d.1 / 64)).st then some d.1 else none)

/-- A firmware-domain reset: RUNNING sequencers park. Operations in progress finish, nothing new is issued and queued descriptors stay. -/
def parkFlash (s : State) : State :=
  s |> forEach (diesIn s (fun c => c == .running)) unchoose
    |> onFl (fun f => { f with chans := tmap (fun _ c => if c.st = .running then { c with st := .parked } else c) f.chans })

/-- HOLDUP entry at a die: an operation suspended ends, by a Reset LUN, and programs and erases not issued complete with HOLDUP; reads wait
unanswered. The spec names no status for the suspended operation: it is HOLDUP too (DESIGN CHOICE, notes/assumptions/33.md). -/
def holdupDie (dk : Nat) (s : State) : State :=
  let x := dieOf s dk
  s |> unchoose dk
    |> modDie dk (fun y => { y with susp := none, resetLun := y.resetLun || x.susp.isSome })
    |> forEach x.susp.toList (fun o => fcpl (dk / 64) o.d o.who 6)
    |> dropDescs dk 6 (fun e => e.1.op == 0x10 || e.1.op == 0x20)

/-- HOLDUP entry: the sequencers serve dump descriptors only, and every token is the dump's (01_architecture.md R28). -/
def flashHoldup (s : State) : State :=
  s |> forEach (s.fl.dies.map (fun d => d.1)) holdupDie
    |> onFl (fun f => { f with
         chans := tmap (fun _ c => if c.st = .running || c.st = .parked then { c with st := .holdup } else c) f.chans, poolDump := true })

/-- The sequencers in HOLDUP that a test picks stop: nothing more is issued (R200, R302). -/
def stopChans (p : Nat → Bool) (s : State) : State :=
  s |> forEach ((diesIn s (fun c => c == .holdup)).filter (fun dk => p (dk / 64))) unchoose
    |> onFl (fun f => { f with chans := tmap (fun ch c => if c.st = .holdup && p ch then { c with st := .stopped } else c) f.chans })
def stopFlash (s : State) : State := stopChans (fun _ => true) s

/-- The life time (08_flash_integrity.md R248). -/
def lifeTime (s : State) : Nat := s.fl.lifeStart + s.ck.tb

end Sys2Proof.Machine
end

