-- ==== Sys2Proof/Machine/Thresholds.lean ====
section
/-! DEFINITION. Read thresholds: the threshold table in the DRAM, program temperatures, compensation and the sets that a read is made at
(07_flash_channels.md R206, 08_flash_integrity.md R227 to R231). -/

namespace Sys2Proof.Machine

/-- The band and channel position that a die-block serves. -/
def bandOfBlk (s : State) (dk blk : Nat) : Option (Nat × Nat) :=
  let i := ((blkOf s dk blk).serves).getD blk
  let ch := dk / 64
  if 16 ≤ i && i < 16 + zoneBlocks s.board && servingBlk s dk i = blk then
    some (bandNo s (dieRow ch (dk % 64)) (i - 16), ch % 16)
  else none

/-! ### Temperatures (R229, R230) -/

/-- A signed byte from a value: saturated. -/
def clamp8 (v : Int) : Int := max (-128) (min 127 v)

/-- A signed byte read from its bits. -/
def signed8 (v : Nat) : Int := if 128 ≤ v % 256 then (v % 256 : Int) - 256 else (v % 256 : Int)

/-- The group of a wordline, and the program temperature of a band for it. -/
def tempGroup (b : Board) (wl : Nat) : Nat := wl / Nat.max 1 (b.wordlines / 8)
def progTemp (s : State) (b wl : Nat) : Option Int := tfind (bandOf s b).temps (tempGroup s.board wl)

/-- T_read − T_prog, clamped: 0 until the group's sample is recorded, and until the die's temperature has been read (for which the spec has no
words: DESIGN CHOICE, notes/assumptions/33.md). -/
def tempDiff (s : State) (dk blk wl : Nat) : Int :=
  match (dieOf s dk).temp, (bandOfBlk s dk blk).bind (fun p => progTemp s p.1 wl) with
  | some r, some p => clamp8 (r - p)
  | _, _ => 0

/-- THR of a read at the tracked set, with the TCOMP that the zone engine sets (R228, R229). -/
def withTcomp (s : State) (dk : Nat) (d : Desc) : Nat :=
  if bit d.thr 15 then d.thr else d.thr - d.thr % 256 + twos 8 (tempDiff s dk d.block d.wl)

/-- The temperature difference that THR gives: 0 with EXPLICIT (R228). -/
def tcompOf (thr : Nat) : Int := if bit thr 15 then 0 else signed8 thr

/-- The compensation of a reference for a temperature difference; the floor rounds towards minus infinity (R229). -/
def compAt (s : State) (dens : Nat) (t : Int) (j : Nat) : Int := (t * ((s.board.slopes.getD dens []).getD j 0)) / 16
def compOf (s : State) (dens thr j : Nat) : Int := compAt s dens (tcompOf thr) j

/-- The offset that the sequencer applies to a reference (R229). -/
def appliedOff (s : State) (dens thr j : Nat) (off : Int) : Int := clamp8 (off + compOf s dens thr j)

/-! ### Sets (R206, R227, R228) -/

/-- References of a density: 1, 7, 15 or 31. -/
def refCount (dens : Nat) : Nat := 2 ^ bitsPerCell dens - 1

/-- Key of a die-block's tracked set, and its offsets: all 0 while VALID is 0. -/
def thrKey (dk blk : Nat) : Nat := 4096 * dk + blk
def trackedOffs (s : State) (dk blk dens : Nat) : List Int :=
  let t := tget ({} : ThrSet) s.fl.thr (thrKey dk blk)
  (List.range (refCount dens)).map (fun j => if t.valid then t.off.getD j 0 else 0)

/-- The offsets that a read applies: those of the tracked set with TCOMP, or those of the explicit set that THR names. -/
def readSet (s : State) (dk : Nat) (d : Desc) : List Int :=
  if bit d.thr 15 then
    let t := tget [] (dieOf s dk).explicit (bits d.thr 11 8)
    (List.range (refCount d.dens)).map (fun j => t.getD j 0)
  else (trackedOffs s dk d.block d.dens).mapIdx (fun j o => appliedOff s d.dens d.thr j o)

/-- The sets that an operation reads at: a soft read at two, shifted below and above by the soft step (R206), which step 4 of the ladder
doubles (R222). -/
def opSets (s : State) (dk : Nat) (d : Desc) : List (List Int) :=
  if d.op = 2 then
    let k : Nat := if ((tfind s.fl.jobs d.tag).map (fun j => j.step)) == some 4 then 2 else 1
    let h : Int := ((k * s.board.softSteps.getD d.dens 0 : Nat) : Int)
    [(readSet s dk d).map (fun o => clamp8 (o - h)), (readSet s dk d).map (fun o => clamp8 (o + h))]
  else if d.op = 1 || d.op = 3 then [readSet s dk d]
  else []

/-- The last 16 tracked sets used, with one more. -/
def usedSet (blk : Nat) (l : List Nat) : List Nat := (blk :: l.filter (fun b => b != blk)).take 16

/-- The tracked set that a read uses comes into the die state, fetched from the table where it is not there (R228). -/
def trackSet (dk : Nat) (d : Desc) (s : State) : State :=
  onlyIf (decide (1 ≤ d.op ∧ d.op ≤ 3) && !bit d.thr 15) (modDie dk (fun x => { x with tracked := usedSet d.block x.tracked })) s

/-- An explicit set that firmware writes into the die state (R228). -/
def writeExplicit (dk k : Nat) (offs : List Int) (s : State) : State := modDie dk (fun x => { x with explicit := tset (k % 16) offs x.explicit }) s

/-! ### The table in the DRAM (R227) -/

/-- The 32 bytes of a set, and the set that 32 bytes hold. -/
def thrBytes (t : ThrSet) : List Byte :=
  (List.range 31).flatMap (fun j => leBytes 1 (twos 8 (t.off.getD j 0))) ++ leBytes 1 (t.valid.toNat + 2 * t.dirty.toNat)
def thrOfBytes (l : List Byte) : ThrSet :=
  { off := (List.range 31).map (fun j => signed8 (fieldAt l j 1)), valid := bit (fieldAt l 31 1) 0, dirty := bit (fieldAt l 31 1) 1 }

/-- A set as the table keeps it: all 31 entries, or none where every byte is zero. -/
def thrNorm (t : ThrSet) : ThrSet :=
  let v := (List.range 31).map (fun j => t.off.getD j 0)
  { t with off := if v.all (fun o => o == 0) then [] else v }

/-- The usable dies of the device in the order of the table: channel, die. -/
def thtDies (s : State) : List Nat :=
  s.fl.chans.flatMap (fun c => ((List.range 64).filter (bit c.2.usable)).map (fun d => 64 * c.1 + d))

/-- Base of the table in the DRAM; the byte address of a die-block's set. -/
def thtBase (s : State) : Nat := rd s R.ldThtBase / 32 * 32
def thtAddr (s : State) (dk blk : Nat) : Nat := thtBase s + 32 * ((thtDies s).idxOf dk * s.board.dieBlocks + blk)

/-- The set that a DRAM address lies in: its key, and the byte within it. -/
def thtAt (s : State) (a : Nat) : Option (Nat × Nat) :=
  let n := (a - thtBase s) / 32
  if a < thtBase s || (thtDies s).length * s.board.dieBlocks ≤ n then none
  else some (thrKey ((thtDies s).getD (n / s.board.dieBlocks) 0) (n % s.board.dieBlocks), (a - thtBase s) % 32)

/-- A word that reaches the DRAM: where it lies in the table it changes a set (R228). -/
def thtWrite (a v : Nat) (s : State) : State :=
  match thtAt s (a / 4 * 4) with
  | none => s
  | some (k, o) =>
    let l := thrBytes (tget {} s.fl.thr k)
    onFl (fun f => { f with thr := tput {} k (thrNorm (thrOfBytes (l.take o ++ leBytes 4 v ++ l.drop (o + 4)))) f.thr }) s

/-- A set stored for a die-block: the measured offsets less the compensation of their temperatures (R231). -/
def storeThr (dk blk dens : Nat) (t : Int) (offs : List Int) (s : State) : State :=
  let v := (offs.take 31).mapIdx (fun j o => clamp8 (o - compAt s dens t j))
  onFl (fun f => { f with thr := tput {} (thrKey dk blk) (thrNorm { off := v, valid := true, dirty := false }) f.thr }) s

/-- DIRTY of a die-block's set (R226). -/
def markDirty (dk blk : Nat) (s : State) : State :=
  onFl (fun f => { f with thr := tmod {} (thrKey dk blk) (fun t => { t with dirty := true }) f.thr }) s

end Sys2Proof.Machine
end

