-- ==== Sys2Proof/Machine/Modes.lean ====
section
/-! DEFINITION. Power domains and modes, and what every reset keeps and clears: the operations behind all mode changes
(16_power_thermal.md R432 to R443, 10_granary.md R297, 18_bring_up.md R486 to R489, 14_control.md R383, R403). -/

namespace Sys2Proof.Machine

/-! ### Modes (R435) -/

def mOff : Nat := 0
def mBoot : Nat := 1
def mSelftest : Nat := 2
def mLoad : Nat := 3
def mRun : Nat := 4
def mCapped : Nat := 5
def mDoze : Nat := 6
def mCellar : Nat := 7
def mHoldup : Nat := 8
def mQuiesce : Nat := 9
def mSafe : Nat := 10
def mHalt : Nat := 11

/-- Codes of PW_MODE.CAUSE (R456). -/
def cSequence : Nat := 0
def cFirmware : Nat := 1
def cCap : Nat := 2
def cWake : Nat := 3
def cCrit : Nat := 4
def cSafe : Nat := 5
def cHoldup : Nat := 6
def cShutdown : Nat := 7
def cManagement : Nat := 8

/-- Normal service, and service at all. -/
def serving (s : State) : Bool := s.pw.mode == mRun || s.pw.mode == mCapped
def inService (s : State) : Bool := serving s || s.pw.mode == mSafe

/-- The device is between SELFTEST and ready: in LOAD, or in SAFE when a SAFE cause came in LOAD (R436, R442). -/
def starting (s : State) : Bool := s.pw.mode == mLoad || (s.pw.mode == mSafe && !s.gr.armedOk)

/-- "Active" modes of R436. -/
def active (s : State) : Bool :=
  s.pw.mode == mLoad || serving s || s.pw.mode == mDoze || s.pw.mode == mCellar || s.pw.mode == mQuiesce || s.pw.mode == mSafe

/-! ### Loss of a domain's contents (R433, R488) -/

/-- The stored registers of an address range at their reset values. -/
def resetRegs (keep : Nat → Bool) (s : State) : State :=
  onRf (fun f => { f with regs := f.regs.filter (fun p => keep (p.1 % 4294967296)) }) s

/-- Whether an address lies outside the blocks of a domain. -/
def outsideDomain (k : Nat) (addr : Nat) : Bool :=
  match blkAt addr with
  | none => true
  | some (b, ch) => blkDomain b ch != some k

/-- Key slots at POR and warm reset: key, salt and shadow are zeroed, and the registers of the cipher block return to their reset values, the
counter among them; firmware restores it from the recorded ceiling (06_cipher.md R170, R174, R188). -/
def zeroSlots (s : State) : State :=
  onCi (fun c => { c with
    slots := tmap (fun _ k => ({ keyGen := k.keyGen, recorded := k.recorded } : Slot)) c.slots,
    kwKey := [], kwSalt := 0, kwFloor := 0, kwRefused := false }) s

/-- A channel's sequencer without power: queues and descriptors are abandoned (07_flash_channels.md R200). -/
def chanOff (ch : Nat) (s : State) : State :=
  onFl (fun f => { f with
    chans := tmod {} ch (fun c => { c with st := .off, usable := 0, failed := 0, uc := [], initDone := [], volumes := [], vol := none }) f.chans,
    heldPosts := f.heldPosts.filter (fun p => p.1 != ch),
    dies := f.dies.filter (fun p => p.1 / 64 != ch),
    rdReq := f.rdReq.filter (fun r => r.die / 64 != ch),
    peReq := f.peReq.filter (fun r => r.die / 64 != ch),
    dumpReq := f.dumpReq.filter (fun r => r.die / 64 != ch) }) s

/-- The sessions of the links lost and every link OFF (11_balwen.md R319). -/
def linksOff (s : State) : State :=
  s |> onPb (fun p => { p with links := tmap (fun _ _ => {}) p.links, sessions := [] }) |> dropChunks (fun _ _ _ => true)

/-- Queues, contexts and controller registers gone; grants, shares and resources stay (R487). -/
def engineLost (s : State) : State :=
  s |> onCe (fun e => { e with
         ctxs := [], sqs := [], cqs := [], fetchStop := true, turn := 0, paused := [],
         fns := tmap (fun _ f => { f with en := false, rdy := false, cfs := false, shn := false, shst := 0, squash := none,
                                          deficit := 0, freezeMasked := false, asyncEvents := [], tempThreshold := 368,
                                          tempCrossed := false }) e.fns })
    |> zeroSlots
    |> onLr (fun _ => {})
    |> onFl (fun f => { f with jobs := [], ewq := [], cpls := [], rdHeld := 0, peHeld := 0, dumpHeld := 0, poolDump := false,
                               rdReq := [], peReq := [], dumpReq := [] })
    |> onCtl (fun c => { c with boxes := [] })

/-- What a domain loses when it goes OFF, the words of its SRAM among it (14_control.md R384). -/
def powerOff (k : Nat) (s : State) : State :=
  let s := s |> resetRegs (outsideDomain k) |> onlyIf (k ≤ 1) (onDm (fun m => { m with
    sram := m.sram.filter (fun w => if k = 0 then !decide (0x00800000 ≤ w.1 ∧ w.1 < 0x00C00000) else !decide (0x01000000 ≤ w.1)) }))
  if k = 0 then onCtl (fun c => { c with l2 := [], l2data := [], cores := tmap (fun _ x => { x with running := false, halted := false }) c.cores }) s
  else if k = 1 then engineLost s
  else if k ≤ 9 then forEach (List.range 8) (fun i => chanOff (8 * (k - 2) + i)) s
  else if k = 10 then onDm (fun m => { m with remap := [], used := 0, zeroing := false, zeroDone := false, fifo := [], dram := [] }) s
  else if k = 12 then linksOff s
  else s

/-- A domain brought to a state by the mode controller, which writes the window (R455). -/
def setDom (k v : Nat) (s : State) : State :=
  s |> onlyIf (v == 0 && domState s k != 0) (powerOff k)
    |> onPw (fun p => { p with doms := tput 0 k v p.doms })
    |> winSet (pwSwOff k) v

/-- The state of domain `k` in a mode (R435), from the state it is in: in RUN, CAPPED and DOZE a FLASH_k or PEERIF that is
OFF stays OFF; in CELLAR what is ON is retained. -/
def domIn (mode k cur : Nat) : Nat :=
  if mode = mOff then 0
  else if mode = mBoot then (if k = 0 || k = 11 then 2 else 0)
  else if mode = mSelftest then (if k = 12 then 0 else 2)
  else if mode = mRun || mode = mCapped || mode = mDoze then
    (if (2 ≤ k && k ≤ 9) || k = 12 then (if cur = 0 then 0 else 2) else 2)
  else if mode = mCellar then (if cur = 0 then 0 else 1)
  else if mode = mHoldup then (if k = 0 || k = 11 then 0 else if k = 12 then cur else 2)
  else if mode = mHalt then (if k = 11 then 2 else 0)
  else 2

/-- Every domain brought to its state in a mode. -/
def setDoms (mode : Nat) (s : State) : State :=
  forEach (List.range 13) (fun k t => setDom k (domIn mode k (domState t k)) t) s

/-- A change of mode (R436): PW_MODE, event source 10 and the domains. -/
def setMode (mode cause : Nat) (s : State) : State :=
  let old := s.pw.mode
  s |> onPw (fun p => { p with prev := old, mode := mode, cause := cause })
    |> raise 10 sevInfo [old, mode, cause]
    |> setDoms mode

/-- A request that the table of R436 does not allow: refused. -/
def refuseMode (mode : Nat) (s : State) : State :=
  s |> wrb R.pwReq 16 true |> raise 11 sevInfo [mode]

/-- RUN, or CAPPED while FT_CAP_LIM is not zero (R436, R444). -/
def serviceMode (s : State) : Nat := if rdf s R.ftCapLim 16 0 = 0 then mRun else mCapped

/-- Service begun (R436), with event source 19 where CAPPED is entered. -/
def toService (s : State) : State :=
  s |> setMode (serviceMode s) cSequence |> onlyIf (serviceMode s == mCapped) (raise 19 sevInfo [rdf s R.ftCapLim 16 0])

/-! ### Orderly stop, SAFE and HALT (R441 to R443) -/

/-- PW_MODE.CAUSE of an orderly stop. -/
def StopCause.code : StopCause → Nat
  | .shutdown => cShutdown
  | .management => cManagement
  | .request => cFirmware
  | .halt => cFirmware
  | .crit => cCrit
  | .domain => cSequence
  | .warmReset => cManagement

/-- QUIESCE entered: fetching stops on every function (R441 step 1). -/
def quiesce (why : StopCause) (s : State) : State :=
  s |> setMode mQuiesce why.code
    |> raise 18 sevInfo [why.code]
    |> onPw (fun p => { p with stop := some why, stopTested := false, stopDone := false, entering := false, waking := false })
    |> onCe (fun e => { e with fetchStop := true })

/-- mhartid and cluster of a core, and the address that it starts at, in the boot ROM (R382). -/
def mhartid (n : Nat) : Nat := n
def clusterOf (n : Nat) : Nat := n / 4
def resetVector : Nat := 0

/-- The control cores start again: every core that is not fenced runs from its boot ROM, in machine mode. -/
def coresRun (cluster : Option Nat) (s : State) : State :=
  onCtl (fun c => { c with cores := (List.range 16).foldl (fun t n =>
    if cluster = none || cluster = some (n / 4) then
      tmod {} n (fun x : Core => { running := !x.fenced, fenced := x.fenced }) t else t) c.cores }) s

/-- Every watchdog restarts from 0 (14_control.md R404). -/
def restartDogs (s : State) : State := onCtl (fun c => { c with dogs := [] }) s

/-- Links with EN set retrain after a wake (R439). -/
def linksRetrain (s : State) : State :=
  forEach (s.pb.links.filterMap (fun l => if l.2.st = .up then some l.1 else none)) (fun n t =>
    t |> onPb (fun p => { p with links := talter n (fun l => { l with st := .training, retryWait := false }) p.links }) |> raise (388 + n) sevWarning []) s

/-- Every domain clock on FIRC after a wake, with the window showing it (01_architecture.md R34); while FIRC is not READY the domains stay
gated. The command engine does not fetch until firmware has switched ENGINE, FLASH, FABRIC and DRAMC (R35). -/
def wakeClocks (s : State) : State :=
  s |> forEach (List.range 6) (fun d t => t |> winSet (clkSelOff d) (setBits (winVal t (clkSelOff d)) 0 0 0)
         |> onCk (fun c => { c with dsrc := tput 0 d (if c.fircRdy then 0 else 2) c.dsrc, handing := tdel d c.handing }))
    |> onPw (fun p => { p with wakeHold := true })

/-- DOZE left for the mode it was entered from (R438), with the place of the wake source. -/
def dozeLeft (src : Nat) (s : State) : State :=
  s |> setMode s.pw.backTo cWake |> raise 15 sevInfo [Config.eventParam 15 src] |> wakeClocks |> restartDogs

/-- CELLAR left (R439, R424): power returns to every RET domain, FIRC and XA start, every domain clock takes FIRC once it is
READY, and the Balwen links retrain. -/
def cellarLeft (src : Nat) (s : State) : State :=
  s |> setMode s.pw.backTo cWake
    |> onPw (fun p => { p with waking := true })
    |> raise 15 sevInfo [Config.eventParam 15 src]
    |> wakeClocks
    |> linksRetrain
    |> onDm (fun d => { d with refresh := d.refresh + 1 })
    |> restartDogs

/-- DOZE or CELLAR left before another mode is entered (R436): domains ON again in the mode it was entered from. The wake
source is none of the lists of R438 and R439 (place 9). From CELLAR, FIRC has become READY and the domains run from it (R424 step 2); the
time base is caught up at the next XA_READY. -/
def wakeFirst (s : State) : State :=
  if s.pw.mode = mDoze then dozeLeft 9 s
  else if s.pw.mode = mCellar then
    s |> cellarLeft 9
      |> onCk (fun c => { c with fircRdy := true, dsrc := [] })
      |> coresRun none
      |> onPw (fun p => { p with waking := false })
  else s

/-- HALT entered (R443): every controller reports CFS and fetches nothing. -/
def halt (cause : Nat) (s : State) : State :=
  s |> setMode mHalt cause
    |> raise 17 sevCritical [0, twos 32 s.pw.comp]
    |> onCe (fun e => { e with fetchStop := true, fns := (List.range 2052).foldl (fun t k =>
         if (tget (fnDflt k) e.fns k).present then tmod (fnDflt k) k (fun f => { f with cfs := true }) t else t) e.fns })
    |> onPw (fun p => { p with stop := none, stopTested := false, stopDone := false, entering := false, waking := false })

/-- The commands that SAFE ends with 0x0/0x20 when they have not reached their commit point (R442): Write, Write Zeroes, Copy,
Zone Management Send, Zone Append, Zone Shape and Peer Copy. -/
def safeStops (x : Ctx) (c : Nat) : Bool :=
  decide (ioCtx ≤ c) && !x.tunnel && (x.st == .fetched || x.st == .started) &&
  [0x01, 0x08, 0x19, 0x79, 0x7D, 0x81, 0x85].contains x.e.opc

def safeStarted (s : State) : List Nat :=
  s.ce.ctxs.filterMap (fun p => if safeStops p.2 p.1 && p.2.st == .started then some p.1 else none)

/-- Writes that SAFE ends before their commit point give up their places in their zones and their keys; each zone's validation
pointer returns to the end of the writes that go on (02_zones.md R60). -/
def safeDrop (cs : List Nat) (s : State) : State :=
  let ends (q : List Nat) (wp : Nat) : Nat := match q.getLast?.bind (ctxOf s) with
    | some x => x.first + x.nlb
    | none => wp
  s |> onZe (fun e => { e with
         bandWait := e.bandWait.filter (fun c => !cs.contains c),
         zones := tmap (fun _ z =>
           let z := { z with waiting := z.waiting.filter (fun c => !cs.contains c) }
           if z.queue.any cs.contains then
             let q := z.queue.filter (fun c => !cs.contains c)
             { z with queue := q, vp := ends q z.wp, tickets := z.tickets.filter (fun t => t.applied || !cs.contains t.ctx) }
           else z) e.zones })
    |> onGr (fun g => { g with waiters := g.waiters.filter (fun c => !cs.contains c) })
    |> forEach cs dropKeys

/-- SAFE entered (R442): an orderly stop is given up, with its event and the SMART / Health asynchronous event. `cause` is coded under R534. -/
def safe (cause : Nat) (s : State) : State :=
  let s := if s.pw.mode = mDoze then wakeFirst s else s
  s |> onlyIf s.pw.stop.isSome (onCe (fun e => { e with fetchStop := false }))
    |> setMode mSafe cSafe
    |> raise 16 sevCritical [cause]
    |> onPw (fun p => { p with safeCause := cause, safePending := false, stop := none, stopTested := false, stopDone := false, entering := false })
    |> safeDrop (safeStarted s)
    |> forEach (safeStarted s) (fun c => fail c stProtected)
    |> sendAsyncAll (1, 0, 2)

/-- A SAFE cause (R436): it acts in LOAD, RUN, CAPPED, DOZE and QUIESCE; before that it waits for the end of LOAD (R499). -/
def safeCause (cause : Nat) (s : State) : State :=
  if s.pw.mode = mLoad || serving s || s.pw.mode = mDoze || s.pw.mode = mQuiesce then safe cause s
  else if s.pw.mode = mBoot || s.pw.mode = mSelftest then onPw (fun p => { p with safePending := true, safeCause := cause }) s
  else s

/-- What CRIT leads to (R452): QUIESCE, then HALT. In QUIESCE the stop becomes CRIT's; one that is done already goes on to HALT (R436). -/
def crit (s : State) : State :=
  if inService s then quiesce .crit s
  else if s.pw.mode = mDoze || s.pw.mode = mCellar then quiesce .crit (wakeFirst s)
  else if s.pw.mode = mQuiesce then (if s.pw.stopDone then halt cCrit s else onPw (fun p => { p with stop := some .crit }) s)
  else s

/-! ### HOLDUP (10_granary.md R296 to R300) -/

/-- Occupied segments (GR_OCC.SEGS). Before recovery has loaded a dump the Granary holds nothing. -/
def segCount (s : State) : Nat :=
  if s.pw.mode = mOff || s.pw.mode = mBoot || s.pw.mode = mSelftest || (starting s && !s.gr.recovered) then 0
  else s.gr.segs.length

/-- Segment kinds that the dump writes: all but running parity (R300). -/
def dumpedSeg (g : Seg) : Bool := g.kind != 2

/-- The dump as HOLDUP entry freezes it: the state region, then the other segments, each in the order of their allocation (R297, R300). -/
def newDump (cause : Nat) (s : State) : Dump :=
  let isState (g : Nat × Seg) : Bool := g.2.kind == 3 || g.2.kind == 4
  let st := s.gr.segs.filter isState
  { id := s.gr.lastId + 1, zones := s.ze.zones, journal := s.fl.journal, slots := s.ci.slots,
    segs := st ++ s.gr.segs.filter (fun g => dumpedSeg g.2 && !isState g), stateSegs := st.length, dies := usableKeys s, cause := cause, time := s.ck.tb,
    mirror := s.pb.owners.flatMap (fun o => o.2.pages.map (fun p => (o.1, p))) }

/-- Moves of some duties given up at once, with event source 426: their target bands are free, and their keys are let go (R245). The generation
increments when the zone is next moved. -/
def abandonMoves (p : Nat → Bool) (reason : Nat) (s : State) : State :=
  forEach (s.ze.zones.filterMap (fun z => z.2.move.bind (fun m => if p m.duty then some (z.1, z.2.band.getD 0, m) else none))) (fun q t =>
    t |> modZone q.1 (fun z => { z with move := none })
      |> modBand q.2.2.target (fun x => { x with zone := none, erased := false, prog := [], issued := [], temps := [] })
      |> modBandBlks q.2.2.target (fun k => if k.st = 3 || k.st = 2 then { k with st := 0 } else k)
      |> forEach (q.2.2.keys.map (fun k => k.1)) settleSlot
      |> raise 426 sevWarning [q.2.1, Config.eventParam 426 reason]) s

/-- The MAC address of link `k` of a node (11_balwen.md R323). -/
def macOf (s : State) (node k : Nat) : Nat := 0x02 * 1099511627776 + rdf s R.pbEth 23 16 * 4294967296 + (node * 4 + k) % 4294967296

/-- A frame addressed for the link it goes out on: in Ethernet mode to the destination's link of the same plane (R323). -/
def addressed (s : State) (n : Nat) (f : TxFrame) : TxFrame :=
  if rdb s (R.plCtl n) 1 then { f with dmac := macOf s f.dst n, etype := rdf s R.pbEth 15 0 } else f

/-- A frame put on a link, and PL_CNT_n_0. -/
def emit (n : Nat) (f : TxFrame) (s : State) : State :=
  s |> onPb (fun p => { p with sent := (n, addressed s n f) :: p.sent }) |> count (R.plCnt n 0) (R.plOvf n) 0 1

/-- Hold-up notices, three on each UP link to its peer and to a mirror partner or owner, after which the links are OFF
(11_balwen.md R319, R338). -/
def sendNotices (cause : Nat) (s : State) : State :=
  let ups := s.pb.links.filterMap (fun l => if l.2.st = .up then some (l.1, if l.2.known && !rdb s (R.plCtl l.1) 1 then [l.2.peer] else []) else none)
  let also := (if s.gr.mirEn then [s.gr.mirPartner] else []) ++ s.pb.owners.map (fun o => o.1)
  let f (l n : Nat) : TxFrame :=
    { typ := 0x30, src := rdf s R.pbNode 17 0, dst := n, cls := 0, ttl := if rdb s (R.plCtl l) 1 then 0 else 3, msg := [cause, s.ck.tb] }
  let out := ups.flatMap (fun l => (l.2 ++ also.filter (fun n => !l.2.contains n)).flatMap (fun n => [(l.1, f l.1 n), (l.1, f l.1 n), (l.1, f l.1 n)]))
  s |> forEach out (fun o => emit o.1 o.2) |> linksOff

/-- HOLDUP entered for a cause of R298, in every mode but OFF (R436); a device in HOLDUP stays as it is. From CELLAR no domain
wakes and nothing is dumped (R440); while no half is armed nothing is dumped (R304). -/
def holdup (cause : Nat) (s : State) : State :=
  if s.pw.mode = mOff || s.pw.mode = mHoldup then s else
  let fromCellar := s.pw.mode == mCellar
  let old := s.pw.mode
  let s := s |> onGr (fun g => { g with holdup := true, huCause := cause, huTestN := true,
                                        testing := false, testEnded := false, huIn := g.huIn && !rdb s R.lmCfg 4 })
  if fromCellar then
    s |> onPw (fun p => { p with prev := old, mode := mHoldup, cause := cHoldup, entering := false, waking := false })
      |> raise 10 sevInfo [old, mHoldup, cHoldup]
      |> onGr (fun g => { g with dumpSt := 2, endTime := s.ck.tb })
      |> abandonMoves (fun _ => true) 3 |> flashHoldup |> stopFlash |> linksOff
  else
    let d := newDump cause s
    let s := if s.gr.armedOk then
        s |> onGr (fun g => { g with halves := tset g.armed d g.halves, lastId := d.id, dumpSt := 1 })
          |> raise 359 sevCritical [cause, segCount s]
      else onGr (fun g => { g with dumpSt := 2, endTime := s.ck.tb }) s
    s |> abandonMoves (fun _ => true) 3
      |> flashHoldup
      |> onlyIf (s.gr.dumpSt == 2) stopFlash
      |> sendNotices cause
      |> onCe (fun e => { e with fetchStop := true })
      |> setMode mHoldup cHoldup
      |> setDom 12 0

/-! ### The L2s (14_control.md R383) -/

/-- Ways and sets of an L2 of 4 MiB, and the set of a line. -/
def l2Ways : Nat := 16
def l2Sets : Nat := 4096
def l2Set (a : Nat) : Nat := a / 64 % l2Sets

/-- Whether some L2 holds a line, and whether it is dirty there. -/
def l2Holds (s : State) (a : Nat) : Bool := s.ctl.l2.any (fun p => p.2.any (fun l => l.1 == a))
def l2Dirty (s : State) (a : Nat) : Bool := s.ctl.l2.any (fun p => p.2.any (fun l => l.1 == a && l.2))

/-- A word of the DRAM as it is stored, and a word stored there: the threshold table is kept as its sets (08_flash_integrity.md R227). -/
def dramLoad (s : State) (a : Nat) : Nat := match thtAt s (a / 4 * 4) with
  | some (k, o) => fieldAt (thrBytes (tget {} s.fl.thr k)) o 4
  | none => tget 0 s.dm.dram (a / 4)
def dramStore (a v : Nat) (s : State) : State := s |> onDm (fun d => { d with dram := tput 0 (a / 4) v d.dram }) |> thtWrite a v

/-- A dirty line written back, as a whole access of the DRAM; it stays in the L2s that hold it, clean. -/
def l2Clean (a : Nat) (s : State) : State :=
  if !l2Dirty s a then s else
  s |> memFull false a
    |> forEach (s.ctl.l2data.filter (fun w => w.1 / 64 == a / 64)) (fun w => dramStore w.1 w.2)
    |> onCtl (fun c => { c with l2 := tmap (fun _ l => l.map (fun x => if x.1 == a then (a, false) else x)) c.l2 })

/-- A line dropped from every L2, and from one; a line that no L2 holds has no copy of its words. -/
def l2Forget (a : Nat) (s : State) : State :=
  onlyIf (!l2Holds s a) (onCtl (fun c => { c with l2data := c.l2data.filter (fun w => w.1 / 64 != a / 64) })) s
def l2Inval (a : Nat) (s : State) : State :=
  s |> onCtl (fun c => { c with l2 := tmap (fun _ l => l.filter (fun x => x.1 != a)) c.l2 }) |> l2Forget a
def l2Evict (w a : Nat) (s : State) : State :=
  s |> l2Clean a |> onCtl (fun c => { c with l2 := tmod [] w (fun l => l.filter (fun x => x.1 != a)) c.l2 }) |> l2Forget a

/-- Zicbom's cache-block operations, which firmware's cores execute (R382, R383); no command of the table is one. -/
def cboClean (a : Nat) (s : State) : State := l2Clean (a / 64 * 64) s
def cboInval (a : Nat) (s : State) : State := l2Inval (a / 64 * 64) s
def cboFlush (a : Nat) (s : State) : State := s |> l2Clean (a / 64 * 64) |> l2Inval (a / 64 * 64)

/-- A line brought into a cluster's L2: the oldest of a full set makes room; its words come from the L2 that holds them, or from the DRAM. -/
def l2Fill (w a : Nat) (s : State) : State :=
  let mine := tget [] s.ctl.l2 w
  if mine.any (fun l => l.1 == a) then s else
  let set := mine.filter (fun l => l2Set l.1 == l2Set a)
  let s := onlyIf (decide (l2Ways ≤ set.length)) (l2Evict w ((set.head?.map (fun l => l.1)).getD 0)) s
  let s := onlyIf (!l2Holds s a) (forEach (List.range 16) (fun i t =>
    onCtl (fun c => { c with l2data := tset (a + 4 * i) (dramLoad t (a + 4 * i)) c.l2data }) t)) s
  onCtl (fun c => { c with l2 := tmod [] w (fun l => l ++ [(a, false)]) c.l2 }) s

/-- A cluster's L2 writes back its dirty lines before a reset of the cluster takes effect, and loses what it holds with it (R383). -/
def l2WriteBack (w : Nat) (s : State) : State :=
  s |> forEach ((tget [] s.ctl.l2 w).map (fun l => l.1)) (l2Evict w) |> onCtl (fun c => { c with l2 := tdel w c.l2 })

/-- A word that a core of a cluster writes: its line stands in that cluster's L2 alone, since the L2s are coherent. The L2 may write a line back
at any time (the free value says whether it does so now). -/
def l2Write (w at_ v : Nat) (s : State) : State :=
  let a := at_ / 64 * 64
  let now := freeVal s % 2 == 1
  s |> l2Fill w a
    |> onCtl (fun c => { c with l2 := tmap (fun k l => if k == w then l.map (fun x => if x.1 == a then (a, true) else x) else l.filter (fun x => x.1 != a)) c.l2,
                                l2data := tset (at_ / 4 * 4) v c.l2data })
    |> tookFree
    |> onlyIf now (l2Clean a)

/-! ### Resets (18_bring_up.md R486 to R489) -/

/-- The registers that a chip reset does not touch: those of the Attic interface block (R486). -/
def atticAddr (addr : Nat) : Bool := decide (addr / 65536 = 0x1008)

/-- What POR and a chip warm reset have in common (R487): every main domain starts afresh. `ze` and the band contents in it
stand for the flash until RECOVERY has run (notes/assumptions/9.md). -/
def resetMain (s : State) : State :=
  s |> onlyIf (s.gr.dumpSt == 1) (onGr (fun g => { g with halves := talter g.armed (fun d => { d with cut := true }) g.halves }))
    |> resetRegs atticAddr
    |> onRf (fun f => { f with stage := [], copies := [], voted := [] })
    |> engineLost
    |> onCe (fun e => { e with
         ports := [],
         fns := tmap (fun k f => { f with gen := 0, present := decide (k < 4), online := decide (k < 4),
                                          inForce := (fnDflt k).inForce, cmdBucket := 0, byteBucket := 0, rrNext := 0 }) e.fns })
    |> forEach (List.range 64) chanOff
    |> onFl (fun f => { f with thr := [], nextTag := 0, heldPosts := [], copyBusy := 0, blks := tmap (fun _ b => if b.st = 1 then { b with st := 0 } else b) f.blks })
    |> onZe (fun z => { z with bands := tmap (fun k b => if s.pb.owners.any (fun o => o.2.jobBands.contains k) then
                                 { b with zone := none, erased := false, prog := [], issued := [], temps := [], erasing := false, patrolled := none }
                               else { b with erasing := false, patrolled := none }) z.bands,
                               domains := tmap (fun _ d => { d with fbl := [], rate := 0, depth := 0, level := none, lvAt := 0, refused := [], refAt := none }) z.domains })
    |> linksOff
    |> onPb (fun p => { p with sent := [], offset := 0, slewFrom := 0, slewAt := 0, syncFails := 0, syncOut := false, owners := p.owners.filterMap (fun o => if o.2.saved.isEmpty then none else
        some (o.1, { o.2 with state := 3, pages := [], bands := o.2.bands.filter (fun b => !o.2.jobBands.contains b), job := 0, jobBands := [] })) })
    |> onDm (fun _ => {})
    |> onCtl (fun _ => {})
    |> onGr (fun g => { g with size := 0, limited := false, peak := 0, waiters := [], late := [], unplaced := false, pressing := false, dumpSt := 0,
                               holdup := false, huCause := 0, bo2 := false, lmLocked := false, lmRun := [], huIn := true,
                               huTestN := true, health := .unknown, testing := false, testEnded := false, armedOk := false, wtForced := false,
                               mirOut := [], mirHeld := [], mirLbas := [], mirLost := false, wtNs := wtNsNow s, wtSince := 0, pulled := [], pullSent := false, pullDone := false, recovered := false })
    |> onPw (fun p => { p with doms := [], entering := false, waking := false, wakeHold := false, stop := none, stopTested := false, stopDone := false,
                               avsAcked := false, avsReq := 750, th := .normal, graceAt := 0, limit := 0, hctm := 0, critRow := 0, capPs := 0,
                               capMgmt := 0, safePending := false, safeCause := 0, satSeen := [] })
    |> onAtt (fun a => { a with download := none })
    |> onRs (fun r => { r with dataRan := false, mbistOk := false, faultCode := none, stage := 0, pendWarm := none,
                               activating := none })

/-- The clock tree after a chip reset: what runs on the standby rails runs on, and the rest starts afresh (15_clocks.md). -/
def freshClocks (tb : Nat) (c : Clocks) : Clocks :=
  { sircRdy := c.sircRdy, xbRdy := c.xbRdy, tb := tb }

/-- The next mode after a chip reset, which zeroes the margin histograms (09_tail_latency.md R274). RS_AGE has counted on by a time that no command gives: a free value (R498). -/
def toBoot (s : State) : State :=
  let age := Nat.min 4294967295 (s.rs.age + freeVal s)
  s |> tookFree
    |> onRs (fun r => { r with age := age })
    |> onZe (fun z => { z with nss := tmap (fun _ n => { n with hist := { since := s.ck.tb } }) z.nss })
    |> onPw (fun p => { p with prev := p.mode, mode := mBoot, cause := cSequence })
    |> raise 10 sevInfo [s.pw.mode, mBoot, cSequence]
    |> setDoms mBoot

/-- A chip warm reset for a cause of RS_CAUSE.LAST (R508): as POR, but the time base runs on and the transport keys stay. A
clock-fault reset with an occupied Granary sets UNDUMPED (R490). -/
def warmReset (last : Nat) (s : State) : State :=
  if s.pw.mode = mOff then s else
  let undumped := last == 4 && segCount s != 0
  s |> forEach (List.range 4) l2WriteBack
    |> abandonMoves (fun _ => true) 6
    |> resetMain
    |> onCk (freshClocks s.ck.tb)
    |> onRs (fun r => { r with last := last, undumped := undumped })
    |> toBoot

/-- POR (R486): the main rails have become valid. The time base starts at 0 and the transport keys are zeroed (R183). The first release of POR after a
standby power-up belongs to that power-up: RS_CAUSE.LAST goes on reading 1 (R491, R508; DEDUCED, notes/assumptions/26.md). -/
def por (s : State) : State :=
  s |> resetMain
    |> onCk (freshClocks 0)
    |> onPw (fun p => { p with tripped := false })
    |> onAtt (fun a => { a with rootKey := none, fnKeys := [] })
    |> onRs (fun r => { r with last := if r.last == 1 && s.pw.prev == mOff then 1 else 2, undumped := false })
    |> toBoot

/-! ### Queues and their homes (03_queues.md R109) -/

/-- The commands of a queue that were in firmware are delivered again under the queue's epoch (03_queues.md R109). -/
def redeliver (fn q : Nat) (s : State) : State :=
  match sqOf s fn q with
  | none => s
  | some sq =>
    s |> onCe (fun e => { e with ctxs := tmap (fun _ x =>
           if x.fn = fn && x.sqid = q && x.inFw then { x with epoch := sq.epoch, mbSent := false } else x) e.ctxs })
      |> mbPump sq.home

/-- Whether work of a queue under an epoch before the current one has neither ended nor been discarded (01_architecture.md R31): a message that
a cluster has taken and not yet answered, about a command that is still in firmware, or one that still waits in a mailbox. -/
def staleMail (s : State) (fn q : Nat) : Bool :=
  (match sqOf s fn q with
   | none => false
   | some y => y.taken.any (fun w => w.2.1 != y.epoch && ((ctxOf s w.1).map (fun x => x.inFw && x.fn == fn && x.sqid == q)).getD false)) ||
  (List.range 4).any (fun mb =>
    let tag := rd s (R.mbTag mb)
    boxFull s mb && bits tag 28 17 == fn && ((ctxOf s (bits tag 16 0)).map (fun x => x.sqid)) == some q &&
    ((sqOf s fn q).map (fun x => x.epoch)) != some (bits tag 52 37))

/-- A queue moved to a cluster (R109): its epoch increments, event source 100 is raised and its firmware commands are
delivered to the new home. While work of an earlier epoch is at hand the epoch does not change again: the re-homing waits for it to end (R31). -/
def rehome (fn q cluster : Nat) (s : State) : State :=
  if staleMail s fn q then modSq fn q (fun x => { x with rehomeTo := some cluster }) s else
  s |> modSq fn q (fun x => { x with epoch := (x.epoch + 1) % 65536, home := cluster, rehomeTo := none })
    |> raise 100 sevInfo []
    |> redeliver fn q

/-- The messages that the cores of a cluster had taken, or of all, are discarded with their reset. -/
def dropTaken (cluster : Option Nat) (s : State) : State :=
  onCe (fun e => { e with sqs := tmap (fun _ q => { q with taken := q.taken.filter (fun w => cluster.isSome && cluster != some w.2.2) }) e.sqs }) s

/-- The re-homings that waited, after a mailbox message has been taken or answered. -/
def settleRehomes (s : State) : State :=
  forEach (s.ce.sqs.filterMap (fun p => p.2.rehomeTo.map (fun c => (p.1, c)))) (fun r => rehome (r.1 / 65536) (r.1 % 65536) r.2) s

/-- A firmware-domain reset (R503): the cores restart, the sequencers park, every queue epoch increments, firmware commands
are delivered again, Termite moves and staged image pieces are dropped. -/
def firmwareReset (s : State) : State :=
  s |> forEach (List.range 4) l2WriteBack
    |> coresRun none
    |> dropTaken none
    |> parkFlash
    |> forEach (List.range 64) (fun ch t => if rdb t (R.scCtl ch) 0 then wrb (R.scCtl ch) 0 false t else t)
    |> (fun t => onCe (fun e => { e with sqs := tmap (fun k q =>
         if staleMail t (k / 65536) (k % 65536) then { q with rehomeTo := some q.home } else { q with epoch := (q.epoch + 1) % 65536 }) e.sqs }) t)
    |> forEach (s.ce.sqs.map (fun p => p.1)) (fun k => redeliver (k / 65536) (k % 65536))
    |> abandonMoves (fun duty => duty != 0) 4
    |> onAtt (fun a => { a with download := none })

/-- The lowest cluster other than one that has a core running; that cluster itself where there is none. -/
def otherCluster (s : State) (w : Nat) : Nat :=
  ((List.range 4).find? (fun c => c != w && (List.range 4).any (fun i => (tget {} s.ctl.cores (4 * c + i) : Core).running))).getD w

/-- A cluster reset (R403, R503): the cluster's cores restart and its queues are re-homed. -/
def clusterReset (w : Nat) (s : State) : State :=
  let dest := otherCluster s w
  let qs := s.ce.sqs.filterMap (fun p => if p.2.home = w then some p.1 else none)
  s |> l2WriteBack w
    |> coresRun (some w)
    |> dropTaken (some w)
    |> forEach qs (fun k => rehome (k / 65536) (k % 65536) dest)

/-- An Attic reset (17_attic.md R459): transport keys, requests in progress and staged pieces go; the recorder stays. `cause`
is 0 for a lockstep mismatch and 1 for an uncorrectable error. -/
def atticReset (cause : Nat) (s : State) : State :=
  s |> raise 480 sevWarning [Config.eventParam 480 cause]
    |> onAtt (fun a => { a with rootKey := none, fnKeys := [], miQueue := [], miCur := none, download := none, miPaused := [],
                                miLast := [] })
    |> onCe (fun e => { e with ctxs := tdel tunnelCtx e.ctxs })

/-- Fetching resumes after an activation, unless the device has left service meanwhile. -/
def activationEnd (s : State) : State :=
  s |> onRs (fun r => { r with activating := none, actSlot := 0 })
    |> onCe (fun e => { e with fetchStop := e.fetchStop && !inService s })

end Sys2Proof.Machine
end

