-- ==== Sys2Proof/Machine/Images.lean ====
section
/-! DEFINITION. Firmware and configuration images, the fused count and selection records (17_attic.md R474 to R480,
18_bring_up.md R494, R495). -/

namespace Sys2Proof.Machine

/-! ### Image headers (R475) -/

def imgType (b : List Byte) : Nat := fieldAt b 4 1
def imgKeyIdx (b : List Byte) : Nat := fieldAt b 5 1
def imgFlags (b : List Byte) : Nat := fieldAt b 6 1
def imgVersion (b : List Byte) : Nat := fieldAt b 8 4
def imgSvn (b : List Byte) : Nat := fieldAt b 12 4
def imgLength (b : List Byte) : Nat := fieldAt b 16 4
def imgLmsLen (b : List Byte) : Nat := fieldAt b 20 4
def imgHash (b : List Byte) : List Byte := bytesAt b 24 48
def imgPubkey (b : List Byte) : List Byte := bytesAt b 72 96
def imgSig (b : List Byte) : List Byte := bytesAt b 168 96
def imgLms (b : List Byte) : List Byte := bytesAt b 264 (imgLmsLen b)
def imgBody (b : List Byte) : List Byte := bytesAt b 4096 (imgLength b)

/-- Largest body of a TYPE: 1 firmware, 2 configuration. -/
def bodyMax (typ : Nat) : Nat := (if typ = 1 then 48 * mib else 4 * mib) - 4096

/-- MAGIC, TYPE, the reserved fields and the ranges of a header, and the whole of its body. -/
def imgShape (b : List Byte) : Bool :=
  fieldAt b 0 4 == 0xC5A771C0 && (imgType b == 1 || imgType b == 2) && decide (imgFlags b < 4) && fieldAt b 7 1 == 0 &&
  decide (imgKeyIdx b < 4) && decide (imgSvn b ≤ 64) && decide (imgLmsLen b ≤ 3816) && decide (imgLength b ≤ bodyMax (imgType b)) &&
  decide (4096 + imgLength b ≤ b.length)

/-- Whether an image is well-formed (R476). -/
def imgWellFormed (f : Fuses) (b : List Byte) : Bool :=
  imgShape b &&
  (match tfind f.keyHash (imgKeyIdx b) with
   | some h => Config.sha384 (imgPubkey b) == h
   | none => false) &&
  !bit f.revoke (imgKeyIdx b) &&
  Config.ecdsaOk (imgPubkey b) (bytesAt b 0 168) (imgSig b) &&
  Config.sha384 (imgBody b) == imgHash b &&
  (!f.lmsReq || (bit (imgFlags b) 0 && Config.sha256 (Config.lmsKey (imgLms b)) == f.lmsHash && Config.lmsOk (bytesAt b 0 168) (imgLms b)))

/-- The image in a place of the boot flash: 0 slot A, 1 slot B, 2 and 3 the configuration copies. -/
def imageIn (s : State) (p : Nat) : List Byte := tget [] s.att.images p

/-- Whether a place holds a valid image of a TYPE: well-formed, and its COMMIT is zero (R476). -/
def imageValid (s : State) (p typ : Nat) : Bool :=
  let b := imageIn s p
  s.att.committed.contains p && imgType b == typ && imgWellFormed s.att.fuses b

/-- Whether a firmware slot may boot: valid, and SVN at least the fused count F (R477). -/
def slotBoots (s : State) (slot : Nat) : Bool :=
  imageValid s (slot - 1) 1 && decide (s.att.fuses.rollback ≤ imgSvn (imageIn s (slot - 1)))

/-- The generation of a configuration copy, and the copy in use: the valid one with the higher generation (R480). -/
def cfgGen (s : State) (p : Nat) : Nat := fieldAt (imgBody (imageIn s p)) 0 8
def cfgCopy (s : State) : Option Nat :=
  match imageValid s 2 2, imageValid s 3 2 with
  | false, false => none
  | true, false => some 2
  | false, true => some 3
  | true, true => some (if cfgGen s 2 ≥ cfgGen s 3 then 2 else 3)

/-- The copy that a commit of slot 3 writes: the older one; an invalid copy is older than a valid one (R480). -/
def cfgTarget (s : State) : Nat :=
  match cfgCopy s with
  | some 2 => 3
  | _ => 2

/-- A region of the boot flash erased or written; it is uncommitted until COMMIT is programmed. -/
def writeImage (p : Nat) (b : List Byte) (s : State) : State :=
  onAtt (fun a => { a with images := tset p b a.images, committed := a.committed.filter (fun q => q != p) }) s

/-- COMMIT programmed (R479 step 5), with its event. -/
def programCommit (p : Nat) (s : State) : State :=
  let b := imageIn s p
  s |> onAtt (fun a => { a with committed := p :: a.committed.filter (fun q => q != p) })
    |> raise 485 sevInfo [if p < 2 then p + 1 else 3, imgVersion b, imgSvn b]

/-- An image refused (R479): the event's first parameter names the check that failed. -/
def imageRefused (check slot : Nat) (s : State) : State := raise 484 sevWarning [Config.eventParam 484 check, slot] s

/-! ### Selection records (18_bring_up.md R494, R495) -/

/-- The 64 bytes of a selection record (R494). -/
def selBytes (r : SelRec) : List Byte :=
  let b := leBytes 4 0x5E1EC701 ++ leBytes 4 r.seq ++ leBytes 1 r.slot ++ leBytes 1 r.trial.toNat ++ leBytes 1 r.tries ++ List.replicate 49 0#8
  b ++ leBytes 4 (crc32c b)

/-- The newest selection record; slot A confirmed where the region holds none. -/
def selNewest (s : State) : SelRec := s.att.sel.headD {}

/-- A selection record appended; a full region is erased first. -/
def appendSel (slot : Nat) (trial : Bool) (tries : Nat) (s : State) : State :=
  onAtt (fun a =>
    let r : SelRec := { seq := (a.sel.headD {}).seq + 1, slot := slot, trial := trial, tries := tries }
    { a with sel := if a.sel.length < 16384 then r :: a.sel else [r] }) s

/-- The other firmware slot. -/
def otherSlot (slot : Nat) : Nat := 3 - slot

/-- The fused count raised to an image's SVN at its first ready (R477). -/
def raiseFused (s : State) : State :=
  let b := imageIn s (s.att.runSlot - 1)
  let f := s.att.fuses.rollback
  if bit (imgFlags b) 1 && f < imgSvn b then
    s |> onAtt (fun a => { a with fuses := { a.fuses with rollback := imgSvn b } })
      |> raise 488 sevWarning [Config.eventParam 488 7] |> raise 487 sevInfo [f, imgSvn b]
  else s

/-- The firmware of a slot on trial reaches ready: it is confirmed (R495) and R477 applies. -/
def confirmSlot (s : State) : State :=
  if s.att.trialRun then
    s |> appendSel s.att.runSlot false 0 |> onAtt (fun a => { a with trialRun := false }) |> raiseFused
  else s

end Sys2Proof.Machine
end

