-- ==== Sys2Proof/Machine/Links.lean ====
section
/-! DEFINITION. Balwen links and their sessions: the state changes of 11_balwen.md R319 that other parts of the device
cause too. -/

namespace Sys2Proof.Machine

def linkOf (s : State) (n : Nat) : Link := tget {} s.pb.links n
def modLink (n : Nat) (f : Link → Link) (s : State) : State := onPb (fun p => { p with links := tmod {} n f p.links }) s

/-- Whether a link runs in Ethernet mode (R321). -/
def linkEth (s : State) (n : Nat) : Bool := rdb s (R.plCtl n) 1

/-- Whether a link is UP. -/
def linkUp (s : State) (n : Nat) : Bool := (linkOf s n).st == .up

/-- The sessions of a link, as nodes. -/
def sessionsOf (s : State) (n : Nat) : List Nat :=
  s.pb.sessions.filterMap (fun p => if p.1 / 262144 = n then some (p.1 % 262144) else none)

/-- A session fails (R329): it is lost and event source 396 is raised. -/
def failSession (n node : Nat) (s : State) : State :=
  s |> onPb (fun p => { p with sessions := tdel (262144 * n + node) p.sessions })
    |> raise 396 sevError [if linkEth s n then node else (linkOf s n).peer, n]

/-- Every session of a link fails. -/
def failLink (n : Nat) (s : State) : State := forEach (sessionsOf s n) (failSession n) s

/-- An UP link leaves UP for TRAINING; its sessions and replay buffers stay (R319), and the replays of their frames count anew once it is back. -/
def leaveUp (n : Nat) (s : State) : State :=
  if linkUp s n then
    s |> modLink n (fun l => { l with st := .training, retryWait := false })
      |> onPb (fun p => { p with sessions := tmap (fun k x => if k / 262144 = n then { x with replays := 0 } else x) p.sessions })
      |> raise (388 + n) sevWarning []
  else s

/-- Every UP link leaves UP (15_clocks.md R413). -/
def allLeaveUp (s : State) : State := forEach (List.range 4) leaveUp s

end Sys2Proof.Machine
end

