-- ==== Sys2Proof/Machine/Memory.lean ====
section
/-! DEFINITION. The DRAM: refresh, delay check, the error FIFO, retirement and zeroing (12_memory.md R348 to R369). The address map and the
error records are in Machine/MemoryOps.lean, the Weevil's reads in Machine/Weevil.lean. -/

namespace Sys2Proof.Machine

/-! ### Refresh (R348 to R350) -/

/-- Whether the DRAM is refreshed by the controller: DRAMIF is powered and the DRAM is not in self-refresh. -/
def refreshes (s : State) : Bool := domState s 10 == 2 && !s.ck.relocking

/-- DRAM_REFRESH (R348). -/
def execDramRefresh (s : State) : Host.Outcome State Fault Refusal :=
  .next (if refreshes s then onDm (fun d => { d with refresh := d.refresh + 1 }) s else s)

/-- MR4_READ (R349): `temps` are the case temperatures that the devices report. DM_REF.HOT95 stays set until a reset: the spec gives no rule that clears it
(DESIGN CHOICE, notes/assumptions/17.md). -/
def execMr4Read (temps : List Nat) (s : State) : Host.Outcome State Fault Refusal :=
  .next (if !refreshes s then s else
    let warm := temps.any (fun t => decide (t > 85))
    let s := onlyIf (temps.any (fun t => decide (t > 95))) (fun t => t |> onDm (fun d => { d with hot95 := true }) |> raise 296 sevError []) s
    if warm then
      s |> onlyIf (!s.dm.fast) (raise 295 sevInfo [Config.eventParam 295 0]) |> onDm (fun d => { d with fast := true, coolReads := 0 })
    else if s.dm.fast && s.dm.coolReads ≥ 1 then
      s |> onDm (fun d => { d with fast := false, coolReads := 0 }) |> raise 295 sevInfo [Config.eventParam 295 1]
    else onDm (fun d => { d with coolReads := if d.fast then d.coolReads + 1 else 0 }) s)

/-! ### Delay codes (R351, R352) -/

/-- DM_LANE_DLY of the selected lane, and DM_VREF of the selected subchannel (R368). -/
def laneRef (s : State) : Ref := R.dmLaneDly.bank (1 + rdf s R.dmLaneSel 2 0 * 64 + rdf s R.dmLaneSel 13 8)
def vrefRef (s : State) : Ref := R.dmVref.bank (1 + rdf s R.dmLaneSel 2 0)

/-- The populated subchannels: number 2 × channel + subchannel. -/
def subchannels (s : State) : List Nat := List.range (2 * dmChannels s)

/-- A write to DM_MRW: with GO and the block unlocked, the mode register is written in one subchannel or all. Keys of `mrs` are
256 × subchannel + address. -/
def dmMrwAct (v : Nat) (s : State) : State :=
  if !bit v 31 || rdb s R.dmLock 0 then s else
  let subs := if bit v 16 then subchannels s else [2 * rdf s R.dmLaneSel 1 0 + rdf s R.dmLaneSel 2 2]
  onDm (fun d => { d with mrs := subs.foldl (fun t k => tset (256 * k + bits v 7 0) (bits v 15 8) t) d.mrs }) s

/-- MODE_REGISTER_WRITE (R351): DM_MRW with GO. -/
def execModeRegisterWrite (m : Master) (v : Word) (s : State) : Host.Outcome State Fault Refusal :=
  .next (accessOne m D.dmMrw (setBits v.toNat 31 31 1) dmMrwAct s)

/-- An injection armed for an access of the DRAM between two addresses fires, since the access is written (R365). -/
def fireIn (lo hi : Nat) (s : State) : State :=
  let a := rd s R.miInjTgt / 64 * 64
  onlyIf (injArmed s false a && decide (lo ≤ a ∧ a < hi)) (memFull false a) s

/-- A write to DM_LB_CTL: GO runs the compare, which writes the 1 MiB at DM_LB_ADDR. -/
def dmLbAct (v : Nat) (s : State) : State :=
  onlyIf (bit v 0) (fun s => s |> onDm (fun d => { d with lbRun := true, lbDone := false, lbErr := [] })
    |> fireIn (rd s R.dmLbAddr / mib * mib) (rd s R.dmLbAddr / mib * mib + mib)) s

/-- LOOPBACK_COMPARE (R352): DM_LB_CTL.GO, with the other fields as they stand. -/
def execLoopbackCompare (m : Master) (s : State) : Host.Outcome State Fault Refusal :=
  .next (accessOne m D.dmLbCtl (setBits (rd s R.dmLbCtl) 0 0 1) dmLbAct s)

/-- A failed start at LOAD (18_bring_up.md R500): HALT with fault code 15; the Garret and the flash stay untouched. -/
def loadFailure (s : State) : State := s |> onRs (fun r => { r with faultCode := some 15 }) |> halt cSequence

/-- LOOPBACK_DONE (R352): `stored` and `margin` give, for each populated subchannel, the lanes that failed at the stored codes
and, with PASSES, at an offset. The boot check is the compare with PASSES: a failure at the stored codes then ends the start-up in LOAD. One
without it is a step of a sweep and only shows its lanes. -/
def execLoopbackDone (stored margin : List Nat) (s : State) : Host.Outcome State Fault Refusal :=
  .next (if !s.dm.lbRun then s else
    let margin := if rdb s R.dmLbCtl 16 then margin else []
    let subs := subchannels s
    let bad := subs.filter (fun k => stored.getD k 0 % 2 ^ 40 != 0)
    let weak := subs.filter (fun k => stored.getD k 0 % 2 ^ 40 == 0 && margin.getD k 0 % 2 ^ 40 != 0)
    s |> onDm (fun d => { d with
           lbRun := false, lbDone := true,
           lbErr := subs.foldl (fun t k => tput 0 k (Nat.lor (stored.getD k 0) (margin.getD k 0) % 2 ^ 40) t) [] })
      |> forEach weak (fun k => raise 293 sevWarning [k / 2, k % 2, margin.getD k 0 % 4294967296])
      |> onlyIf (!bad.isEmpty && rdb s R.dmLbCtl 16) (raise 294 sevCritical [])
      |> onlyIf (!bad.isEmpty && rdb s R.dmLbCtl 16 && starting s) loadFailure)

/-! ### The error FIFO (R358) -/

/-- A write to MI_ERR_POP. -/
def miPopAct (v : Nat) (s : State) : State := onlyIf (bit v 0) (onDm (fun d => { d with fifo := d.fifo.tail })) s

/-- MI_ERR_POP (R368). -/
def execMiErrPop (m : Master) (s : State) : Host.Outcome State Fault Refusal := .next (accessOne m D.miErrPop 1 miPopAct s)

/-! ### Retirement (R361, R362) and zeroing (R367) -/

/-- The accesses of a page that hold an error, in ascending order. -/
def pageErrors (d : Memory) (page : Nat) : List Nat :=
  sortBy (fun a b => decide (a ≤ b))
    ((d.bad ++ d.injected.map (fun p => p.1)).filterMap (fun x => if x % 2 = 0 && x / 2 / 4096 = page then some (x / 2 / 64 * 64) else none)).eraseDups

/-- The copy of a page to its spare (R361): each error found is recorded with SRC 2 (R368); a corrected access arrives whole, and an
uncorrectable one stays so. The copy writes every access of the page, the armed one of an injection among them (R365). -/
def copyPage (page : Nat) (s : State) : State :=
  s |> forEach (pageErrors s.dm page) (fun a t =>
        let r := someRegion (freeVal t)
        let dev := t.dm.injected.find? (fun p => p.1 % 2 == 0 && p.1 / 2 / 64 == a / 64)
        tookFree (if t.dm.bad.any (fun x => x % 2 == 0 && x / 2 / 64 == a / 64) then memUncorrectable false r a 2 t
                  else noteCorrected false r a ((dev.map (fun p => p.2)).getD 0) 2 t))
    |> onDm (fun d => { d with injected := d.injected.filter (fun p => !(p.1 % 2 == 0 && p.1 / 2 / 4096 == page)) })
    |> fireCopied page
where fireCopied (page : Nat) (s : State) : State :=
  let a := rd s R.miInjTgt / 64 * 64
  onlyIf (injArmed s false a && a / 4096 == page && !memBad s false a) (memWriteBack false a) s

/-- A page remapped to the next spare; each retirement uses a table entry. -/
def remapPage (page : Nat) (s : State) : State :=
  onDm (fun d => { d with remap := tset page d.used d.remap, used := d.used + 1 }) s

/-- The retirement table is full: OP 1 is refused, event source 292 and SMART critical warning bit 2 (R361). -/
def tableFull (s : State) : State := s |> raise 292 sevError [] |> onDm (fun d => { d with degraded := true })

/-- A page retired (R361): with a table entry left it is copied to its spare and the remap switches; the errors counted against its old
place are over. -/
def retirePage (page : Nat) (s : State) : State :=
  let s := onDm (fun d => { d with recurs := tdel page d.recurs }) s
  if s.dm.used ≥ 8192 then tableFull s else
  s |> copyPage page |> raise 291 sevWarning [page, s.dm.used] |> remapPage page |> count (R.miCnt 5) R.miOvf 5 1
    |> onlyIf (s.dm.used + 1 == 8192) tableFull

/-- Firmware retires a page as soon as three errors with RECUR have fallen within it in 24 h (R360). -/
def retireDuePages (s : State) : State :=
  forEach (s.dm.recurs.filterMap (fun p => if retireDue s p.1 then some p.1 else none)) retirePage s

/-- The flash channels have reached RUNNING: every channel of a powered flash domain (R362). -/
def chansRunning (s : State) : Bool :=
  s.fl.chans.any (fun c => c.2.st == .running) &&
  (List.range 64).all (fun ch => domState s (2 + ch / 8) != 2 || (tget {} s.fl.chans ch : Chan).st == .running)

/-- The retirement list of the newest checkpoint reinstated: in LOAD, with every flash channel in RUNNING and before zeroing starts (R362). -/
def reinstateList (s : State) : State :=
  if !starting s || s.dm.zeroing || s.dm.zeroDone || !chansRunning s then s else
  whenSome s.gr.ckpt (fun c => forEach c.retired (fun p t =>
    onlyIf ((tfind t.dm.remap p.1).isNone && decide (t.dm.used < 8192)) (remapPage p.1) t)) s

/-- A write to DM_RET_CMD: OP 1 retires the page of DM_RET_ADDR with its contents, OP 2 reinstates a recorded retirement and is
accepted only before zeroing starts. A page beyond the usable capacity, and OP 2 with a full table, are ignored without an event; the spec is silent on both
(DESIGN CHOICE, notes/assumptions/17.md). -/
def dmRetAct (v : Nat) (s : State) : State :=
  let page := rd s R.dmRetAddr / 4096
  let op := bits v 1 0
  if page ≥ dmUsable s / 4096 then s else
  if op = 1 then retirePage page s
  else if op = 2 then
    if s.dm.zeroing || s.dm.zeroDone || s.dm.used ≥ 8192 then s else remapPage page s
  else s

/-- RETIRE (R361). -/
def execRetire (m : Master) (s : State) : Host.Outcome State Fault Refusal := .next (accessOne m D.dmRetCmd 1 dmRetAct s)

/-- REINSTATE (R362). -/
def execReinstate (m : Master) (s : State) : Host.Outcome State Fault Refusal := .next (accessOne m D.dmRetCmd 2 dmRetAct s)

/-- DM_ZERO.WMARK (R367): zeroing runs at the usable bandwidth of R266, in tenths of a byte per ns with four channels. -/
def zeroRate (s : State) : Nat := (if s.dm.fast then 1617 else 1833) * dmChannels s / 4
def zeroMark (s : State) : Nat :=
  if s.dm.zeroDone then dmUsable s
  else if s.dm.zeroing then Nat.min (dmUsable s) ((s.ck.tb - s.dm.zeroAt) * zeroRate s / 640 * 64) else 0

/-- A write to DM_ZERO_CTL: GO is ignored once zeroing has started; the recorded retirements are reinstated before it (R362). Nothing stands in
the DRAM above the watermark, so no error does. -/
def dmZeroAct (v : Nat) (s : State) : State :=
  onlyIf (bit v 0 && !s.dm.zeroing && !s.dm.zeroDone) (fun s => s |> reinstateList |> onDm (fun d => { d with
    zeroing := true, zeroAt := s.ck.tb, injPast := false,
    bad := d.bad.filter (fun x => x % 2 == 1), injected := d.injected.filter (fun p => p.1 % 2 == 1) })) s

/-- A write to MI_INJ_TGT (R365): zeroing does not come again to a place that it has passed. -/
def injTgtAct (_ : Nat) (s : State) : State :=
  onDm (fun d => { d with injPast := s.dm.zeroing && decide (rd s R.miInjTgt / 64 * 64 < zeroMark s) }) s

/-- DM_ZERO_GO (R367). -/
def execDmZeroGo (m : Master) (s : State) : Host.Outcome State Fault Refusal := .next (accessOne m D.dmZeroCtl 1 dmZeroAct s)

/-- ZEROING_DONE (R367): every access of the usable space has been written; an injection armed for one has fired (R365). -/
def execZeroingDone (s : State) : Host.Outcome State Fault Refusal :=
  .next (if s.dm.zeroing then
    s |> onDm (fun d => { d with zeroing := false, zeroDone := true }) |> onlyIf (!s.dm.injPast) (fireIn 0 (dmUsable s))
  else s)

end Sys2Proof.Machine
end

