-- ==== Sys2Proof/Machine/Power.lean ====
section
/-! DEFINITION. Mode requests, idle modes, the orderly stop, CAPPED, temperature and compensation (16_power_thermal.md R432 to
R457). -/

namespace Sys2Proof.Machine

/-! ### Idle modes (R438, R439) -/

/-- Whether a die has work queued, in progress or suspended. -/
def dieBusy (d : Die) : Bool := !d.q.isEmpty || !d.heads.isEmpty || !d.posts.isEmpty || d.cur.isSome || d.susp.isSome

/-- The conditions of DOZE (R438). -/
def dozeOk (s : State) : Bool :=
  s.ce.ctxs.isEmpty && s.fl.heldPosts.isEmpty && s.fl.dies.all (fun p => !dieBusy p.2) && s.lr.queues.all (fun p => p.2.isEmpty) &&
  s.ctl.boxes.all (fun p => !p.2.full)

/-- Whether the newest zone table checkpoint was taken after the last change (R439, R283). -/
def ckptCurrent (s : State) : Bool :=
  match s.gr.ckpt with
  | none => s.ze.zones.isEmpty
  | some c => c.zones == s.ze.zones

/-- The conditions of CELLAR (R439). -/
def cellarOk (s : State) : Bool :=
  dozeOk s && s.gr.segs.isEmpty && ckptCurrent s &&
  (List.range 4).all (fun p => let x : Port := tget {} s.ce.ports p; x.l12 || x.perst || !x.linkUp) &&
  !s.gr.mirEn && s.pb.owners.isEmpty

/-- The conditions of QUIESCE and HALT requests: the modes that R436 gives for an orderly stop. -/
def stopOk (s : State) : Bool := inService s

/-- A write to PW_REQ (R436, R456): a request that is not allowed now is refused. -/
def pwReqAct (v : Nat) (s : State) : State :=
  let mode := bits v 3 0
  if mode = mDoze && serving s && dozeOk s then
    s |> onPw (fun p => { p with backTo := p.mode, entering := false }) |> setMode mDoze cFirmware
  else if mode = mCellar && serving s && cellarOk s && !s.pw.entering then onPw (fun p => { p with entering := true }) s
  else if mode = mQuiesce && stopOk s then quiesce .request s
  else if mode = mHalt && stopOk s then quiesce .halt s
  else refuseMode mode s

/-- A write of a mode to PW_REQ. -/
def pwReq (m : Master) (mode : Nat) (s : State) : State := accessOne m D.pwReq mode pwReqAct s

/-- PW_REQ_DOZE (R438). -/
def execPwReqDoze (m : Master) (s : State) : Host.Outcome State Fault Refusal := .next (pwReq m mDoze s)
/-- PW_REQ_CELLAR (R439): entry begins. -/
def execPwReqCellar (m : Master) (s : State) : Host.Outcome State Fault Refusal := .next (pwReq m mCellar s)
/-- PW_REQ_QUIESCE (R441). -/
def execPwReqQuiesce (m : Master) (s : State) : Host.Outcome State Fault Refusal := .next (pwReq m mQuiesce s)
/-- PW_REQ_HALT (R441). -/
def execPwReqHalt (m : Master) (s : State) : Host.Outcome State Fault Refusal := .next (pwReq m mHalt s)

/-- CELLAR_ENTRY_DONE (R439, R427): domains go to RET with WP_N low, FIRC, XA and the PLLs stop, the time base stops and the
Cellar's counter is latched as C0; Balwen sessions are lost. -/
def execCellarEntryDone (c0 : Nat) (s : State) : Host.Outcome State Fault Refusal :=
  .next (if s.pw.entering && serving s then
    s |> onPw (fun p => { p with entering := false, backTo := p.mode })
      |> setMode mCellar cFirmware
      |> raise 14 sevInfo []
      |> onPb (fun p => { p with sessions := [] }) |> dropChunks (fun _ _ _ => true)
      |> onCk (fun c => { c with fircRdy := false, xaRdy := false, rootRdy := false, dphyRdy := false, pphyRdy := false,
                                 handing := [], tbStopped := true, c0 := c0 })
  else s)

/-- The place of a wake source in the lists of R438 and R439. -/
def WakeSrcCode : WakeSrc → Nat
  | .hostTlp => 0
  | .eventIrq => 1
  | .balwen => 2
  | .timer => 3
  | .mailbox => 4
  | .l12Exit => 5
  | .perst => 6
  | .attic => 7
  | .warm => 8

/-- Whether a source wakes DOZE now (R438). -/
def wakesDoze (s : State) (src : WakeSrc) : Bool :=
  match src with
  | .hostTlp => true
  | .eventIrq => sources.any (fun i => pending? s i && rdb s (R.evCfg i) 1)
  | .balwen => true
  | .timer => rdf s R.pwCfg 15 0 != 0
  | .mailbox => s.ctl.boxes.any (fun p => p.2.full)
  | .l12Exit | .perst | .attic | .warm => false

/-- Whether a source wakes CELLAR now (R439). -/
def wakesCellar (s : State) (src : WakeSrc) : Bool :=
  match src with
  | .l12Exit | .perst | .attic => true
  | .timer => rdf s R.pwCfg 31 16 != 0
  | .warm => decide (s.pw.comp ≥ 95)
  | .hostTlp | .eventIrq | .balwen | .mailbox => false

/-- DOZE_WAKE (R438). -/
def execDozeWake (src : WakeSrc) (s : State) : Host.Outcome State Fault Refusal :=
  .next (if s.pw.mode = mDoze && wakesDoze s src then
    dozeLeft (WakeSrcCode src) s
  else s)

/-- CELLAR_WAKE (R439): a wake while entry is under way aborts the entry (R437). -/
def execCellarWake (src : WakeSrc) (s : State) : Host.Outcome State Fault Refusal :=
  .next (
    if s.pw.entering && wakesCellar s src then onPw (fun p => { p with entering := false }) s
    else if s.pw.mode = mCellar && wakesCellar s src then cellarLeft (WakeSrcCode src) s
    else s)

/-! ### Orderly stop (R441) -/

/-- Steps 1 to 3 of the orderly stop have been done: started commands have run to completion, the Granary is drained and the
checkpoint is on flash, which a start that was not ready leaves as they were. Waiting Asynchronous Event Requests do not hold the stop. -/
def stopDrained (s : State) : Bool :=
  (!s.gr.armedOk || (s.gr.segs.isEmpty && ckptCurrent s)) &&
  s.ce.ctxs.all (fun p => p.2.st == .fetched || p.2.st == .completed || (p.2.e.opc == 0x0C && p.1 < ioCtx))

/-- Whether the data-class test belongs to a stop (R441 step 4, R489). -/
def StopCause.tests : StopCause → Bool
  | .shutdown | .management | .request => true
  | .halt | .crit | .domain | .warmReset => false

/-- QUIESCE_DONE (R441): CSTS.SHST reads 0b10 on every controller; a stop for CRIT, a domain failure or PW_REQ HALT goes on to
HALT, and one for a requested reset to the chip warm reset. -/
def execQuiesceDone (s : State) : Host.Outcome State Fault Refusal :=
  .next (
    match s.pw.stop with
    | none => s
    | some why =>
      if s.pw.mode ≠ mQuiesce || s.pw.stopDone || !stopDrained s || (why.tests && !s.pw.stopTested) then s else
      if why = .warmReset then warmReset 5 s else
      let s := s |> onPw (fun p => { p with stopDone := true })
                 |> onCe (fun e => { e with fns := (List.range 2052).foldl (fun t k =>
                      if (tget (fnDflt k) e.fns k).present then tmod (fnDflt k) k (fun f => { f with shst := 2 }) t else t) e.fns })
      if why = .crit || why = .halt || why = .domain then halt why.code s else s)

/-! ### CAPPED (R444) -/

/-- A write to FT_CAP_LIM: the device is in CAPPED exactly while it is not zero. -/
def ftCapAct (_ : Nat) (s : State) : State :=
  let v := rdf s R.ftCapLim 16 0
  if s.pw.mode = mRun && v ≠ 0 then s |> setMode mCapped cCap |> raise 19 sevInfo [v]
  else if s.pw.mode = mCapped && v = 0 then s |> setMode mRun cCap |> raise 19 sevInfo [v]
  else s

/-- FT_CAP_LIM_WRITE (R444). -/
def execFtCapLimWrite (m : Master) (v : Word) (s : State) : Host.Outcome State Fault Refusal :=
  .next (accessOne m D.ftCapLim v.toNat ftCapAct s)

/-- A write of 0 to FT_BUDGET.TOKENS is stored as 0x1_FFFF (07_flash_channels.md R217). -/
def ftBudgetAct (_ : Nat) (s : State) : State := onlyIf (rdf s R.ftBudget 16 0 == 0) (wrf R.ftBudget 16 0 0x1FFFF) s

/-! ### Temperature (R447 to R453) -/

/-- B, S and F of R449. -/
def budget (s : State) : Nat := rdf s R.ftBudget 16 0
def thStep (s : State) : Nat := budget s * Nat.max 1 (Nat.min 50 (rdf s R.thCfg 6 0)) / 100
def thFloor (s : State) : Nat := budget s * Nat.max 10 (Nat.min 90 (rdf s R.thCfg 14 8)) / 100
def thHyst (s : State) : Int := (Nat.max 1 (rdf s R.thCfg 19 16) : Nat)
def graceNs (s : State) : Nat := rdf s R.thCfg 29 24 * 1000000000

/-- The limit of host controlled thermal management (R450); `hctm` has bit 0 while TMT1's limit is in force and bit 1 while
TMT2's is. -/
def hctmLimit (s : State) : Nat :=
  if s.pw.hctm ≥ 2 then budget s / 2 else if s.pw.hctm = 1 then 3 * budget s / 4 else 0

/-- The lesser of two limits, where 0 is none. -/
def lesserLimit (a b : Nat) : Nat := if a = 0 then b else if b = 0 then a else Nat.min a b

/-- FT_THERM_LIM (R449). -/
def thermLim (s : State) : Nat := lesserLimit s.pw.limit (hctmLimit s)

/-- The pool size of R27 (07_flash_channels.md R217). -/
def poolSize (s : State) : Nat := lesserLimit (budget s) (lesserLimit (thermLim s) (rdf s R.ftCapLim 16 0))

/-- A of R449: commands fetched in a round; 0 means no limit. -/
def admitN (s : State) : Nat := if thermLim s = 0 then 0 else 32 * thermLim s / budget s

/-- The median of all sensors, doubled. -/
def median2 (ts : List Int) : Int :=
  let o := sortBy (fun a b => decide (a ≤ b)) ts
  o.getD 11 0 + o.getD 12 0

/-- Whether a sensor's reading shows it faulted (R447). -/
def sensorBad (ts : List Int) (t : Int) : Bool :=
  decide (t < -40) || decide (t > 150) || decide (2 * t - median2 ts > 20) || decide (median2 ts - 2 * t > 20)

/-- Whether a thermal management level is in force: from its TMT until the composite falls below the TMT less HYST (R450). -/
def tmtOn (s : State) (tmt : Nat) (was : Bool) : Bool :=
  let k : Int := s.pw.comp + 273
  tmt != 0 && (decide (k ≥ (tmt : Int)) || (was && decide (k ≥ (tmt : Int) - thHyst s)))

/-- The levels of host controlled thermal management after a sample or a new setting, with their transition counts and times
(key 0 and 1 transitions, 2 and 3 nanoseconds). -/
def hctmUpdate (ns : Nat) (s : State) : State :=
  let h := s.pw.hctm
  let b2 := tmtOn s (rdf s R.thHctm 31 16) (h / 2 % 2 == 1)
  let b1 := tmtOn s (rdf s R.thHctm 15 0) (h % 2 == 1)
  onPw (fun p => { p with
    hctm := b1.toNat + 2 * b2.toNat,
    hctmCount := p.hctmCount
      |> tmod 0 0 (· + (b1 && h % 2 == 0).toNat) |> tmod 0 1 (· + (b2 && h / 2 % 2 == 0).toNat)
      |> tmod 0 2 (· + if h % 2 = 1 then ns else 0) |> tmod 0 3 (· + if h / 2 % 2 = 1 then ns else 0) }) s

/-- Enforcement begins: L := B − S (R449). -/
def enforce (s : State) : State := onPw (fun p => { p with th := .enforce, limit := budget s - thStep s }) s

/-- "Cool" of R449. -/
def cool (s : State) : Bool := decide (s.pw.comp < 95 - thHyst s)

/-- The state of enforcement after a sample. -/
def thSample (s : State) : State :=
  match s.pw.th with
  | .normal =>
    if s.pw.comp ≥ 95 then
      let s := raise 32 sevWarning [] s
      if graceNs s = 0 then enforce s else onPw (fun p => { p with th := .grace, graceAt := s.ck.tb }) s
    else s
  | .grace => if cool s then onPw (fun p => { p with th := .normal }) s else s
  | .enforce => s

/-- The Temperature Threshold feature of every controller (R448): crossing it sends the asynchronous event. -/
def thresholds (s : State) : State :=
  forEach (s.ce.fns.filter (fun p => p.2.en)) (fun p t =>
    let above := decide (s.pw.comp + 273 ≥ (p.2.tempThreshold : Int))
    t |> modFn p.1 (fun f => { f with tempCrossed := above })
      |> onlyIf (above && !p.2.tempCrossed) (sendAsync p.1 (1, 1, 2))) s

/-- SENSOR_SAMPLE (R447 to R452): the 24 readings, in °C. -/
def execSensorSample (temps : List Int) (s : State) : Host.Outcome State Fault Refusal :=
  .next (
    if !s.rs.standby || temps.length ≠ 24 then s else
    let bad := (List.range 24).filter (fun i => sensorBad temps (temps.getD i 0))
    let good := ((List.range 24).filter (fun i => !bad.contains i)).map (fun i => temps.getD i 0)
    let comp := good.foldl max (good.headD s.pw.comp)
    let ns := if s.pw.mode = mCellar then 1000000000 else 1000000
    let hot := decide (comp ≥ 105)
    let t := s
      |> forEach (bad.filter (fun i => !s.pw.faulted.contains i)) (fun i => raise 38 sevError [i, twos 32 (temps.getD i 0)])
      |> onPw (fun p => { p with
           temps := temps, faulted := bad, comp := comp, critRow := if hot then Nat.min 2 (p.critRow + 1) else 0,
           warnNs := p.warnNs + (if decide (comp ≥ 95) && !hot then ns else 0), critNs := p.critNs + (if hot then ns else 0) })
      |> onlyIf (decide (comp < s.board.minTemp) && decide (s.pw.comp ≥ s.board.minTemp)) (raise 39 sevWarning [])
      |> thresholds
      |> thSample
      |> hctmUpdate ns
    t |> onlyIf ((hot && s.pw.critRow == 1) || (decide (bad.length > 4) && decide (s.pw.faulted.length ≤ 4))) (raise 36 sevCritical [])
      |> onlyIf ((hot && decide (1 ≤ s.pw.critRow)) || decide (bad.length > 4)) crit)

/-- THERMAL_TICK (R449): every second in ENFORCE. -/
def execThermalTick (s : State) : Host.Outcome State Fault Refusal :=
  .next (
    if s.pw.th ≠ .enforce then s else
    let l := s.pw.limit
    if s.pw.comp ≥ 95 then
      let n := Nat.max (thFloor s) (l - thStep s)
      s |> onPw (fun p => { p with limit := n }) |> onlyIf (n != l) (raise 34 sevInfo [n])
    else if cool s then
      if l + thStep s ≥ budget s then s |> onPw (fun p => { p with limit := 0, th := .normal }) |> raise 35 sevInfo []
      else onPw (fun p => { p with limit := l + thStep s }) s
    else s)

/-- GRACE_EXPIRED (R449): the grace time has passed since GRACE was entered. -/
def execGraceExpired (s : State) : Host.Outcome State Fault Refusal :=
  .next (if s.pw.th = .grace && elapsed s s.pw.graceAt (graceNs s) then s |> enforce |> raise 33 sevWarning [] else s)

/-- A new grace time (R451): in GRACE with the elapsed time at or above it, enforcement begins at once. -/
def graceSet (sec : Nat) (s : State) : State :=
  let s := wrf R.thCfg 29 24 sec s
  if s.pw.th = .grace && s.ck.tb ≥ s.pw.graceAt + graceNs s then s |> enforce |> raise 33 sevWarning [] else s

/-- TRIP (R453): in every mode except OFF, HOLDUP with CAUSE 4, and THERM_TRIP_N goes low until POR. -/
def execTrip (sensor : Nat) (temp : Int) (s : State) : Host.Outcome State Fault Refusal :=
  .next (if s.pw.mode ≠ mOff && decide (temp ≥ 115) then
    s |> onPw (fun p => { p with tripped := true }) |> raise 37 sevCritical [sensor] |> holdup 4
  else s)

/-! ### Supplies and bias (R445) -/

/-- What the mode controller sets: VDD_CORE in mV (0 while the logic is unpowered), the reverse body bias in mV of the logic, or in CELLAR of the
SRAM arrays, and the SRAM assist as wordline underdrive and negative bitline in mV (0 where the assist is off). -/
structure Supplies where
  coreMv    : Nat
  biasMv    : Nat
  underMv   : Nat
  bitlineMv : Nat
deriving DecidableEq, Repr

/-- The supplies of the mode in force (R445); on the way to the fused target the voltage requested last is the one that holds. -/
def suppliesOf (s : State) : Supplies :=
  let m := s.pw.mode
  if m = mOff then { coreMv := 0, biasMv := 0, underMv := 0, bitlineMv := 0 }
  else if m = mCellar then { coreMv := 0, biasMv := 400, underMv := 0, bitlineMv := 0 }
  else { coreMv := if m = mBoot || m = mSelftest then 750 else s.pw.avsReq, biasMv := if m = mDoze then 200 else 0, underMv := 30, bitlineMv := 80 }

/-! ### Compensation (R454) -/

/-- The trim code between the two nearest of the three points, times 3,850 = 70 × 55, for a temperature clamped to −20 to
105 °C. -/
def interpolate (c : List Int) (t : Int) : Int :=
  let t := max (-20) (min 105 t)
  let a := c.getD 0 0
  let b := c.getD 1 0
  let d := c.getD 2 0
  if t ≤ 50 then a * 3850 + (b - a) * (t + 20) * 55 else b * 3850 + (d - b) * (t - 50) * 70

/-- A signed 8-bit field of CMP_OFS. -/
def cmpOfs (s : State) (k : Nat) : Int :=
  let v := rdf s R.cmpOfs (8 * k + 7) (8 * k)
  if v < 128 then (v : Int) else (v : Int) - 256

/-- COMPENSATION_UPDATE (R454): codes from sensor 0 and the user offsets, saturated to their range; event source 20 once for
each episode of saturation. -/
def execCompensationUpdate (s : State) : Host.Outcome State Fault Refusal :=
  .next (
    if !s.rs.standby then s else
    let raw (k : Nat) : Int := interpolate (s.att.fuses.trims.getD k []) (s.pw.temps.headD 0) + 3850 * cmpOfs s k
    let top (k : Nat) : Int := 3850 * (Config.trimMax k : Int)
    let sat (k : Nat) : Bool := decide (raw k < 0) || decide (raw k > top k)
    s |> forEach ([0, 1, 2].filter (fun k => sat k && !s.pw.satSeen.contains k)) (fun k => raise 20 sevWarning [Config.eventParam 20 k])
      |> onPw (fun p => { p with codes := [0, 1, 2].map (fun k => max 0 (min (top k) (raw k))), satSeen := [0, 1, 2].filter sat }))

end Sys2Proof.Machine
end

