-- ==== Sys2Proof/Machine/Attic.lean ====
section
/-! DEFINITION. The Attic: event recorder, NVMe-MI, fuses, board sensors and the recovery download (17_attic.md R458 to R485).
The admin commands that it carries out are in Machine/Admin.lean. -/

namespace Sys2Proof.Machine

/-- Whether the Attic runs: the standby rails are present and it has been released (R460, R499). -/
def atticRuns (s : State) : Bool := s.rs.standby && s.att.released

/-- LOCKSTEP_MISMATCH (R459). -/
def execLockstepMismatch (s : State) : Host.Outcome State Fault Refusal :=
  .next (if atticRuns s then s |> atticReset 0 |> raise 481 sevError [] else s)

/-! ### The event recorder (R467 to R472) -/

/-- Whether an event is identical to a stored record (R469). -/
def sameEvent (e : Event) (r : ERec) : Bool :=
  r.ev.src == e.src && r.ev.code == e.code && r.ev.sev == e.sev && r.ev.p0 == e.p0 && r.ev.p1 == e.p1 && r.ev.p2 == e.p2

/-- An event stored as the newest record, with the next sequence number (R468). -/
def recAppend (e : Event) (r : Recorder) : Recorder :=
  let q := (r.newSeq + 1) % 4294967296
  { r with recs := r.recs ++ [{ seq := q, ev := e, trunc := r.truncNext }], newSeq := q, truncNext := false }

/-- The list without its first record of a severity equal to or lower than `sev`; none where there is no such record (R470). -/
def dropOldest (sev : Nat) : List ERec → Option (List ERec)
  | [] => none
  | x :: xs => if x.ev.sev ≤ sev then some xs else (dropOldest sev xs).map (x :: ·)

/-- A new event stored, or dropped (R470). -/
def recStore (e : Event) (r : Recorder) : Recorder :=
  if r.recs.length < 16384 then recAppend e r
  else match dropOldest e.sev r.recs with
    | some rest => recAppend e { r with recs := rest }
    | none => recDrop e.sev r

/-- A repeat of the newest record (R469): REPEAT increments and LAST_OFS is set. -/
def recRepeat (e : Event) (x : ERec) : ERec :=
  { x with repeats := x.repeats + 1, lastOfs := Nat.min 4294967295 ((e.time - x.ev.time) / 1000) }

/-- One event from the FIFO (R469, R470). -/
def recTake (r : Recorder) : Recorder :=
  match r.fifo with
  | [] => r
  | e :: rest =>
    let r := { r with fifo := rest }
    match r.recs.getLast? with
    | some x =>
      if sameEvent e x && decide (x.repeats < 65535) && !x.carried then { r with recs := r.recs.dropLast ++ [recRepeat e x] }
      else recStore e r
    | none => recStore e r

/-- EVENT_RECORD (R467). -/
def execEventRecord (s : State) : Host.Outcome State Fault Refusal :=
  .next (if s.rs.standby then onAtt (fun a => { a with evrec := recTake a.evrec }) s else s)

/-- Whether a master may read a bank's window; a refused read raises event source 461 (14_control.md R386). -/
def bankRead (m : Master) (bank w : Nat) (f : State → State) (s : State) : State :=
  if masterSilent s m then s
  else if Who.perBank.admits bank (masterCls m) then f s
  else accessEvent m (R.erWin bank w).addr false 1 s

/-- The oldest record at or after a cursor, modulo 2^32 (R471). -/
def recAt (r : Recorder) (cur : Nat) : Option ERec :=
  r.recs.find? (fun x => decide ((x.seq + 4294967296 - cur) % 4294967296 < 2147483648))

/-- What a read of a bank's window word 0 does: the record at the cursor is latched. -/
def erLatchAct (bank : Nat) (s : State) : State :=
  onAtt (fun a => { a with evrec :=
    { a.evrec with latched := match recAt a.evrec (rd s (R.erCur bank)) with
        | some x => tset bank x a.evrec.latched
        | none => tdel bank a.evrec.latched } }) s

/-- What a read of a bank's window word 7 does: the cursor moves past the latched record. -/
def erAdvanceAct (bank : Nat) (s : State) : State :=
  whenSome (tfind s.att.evrec.latched bank) (fun x => wr (R.erCur bank) ((x.seq + 1) % 4294967296)) s

/-- ER_WIN_LATCH (R471): a read of window word 0. -/
def execErWinLatch (m : Master) (bank : Nat) (s : State) : Host.Outcome State Fault Refusal :=
  .next (if bank ≥ 2 then s else bankRead m bank 0 (erLatchAct bank) s)

/-- ER_WIN_ADVANCE (R471): a read of window word 7. -/
def execErWinAdvance (m : Master) (bank : Nat) (s : State) : Host.Outcome State Fault Refusal :=
  .next (if bank ≥ 2 then s else bankRead m bank 7 (erAdvanceAct bank) s)

/-- The recorder cleared (R472); `cls` is the clearing class of R534. -/
def recClear (cls : Nat) (s : State) : State :=
  s |> onAtt (fun a => { a with evrec := { a.evrec with recs := [], drops := [] } }) |> raise 490 sevInfo [cls]

/-- A write to ER_CTL. -/
def erCtlAct (m : Master) (v : Nat) (s : State) : State := onlyIf (bit v 0) (recClear (clsCode (masterCls m))) s

/-- ER_CTL_CLEAR (R472). -/
def execErCtlClear (m : Master) (s : State) : Host.Outcome State Fault Refusal := .next (accessOne m D.erCtl 1 (erCtlAct m) s)

/-- The Garret copy's records put in as the oldest ones at recovery, when LOST is set; what does not fit is counted as dropped
(R472). -/
def recMerge (copied : List ERec) (r : Recorder) : Recorder :=
  let room := 16384 - r.recs.length
  let keep := copied.drop (copied.length - room)
  let left := copied.take (copied.length - room)
  let top := match r.recs with
    | [] => (r.newSeq + 1) % 4294967296
    | x :: _ => (x.seq + 4294967295) % 4294967296
  let n := keep.length
  let numbered := (List.range n).map (fun i =>
    { (keep.getD i {}) with seq := (top + 4294967296 - (n - 1 - i)) % 4294967296, carried := true,
                            trunc := (keep.getD i {}).trunc || (i == 0 && !left.isEmpty) })
  { r with recs := numbered ++ r.recs, newSeq := if r.recs.isEmpty && n != 0 then top else r.newSeq,
           drops := left.foldl (fun t x => tmod 0 x.ev.sev (fun c => Nat.min (c + 1) 4294967295) t) r.drops }

/-- DEBUG_SESSION_START (R483). -/
def execDebugSessionStart (s : State) : Host.Outcome State Fault Refusal :=
  .next (if s.att.fuses.debugLock then s else raise 489 sevWarning [] s)

/-! ### NVMe-MI (R461 to R465) -/

/-- Whether an endpoint is available: SMBus and I3C while the Attic runs; a port's in the modes of R460 that serve PCIe VDM, while
HOSTIF is ON and the port's link is up (R461): no PERST_N, and a controller of it enabled or its PHY PLL READY, since no command trains a host link (DEDUCED,
notes/assumptions/10.md). -/
def endpointUp (s : State) (e : Nat) : Bool :=
  atticRuns s && (decide (e < 2) ||
    (decide (e < 6) && (inService s || s.pw.mode == mDoze || s.pw.mode == mQuiesce || s.pw.mode == mHalt) && domState s 11 == 2 &&
      !(tget {} s.ce.ports (e - 2) : Port).perst && ((tget {} s.ce.ports (e - 2) : Port).linkUp || s.ck.hphyRdy.contains (e - 2))))

/-- The NVMe-MI opcodes of R462 and R464, and 0x100 for a tunnelled admin command. -/
def miOpcodes : List Nat := [0x00, 0x01, 0x02, 0x03, 0x04, 0x05, 0x06, 0x07, 0xC0, 0xC1, 0xC2, 0xC3, 0xC4, 0xC5, 0x100]

/-- NVME_MI_REQUEST (R465): the requests whose last packets arrived in this cycle join the one queue, SMBus, I3C, then ports;
then the Attic takes the oldest request of an endpoint that is not paused. An unsupported opcode is answered at once. -/
def execNvmeMiRequest (arrived : List MiReq) (s : State) : Host.Outcome State Fault Refusal :=
  .next (
    if !atticRuns s then s else
    let new := ((List.range 6).filter (endpointUp s)).flatMap (fun e => arrived.filter (fun r => r.endpoint == e))
    let s := onAtt (fun a => { a with miQueue := a.miQueue ++ new }) s
    if s.att.miCur.isSome then s else
    match s.att.miQueue.find? (fun r => !s.att.miPaused.contains r.endpoint) with
    | none => s
    | some r =>
      let s := onAtt (fun a => { a with miQueue := a.miQueue.erase r, miCur := some r }) s
      if miOpcodes.contains r.opcode then s else miRespond (Config.miStatus 2) [] s)

/-- The request in progress, when it carries an opcode. -/
def miOn (opcode : Nat) (f : MiReq → State → State) (s : State) : State :=
  match s.att.miCur with
  | some r => if r.opcode = opcode && atticRuns s then f r s else s
  | none => s

/-- A response of success, and Invalid Parameter. -/
def miOk (data : List Byte) (s : State) : State := miRespond (Config.miStatus 0) data s
def miBadParam (s : State) : State := miRespond (Config.miStatus 3) [] s

/-- The SMART / Health critical warning bits that the spec gives (10_granary.md R305, R312, 12_memory.md R357,
16_power_thermal.md R442, R448). -/
def critWarn (s : State) (f : Fn) : Nat :=
  2 * f.tempCrossed.toNat + 4 * s.dm.degraded.toNat + 8 * (s.pw.mode == mSafe).toNat +
  16 * (s.gr.dumpFailed || healthBad s).toNat

/-- The composite temperature in K, in a byte as °C, and the two-byte K value. -/
def compK (s : State) : Nat := (s.pw.comp + 273).toNat
def compByte (s : State) : Byte := BitVec.ofNat 8 (twos 8 s.pw.comp)

/-- READ_NVME_MI_DATA_STRUCTURE (R462): the NVMe-MI standard defines the structures. -/
def execReadNvmeMiDataStructure (s : State) : Host.Outcome State Fault Refusal :=
  .next (miOn 0x00 (fun r => miOk (Config.miBytes 0 r.arg)) s)

/-- NVM_SUBSYSTEM_HEALTH_STATUS_POLL (R462): subsystem status, critical warnings (shown inverted), composite temperature, and
what the NVMe-MI standard adds. -/
def execNvmSubsystemHealthStatusPoll (s : State) : Host.Outcome State Fault Refusal :=
  .next (miOn 0x01 (fun _ t => miOk (bytesAt (Config.miBytes 1 0) 0 1 ++ leBytes 1 (255 - critWarn t (fnOf t 0)) ++ [compByte t] ++
    bytesAt (Config.miBytes 1 1) 0 5) t) s)

/-- CONTROLLER_HEALTH_STATUS_POLL (R462): the named controller's CSTS, composite temperature and critical warnings, and what the
NVMe-MI standard adds. -/
def execControllerHealthStatusPoll (s : State) : Host.Outcome State Fault Refusal :=
  .next (miOn 0x02 (fun r t =>
    let f := fnOf t r.fn
    miOk (leBytes 2 (cntlidOf r.fn) ++ leBytes 2 (f.rdy.toNat + 2 * f.cfs.toNat + 4 * f.shst) ++ leBytes 2 (compK t) ++
      leBytes 1 (critWarn t f) ++ bytesAt (Config.miBytes 2 0) 0 9) t) s)

/-- CONFIGURATION_SET (R462): an endpoint's configuration, by identifier. -/
def execConfigurationSet (s : State) : Host.Outcome State Fault Refusal :=
  .next (miOn 0x03 (fun r t =>
    t |> onAtt (fun a => { a with miConfig := tset (256 * r.endpoint + r.arg % 256) (leNat (r.data.take 4)) a.miConfig }) |> miOk []) s)

/-- CONFIGURATION_GET (R462): what was set, or what the NVMe-MI standard gives at first. -/
def execConfigurationGet (s : State) : Host.Outcome State Fault Refusal :=
  .next (miOn 0x04 (fun r t =>
    miOk (match tfind t.att.miConfig (256 * r.endpoint + r.arg % 256) with
      | some v => leBytes 4 v
      | none => bytesAt (Config.miBytes 4 (r.arg % 256)) 0 4) t) s)

/-- VPD_READ (R462): bytes of the 256-byte VPD. -/
def execVpdRead (s : State) : Host.Outcome State Fault Refusal :=
  .next (miOn 0x05 (fun r t => if r.off + r.arg > 256 then miBadParam t else miOk (bytesAt t.att.vpd r.off r.arg) t) s)

/-- VPD_WRITE (R462). -/
def execVpdWrite (s : State) : Host.Outcome State Fault Refusal :=
  .next (miOn 0x06 (fun r t =>
    if r.off + r.data.length > 256 then miBadParam t else
    t |> onAtt (fun a =>
           let v := bytesAt a.vpd 0 256
           { a with vpd := v.take r.off ++ r.data ++ v.drop (r.off + r.data.length) }) |> miOk []) s)

/-- A requested chip warm reset (18_bring_up.md R489): the Granary is drained first; in HALT, and before recovery has put
anything in the Granary, the reset takes effect at once. -/
def requestReset (s : State) : State :=
  if s.pw.mode = mOff || s.pw.mode = mHoldup then s
  else if inService s && !starting s then quiesce .warmReset s
  else if s.pw.mode = mDoze || s.pw.mode = mCellar then quiesce .warmReset (wakeFirst s)
  else if s.pw.mode = mQuiesce then
    match s.pw.stop with
    | some .crit | some .domain => s
    | _ => if s.pw.stopDone then warmReset 5 s else onPw (fun p => { p with stop := some .warmReset }) s
  else if segCount s = 0 then warmReset 5 s
  else onRs (fun r => { r with pendWarm := some 5 }) s

/-- NVME_MI_RESET (R462): refused in HALT at 92 °C or above, with event source 17 (16_power_thermal.md R443). -/
def execNvmeMiReset (s : State) : Host.Outcome State Fault Refusal :=
  .next (miOn 0x07 (fun _ t =>
    if t.pw.mode = mHalt && decide (t.pw.comp ≥ 92) then
      t |> raise 17 sevCritical [1, twos 32 t.pw.comp] |> miRespond (Config.miStatus 4) []
    else t |> miOk [] |> requestReset) s)

/-- A control primitive's response; it is not the response that Replay repeats. -/
def primRespond (endpoint : Nat) (data : List Byte) (s : State) : State :=
  onAtt (fun a => { a with miOut := a.miOut ++ [{ endpoint := endpoint, status := Config.miStatus 0, data := data }] }) s

/-- PAUSE (R462): the endpoint's requests wait. -/
def execMiPause (endpoint : Nat) (s : State) : Host.Outcome State Fault Refusal :=
  .next (if endpointUp s endpoint then
    s |> onAtt (fun a => { a with miPaused := endpoint :: a.miPaused.filter (fun e => e != endpoint) }) |> primRespond endpoint []
  else s)

/-- RESUME (R462). -/
def execMiResume (endpoint : Nat) (s : State) : Host.Outcome State Fault Refusal :=
  .next (if endpointUp s endpoint then
    s |> onAtt (fun a => { a with miPaused := a.miPaused.filter (fun e => e != endpoint) }) |> primRespond endpoint []
  else s)

/-- NVME_MI_ABORT (R462): the endpoint's requests are dropped, the one in progress among them. -/
def execNvmeMiAbort (endpoint : Nat) (s : State) : Host.Outcome State Fault Refusal :=
  .next (if endpointUp s endpoint then
    s |> onAtt (fun a => { a with miQueue := a.miQueue.filter (fun r => r.endpoint != endpoint) })
      |> onlyIf (s.att.miCur.any (fun r => r.endpoint == endpoint)) (fun t =>
           t |> onAtt (fun a => { a with miCur := none }) |> onCe (fun e => { e with ctxs := tdel tunnelCtx e.ctxs }))
      |> primRespond endpoint []
  else s)

/-- GET_STATE (R462): whether the endpoint is paused and whether a request of it is in progress. -/
def execMiGetState (endpoint : Nat) (s : State) : Host.Outcome State Fault Refusal :=
  .next (if endpointUp s endpoint then
    primRespond endpoint (leBytes 1 ((s.att.miPaused.contains endpoint).toNat +
      2 * (s.att.miCur.any (fun r => r.endpoint == endpoint)).toNat)) s
  else s)

/-- REPLAY (R462): the endpoint's last response is sent again. -/
def execMiReplay (endpoint : Nat) (s : State) : Host.Outcome State Fault Refusal :=
  .next (if endpointUp s endpoint then
    match tfind s.att.miLast endpoint with
    | some o => onAtt (fun a => { a with miOut := a.miOut ++ [o] }) s
    | none => primRespond endpoint [] s
  else s)

/-- NVME_BASIC_MANAGEMENT_COMMAND (R461): the block read at SMBus address 0x6A. -/
def execNvmeBasicManagementCommand (s : State) : Host.Outcome State Fault Refusal :=
  .next (if atticRuns s then
    primRespond 0 (bytesAt (Config.miBytes 6 0) 0 2 ++ leBytes 1 (255 - critWarn s (fnOf s 0)) ++ [compByte s] ++
      bytesAt (Config.miBytes 6 1) 0 4) s
  else s)

/-! ### Fuses (R464, R482) -/

/-- A fuse blown, by its place in R482: 1 to 3 KEYHASH_n, 4 REVOKE, 5 LMS_KEYHASH, 6 LMS_REQ, 7 anti-rollback, 8 DEBUG_LOCK. -/
def blow (n : Nat) (f : Fuses → Fuses) (s : State) : State :=
  s |> onAtt (fun a => { a with fuses := f a.fuses }) |> raise 488 sevWarning [Config.eventParam 488 n]

/-- PROGRAM_KEY_HASH (R464): KEYHASH_1 to 3, once. -/
def execProgramKeyHash (s : State) : Host.Outcome State Fault Refusal :=
  .next (miOn 0xC0 (fun r t =>
    if r.arg < 1 || r.arg > 3 || r.data.length ≠ 48 || (tfind t.att.fuses.keyHash r.arg).isSome then miBadParam t
    else t |> blow r.arg (fun f => { f with keyHash := tset r.arg r.data f.keyHash }) |> miOk []) s)

/-- Whether some key stays programmed and not revoked. -/
def keyLeft (f : Fuses) (revoke : Nat) : Bool := f.keyHash.any (fun k => !bit revoke k.1)

/-- REVOKE_KEY (R464): refused when it would leave no key. -/
def execRevokeKey (s : State) : Host.Outcome State Fault Refusal :=
  .next (miOn 0xC1 (fun r t =>
    let f := t.att.fuses
    if r.arg > 3 || bit f.revoke r.arg || !keyLeft f (f.revoke + 2 ^ r.arg) then miBadParam t
    else t |> blow 4 (fun f => { f with revoke := f.revoke + 2 ^ r.arg }) |> miOk []) s)

/-- REQUIRE_LMS (R464): blows LMS_KEYHASH and LMS_REQ. -/
def execRequireLms (s : State) : Host.Outcome State Fault Refusal :=
  .next (miOn 0xC2 (fun r t =>
    if r.data.length ≠ 32 || t.att.fuses.lmsReq then miBadParam t
    else t |> blow 5 (fun f => { f with lmsHash := r.data }) |> blow 6 (fun f => { f with lmsReq := true }) |> miOk []) s)

/-- LOCK_DEBUG (R464, R483). -/
def execLockDebug (s : State) : Host.Outcome State Fault Refusal :=
  .next (miOn 0xC3 (fun r t =>
    if leNat (r.data.take 4) ≠ 0x0D1C0DE5 || t.att.fuses.debugLock then miBadParam t
    else t |> blow 8 (fun f => { f with debugLock := true }) |> miOk []) s)

/-- The fuse table in the order of R482. -/
def fuseTable (f : Fuses) : List Byte :=
  (List.range 4).flatMap (fun i => bytesAt (tget [] f.keyHash i) 0 48) ++ leBytes 1 f.revoke ++ bytesAt f.lmsHash 0 32 ++
  leBytes 1 f.lmsReq.toNat ++ leBytes 8 (2 ^ f.rollback - 1) ++ leBytes 1 f.debugLock.toNat

/-- READ_FUSES (R464). -/
def execReadFuses (s : State) : Host.Outcome State Fault Refusal :=
  .next (miOn 0xC4 (fun _ t => miOk (fuseTable t.att.fuses) t) s)

/-! ### Board sensors (R466) -/

/-- READ_BOARD_SENSORS (R464): for each listed sensor its latest reading and its limit flag. -/
def execReadBoardSensors (s : State) : Host.Outcome State Fault Refusal :=
  .next (miOn 0xC5 (fun _ t => miOk (t.board.sensors.flatMap (fun e =>
    let x : BSensor := tget {} t.att.sensors e.1
    leBytes 4 (twos 32 (x.reading.getD 0)) ++ leBytes 1 (x.outside.toNat + 2 * (x.unavail || x.reading.isNone).toNat))) t) s)

/-- A board sensor's reading from the value of its register: scale times the value, plus the offset (the spec names the two and gives no formula:
DEDUCED, notes/assumptions/17.md). -/
def sensorValue (e : BoardSensor) (raw : Int) : Int := e.scale * (raw % 2 ^ e.width) + e.offset

/-- BOARD_SENSOR_POLL (R466): the value of the sensor's register, or no acknowledgement. -/
def execBoardSensorPoll (idx : Nat) (reading : Option Int) (s : State) : Host.Outcome State Fault Refusal :=
  .next (
    if !atticRuns s then s else
    match tfind s.board.sensors idx with
    | none => s
    | some e =>
      let x : BSensor := tget {} s.att.sensors idx
      let put (y : BSensor) := onAtt (fun a => { a with sensors := tset idx y a.sensors })
      match reading with
      | none =>
        s |> put { x with misses := x.misses + 1, unavail := x.unavail || decide (2 ≤ x.misses) }
          |> onlyIf (x.misses == 2) (raise 493 sevWarning [idx])
      | some raw =>
        let v := sensorValue e raw
        let out := decide (v < e.lo) || decide (v > e.hi)
        s |> put { reading := some v, outside := out }
          |> onlyIf (out != x.outside) (raise 494 sevWarning [idx, twos 32 v]))

/-! ### Recovery download (18_bring_up.md R501) -/

/-- RECOVERY_DOWNLOAD (R501): under codes 13 and 14 a piece of the missing image is written straight to slot A or copy 0, in
ascending offset order; the last piece is followed by steps 4 and 5 of R479 and, for firmware, a confirmed selection record. -/
def execRecoveryDownload (typ off : Nat) (bytes : List Byte) (last : Bool) (s : State) : Host.Outcome State Fault Refusal :=
  .next (
    let want := if s.rs.faultCode = some 13 then 1 else if s.rs.faultCode = some 14 then 2 else 0
    if !atticRuns s || typ ≠ want then s else
    let p := if typ = 1 then 0 else 2
    let next := match s.att.download with
      | some d => if d.direct then d.next else 0
      | none => 0
    if off ≠ 0 && off ≠ next then s else
    let b := if off = 0 then bytes else imageIn s p ++ bytes
    let s := s |> writeImage p b
               |> onAtt (fun a => { a with download := some { owner := 4096, direct := true, next := off + bytes.length } })
    if !last then s else
    let s := s |> onAtt (fun a => { a with download := none }) |> raise 483 sevInfo [typ, Config.eventParam 483 4096]
    if imgType b == typ && imgWellFormed s.att.fuses b && (typ != 1 || decide (s.att.fuses.rollback ≤ imgSvn b)) then
      s |> programCommit p |> onlyIf (typ == 1) (appendSel 1 false 0)
    else imageRefused 0 (if typ = 1 then 1 else 3) s)

end Sys2Proof.Machine
end

