-- ==== Sys2Proof/Machine/Stream.lean ====
section
/-! DEFINITION. The compressed payload of a full frame: its bit stream, canonical codes, tokens, encoder and decoder (05_transforms.md R144,
R145). -/

namespace Sys2Proof.Machine

/-! ### Bits and bytes -/

/-- The bits of a number's `n` low bits, the least significant first. -/
def bitsLsb : Nat → Nat → List Bool
  | 0, _ => []
  | n + 1, v => (v % 2 == 1) :: bitsLsb n (v / 2)

/-- The same bits with the most significant first: a code's. -/
def bitsMsb (n v : Nat) : List Bool := (bitsLsb n v).reverse

/-- The number that bits spell, the least significant first. -/
def lsbNat : List Bool → Nat
  | [] => 0
  | b :: bs => b.toNat + 2 * lsbNat bs

/-- Bits of a payload: from bit 0 upward within each byte, and from byte 0 upward. -/
def payloadBits (bs : List Byte) : List Bool := bs.flatMap (fun b => bitsLsb 8 b.toNat)

/-- Bits put into bytes, with zero bits to the end of the last one; `n` bounds the bytes. -/
def packBytes : Nat → List Bool → List Byte
  | 0, _ => []
  | n + 1, bs => if bs.isEmpty then [] else BitVec.ofNat 8 (lsbNat (bs.take 8)) :: packBytes n (bs.drop 8)

/-- A field of `n` bits read, and what follows it. -/
def takeField (n : Nat) (bs : List Bool) : Option (Nat × List Bool) :=
  if bs.length < n then none else some (lsbNat (bs.take n), bs.drop n)

/-! ### Canonical codes -/

/-- How many symbols of an alphabet have a code length. -/
def lenCount (lens : List Nat) (l : Nat) : Nat := (lens.filter (fun x => x == l)).length

/-- The first code of a length: codes go in order of increasing length, from the all-zero code. -/
def firstCode (lens : List Nat) : Nat → Nat
  | 0 => 0
  | l + 1 => 2 * (firstCode lens l + (if l = 0 then 0 else lenCount lens l))

/-- The code of a symbol: its bits, the most significant first; none for an unused symbol. -/
def codeBits (lens : List Nat) (sym : Nat) : List Bool :=
  let l := lens.getD sym 0
  if l = 0 then [] else bitsMsb l (firstCode lens l + lenCount (lens.take sym) l)

/-- The symbol that a code of a length stands for. -/
def symOf (lens : List Nat) (l code : Nat) : Option Nat :=
  if code < firstCode lens l || l = 0 then none
  else ((List.range lens.length).filter (fun s => lens.getD s 0 == l))[code - firstCode lens l]?

/-- A symbol read, code bit by code bit, `n` more at most. -/
def takeSym (lens : List Nat) : Nat → Nat → Nat → List Bool → Option (Nat × List Bool)
  | 0, _, _, _ => none
  | n + 1, l, code, bs =>
    match bs with
    | [] => none
    | b :: rest =>
      match symOf lens (l + 1) (2 * code + b.toNat) with
      | some s => some (s, rest)
      | none => takeSym lens n (l + 1) (2 * code + b.toNat) rest

def readSym (lens : List Nat) (bs : List Bool) : Option (Nat × List Bool) := takeSym lens 15 0 0 bs

/-- Whether an alphabet's lengths form a complete prefix code, or use one symbol with length 1 (R145). -/
def completeCode (lens : List Nat) : Bool :=
  (lens.map (fun l => if l = 0 then 0 else 2 ^ (15 - l))).sum == 2 ^ 15 ||
  ((lens.filter (fun l => l != 0)).length == 1 && lenCount lens 1 == 1)

/-! ### Lengths and distances -/

/-- The bucket of a value: code, extra bits and extra value (R144). -/
def bucketCode (v : Nat) : Nat := if v < 4 then v else 2 * Nat.log2 v + v / 2 ^ (Nat.log2 v - 1) % 2
def bucketBits (c : Nat) : Nat := if c < 4 then 0 else c / 2 - 1
def bucketExtra (v : Nat) : Nat := if v < 4 then 0 else v % 2 ^ (Nat.log2 v - 1)

/-- The value of a code and its extra value. -/
def bucketValue (c extra : Nat) : Nat := if c < 4 then c else (2 + c % 2) * 2 ^ (c / 2 - 1) + extra

/-! ### Tokens -/

/-- A bucketed value written: the symbol of its code, then its extra bits. -/
def bucketOut (lens : List Nat) (base v : Nat) : List Bool :=
  codeBits lens (base + bucketCode v) ++ bitsLsb (bucketBits (bucketCode v)) (bucketExtra v)

/-- The bits of a token: a literal byte, or a match with its distance. -/
def tokBits (lit dist : List Nat) : Tok → List Bool
  | .lit b => codeBits lit b.toNat
  | .copy len d => bucketOut lit 257 (len - 4) ++ bucketOut dist 0 (d - 1)

/-- `n` bytes copied from `d` bytes back in an output that is held newest first. -/
def copyBack (d : Nat) : Nat → List Byte → List Byte
  | 0, out => out
  | n + 1, out => copyBack d n (out.getD (d - 1) 0#8 :: out)

/-- The output of a list of tokens, newest first. -/
def tokOut : List Tok → List Byte → List Byte
  | [], out => out
  | .lit b :: r, out => tokOut r (b :: out)
  | .copy len d :: r, out => tokOut r (copyBack d len out)

/-! ### Encoder -/

/-- A payload before its padding to the unit: 321 code lengths, the tokens with the end symbol, and zero bits to the end of the byte. -/
def encodePayload (lit dist : List Nat) (ts : List Tok) : List Byte :=
  let bs := (lit ++ dist).flatMap (bitsLsb 4) ++ ts.flatMap (tokBits lit dist) ++ codeBits lit 256
  packBytes (bs.length + 1) bs

/-- Code lengths of a payload of literals only: 223 symbols of 8 bits and 66 of 9, and one distance symbol. -/
def litLens : List Nat := List.replicate 223 8 ++ List.replicate 66 9
def oneDist : List Nat := 1 :: List.replicate 31 0

/-! ### Decoder -/

/-- Tokens decoded, `fuel` at most, onto an output held newest first, up to the end symbol or to `stop` bytes of output: the output and the
bits that follow, where every distance lies inside the output and the output stays within a slot's 65,536 bytes. -/
def decodeToks (lit dist : List Nat) (stop : Option Nat) : Nat → List Byte → List Bool → Option (List Byte × List Bool)
  | 0, _, _ => none
  | fuel + 1, out, bs =>
    if stop.any (fun n => decide (n ≤ out.length)) then some (out, bs) else
    match readSym lit bs with
    | none => none
    | some (y, bs) =>
      if y = 256 then some (out, bs)
      else if y < 256 then (if 65536 ≤ out.length then none else decodeToks lit dist stop fuel (BitVec.ofNat 8 y :: out) bs)
      else
        match takeField (bucketBits (y - 257)) bs with
        | none => none
        | some (e, bs) =>
          match readSym dist bs with
          | none => none
          | some (c, bs) =>
            match takeField (bucketBits c) bs with
            | none => none
            | some (x, bs) =>
              let len := bucketValue (y - 257) e + 4
              let d := bucketValue c x + 1
              if out.length < d || 65536 < out.length + len then none else decodeToks lit dist stop fuel (copyBack d len out) bs

/-- `n` code lengths of 4 bits. -/
def takeLens : Nat → List Bool → Option (List Nat × List Bool)
  | 0, bs => some ([], bs)
  | n + 1, bs =>
    match takeField 4 bs with
    | none => none
    | some (l, rest) => (takeLens n rest).map (fun r => (l :: r.1, r.2))

/-- A payload of PAY_BYTES decoded as far as `stop` bytes of output, or with no `stop` whole: then the output is exactly 65,536 bytes at the
end symbol, and only zero bits to the end of its byte follow (R145). -/
def inflate (stop : Option Nat) (pay : List Byte) : Option (List Byte) :=
  let bs := payloadBits pay
  match takeLens 321 bs with
  | none => none
  | some (lens, rest) =>
    let lit := lens.take 289
    let dist := lens.drop 289
    if !completeCode lit || !completeCode dist || lit.getD 256 0 = 0 then none else
    match decodeToks lit dist stop (bs.length + 1) [] rest with
    | none => none
    | some (out, left) =>
      if stop.any (fun n => decide (n ≤ out.length)) then some out.reverse
      else if out.length = 65536 && decide (left.length < 8) && left.all (fun b => !b) then some out.reverse
      else none

/-- Whether a payload is a correct encoding of a slot's data (R145). -/
def encodes (pay data : List Byte) : Bool := inflate none pay == some data

/-- The payload that the device's compressor makes of a slot's data: which of the correct ones is the device's own choice (R145;
notes/assumptions/11.md). A choice that were none is replaced by the literals, which take more than a raw frame. -/
def fullPayload (data : List Byte) : List Byte :=
  let c := Config.compress data
  let p := encodePayload c.1 c.2.1 c.2.2
  if encodes p data then p else encodePayload litLens oneDist (data.map Tok.lit)

end Sys2Proof.Machine
end

