-- ==== Sys2Proof/Machine/BalwenOps.lean ====
section
/-! DEFINITION. Sending on Balwen links: routes, sessions, credits and replay buffers (11_balwen.md R320 to R332). -/

namespace Sys2Proof.Machine

/-- This device's node ID (R320). -/
def ownNode (s : State) : Nat := rdf s R.pbNode 17 0

/-- Route table entry `i` (R322, R343). -/
def rtRef (i : Nat) : Ref := R.pbRt.bank i

/-- The link that the route table gives for a node. -/
def routeTo (s : State) (node : Nat) : Option Nat :=
  ((List.range 8).find? (fun i => rdb s (rtRef i) 31 && rdf s (rtRef i) 17 0 == node)).map (fun i => rdf s (rtRef i) 21 20)

/-- Whether a link leads to a node: its neighbour's, the routed one, or an Ethernet-mode link. -/
def leadsTo (s : State) (n node : Nat) : Bool :=
  linkEth s n || ((linkOf s n).known && (linkOf s n).peer == node) || routeTo s node == some n

def sessKey (n node : Nat) : Nat := 262144 * n + node

/-- The node by which the session is keyed that a frame to `dst` travels in on a link (R328): a direct link has one session, keyed 0. -/
def sessNode (s : State) (n dst : Nat) : Nat := if linkEth s n then dst else 0

def sessOf (s : State) (k : Nat) : Option Session := tfind s.pb.sessions k

/-- Whether a link carries frames of a session to a node: it is UP, or retrains with the session kept (R319). -/
def carries (s : State) (n node : Nat) : Bool :=
  linkUp s n || ((linkOf s n).st == .training && (sessOf s (sessKey n (sessNode s n node))).isSome)

/-- The lowest-numbered UP link that reaches a node (R322, R333); while none is UP, one that retrains and has kept the session, whose frames wait. -/
def linkTo (s : State) (node : Nat) : Option Nat :=
  match (List.range 4).find? (fun n => linkUp s n && leadsTo s n node) with
  | some n => some n
  | none => (List.range 4).find? (fun n => leadsTo s n node && carries s n node)
def modSess (k : Nat) (f : Session → Session) (s : State) : State := onPb (fun p => { p with sessions := talter k f p.sessions }) s

/-- Message types (R327). -/
def tKeepalive : Nat := 0x00
def tAck : Nat := 0x01
def tNak : Nat := 0x02
def tDiscover : Nat := 0x10
def tDiscoverReply : Nat := 0x11
def tTimeSync : Nat := 0x20
def tTimeReply : Nat := 0x21
def tMirrorData : Nat := 0x40
def tMirrorState : Nat := 0x41
def tMirrorAck : Nat := 0x42
def tMirrorRelease : Nat := 0x43
def tOrphanPull : Nat := 0x44
def tOrphanData : Nat := 0x45
def tCopyReq : Nat := 0x50
def tCopyData : Nat := 0x51
def tCopyEnd : Nat := 0x52

/-- CLASS of a message type, and whether it is sequenced (R327). -/
def msgClass (t : Nat) : Nat := if t = tMirrorData || t = tMirrorState then 1 else if t = tOrphanData || t = tCopyData then 2 else 0
def msgSeqd (t : Nat) : Bool := t != tKeepalive && t != tAck && t != tNak && t != 0x30

/-- 16-byte units of a frame (R325). -/
def frameUnits (len : Nat) : Nat := if len = 0 then 4 else 5 + ceilDiv len 16

/-- TTL of a frame on a link (R322, R324). -/
def ttlOn (s : State) (n : Nat) : Nat := if linkEth s n then 0 else 3

/-- A frame with no sequence number. -/
def sendPlain (n typ dst ack credit cls : Nat) (msg : List Nat) (s : State) : State :=
  emit n { typ := typ, src := ownNode s, dst := dst, cls := 0, ack := ack, ttl := ttlOn s n, credit := credit, creditClass := cls, msg := msg } s

/-- Credits of a class that a session holds, and the credits a session opens with (R330). The mirror class is the free part of
the partner's half, which the partner knows: a free value. -/
def credOf (x : Session) (cls : Nat) : Nat := tget 0 x.credits cls
def openCredits (mirror : Nat) : List (Nat × Nat) := tput 0 0 512 (tput 0 1 mirror (tput 0 2 65536 []))

/-- Whether a session may send a frame now: its class holds the credits, and fewer than 2^16 frames are unacknowledged. -/
def mayEmit (x : Session) (f : TxFrame) : Bool :=
  decide (frameUnits f.len ≤ credOf x f.cls ∧ x.replay.length < 65536)

/-- A frame of a session sent: numbered, charged to its class and kept for replay (R329, R330). -/
def sessEmit (n k : Nat) (f : TxFrame) (s : State) : State :=
  match sessOf s k with
  | none => s
  | some x =>
    let f := { f with seq := x.txSeq, ack := x.rxSeq }
    s |> modSess k (fun x => { x with txSeq := (x.txSeq + 1) % 4294967296, replay := x.replay ++ [f],
                                      credits := tput 0 f.cls (credOf x f.cls - frameUnits f.len) x.credits, lastUse := s.ck.tb })
      |> modLink n (fun l => { l with run := if f.cls != 2 && x.queue.any (fun g => g.cls == 2) then l.run + 1 else 0 })
      |> emit n f

/-- The frame of a session that its link sends next: control before mirror before bulk, and a bulk frame after fifteen others while one waits
(R331). -/
def nextFrame (s : State) (n : Nat) (x : Session) : Option TxFrame :=
  let head (cls : Nat) : Option TxFrame := (x.queue.find? (fun f => f.cls == cls)).filter (mayEmit x)
  if 15 ≤ (linkOf s n).run && (head 2).isSome then head 2 else [0, 1, 2].findSome? head

/-- The waiting frames of a session sent as far as their credits go. -/
def flushFrames (n k : Nat) : Nat → State → State
  | 0, s => s
  | fuel + 1, s =>
    match sessOf s k with
    | none => s
    | some x => match nextFrame s n x with
      | none => s
      | some f => flushFrames n k fuel (s |> modSess k (fun y => { y with queue := y.queue.erase f }) |> sessEmit n k f)
def sessFlush (n k : Nat) (s : State) : State := if linkUp s n then flushFrames n k (((sessOf s k).map (fun x => x.queue.length)).getD 0) s else s

/-- A sequenced frame of a session: sent, or held until its class has the credits and its link is UP. -/
def sessSend (n k : Nat) (f : TxFrame) (s : State) : State :=
  match sessOf s k with
  | none => s
  | some x => if linkUp s n && !(x.queue.any (fun g => g.cls == f.cls)) && mayEmit x f then sessEmit n k f s
              else modSess k (fun x => { x with queue := x.queue ++ [f] }) s

/-- A session opened (R328): its numbers start at 0. -/
def openSess (k : Nat) (s : State) : State :=
  if (sessOf s k).isSome then s else
  s |> onPb (fun p => { p with sessions := tset k { credits := openCredits (freeVal s), lastUse := s.ck.tb } p.sessions }) |> tookFree

/-- Ethernet sessions of a link that are idle: nothing unacknowledged or waiting. -/
def idleSess (s : State) (n : Nat) : List (Nat × Session) :=
  s.pb.sessions.filter (fun p => p.1 / 262144 == n && p.2.replay.isEmpty && p.2.queue.isEmpty)

/-- Room for one session more on a link (R328): an Ethernet-mode link that holds 256 closes its longest idle one; where none is idle,
`false`. -/
def roomSess (n : Nat) (s : State) : State × Bool :=
  if !linkEth s n || (sessionsOf s n).length < 256 then (s, true)
  else match idleSess s n with
  | [] => (s, false)
  | h :: r =>
    let old := r.foldl (fun a p => if p.2.lastUse < a.2.lastUse then p else a) h
    (onPb (fun p => { p with sessions := tdel old.1 p.sessions }) s, true)

/-- The nodes of this device's direct neighbours, which DISCOVER lists. -/
def neighbourNodes (s : State) : List Nat :=
  (s.pb.links.filterMap (fun l => if l.2.st = .up && l.2.known && !linkEth s l.1 then some l.2.peer else none)).eraseDups

/-- The nodes within two hops, with their hops: the direct neighbours and the route table's entries. A neighbour list gives them, so that routes of
three hops can be built (R322; DESIGN CHOICE, notes/assumptions/34.md). -/
def nodesNear (s : State) : List (Nat × Nat) :=
  let near := neighbourNodes s
  near.map (fun m => (m, 1)) ++ (List.range 8).filterMap (fun i =>
    let m := rdf s (rtRef i) 17 0
    if rdb s (rtRef i) 31 && rdf s (rtRef i) 25 24 == 2 && !near.contains m then some (m, 2) else none)

/-- The payload of DISCOVER: node ID, mask of the links that are UP, and neighbour list, in words of four bytes; the spec lays it out no further
(R327; DESIGN CHOICE, notes/assumptions/34.md). -/
def discoverWords (s : State) : List Nat :=
  [ownNode s, ((List.range 4).map (fun l => if linkUp s l then 2 ^ l else 0)).sum] ++ (nodesNear s).flatMap (fun m => [m.1, m.2])

/-- A DISCOVER or its reply. -/
def discoverFrame (typ n dst : Nat) (s : State) : TxFrame :=
  { typ := typ, src := ownNode s, dst := dst, cls := 0, seqd := true, len := 4 * (discoverWords s).length, ttl := ttlOn s n, msg := discoverWords s }

/-- A session for a node on a link, opened with DISCOVER on first use (R328). -/
def needSess (n node : Nat) (s : State) : State × Bool :=
  let k := sessKey n node
  if (sessOf s k).isSome then (s, true)
  else if !linkEth s n then (s, false)
  else
    match roomSess n s with
    | (s, true) => (s |> openSess k |> sessSend n k (discoverFrame tDiscover n node s), true)
    | (s, false) => (s, false)

/-- Whether a node appears in the route table, as a neighbour, or on an UP Ethernet-mode link (R322). -/
def routed (s : State) (node : Nat) : Bool := (List.range 4).any (fun n => leadsTo s n node && (!linkEth s n || linkUp s n))

/-- A sequenced frame to a node by route or session; `false` where no session can reach it. One with no route is dropped, with event source 397
(R322). -/
def sendFrame (f : TxFrame) (s : State) : State × Bool :=
  match linkTo s f.dst with
  | none => (onlyIf (!routed s f.dst) (raise 397 sevWarning [f.dst]) s, false)
  | some n =>
    let (s, ok) := needSess n (sessNode s n f.dst) s
    if ok then (sessSend n (sessKey n (sessNode s n f.dst)) { f with src := ownNode s, cls := msgClass f.typ, seqd := true, ttl := ttlOn s n } s, true)
    else (s, false)

/-- A message with its fields and, for LBA data, its payload; and a page of ciphertext. -/
def sendMsg (typ dst len : Nat) (msg : List Nat) (block : Block) (s : State) : State × Bool :=
  sendFrame { typ := typ, dst := dst, len := len, msg := msg, block := block } s
def sendPage (dst len : Nat) (msg : List Nat) (sl : Sealed) (s : State) : State × Bool :=
  sendFrame { typ := tMirrorData, dst := dst, len := len, msg := msg, sealed := sl } s

/-- Credits of a class returned in ACKs of a session: CREDIT has 12 bits, so that many units take more than one (R324, R330). -/
def returnUnits (n k dst units cls : Nat) (s : State) : State :=
  if !linkUp s n then s else
  forEach (List.replicate (units / 4095) 4095 ++ (if units % 4095 = 0 then [] else [units % 4095])) (fun u t =>
    whenSome (sessOf t k) (fun x => sendPlain n tAck dst x.rxSeq u cls []) t) s

/-- Credits of the mirror class returned to an owner for copies freed, in the session that reaches it. -/
def returnCopies (node : Nat) (gone : List MirrorPage) (s : State) : State :=
  whenSome (linkTo s node) (fun n =>
    returnUnits n (sessKey n (sessNode s n node)) (if linkEth s n then node else (linkOf s n).peer) ((gone.map (fun p => frameUnits p.bytes)).sum) 1) s

end Sys2Proof.Machine
end

