-- ==== Sys2Proof/Machine/Larder.lean ====
section
/-! DEFINITION. The Larder: buffer pools, credit queues, handles and the operations on them (13_larder.md R370 to R381). -/

namespace Sys2Proof.Machine

/-! ### Pools (R370 to R372) -/

/-- Buffers of a pool; P_5 has one for each 1 MiB of the Granary. -/
def poolCount (s : State) (p : Nat) : Nat := [16384, 4096, 768, 192, 64].getD p (if p = 5 then s.gr.size else 0)

/-- LR_POOL_CFG of a pool, with its own reserve at reset (R380). -/
def lrCfg (p : Nat) : Ref := (R.lrPoolCfg.bank p |> fun r => { r with rst := 65536 * [2048, 512, 96, 24, 8].getD p 0 })

/-- RSV of a pool: a value above COUNT is used as COUNT. -/
def poolRsv (s : State) (p : Nat) : Nat := Nat.min (rdf s (lrCfg p) 30 16) (poolCount s p)

def bufKey (p i : Nat) : Nat := 8388608 * p + i
def bufOf (s : State) (k : Nat) : Buf := tget {} s.lr.bufs k
def setBuf (k : Nat) (b : Buf) (s : State) : State := onLr (fun l => { l with bufs := tput {} k b l.bufs }) s

/-- The buffer size of a pool, and the place of its n-th buffer: the pool's base plus n × the size (R370). Where the bases lie, the spec leaves open. -/
def bufSize (p : Nat) : Nat := [256, 4096, 16384, 65536, 327680].getD p 1048576
def bufPlace (p n : Nat) : Nat := Config.poolBase p + n * bufSize p

/-- What an engine asks the Larder for (R370): an LBA of an uncompressed zone, the LBAs of a slot of a compressed one, a frame's payload or header, or
a wordline staged whole. -/
inductive Staged where
  | lba
  | slot (lbas : Nat)
  | payload
  | header
  | wordline
deriving DecidableEq, Repr
def Staged.size : Staged → Nat
  | .lba => 4096
  | .slot n => if n = 16 then 65536 else 4096 * n
  | .payload => 65536
  | .header => 256
  | .wordline => 327680

/-- The buffers of a pool that are in use; those of P_5 include the Granary's occupied segments. -/
def poolBusy (s : State) (p : Nat) : List (Nat × Buf) := s.lr.bufs.filter (fun b => b.1 / 8388608 == p && b.2.st != 0)
def poolFree (s : State) (p : Nat) : Nat :=
  poolCount s p - (poolBusy s p).length

/-- The smallest SRAM pool whose buffers hold a size (R371); none where the request is INVALID. -/
def poolFor (size : Nat) : Option Nat :=
  if size = 0 then none else
  if size ≤ 256 then some 0 else if size ≤ 4096 then some 1 else if size ≤ 16384 then some 2
  else if size ≤ 65536 then some 3 else if size ≤ 327680 then some 4 else none

/-- Whether a pool may grant a request of a class now (R372). -/
def canGrant (s : State) (p : Nat) (rd : Bool) : Bool :=
  decide (poolFree s p > poolRsv s p) || (rd && decide (poolFree s p > 0))

/-! ### Owners (R375) -/

def ownerValid (o : Nat) : Bool :=
  decide (o ≤ 5) || decide (0x10 ≤ o ∧ o ≤ 0x31) || decide (0x38 ≤ o ∧ o ≤ 0x40) || decide (0x44 ≤ o ∧ o ≤ 0x4B) ||
  decide (0x50 ≤ o ∧ o ≤ 0xF0)

def ownerPriv (o : Nat) : Bool :=
  decide (o ≤ 3) || decide (0x10 ≤ o ∧ o ≤ 0x31) || decide (0x38 ≤ o ∧ o ≤ 0x40) || decide (0x48 ≤ o ∧ o ≤ 0x4B)

/-! ### Granting (R372 to R374) -/

/-- A handle of a buffer (R374). -/
def handleOf (p i gen : Nat) : Nat := gen % 64 + 64 * i + 536870912 * p

/-- A buffer of a pool allocated to an owner: its generation increments and the handle is given out. Which free buffer it is,
the spec leaves open. -/
def grantBuf (p owner : Nat) (s : State) : State :=
  match pickFree (poolBusy s p) (bufKey p 0) (poolCount s p) (freeVal s) with
  | none => s
  | some k =>
    let b := bufOf s k
    let g := (b.gen + 1) % 64
    let s := tookFree s
    let s := setBuf k { st := 1, owner := owner, count := 0, gen := g } s
    s |> onLr (fun l => { l with grants := (owner, handleOf p (k % 8388608) g) :: l.grants })
      |> count (R.lrCnt 0) R.lrOvf 0 1
      |> (fun t => onlyIf (poolFree t p == 0) (raise 323 sevInfo [p]) t)

/-- An operation or request refused (R377): it counts, event source 320 is raised, and the issuer gets the error. A request names no handle:
the event's is 0 (DESIGN CHOICE, notes/assumptions/7.md). An event carries three parameters (14_control.md R534): 320's error has no slot. -/
def lrRefuse (handle op issuer err : Nat) (s : State) : State :=
  s |> count (R.lrCnt 3) R.lrOvf 3 1 |> raise 320 sevError [handle, op, issuer, err]
    |> onLr (fun l => { l with refused := (issuer, handle, err) :: l.refused })

/-- The pool that grants a request now: the chosen one, or with the spill flag the next larger SRAM pool (R372). -/
def grantPool (s : State) (p : Nat) (spill rd : Bool) : Option Nat :=
  if canGrant s p rd then some p
  else if spill && decide (p < 4) && canGrant s (p + 1) rd then some (p + 1)
  else none

/-- A grant from the chosen pool `p` or the pool it spilled to. -/
def grantFrom (p q owner : Nat) (s : State) : State :=
  s |> grantBuf q owner |> onlyIf (q != p) (count (R.lrCnt 1) R.lrOvf 1 1)

/-- The oldest waiting request of a pool that may be granted now takes its buffer (R373). -/
def lrServe (p : Nat) (s : State) : State :=
  let q : List LWait := tget [] s.lr.queues p
  match q.find? (fun w => canGrant s p w.rd) with
  | none => s
  | some w => s |> onLr (fun l => { l with queues := tput [] p (q.erase w) l.queues }) |> grantBuf p w.owner

/-- ALLOCATE (R371, R372): an engine's request is granted, or waits in the credit queue of its chosen pool. -/
def execBufAllocate (owner size : Nat) (p5 spill rd : Bool) (s : State) : Host.Outcome State Fault Refusal :=
  .next (if !ownerValid owner || !reachable s .larder 0 then s else
    match if p5 then some 5 else poolFor size with
    | none => lrRefuse 0 (Config.eventParam 320 0) owner 5 s
    | some p =>
      match grantPool s p spill rd with
      | some q => grantFrom p q owner s
      | none => s |> onLr (fun l => { l with queues := tput [] p (tget [] l.queues p ++ [{ owner := owner, rd := rd }]) l.queues })
                  |> count (R.lrCnt 2) R.lrOvf 2 1)

/-- REQUEST_WAIT_TIMEOUT (R373): a request has waited over 100 µs; the event is raised once and it keeps waiting. -/
def execRequestWaitTimeout (pool idx : Nat) (s : State) : Host.Outcome State Fault Refusal :=
  .next (
    let q : List LWait := tget [] s.lr.queues pool
    match q[idx]? with
    | none => s
    | some w =>
      if w.warned then s else
      s |> onLr (fun l => { l with queues := tput [] pool (q.set idx { w with warned := true }) l.queues })
        |> raise 321 sevWarning [pool, Config.eventParam 321 w.rd.toNat, w.owner])

/-! ### Operations (R376 to R379) -/

/-- The first error of R377 that applies to an operation; 0 where it succeeds. -/
def lrError (s : State) (op issuer handle arg : Nat) : Nat :=
  let p := handle / 536870912
  let i := handle / 64 % 8388608
  let b := bufOf s (bufKey p i)
  if p > 5 || i ≥ poolCount s p || op = 0 || op > 6 || (3 ≤ op && op ≤ 5 && arg == 0) || (op == 2 && !ownerValid arg) then 5
  else if handle % 64 ≠ b.gen then 3
  else if op = 6 then 0
  else if b.st = 0 then 1
  else if b.st = 1 && (b.owner != issuer || (op == 3 && !ownerPriv issuer)) then 2
  else if b.st = 2 && !ownerPriv issuer then 2
  else if (b.st = 2 && op ≤ 3) || (b.st = 1 && op ≥ 4) then 6
  else if op = 5 && arg > b.count then 4
  else if op = 4 && b.count + arg > 255 then 7
  else 0

/-- The buffer after a successful operation (R376). -/
def lrApplied (op arg : Nat) (b : Buf) : Buf :=
  match op with
  | 2 => { b with owner := arg }
  | 3 => { b with st := 2, owner := 0, count := arg }
  | 4 => { b with count := b.count + arg }
  | 5 => if b.count = arg then { gen := b.gen } else { b with count := b.count - arg }
  | _ => { gen := b.gen }

/-- One operation on a handle: refused with the first error of R377, or applied. A buffer that becomes FREE is granted to the
oldest waiting request that may have it; a Reclaim of a FREE buffer changes nothing. -/
def lrOp (op issuer handle arg : Nat) (s : State) : State :=
  let err := lrError s op issuer handle arg
  if err ≠ 0 then lrRefuse handle op issuer err s else
  let p := handle / 536870912
  let k := bufKey p (handle / 64 % 8388608)
  let b := bufOf s k
  if b.st = 0 then s else
  let n := lrApplied op arg b
  s |> setBuf k n
    |> onlyIf (op == 6) (fun t => t |> count (R.lrCnt 4) R.lrOvf 4 1 |> raise 322 sevWarning [handle, b.st, b.owner])
    |> onlyIf (n.st == 0) (lrServe p)

/-- The bank of a control core's Larder registers; other masters have none (R380). -/
def lrBank : Master → Option Nat
  | .core n => some n
  | .coreUser n => some n
  | _ => none

def setBank (n : Nat) (f : LBank → LBank) (s : State) : State := onLr (fun l => { l with banks := tmod {} n f l.banks }) s

/-- An operation by its owner; a control core's outcome shows in its LR_OP_STAT. -/
def lrOpBy (op issuer handle arg : Nat) (s : State) : State :=
  let err := lrError s op issuer handle arg
  s |> lrOp op issuer handle arg
    |> onlyIf (decide (0xE0 ≤ issuer ∧ issuer ≤ 0xEF)) (setBank (issuer - 0xE0) (fun b => { b with done := true, opErr := err }))

/-- An operation that an owner issues, where the owner exists and the Larder runs. -/
def lrCmd (op owner : Nat) (handle : Word) (arg : Nat) (s : State) : State :=
  if ownerValid owner && reachable s .larder 0 then lrOpBy op owner handle.toNat (arg % 256) s else s

/-- FREE (R376). -/
def execBufFree (owner : Nat) (handle : Word) (s : State) : Host.Outcome State Fault Refusal :=
  .next (lrCmd 1 owner handle 0 s)

/-- HAND_OFF (R376). -/
def execBufHandOff (owner : Nat) (handle : Word) (dest : Nat) (s : State) : Host.Outcome State Fault Refusal :=
  .next (lrCmd 2 owner handle dest s)

/-- SHARE (R376). -/
def execBufShare (owner : Nat) (handle : Word) (n : Nat) (s : State) : Host.Outcome State Fault Refusal :=
  .next (lrCmd 3 owner handle n s)

/-- ADD_REFERENCE (R376). -/
def execBufAddReference (owner : Nat) (handle : Word) (n : Nat) (s : State) : Host.Outcome State Fault Refusal :=
  .next (lrCmd 4 owner handle n s)

/-- RELEASE (R376). -/
def execBufRelease (owner : Nat) (handle : Word) (n : Nat) (s : State) : Host.Outcome State Fault Refusal :=
  .next (lrCmd 5 owner handle n s)

/-- A write to LR_OP (R380): the operation acts on the core's LR_OP_HANDLE; codes 0 and 7 are ignored. -/
def lrOpAct (m : Master) (v : Nat) (s : State) : State :=
  let op := bits v 2 0
  if op = 0 || op = 7 then s else
  whenSome (lrBank m) (fun n => lrOpBy op (0xE0 + n) (rdf s (R.lrOpHandle.bank n) 31 0) (bits v 15 8)) s

/-- RECLAIM (R379): firmware writes the handle to LR_OP_HANDLE and OP 6 to LR_OP. -/
def execBufReclaim (m : Master) (handle : Word) (s : State) : Host.Outcome State Fault Refusal :=
  .next (
    let n := (lrBank m).getD 16
    s |> accessReg m D.lrOpHandle 0 0 false (R.lrOpHandle.bank n) handle.toNat (fun _ t => t)
      |> accessOne m D.lrOp 6 (lrOpAct m))

/-- A write to LR_REQ (R373, R380): with GO the request is granted at once, ends with NONE, or is refused. -/
def lrReqAct (m : Master) (v : Nat) (s : State) : State :=
  if !bit v 31 then s else
  whenSome (lrBank m) (fun n t =>
    let owner := 0xE0 + n
    match if bit v 26 then some 5 else poolFor (bits v 18 0) with
    | none => t |> lrRefuse 0 (Config.eventParam 320 0) owner 5 |> setBank n (fun b => { b with valid := false, none := false, reqErr := 5 })
    | some p =>
      match grantPool t p (bit v 24) (bit v 25) with
      | none => setBank n (fun b => { b with valid := false, none := true, reqErr := 0 }) t
      | some q =>
        let u := grantFrom p q owner t
        setBank n (fun b => { b with result := (u.lr.grants.headD (0, 0)).2, valid := true, none := false, reqErr := 0 }) u) s

/-- LR_REQ (R373). -/
def execLrReq (m : Master) (v : Word) (s : State) : Host.Outcome State Fault Refusal :=
  .next (accessOne m D.lrReq v.toNat (lrReqAct m) s)

/-- A write to LR_POOL_SEL: 6 and 7 read back as 5. -/
def lrPoolSelAct (_ : Nat) (s : State) : State := onlyIf (decide (rdf s R.lrPoolSel 2 0 > 5)) (wrf R.lrPoolSel 2 0 5) s

end Sys2Proof.Machine
end

