-- ==== Sys2Proof/Machine/GranaryOps.lean ====
section
/-! DEFINITION. The Granary: segments, the compressed stream, fill and forcing, release, and the fixing of a write's status
(10_granary.md R281 to R291, R308; 05_transforms.md R147 to R151; 01_architecture.md R15 to R17). -/

namespace Sys2Proof.Machine

/-! ### Segments (R281, R287, R370) -/

/-- Segments with copies of a partner, and those with items of the device's own, with the P_5 buffers that engines and firmware hold. -/
def partnerSegs (s : State) : Nat := (s.gr.segs.filter (fun g => g.2.kind == 5)).length
def ownSegs (s : State) : Nat := (poolBusy s 5).length - partnerSegs s

/-- Segments that the device's own items may still take: free P_5 buffers above the pool's reserve, and in mirror mode none of the partner's half
(R308). -/
def segsLeft (s : State) : Nat := poolFree s 5 - poolRsv s 5
def ownLeft (s : State) : Nat := if s.gr.mirEn then Nat.min (segsLeft s) (s.gr.size / 2 - ownSegs s) else segsLeft s

/-- The segment of a kind that still has room at its end. -/
def openSeg (s : State) (kind : Nat) : Option (Nat × Seg) := (s.gr.segs.filter (fun g => g.2.kind == kind)).getLast?

/-- Bytes left in the segment of a kind that is being filled. -/
def openRoom (s : State) (kind : Nat) : Nat := match openSeg s kind with
  | some (_, g) => mib - g.used
  | none => 0

/-- Bytes that an item takes in its segment: whole Granary pages of 4 KiB, but for running parity and journal records. How items are packed into
segments, the spec leaves open (DESIGN CHOICE, notes/assumptions/38.md). -/
def itemBytes (kind n : Nat) : Nat := if kind = 2 || kind = 4 then n else 4096 * ceilDiv n 4096

/-- Segments that a list of items needs beyond `room` bytes: an item lies in one segment. -/
def packSegs : Nat → List Nat → Nat
  | _, [] => 0
  | room, b :: r => if b ≤ room then packSegs (room - b) r else 1 + packSegs (mib - b) r

/-- New segments that more items of a kind need. -/
def newSegs (s : State) (kind : Nat) (items : List Nat) : Nat := packSegs (openRoom s kind) (items.map (itemBytes kind))

/-- The owner of a segment's buffer (13_larder.md R375): firmware for the journal, a link for a partner's copies, otherwise the zone engine. The spec names
none (DESIGN CHOICE, notes/assumptions/38.md). -/
def segOwner (kind : Nat) : Nat := if kind = 4 then 0xE0 else if kind = 5 then 0x48 else 5

/-- A segment's P_5 buffer allocated: its handle, where one is free. -/
def takeSegBuf (kind : Nat) (s : State) : Nat × State :=
  let t := grantBuf 5 (segOwner kind) s
  (if s.lr.grants.length < t.lr.grants.length then (t.lr.grants.headD (0, 0)).2 else 0, t)

/-- One item placed in a segment of its kind: the segment, and the state. -/
def putItem (kind bytes a b : Nat) (s : State) : Nat × State :=
  let n := itemBytes kind bytes
  match openSeg s kind with
  | some (k, g) =>
    if g.used + n ≤ mib then
      (k, onGr (fun r => { r with nextItem := r.nextItem + 1, segs := tset k { g with
        used := g.used + n, live := g.live + 1, items := g.items ++ [{ off := g.used, bytes := bytes, a := a, b := b, num := r.nextItem }] } r.segs }) s)
    else fresh n s
  | none => fresh n s
where fresh (n : Nat) (s : State) : Nat × State :=
  let (h, t) := takeSegBuf kind s
  (s.gr.nextSeg, onGr (fun r => { r with
    segs := tset r.nextSeg { kind := kind, used := n, live := 1, handle := h, items := [{ off := 0, bytes := bytes, a := a, b := b, num := r.nextItem }] } r.segs,
    nextSeg := r.nextSeg + 1, nextItem := r.nextItem + 1, peak := Nat.max r.peak (r.segs.length + 1) }) t)

/-- The newest item of a segment with a name. -/
def itemIn (g : Seg) (a b : Nat) : Option GItem := (g.items.filter (fun i => i.a == a && i.b == b)).getLast?

/-- The Granary page at which an item lies, in 4 KiB units (R282): its segment's P_5 buffer and its place there. -/
def pageIn (g : Seg) (i : GItem) : Nat := 256 * (g.handle / 64 % 8388608) + i.off / 4096
def pageOf (s : State) (seg a b : Nat) : Nat := match tfind s.gr.segs seg with
  | some g => ((itemIn g a b).map (pageIn g)).getD 0
  | none => 0

/-- One item of the zone table's deltas or of the journal placed; where the Granary is at its size it waits for a segment to be freed, ahead
of every write (01_architecture.md R17). -/
def putState (kind bytes a b : Nat) (s : State) : State :=
  let n := newSegs s kind [bytes]
  if n = 0 || decide (n ≤ ownLeft s) then (putItem kind bytes a b s).2
  else onGr (fun r => { r with late := r.late ++ [(kind, { bytes := bytes, a := a, b := b })] }) s

/-- The state items that wait, placed in their order as far as there is room. -/
def placeLate (s : State) : State :=
  if s.gr.late.isEmpty then s else
  s |> onGr (fun r => { r with late := [] }) |> forEach s.gr.late (fun i => putState i.1 i.2.bytes i.2.a i.2.b)

/-- The segment number of a recovered item that has found no room yet: its data waits in the dump (R304). -/
def unplacedSeg : Nat := 4294967295

/-- An item of recovered data or of a restored copy placed where there is room. -/
def placeItem (kind bytes a b : Nat) (s : State) : Nat × State :=
  if newSegs s kind [bytes] ≤ (if kind = 5 then segsLeft s else ownLeft s) then putItem kind bytes a b s
  else (unplacedSeg, onGr (fun r => { r with unplaced := true }) s)

/-- The kind of segment that holds a frame. -/
def frameKind (f : Frame) : Nat := if f.part then 1 else 0

/-- Recovered items that waited placed as far as there is room. -/
def placeRest (s : State) : State :=
  if !s.gr.unplaced then s else
  let s := onGr (fun r => { r with unplaced := false }) s
  let s := forEach s.ze.zones (fun z t =>
    let t := forEach (z.2.units.filter (fun u => u.2.seg == some unplacedSeg)) (fun u t =>
      let (g, t) := placeItem 0 4096 z.1 u.1 t
      modZone z.1 (fun y => { y with units := tset u.1 { u.2 with seg := some g } y.units }) t) t
    let (fs, t) := z.2.frames.foldl (fun (acc : List Frame × State) f =>
      if f.seg == some unplacedSeg then
        let (g, t) := placeItem (frameKind f) (16 * frameLen f) z.1 (16 * f.slot + f.first) acc.2
        (acc.1 ++ [{ f with seg := some g }], t)
      else (acc.1 ++ [f], acc.2)) ([], t)
    modZone z.1 (fun y => { y with frames := fs }) t) s
  forEach s.pb.owners (fun o t =>
    let (ps, t) := o.2.pages.foldl (fun (acc : List (Nat × MirrorPage) × State) p =>
      if p.1 == unplacedSeg then
        let (g, t) := placeItem 5 p.2.bytes o.1 p.2.offset acc.2
        (acc.1 ++ [(g, p.2)], t)
      else (acc.1 ++ [p], acc.2)) ([], t)
    onPb (fun q => { q with owners := talter o.1 (fun w => { w with pages := ps }) q.owners }) t) s

/-- Segments have been freed: what waits of the device's state takes room first, then what waits of recovered data. -/
def segsFreed (s : State) : State := s |> placeLate |> placeRest

/-- A segment freed (R287): its P_5 buffer goes back, to the oldest request for one if any waits (13_larder.md R373, R376). -/
def dropSeg (k : Nat) (s : State) : State :=
  match tfind s.gr.segs k with
  | none => s
  | some g => s |> onGr (fun r => { r with segs := tdel k r.segs }) |> lrOp 1 (segOwner g.kind) g.handle 0

/-- One item of a segment released; a segment is freed with its last (R287). -/
def freeItem (k : Nat) (s : State) : State :=
  match tfind s.gr.segs k with
  | none => s
  | some g =>
    if 1 < g.live then onGr (fun r => { r with segs := tset k { g with live := g.live - 1 } r.segs }) s
    else s |> dropSeg k |> segsFreed

/-- The segments that satisfy a test freed, and what of the state items satisfies one and still waited. -/
def freeSegs (p : Seg → Bool) (q : Nat × GItem → Bool) (s : State) : State :=
  s |> onGr (fun r => { r with late := r.late.filter (fun i => !q i) })
    |> forEach (s.gr.segs.filterMap (fun g => if p g.2 then some g.1 else none)) dropSeg
    |> segsFreed

/-- All segments of a kind freed, and what of the kind still waited. -/
def freeKind (kind : Nat) (s : State) : State := freeSegs (fun g => g.kind == kind) (fun i => i.1 == kind) s

/-- The journal segments freed whose records are all below a number, for they are on flash (R281, R287). -/
def freeJournal (n : Nat) (s : State) : State :=
  freeSegs (fun g => g.kind == 4 && g.items.all (fun i => decide (i.a ≤ n))) (fun i => i.1 == 4 && decide (i.2.a ≤ n)) s

/-! ### The metadata journal and zone table deltas -/

/-- Mirroring is at work: the mode is on and the partner is there. -/
def mirroring (s : State) : Bool := s.gr.mirEn && !s.gr.mirLost

/-- What a mirrored page stands for: its zone and first LBA offset, which is below 2^20; a zone's deltas, or a journal record by its number. -/
def deltaItem (key : Nat) : Nat × Nat := (key, 1048576)
def journalItem (n : Nat) : Nat × Nat := (n, 1048577)

/-- A state record sent to the mirror partner (R334). It goes under an offset of its own, above every Granary page, since records of one page are
freed one by one (DESIGN CHOICE, notes/assumptions/34.md). -/
def sendRecord (item : Nat × Nat) (f : TxFrame) (s : State) : State :=
  if mirroring s then
    let off := 4194304 + s.gr.mirNext
    let s := onGr (fun g => { g with mirNext := g.mirNext + 1, mirLbas := tset off item g.mirLbas }) s
    (sendFrame { f with typ := tMirrorState, dst := s.gr.mirPartner, msg := off :: f.msg } s).1
  else s

/-- The 16 bytes of a journal record (R233). -/
def jrecBytes (r : JRec) : List Byte :=
  leBytes 1 r.typ ++ leBytes 1 r.cause ++ leBytes 2 (r.die % 64 + 64 * (r.ch % 64)) ++ leBytes 2 r.block ++ leBytes 2 r.aux ++ leBytes 4 r.erases ++
  leBytes 4 r.bgen

/-- Records appended to the metadata journal in the Granary (R233, R281), and sent to the mirror partner (R334). They are numbered from 1 (JSEQ). -/
def journalAll (rs : List JRec) (s : State) : State :=
  let n := s.fl.journal.length
  s |> putState 4 (16 * rs.length) (n + rs.length) rs.length
    |> onFl (fun f => { f with journal := f.journal ++ rs })
    |> onlyIf (mirroring s) (forEach (rs.mapIdx (fun i r => (n + i + 1, r))) (fun p =>
         sendRecord (journalItem p.1) { len := 16, msg := [p.1], jrec := some p.2 }))
def journal (r : JRec) (s : State) : State := journalAll [r] s

/-- A slot's new ceiling recorded in the metadata journal (06_cipher.md R177); TYPE 14 for it is the model's (notes/assumptions/32.md). -/
def ceilRec (k v : Nat) : JRec := { typ := 14, aux := k, erases := v % 4294967296, bgen := v / 4294967296 }
def recordCeil (k v : Nat) (s : State) : State := journal (ceilRec k v) s

/-- A band record (R281): the program temperature of an eighth of a band (08_flash_integrity.md R230) in kelvin + 1, or 0; TYPE 16 for it is the
model's (notes/assumptions/38.md). -/
def bandRec (b eighth : Nat) (temp : Option Int) : JRec :=
  { typ := 16, aux := eighth, erases := b, bgen := match temp with
      | some t => (t + 274).toNat
      | none => 0 }

/-- The highest ceiling of a slot that a list of journal records holds. -/
def recordedCeil (l : List JRec) (k : Nat) : Nat :=
  l.foldl (fun a r => if r.typ = 14 && r.aux = k then Nat.max a (r.erases + 4294967296 * r.bgen) else a) 0

/-- What a zone table delta carries (R281): the zone's table entry, without its data and what waits for it. -/
def deltaOf (z : Zone) : Zone := { z with units := [], frames := [], parity := [], queue := [], waiting := [], move := none }

/-- A zone's table entry has changed: the change travels in the Granary until the next checkpoint (R281), and to the mirror
partner as MIRROR_STATE (R334). Under the floor of R285 it is a journal record too; TYPE 15 for it is the model's. -/
def noteDelta (key : Nat) (s : State) : State :=
  let z := zoneOf s key
  let s := if z.deltas then s else s |> putState 3 4096 key 0 |> modZone key (fun z => { z with deltas := true })
  let s := if s.gr.limited then
      let n := s.fl.journal.length + 1
      s |> journal { typ := 15, aux := key } |> modZone key (fun z => { z with jseq := n })
        |> onFl (fun f => { f with jZones := tset n (key, zoneOf s key) f.jZones })
    else s
  sendRecord (deltaItem key) { len := 4096, msg := [key, z.wp, z.ap], delta := some (deltaOf (zoneOf s key)) } s

/-! ### The stream of a compressed zone (R147, R290) -/

/-- Whether a position holds fill. -/
def isFill (z : Zone) (p : Nat) : Bool := z.fills.any (fun f => decide (f.1 ≤ p ∧ p < f.1 + f.2))

/-- Stream units that a position's codeword carries. -/
def unitsIn (z : Zone) (p : Nat) : Nat := if isFill z p then 0 else (tfind z.closedCw p).getD 256

/-- The position whose codeword holds stream unit `u`, counted from position `p` on. -/
def unitPosFrom (z : Zone) : Nat → Nat → Nat → Nat
  | p, _, 0 => p
  | p, u, fuel + 1 => if u < unitsIn z p then p else unitPosFrom z (p + 1) (u - unitsIn z p) fuel
def unitPos (z : Zone) (u : Nat) : Nat := unitPosFrom z 0 u z.nextPos

/-- The positions of the codewords that hold units `[u, u + n)` of the stream. -/
def spanCws (z : Zone) (u n : Nat) : List Nat :=
  let a := unitPos z u
  let b := unitPos z (u + n - 1)
  ((List.range (b + 1 - a)).map (fun i => a + i)).filter (fun p => !isFill z p)

/-- `n` units appended to the stream: the zone's new stream end and next position. -/
def appendUnits (n : Nat) (z : Zone) : Zone :=
  let room := if z.tail = 0 then 0 else 256 - z.tail
  let beyond := n - room
  { z with stream := z.stream + n, nextPos := z.nextPos + ceilDiv beyond 256, tail := (z.tail + n) % 256 }

/-! ### On flash (R286) -/

def zoneDens (z : Zone) : Nat := (z.shape.map (fun sh => sh.density)).getD 1
def zoneComp (z : Zone) : Bool := (z.shape.map (fun sh => sh.comp)).getD false

/-- Whether a frame is on flash: it is in the stream and every codeword of it meets R286. -/
def frameOnFlash (s : State) (z : Zone) (f : Frame) : Bool :=
  match f.off, z.band with
  | some u, some b => f.seg.isNone || (spanCws z u (frameLen f)).all (cwOnFlash s (zoneDens z) b)
  | _, _ => false

def unitOnFlash (s : State) (z : Zone) (u : LUnit) : Bool := u.seg.isNone || (match z.band with
  | some b => cwOnFlash s (zoneDens z) b u.pos
  | none => true)

/-- Whether the data of LBAs `[a, a + n)` of a zone is on flash; data since discarded no longer needs to be (R64). -/
def rangeOnFlash (s : State) (key a n : Nat) : Bool :=
  let z := zoneOf s key
  z.units.all (fun p => decide (p.1 < a ∨ a + n ≤ p.1) || unitOnFlash s z p.2) &&
  z.frames.all (fun f => f.abandoned || decide (16 * f.slot + f.first + f.count ≤ a ∨ a + n ≤ 16 * f.slot + f.first) || frameOnFlash s z f)

/-! ### Fill and forcing (R288 to R290) -/

/-- The walk of R156 from stream unit `u`: each header gives its frame's length, and the walk stops at the first unit with no valid header. -/
def walkIndex (z : Zone) : Nat → Nat → Nat → Index → Index
  | 0, _, _, x => x
  | n + 1, u, dead, x =>
    match z.frames.find? (fun f => f.off == some u) with
    | none => x
    | some f =>
      if !hdrValid f.hdr then x
      else walkIndex z n (u + 3 + hdrUnits f.hdr) (dead + if f.abandoned then frameLen f else 0) (idxFrame f u dead x)

/-- The unit within its codeword at which stream unit `u` lies. -/
def unitInCw (z : Zone) (u : Nat) : Nat := u - ((List.range (unitPos z u)).map (unitsIn z)).sum

/-- The frame whose valid header begins at a unit of a position's codeword. -/
def headerAt (z : Zone) (p k : Nat) : Option Frame :=
  z.frames.find? (fun f => f.off.any (fun u => unitPos z u == p && unitInCw z u == k) && hdrValid f.hdr)

/-- The first position from `p` on whose codeword is no fill. -/
def pastFill (z : Zone) : Nat → Nat → Nat
  | 0, p => p
  | n + 1, p => if isFill z p then pastFill z n (p + 1) else p

/-- The walk of R156 with the fill record lost as well, from unit `k` of position `p`: codewords whose STAMP KIND is 7 are passed over, and zero
units to a codeword's end are a closed tail where a valid header begins the next data codeword (its HDR_OFF is 0). -/
def walkBare (z : Zone) : Nat → Nat → Nat → Nat → Nat → Index → Index
  | 0, _, _, _, _, x => x
  | n + 1, p, k, u, dead, x =>
    if isFill z p then walkBare z n (p + 1) 0 u dead x else
    match headerAt z p k with
    | some f =>
      let len := 3 + hdrUnits f.hdr
      walkBare z n (p + (k + len) / 256) ((k + len) % 256) (u + len) (dead + if f.abandoned then frameLen f else 0) (idxFrame f u dead x)
    | none =>
      let q := pastFill z z.nextPos (p + 1)
      if k != 0 && (headerAt z q 0).isSome then walkBare z n q 0 u dead x else x

/-- A zone's index rebuilt from its frame headers (R156); slots with pending partial frames only are not UNWRITTEN. -/
def rebuildIndex (z : Zone) : Index :=
  walkIndex z z.frames.length 0 0 (z.frames.foldl (fun x f => if f.off.isNone then idxApplied f.slot x else x) {})

/-- The same with the fill record lost as well. -/
def rebuildBare (z : Zone) : Index :=
  walkBare z (z.frames.length + z.nextPos + z.frames.length) 0 0 0 0 (z.frames.foldl (fun x f => if f.off.isNone then idxApplied f.slot x else x) {})

/-- Pending partial frames of a slot, oldest first (R148). -/
def pendingPart (f : Frame) : Bool := f.part && f.off.isNone && !f.abandoned

/-- A slot's pending partial frames written at the end of the stream (R148), event source 259 and TX_CNT_3. -/
def forceOut (key slot : Nat) (s : State) : State :=
  let z := zoneOf s key
  let n := (z.frames.filter (fun f => f.slot == slot && pendingPart f)).length
  if n = 0 then s else
  let z' := z.frames.foldl (fun (acc : Zone × List Frame) f =>
    if f.slot == slot && pendingPart f then
      ({ appendUnits (frameLen f) acc.1 with index := idxFrame f acc.1.stream acc.1.abandoned acc.1.index }, acc.2 ++ [{ f with off := some acc.1.stream }])
    else (acc.1, acc.2 ++ [f])) (z, [])
  s |> modZone key (fun _ => { z'.1 with frames := z'.2 })
    |> noteDelta key
    |> count (R.txCnt 3) R.txOvf 3 n
    |> raise 259 sevInfo [z.band.getD 0, slot, n]

/-- Every pending partial frame of a zone forced out. -/
def forceOutAll (key : Nat) (s : State) : State :=
  forEach ((zoneOf s key).frames.filterMap (fun f => if pendingPart f then some f.slot else none)).eraseDups (forceOut key) s

/-- The pending partial frames of the slots with data below an LBA offset forced out: those that a FUA write or a Flush covers (R148). -/
def forceOutBelow (key e : Nat) (s : State) : State :=
  forEach ((zoneOf s key).frames.filterMap (fun f => if pendingPart f && decide (16 * f.slot + f.first < e) then some f.slot else none)).eraseDups
    (forceOut key) s

/-- What a stripe is forced for (R288, R313). -/
inductive Force where
  | fua | flush | wt | press | finish
deriving DecidableEq, Repr

def countForce (why : Force) (s : State) : State :=
  onGr (fun g => match why with
    | .fua => { g with forceFua := satBits 64 (g.forceFua + 1) }
    | .flush => { g with forceFlush := satBits 64 (g.forceFlush + 1) }
    | .wt => { g with forceWt := satBits 64 (g.forceWt + 1) }
    | .press => { g with forcePress := satBits 64 (g.forcePress + 1) }
    | .finish => g) s

/-- Stripe `w` of a zone forced (R289): fill in every position of it, and on a two-pass band of the next two stripes, that holds no
data; in a compressed zone the codeword at the end of the stream becomes a closed codeword. -/
def forceStripe (key w : Nat) (why : Force) (s : State) : State :=
  let z := zoneOf s key
  match z.band with
  | none => s
  | some b =>
    let dens := zoneDens z
    let per := stripeCws s.board dens (dataWidth s b)
    let last := if twoPass s.board dens then Nat.min (w + 2) (s.board.wordlines - 1) else w
    let stop := per * (last + 1)
    let closes := z.tail != 0 && decide (z.nextPos ≤ stop)
    if z.nextPos < stop || closes then
      s |> modZone key (fun z => { z with
             fills := if z.nextPos < stop then z.fills ++ [(z.nextPos, stop - z.nextPos)] else z.fills,
             closedCw := if closes then tset (z.nextPos - 1) z.tail z.closedCw else z.closedCw,
             tail := if closes then 0 else z.tail, nextPos := Nat.max z.nextPos stop })
        |> onGr (fun g => { g with fillCw := satBits 64 (g.fillCw + (stop - z.nextPos)) })
        |> countForce why
        |> noteDelta key
    else s

/-- The stripe that holds the last codeword of a zone's data at or below an LBA offset `e` (exclusive end). -/
def stripeOfEnd (s : State) (z : Zone) (b e : Nat) : Option Nat :=
  let per := stripeCws s.board (zoneDens z) (dataWidth s b)
  if zoneComp z then
    let fs := z.frames.filter (fun f => f.off.isSome && decide (16 * f.slot + f.first < e))
    match (fs.map (fun f => (f.off.getD 0) + frameLen f)).max? with
    | some u => some (unitPos z (u - 1) / per)
    | none => none
  else
    match (z.units.filter (fun p => decide (p.1 < e))).getLast? with
    | some (_, u) => some (u.pos / per)
    | none => none

/-- The stripe of a zone that holds the data up to an LBA offset forced, its partial slots first (R288): for FUA and a Flush those with covered
data, and otherwise all (R148). -/
def forceTo (key e : Nat) (why : Force) (s : State) : State :=
  let s := if why = .fua || why = .flush then forceOutBelow key e s else forceOutAll key s
  let z := zoneOf s key
  match z.band with
  | none => s
  | some b => match stripeOfEnd s z b e with
    | some w => if rangeOnFlash s key 0 e then s else forceStripe key w why s
    | none => s

/-- The open stripe of a zone forced: that of its newest data. -/
def forceOpen (key : Nat) (why : Force) (s : State) : State := forceTo key zoneLbas why s

/-! ### Pressure (R291) -/

def pressHigh (s : State) : Nat := Nat.min 100 (rdf s R.grPress 6 0)
def pressLow (s : State) : Nat := if rdf s R.grPress 14 8 < pressHigh s then rdf s R.grPress 14 8 else pressHigh s - 1

/-- How old an item is: the order in which it was placed. -/
def itemNum (s : State) (seg a b : Nat) : Option Nat := (tfind s.gr.segs seg).bind (fun g => (itemIn g a b).map (fun i => i.num))

/-- The oldest unreleased data of a zone. -/
def oldestData (s : State) (key : Nat) (z : Zone) : Option Nat :=
  (z.units.filterMap (fun p => p.2.seg.bind (fun g => itemNum s g key p.1)) ++
   z.frames.filterMap (fun f => f.seg.bind (fun g => itemNum s g key (16 * f.slot + f.first)))).min?

/-- The zone with the oldest unreleased data that a force can still release. -/
def pressZone (s : State) : Option Nat :=
  let zs := s.ze.zones.filterMap (fun p => match oldestData s p.1 p.2 with
    | some g => if zoneOf (forceOpen p.1 .press s) p.1 == p.2 then none else some (g, p.1)
    | none => none)
  match zs with
  | [] => none
  | h :: t => some (t.foldl (fun a x => if x.1 < a.1 then x else a) h).2

/-- Pressure forcing: one zone's open stripe at a time, oldest data first, while the occupancy is above LOW; the episode ends, with
event source 353, when it is not. While a write waits for space that its half or its partner's does not have (R308), stripes are forced too, for
forcing is what guarantees that it obtains space (R17, R291). -/
def pressure (s : State) : State :=
  let occ := segCount s * 100
  if s.gr.size = 0 then s else
  let high := decide (pressHigh s * s.gr.size ≤ occ)
  let s := if !s.gr.pressing && (high || !s.gr.waiters.isEmpty) then
      s |> onGr (fun g => { g with pressing := true, pressCount := 0 }) |> onlyIf high (raise 352 sevInfo [])
    else s
  if !s.gr.pressing then s
  else if occ ≤ pressLow s * s.gr.size && s.gr.waiters.isEmpty then
    s |> raise 353 sevWarning [s.gr.pressCount] |> onGr (fun g => { g with pressing := false, pressCount := 0 })
  else match pressZone s with
    | some key => s |> forceOpen key .press |> onGr (fun g => { g with pressCount := g.pressCount + 1 })
    | none => s

/-! ### Fixing a write's status (R15, R64, R85, R86) -/

/-- The LBA of a write in its namespace. -/
def ctxLba (x : Ctx) : Nat := x.zone * zoneLbas + x.first

/-- Completion dwords of a successful write: an append's are its LBA (R90). -/
def writeDws (x : Ctx) : Nat × Nat := if x.e.opc = 0x7D then (ctxLba x % 4294967296, ctxLba x / 4294967296) else (0, 0)

/-- Whether the deltas of some zones are where an acceptance needs them: in the Granary, and under the floor of R285 on flash as journal
records. -/
def deltasKept (s : State) (p : Nat → Bool) : Bool :=
  !s.gr.late.any (fun i => i.1 == 3 && p i.2.a) && (!s.gr.limited || s.ze.zones.all (fun z => !p z.1 || decide (z.2.jseq ≤ s.fl.jFlash)))

/-- Whether a write must still wait for its data to be on flash, and for the partner's copies. -/
def waitsFlash (s : State) (x : Ctx) : Bool :=
  !x.discarded && (x.fua || writeThrough s) && !(rangeOnFlash s (zKey x.nsid x.zone) x.first x.nlb && deltasKept s (fun k => k == zKey x.nsid x.zone))
def waitsMirror (s : State) (c : Nat) : Bool :=
  s.gr.mirEn && !(s.gr.mirLost && s.gr.mirPolicy == 1) && s.gr.mirOut.any (fun p => p.2 == c)

/-- A write whose data is all applied: its status is fixed once it waits for nothing more. -/
def settleWrite (c : Nat) (s : State) : State :=
  match ctxOf s c with
  | none => s
  | some x =>
    if x.st != .committed || x.applied < x.nlb || x.nlb = 0 then s else
    let wf := waitsFlash s x
    let wm := waitsMirror s c
    let s := modCtx c (fun x => { x with waitFlash := wf, waitMirror := wm }) s
    if wf || wm then s else complete c stOk (writeDws x).1 (writeDws x).2 s

/-- A Flush: the covered data that is on flash no longer counts, and with none left its status is fixed (R88). -/
def settleFlush (c : Nat) (s : State) : State :=
  onIo c 0x00 (fun x s =>
    if !x.validated then s else
    let left := x.cover.filter (fun p => !rangeOnFlash s p.1 p.2.1 (p.2.2 - p.2.1))
    let s := modCtx c (fun x => { x with cover := left }) s
    if left.isEmpty then succeed c s else s) s

/-- A Zone Management Send or Zone Shape that has taken effect: done, but under the floor of R285 only once no delta of its
namespace is still to reach flash. -/
def settleZone (c : Nat) (s : State) : State :=
  match ctxOf s c with
  | none => s
  | some x =>
    if x.st = .committed && x.waitFlash && (x.e.opc == 0x79 || x.e.opc == 0x81) && deltasKept s (fun k => k / 1048576 == x.e.nsid) then succeed c s else s
def zoneDone (c : Nat) (s : State) : State :=
  if s.gr.limited || !s.gr.late.isEmpty then s |> modCtx c (fun x => { x with st := .committed, waitFlash := true }) |> settleZone c |> pressure
  else s |> succeed c |> pressure

/-- Every command that waits for flash or for the mirror partner looked at again. -/
def settleAll (s : State) : State :=
  forEach (s.ce.ctxs.filterMap (fun p => if p.2.waitFlash || p.2.waitMirror then some p.1 else none)) (fun c t => t |> settleWrite c |> settleZone c) s |> fun t =>
  forEach (t.ce.ctxs.filterMap (fun p => if p.2.e.opc = 0 && p.2.validated && p.1 ≥ ioCtx then some p.1 else none)) settleFlush t

/-! ### Release (R286, R287) -/

/-- A list cut into parts of at most `n`. -/
def partsBy {α : Type} (n : Nat) (l : List α) : List (List α) := (List.range (ceilDiv l.length n)).map (fun i => (l.drop (n * i)).take n)

/-- The copies at the partner that have been released: MIRROR_RELEASEs name them, 1,024 in a payload of 4,096 bytes (R327, R334). -/
def releaseCopies (gone : List (Nat × Nat)) (s : State) : State :=
  let offs := s.gr.mirLbas.filterMap (fun p => if gone.contains p.2 then some p.1 else none)
  if offs.isEmpty then s else
  let s := onGr (fun g => { g with mirLbas := g.mirLbas.filter (fun p => !offs.contains p.1),
                                   mirHeld := g.mirHeld.filter (fun o => !offs.contains o) }) s
  if mirroring s then forEach (partsBy 1024 offs) (fun l t => (sendMsg tMirrorRelease s.gr.mirPartner (4 * l.length) l [] t).1) s else s

/-- Whether the Granary may let go of a frame: a partial frame only once its slot can no longer complete (R148, R149). -/
def frameFree (s : State) (z : Zone) (f : Frame) : Bool :=
  f.seg.isSome && frameOnFlash s z f && (!f.part || f.abandoned || z.st == .full || z.st == .readOnly)

/-- The Granary space of a zone's pages that meet the release rules is freed, and what waited for it goes on. -/
def releaseZone (key : Nat) (s : State) : State :=
  let z := zoneOf s key
  match z.band with
  | none => s
  | some b =>
    let us := z.units.filter (fun p => p.2.seg.isSome && cwOnFlash s (zoneDens z) b p.2.pos)
    let fs := z.frames.filter (frameFree s z)
    let ps := z.parity.filter (fun p => wlOnFlash s (zoneDens z) (bandOf s b) (parityPos s b) p.1)
    let gone := us.map (fun p => (key, p.1)) ++ fs.map (fun f => (key, 16 * f.slot + f.first))
    if us.isEmpty && fs.isEmpty && ps.isEmpty then settleAll s else
    s |> forEach (us.filterMap (fun p => p.2.seg) ++ fs.filterMap (fun f => f.seg) ++ ps.map (fun p => p.2)) freeItem
      |> modZone key (fun z => { z with
           units := tmap (fun _ u => if u.seg.isSome && cwOnFlash s (zoneDens z) b u.pos then { u with seg := none } else u) z.units,
           frames := z.frames.map (fun f => if frameFree s z f then { f with seg := none } else f),
           parity := z.parity.filter (fun p => !ps.contains p) })
      |> releaseCopies gone
      |> settleAll
      |> pressure

/-- Granary space of everything a zone still holds is given up: its data has been discarded (R64). -/
def dropZoneData (key : Nat) (s : State) : State :=
  let z := zoneOf s key
  s |> forEach (z.units.filterMap (fun p => p.2.seg) ++ z.frames.filterMap (fun f => f.seg) ++ z.parity.map (fun p => p.2)) freeItem
    |> releaseCopies (z.units.map (fun p => (key, p.1)) ++ z.frames.map (fun f => (key, 16 * f.slot + f.first)))
    |> modZone key (fun z => { z with units := [], frames := [], index := {}, parity := [], tickets := [], starts := [], fills := [], closedCw := [],
                                      stream := 0, tail := 0, nextPos := 0, fill := 0, abandoned := 0, headers := 0 })

/-! ### Putting data into the Granary (stage 5) -/

/-- Bytes of the running parity of one stripe. -/
def parityBytes (s : State) (dens : Nat) : Nat := bitsPerCell dens * s.board.planes * 16384

/-- Running parity of a position's stripe, begun with its first data (R281). -/
def openStripe (key b pos : Nat) (s : State) : State :=
  let z := zoneOf s key
  let w := pos / stripeCws s.board (zoneDens z) (dataWidth s b)
  if z.parity.any (fun p => p.1 == w) then s else
  let (g, s) := putItem 2 (parityBytes s (zoneDens z)) key w s
  modZone key (fun z => { z with parity := tset w g z.parity }) s

/-- The stripes of positions `[a, e)` of a zone whose running parity the Granary does not hold yet. -/
def newStripes (s : State) (z : Zone) (a e : Nat) : List Nat :=
  match z.band with
  | none => []
  | some b =>
    let per := stripeCws s.board (zoneDens z) (dataWidth s b)
    ((List.range (ceilDiv e per)).drop (a / per)).filter (fun w => !z.parity.any (fun p => p.1 == w))

/-- Frames of mirror class that a write's pages take at the partner, in units of 16 bytes: a MIRROR_DATA and the record that names it for each, and
one delta. -/
def mirrorUnits (pages : Nat) : Nat := pages * (frameUnits 4096 + frameUnits 12) + frameUnits 4096

/-- Whether the partner's half has room for the copies of a write's pages (R308, R330): the session's mirror credits cover them and what already waits
for credits. While no session reaches the partner the frames wait for one. -/
def mirrorRoom (s : State) (pages : Nat) : Bool :=
  !mirroring s || (match (linkTo s s.gr.mirPartner).bind (fun n => sessOf s (sessKey n (sessNode s n s.gr.mirPartner))) with
    | none => true
    | some x => decide (((x.queue.filter (fun f => f.cls == 1)).map (fun f => frameUnits f.len)).sum + mirrorUnits pages ≤ credOf x 1))

/-- Granary pages of a list of items. -/
def pagesFor (items : List Nat) : Nat := (items.map (fun b => ceilDiv b 4096)).sum

/-- Whether write data of a zone finds room: its full items and its partial frames, the running parity of the stripes they open up to position `e`,
and a delta; and in mirror mode the partner's copies. -/
def hasRoom (s : State) (key : Nat) (full parts : List Nat) (e : Nat) : Bool :=
  let z := zoneOf s key
  let from_ := if z.tail = 0 then z.nextPos else z.nextPos - 1
  s.gr.late.isEmpty && !s.gr.unplaced && mirrorRoom s (pagesFor (full ++ parts)) &&
  decide (newSegs s 0 full + newSegs s 1 parts + newSegs s 2 ((newStripes s z from_ e).map (fun _ => parityBytes s (zoneDens z))) +
          newSegs s 3 (if z.deltas then [] else [4096]) ≤ ownLeft s)

/-- The copy of a page to the mirror partner, at the same instant as the Granary's own (R333), and the record that names the page
by its Granary offset `off` (R334). A page that cannot be sent yet waits for the partner's return (R309). -/
def mirrorPage (c key lba kind off : Nat) (sl : Sealed) (s : State) : State :=
  if mirroring s || (s.gr.mirEn && s.gr.mirPolicy == 0) then
    let ctr := if kind = 0 then sl.nonce else 0
    let tag := if kind = 0 then leNat (sealTag sl) else 0
    let s' := onGr (fun g => { g with mirOut := g.mirOut.filter (fun o => o.1 != off) ++ [(off, c)], mirHeld := g.mirHeld.filter (fun o => o != off),
                                      mirLbas := tset off (key, lba) g.mirLbas }) s
    if mirroring s then
      let t := (sendMsg tMirrorState s.gr.mirPartner 12 [off, key, lba] [] s').1
      (sendPage s.gr.mirPartner 4096 [off, kind, ctr, tag] sl t).1
    else s'
  else s

/-- A frame's Granary pages go to the mirror partner. -/
def mirrorFrame (c key g : Nat) (f : Frame) (s : State) : State :=
  let lba := 16 * f.slot + f.first
  forEach (List.range (ceilDiv (16 * frameLen f) 4096)) (fun i => mirrorPage c key lba (if f.part then 2 else 1) (pageOf s g key lba + i) f.sealed) s

/-- One LBA of an uncompressed zone applied: its place in the band and its Granary page (R197, R281). -/
def applyUnit (c key b lba : Nat) (sl : Sealed) (s : State) : State :=
  let pos := (zoneOf s key).nextPos
  let (g, s) := putItem 0 4096 key lba s
  s |> openStripe key b pos
    |> modZone key (fun z => { z with units := tset lba { pos := pos, sealed := sl, seg := some g } z.units, nextPos := pos + 1 })
    |> mirrorPage c key lba 0 (pageOf s g key lba) sl

/-- Stripe of a write forced when the write must be on flash (R288). -/
def forceFor (c : Nat) (s : State) : State :=
  match ctxOf s c with
  | none => s
  | some x =>
    if x.applied < x.nlb || x.discarded then s
    else if x.fua then forceTo (zKey x.nsid x.zone) (x.first + x.nlb) .fua s
    else if writeThrough s then forceTo (zKey x.nsid x.zone) (x.first + x.nlb) .wt s
    else s

/-- A write whose entry is not yet posted: committed, or completed with success (R86). -/
def unposted (p : Nat × Ctx) : Bool :=
  decide (ioCtx ≤ p.1 ∧ p.1 < nCtx) && p.2.validated && (p.2.st == .committed || (p.2.st == .completed && p.2.status == stOk))

/-- Write-through just taken into force: every write whose entry is not yet posted is treated as if it carried FUA, those that are
COMPLETED and held too (R86), and the stripes of those applied are forced (R288). -/
def forceWaiting (s : State) : State :=
  let cs := (s.ce.ctxs.filter unposted).map (fun p => p.1)
  s |> forEach cs (modCtx · (fun x => { x with through := x.through || x.st == .completed })) |> forEach cs forceFor |> settleAll

/-- A change that may take write-through into force or out of it: the time it was in force is counted (R313), and writes go on. -/
def withWt (f : State → State) (s : State) : State :=
  let t := f s
  if writeThrough s == writeThrough t then t
  else if writeThrough t then t |> onGr (fun g => { g with wtSince := t.ck.tb }) |> forceWaiting
  else t |> onGr (fun g => { g with wtNs := satBits 64 (g.wtNs + (t.ck.tb - g.wtSince)) }) |> settleAll

/-! ### Orphans (R335) -/

/-- Bands taken until `n` codewords fit in them in SLC; none where the candidates run out. -/
def takeBands (s : State) : List Nat → Nat → Option (List Nat)
  | _, 0 => some []
  | [], _ => none
  | b :: r, n => (takeBands s r (n - bandCws s.board 0 (dataWidth s b))).map (fun l => b :: l)

end Sys2Proof.Machine
end

