-- ==== Sys2Proof/Machine/ZoneOps.lean ====
section
/-! DEFINITION. Zone states: resources, bands, validation of writes, the actions of Zone Management Send and the failure of a write
that has applied nothing (02_zones.md R49 to R64, 03_queues.md R81). -/

namespace Sys2Proof.Machine

/-! ### Grants (R49, R126, R133) -/

def domGranted (f : Fn) (d : Nat) : Bool := decide (d < 256) && bit f.share.domains d
def slotGranted (f : Fn) (k : Nat) : Bool := decide (k < 8192) && f.share.ksRanges.any (fun r => decide (r.1 ≤ k ∧ k < r.1 + r.2))

/-! ### Outcomes -/

/-- What an attempt to act on a zone gives: the change, a failure with status and CAUSE, or a wait. -/
inductive ZRes where
  | ok (s : State)
  | fail (st : Status) (cause : Nat) (s : State)
  | wait (s : State)

def stOffline : Status := { sct := 1, sc := 0xBB }
def stReadOnly : Status := { sct := 1, sc := 0xBA }
def stFull : Status := { sct := 1, sc := 0xB9 }
def stBoundary : Status := { sct := 1, sc := 0xB8 }
def stInvalidWrite : Status := { sct := 1, sc := 0xBC }
def stTooActive : Status := { sct := 1, sc := 0xBD }
def stTooOpen : Status := { sct := 1, sc := 0xBE }
def stTransition : Status := { sct := 1, sc := 0xBF }
def stLbaRange : Status := { sct := 0, sc := 0x80 }

/-- A grant violation found while acting on a zone (R126). -/
def grantFail (fn cause value : Nat) (s : State) : ZRes := .fail stGrant cause (raise 102 sevWarning [fn, cause, value] s)

/-! ### Resources (R58) -/

def isOpen (st : ZState) : Bool := st == .implOpen || st == .explOpen
def isActive (st : ZState) : Bool := isOpen st || st == .closed

def openNow (s : State) : Nat := (s.ze.zones.filter (fun p => isOpen p.2.st)).length
def activeNow (s : State) : Nat := (s.ze.zones.filter (fun p => isActive p.2.st)).length
def nsOpen (s : State) (nsid : Nat) : Nat := (s.ze.zones.filter (fun p => zNsid p.1 == nsid && isOpen p.2.st)).length
def nsActive (s : State) (nsid : Nat) : Nat := (s.ze.zones.filter (fun p => zNsid p.1 == nsid && isActive p.2.st)).length

/-- The implicitly opened zone of a namespace that was written least recently. -/
def implVictim (s : State) (nsid : Nat) : Option Nat :=
  match s.ze.zones.filter (fun p => zNsid p.1 == nsid && p.2.st == .implOpen) with
  | [] => none
  | h :: t => some (t.foldl (fun a p => if p.2.lastWrite < a.2.lastWrite then p else a) h).1

/-! ### Bands (R23, R51, R56, R57, R73) -/

/-- ZE_FBL_STAT of a domain's list. -/
def fblRef (d : Nat) : Ref := R.zeFblStat.bank d

/-- Whether reads that were started on a band are still running (R57). -/
def bandRead (s : State) (b : Nat) : Bool :=
  s.fl.jobs.any (fun j => j.2.band == b) ||
  s.ce.ctxs.any (fun p => p.2.src.any (fun r => r.2.band == b && r.2.pos.any (fun q => p.2.need.contains (r.2.zone, q))))

/-- Whether a band may be bound now: free, erased, of a row without a failed die that is not yet changed (R241). -/
def bandReady (s : State) (b : Nat) : Bool :=
  let x := bandOf s b
  bandFree x && x.erased && !x.erasing && (rowOf s (bandRow s b)).failedPos.isEmpty && !bandRead s b

/-- Whether a band is full-width. -/
def bandFull (s : State) (b : Nat) : Bool := !rowNarrow (rowOf s (bandRow s b))

/-- Whether a full-width band is free in a domain, erased or not (R51); those of a row with a failed die will be narrowed first (R241). -/
def fullFree (s : State) (d : Nat) : Bool :=
  (domRows s d).any (fun r => !rowNarrow (rowOf s r) && (rowOf s r).failedPos.isEmpty && decide (0 < rowFree s r))

/-- The bands that may be bound now for a zone of a domain: the head of the free-band list for the zone engine, and for firmware every erased
free band of the domain (R23, R56, R73). -/
def bandsFor (s : State) (d : Nat) (fw : Bool) : List Nat :=
  if fw then s.ze.bands.filterMap (fun p => if bandDom s p.1 == some d && rowUsed (rowOf s (bandRow s p.1)) && bandReady s p.1 then some p.1 else none)
  else ((domOf s d).fbl.filter (bandReady s)).take 1

/-- A band's wear points: the largest total among its die-blocks (R239). -/
def bandWear (s : State) (b : Nat) : Nat :=
  ((bandDies s b).map (fun dk => (blkOf s dk (servingBlk s dk (bandBlkIdx s b))).wear)).foldl Nat.max 0

/-- The least worn of some bands, the lowest of equal ones (R239). -/
def leastWorn (s : State) : List Nat → Option Nat
  | [] => none
  | h :: t => some (t.foldl (fun a b => if bandWear s b < bandWear s a then b else a) h)

/-- The band that a zone of a domain would bind. While a full-width band is free in the domain a narrowed one is not taken (R51): with a
narrowed band at the head of the list the transition goes to firmware (notes/assumptions/30.md). -/
def chooseBand (s : State) (d : Nat) (fw : Bool) : Option Nat :=
  leastWorn s ((bandsFor s d fw).filter (fun b => bandFull s b || !fullFree s d))

/-- Bands taken off a domain's free-band list; event source 416 when DEPTH falls below LOW_MARK (R73). -/
def fblDrop (d : Nat) (gone : Nat → Bool) (s : State) : State :=
  let l := (domOf s d).fbl
  let k := l.filter (fun b => !gone b)
  if k.length = l.length then s else
  let low := rdf s (fblRef d) 24 16
  let s := modDom d (fun x => { x with fbl := k }) s
  if low ≤ l.length && k.length < low then raise 416 sevInfo [] s else s

def fblTake (d b : Nat) (s : State) : State := fblDrop d (fun y => y == b) s

/-- A zone bound to a band with the shape in effect (R47, R51, R62). -/
def bindBand (key b : Nat) (s : State) : State :=
  let sh := shapeOf s (zNsid key) (zoneOf s key)
  s |> fblTake sh.domain b
    |> modBand b (fun x => { x with zone := some (zNsid key, zIdx key), prog := [], issued := [], temps := [] })
    |> modZone key (fun z => { z with band := some b, shape := some sh, width := dataWidth s b })

/-- A row with a failed die that no zone is bound to any longer: narrowed, or unused where it was narrowed or lacks a second die
(R243, R40). -/
def settleRow (r : Nat) (s : State) : State :=
  let x := rowOf s r
  if !x.migrating || s.ze.bands.any (fun p => bandRow s p.1 == r && p.2.zone.isSome) then s else
  let narrow := x.use == some 0 && x.failedPos.length == 1
  s |> modRow r (fun x => { x with use := some (if narrow then 1 else 2), absent := if narrow then x.failedPos.head? else x.absent,
                                   failedPos := [], migrating := false })
    |> onZe (fun z => { z with bands := tmap (fun b y => if bandRow s b = r then { y with erased := false, erasing := false } else y) z.bands })
    |> journal { typ := if narrow then 6 else 7, aux := r }
    |> raise 424 sevWarning [r, if narrow then 1 else 2]

/-- A band unbound (R57): its written die-blocks are FREE; one that holds no data needs no erase. -/
def freeBand (b : Nat) (noData : Bool) (s : State) : State :=
  let s := modBand b (fun x => { x with zone := none, erased := noData, prog := [], issued := [], temps := [] }) s
  let s := if noData then s else modBandBlks b (fun k => if k.st = 3 || k.st = 2 then { k with st := 0 } else k) s
  settleRow (bandRow s b) s

/-- A zone's band unbound. -/
def unbind (key : Nat) (noData : Bool) (s : State) : State :=
  match (zoneOf s key).band with
  | none => s
  | some b => s |> modZone key (fun z => { z with band := none }) |> freeBand b noData

/-! ### Transitions (R62) -/

/-- A zone closed, its writes applied: Closed, or Empty with its band unbound and its shape kept. -/
def closeZone (key : Nat) (s : State) : State :=
  let z := zoneOf s key
  if z.wp = 0 && z.ext.isNone then
    s |> modZone key (fun z => { z with st := .empty }) |> unbind key true |> modZone key (fun z => { z with width := 15 }) |> noteDelta key
  else s |> forceOutAll key |> modZone key (fun z => { z with st := .closed }) |> noteDelta key

/-- A zone made Full, its partial slots forced out (R148, R151). -/
def makeFull (key : Nat) (s : State) : State :=
  s |> forceOutAll key |> modZone key (fun z => { z with st := .full }) |> noteDelta key

/-- A zone whose write pointer has reached its capacity is Full, its open stripe forced (R62). -/
def zoneFilled (key : Nat) (s : State) : State :=
  let z := zoneOf s key
  onlyIf (isActive z.st && decide (z.wp = zcapOf s (shapeOf s (zNsid key) z) z.width)) (fun t => t |> makeFull key |> forceOpen key .finish) s

/-- A zone finished by the controller, with event source 419: 1 physical fit, 2 die failure, 3 capacity taken by fill (R534). -/
def finishedByController (key cause : Nat) (s : State) : State :=
  s |> makeFull key |> modZone key (fun z => { z with zfc := true }) |> raise 419 sevWarning [zNsid key, zIdx key, cause]

/-! ### Zones of a failed band (R62, R241, R242) -/

/-- What a zone has written that its band must hold, in codewords (R242, R158). -/
def liveFrames (z : Zone) : List Frame :=
  sortBy (fun a b => decide (a.slot < b.slot ∨ (a.slot = b.slot ∧ a.first ≤ b.first))) (z.frames.filter (fun f => !f.abandoned))
def liveCws (z : Zone) : Nat :=
  if zoneComp z then ceilDiv ((liveFrames z).map frameLen).sum 256 else z.units.length
def liveUnits (z : Zone) : Nat := if zoneComp z then (liveFrames z).length else z.units.length

/-- Whether a zone's domain has a free band, erased or not, that could hold it. -/
def migrationHope (s : State) (z : Zone) : Bool :=
  let d := (z.shape.map (fun h => h.domain)).getD 0
  (domRows s d).any (fun r => decide (0 < rowFree s r) && (rowOf s r).failedPos.isEmpty &&
    decide (liveCws z ≤ bandCws s.board (zoneDens z) (rowPositions (rowOf s r)).length.pred))

/-- A zone made Read Only (R62). -/
def makeReadOnly (key : Nat) (s : State) : State :=
  s |> modZone key (fun z => { z with st := .readOnly, stopped := false }) |> noteDelta key

/-- A zone that a die failure stopped, once its validated writes have been applied: Full, or Read Only where its domain has no free band for
it (R62, 08_flash_integrity.md R241). -/
def drainStopped (key : Nat) (s : State) : State :=
  let z := zoneOf s key
  if z.stopped && z.queue.isEmpty && isActive z.st then
    (if migrationHope s z then finishedByController key 2 s else makeReadOnly key s)
  else s

/-! ### Grants of a transition -/

/-- The grant checks of a zone that leaves Empty with the default shape (R49). A command that passed them and then waits keeps what it was
granted when the table changes (R127). -/
def leaveGrants (c fn key : Nat) (s : State) (k : State → ZRes) : ZRes :=
  let z := zoneOf s key
  if z.st != .empty || z.shape.isSome then k s else
  let sh := shapeOf s (zNsid key) z
  let f := fnOf s fn
  let kept (r : ZRes) : ZRes := match r with
    | .wait t => .wait (modCtx c (fun x => { x with passed := some (key, sh.domain, sh.keySlot) }) t)
    | r => r
  if (ctxOf s c).any (fun x => x.passed == some (key, sh.domain, sh.keySlot)) then kept (k s)
  else if !(domExists s sh.domain && domGranted f sh.domain) then grantFail fn 2 sh.domain s
  else if !slotGranted f sh.keySlot then grantFail fn 3 sh.keySlot s
  else kept (k s)

/-- A command that waits for a zone's validated writes to apply (R64). -/
def waitAt (key c : Nat) (s : State) : ZRes :=
  .wait (modZone key (fun z => { z with waiting := if z.waiting.contains c then z.waiting else z.waiting ++ [c] }) s)

/-- The active and open resources of a transition (R58), with the implicit close that may supply an open one. -/
def withResources (c key : Nat) (needOpen : Bool) (s : State) (k : State → ZRes) : ZRes :=
  let nsid := zNsid key
  let ns := (nsOf s nsid).getD {}
  if (zoneOf s key).st == .empty && decide (16384 ≤ activeNow s ∨ ns.mar ≤ nsActive s nsid) then .fail stTooActive 10 s
  else if needOpen && decide (4096 ≤ openNow s ∨ ns.mor ≤ nsOpen s nsid) then
    match implVictim s nsid with
    | none => .fail stTooOpen 10 s
    | some v => if (zoneOf s v).queue.isEmpty then k (closeZone v s) else waitAt v c s
  else k s

/-- The band of a transition from Empty (R56): chosen, refused with 0x7/0xC6, or waited for in firmware. -/
def withBand (c fn key : Nat) (fw implicit : Bool) (s : State) (k : Nat → State → ZRes) : ZRes :=
  let d := (shapeOf s (zNsid key) (zoneOf s key)).domain
  match chooseBand s d fw with
  | some b => k b s
  | none =>
    let s := if implicit && !fw && (domOf s d).fbl.isEmpty then s |> wrb (fblRef d) 31 true |> raise 417 sevInfo [] else s
    if domFree s d = 0 then .fail stDomainFull 0 (raise 418 sevWarning [d, fn, zNsid key] s)
    else .wait (s |> onZe (fun z => { z with bandWait := if z.bandWait.contains c then z.bandWait else z.bandWait ++ [c] })
                  |> onlyIf (!fw && implicit && !((ctxOf s c).map (fun x => x.inFw)).getD false) (toFirmware c))

/-- The zone that a Zone Management Send of one action names. -/
def zmsZone (s : State) (c : Nat) : Option Nat :=
  (ctxOf s c).bind (fun x => if x.e.opc = 0x79 && !bit x.e.cdw13 8 then
    some (zKey x.e.nsid ((x.e.cdw10 + 4294967296 * x.e.cdw11) / zoneLbas)) else none)

/-- Whether an action on a zone waits for a band, or for another zone to be closed: it holds back the zone's new writes (R64). -/
def bandHeld (s : State) (key : Nat) : Bool :=
  s.ze.bandWait.any (fun c => zmsZone s c == some key) ||
  s.ze.zones.any (fun z => z.1 != key && z.2.waiting.any (fun c => zmsZone s c == some key))

/-! ### Validation of writes (R59) -/

/-- Counter values a write reserves (R174). -/
def valuesFor (sh : Shape) (nlb : Nat) : Nat := if sh.comp then ceilDiv nlb 16 + 1 else nlb

/-- A ticket set with one more entry, the 256 newest (R94). -/
def pushTicket (t : Ticket) (l : List Ticket) : List Ticket := (l ++ [t]).drop (l.length + 1 - 256)

/-- Steps 5 to 7 of R59, and what follows when every check has passed. -/
def validateIn (c key : Nat) (append : Bool) (first nlb ticket : Nat) (band : Option Nat) (s : State) : ZRes :=
  let z := zoneOf s key
  let sh := shapeOf s (zNsid key) z
  let start := if append then z.vp else first
  if start + nlb > zcapOf s sh ((band.map (dataWidth s)).getD z.width) then .fail stBoundary 10 s
  else if start != z.vp then .fail stInvalidWrite 10 s
  else
    match captureGen s sh.keySlot with
    | none => .fail stKeyUnavailable 6 s
    | some g =>
      let n := valuesFor sh nlb
      match reserve sh.keySlot n s with
      | none => .fail stKeyExhausted 7 s
      | some (ctr, s) =>
        let ceil := pastCeil s sh.keySlot (ctr + n - 1)
        .ok (s
          |> (match band with
              | some b => bindBand key b
              | none => id)
          |> modZone key (fun z => { z with
               st := if isOpen z.st then z.st else .implOpen, vp := start + nlb, queue := z.queue ++ [c], lastWrite := s.ze.stamp + 1,
               tickets := if ticket = 0 then z.tickets else pushTicket { ticket := ticket, lba := start, nlb := nlb, ctx := c } z.tickets })
          |> onZe (fun e => { e with stamp := e.stamp + 1 })
          |> modCtx c (fun x => { x with
               nsid := zNsid key, zone := zIdx key, first := start, nlb := nlb, validated := true, ticket := ticket, inFw := false,
               keys := x.keys ++ [(sh.keySlot, g)], ctr := ctr, ctrLeft := n, waitCeil := ceil })
          |> onlyIf ceil (raise 267 sevWarning [sh.keySlot])
          |> noteDelta key)

/-- The checks of R59 for a write of a context to a zone, in their order. -/
def validate (c fn key : Nat) (append : Bool) (first nlb ticket : Nat) (fw : Bool) (s : State) : ZRes :=
  let z := zoneOf s key
  if z.rebuilding || !z.waiting.isEmpty || bandHeld s key then waitAt key c s
  else match z.st with
  | .offline => .fail stOffline 10 s
  | .readOnly => .fail stReadOnly 10 s
  | .full => .fail stFull 10 s
  | st =>
    if z.stopped then .fail stFull 10 s else
    leaveGrants c fn key s (fun s =>
      if isOpen st then validateIn c key append first nlb ticket none s
      else withResources c key true s (fun s =>
        if st == .empty then withBand c fn key fw true s (fun b s => validateIn c key append first nlb ticket (some b) s)
        else validateIn c key append first nlb ticket none s))

/-! ### The actions of Zone Management Send (R62, R64, R68) -/

/-- Open of a zone. -/
def actOpen (c fn key : Nat) (fw : Bool) (s : State) : ZRes :=
  let opened (s : State) : ZRes := .ok (s |> modZone key (fun z => { z with st := .explOpen }) |> noteDelta key)
  match (zoneOf s key).st with
  | .empty => leaveGrants c fn key s (fun s => withResources c key true s (fun s =>
      withBand c fn key fw false s (fun b s => opened (bindBand key b s))))
  | .implOpen => opened s
  | .closed => withResources c key true s opened
  | _ => .fail stTransition 10 s

/-- Close of a zone. -/
def actClose (key : Nat) (s : State) : ZRes :=
  match (zoneOf s key).st with
  | .implOpen | .explOpen => .ok (closeZone key s)
  | .closed => .ok s
  | _ => .fail stTransition 10 s

/-- Finish of a zone: its partial slots and its open stripe are forced (R288). -/
def actFinish (key : Nat) (s : State) : ZRes :=
  match (zoneOf s key).st with
  | .empty => .ok (s |> modZone key (fun z => { z with st := .full }) |> noteDelta key)
  | .implOpen | .explOpen | .closed => .ok (s |> makeFull key |> forceOpen key .finish |> noteDelta key)
  | .full => .ok s
  | _ => .fail stTransition 10 s

/-- The relocation generation's next value. Reads that still carry an earlier value than the present one are discarded first: the commands'
codewords are looked up again (01_architecture.md R30, R31). -/
def nextRelGen (key : Nat) (s : State) : State :=
  let g := (zoneOf s key).relGen
  s |> onFl (fun f => { f with jobs := f.jobs.filter (fun j => !(j.2.zone == key && j.2.relGen != g)) })
    |> modZone key (fun z => { z with relGen := (z.relGen + 1) % 65536 })

/-- A move of a zone abandoned for a reason: its target band is unbound and event source 426 is raised (R65, R245, 08_flash_integrity.md R251).
Reasons are numbered in the model's order: 0 tag failure, 1 step 6 of the ladder, 2 Reset, 3 HOLDUP, 4 firmware-domain reset, 5 generation,
6 chip warm reset
(notes/assumptions/7.md). -/
def dropMove (key reason : Nat) (s : State) : State :=
  match (zoneOf s key).move with
  | none => s
  | some m =>
    let b := (zoneOf s key).band.getD 0
    s |> nextRelGen key
      |> modZone key (fun z => { z with move := none })
      |> freeBand m.target false |> forEach (m.keys.map (fun k => k.1)) settleSlot
      |> raise 426 sevWarning [b, Config.eventParam 426 reason]

/-- Waits for flash of a zone's data end when its band is unbound (R64). -/
def discardZone (key : Nat) (s : State) : State :=
  s |> onCe (fun e => { e with ctxs := tmap (fun _ x =>
         { x with discarded := x.discarded || (x.validated && x.nlb != 0 && zKey x.nsid x.zone == key && x.applied == x.nlb),
                  cover := x.cover.filter (fun p => p.1 != key) }) e.ctxs,
                                  sqs := tmap (fun _ q => { q with partials := q.partials.filter (fun p => p.1 != key) }) e.sqs })
    |> dropMove key 2 |> dropZoneData key |> unbind key false |> settleAll

/-- Reset of a zone (R62, R65, R96). -/
def resetZone (key : Nat) (s : State) : State :=
  s |> discardZone key
    |> modZone key (fun z => { relGen := z.relGen, lastWrite := z.lastWrite, waiting := z.waiting, deltas := z.deltas })
    |> noteDelta key

def actReset (key : Nat) (s : State) : ZRes :=
  match (zoneOf s key).st with
  | .empty | .implOpen | .explOpen | .closed | .full => .ok (resetZone key s)
  | _ => .fail stTransition 10 s

/-- A zone made Offline: its band is unbound. The spec gives the writes that wait in it no status: `loseZone` ends them (DESIGN CHOICE,
notes/assumptions/13.md). -/
def offlineZone (key : Nat) (s : State) : State :=
  s |> discardZone key |> modZone key (fun z => { z with st := .offline }) |> noteDelta key

def actOffline (key : Nat) (s : State) : ZRes :=
  match (zoneOf s key).st with
  | .readOnly => .ok (offlineZone key s)
  | _ => .fail stTransition 10 s

/-- Set Zone Descriptor Extension of an Empty zone (R62, R68). -/
def actExt (c fn key : Nat) (ext : List Byte) (fw : Bool) (s : State) : ZRes :=
  match (zoneOf s key).st with
  | .empty => leaveGrants c fn key s (fun s => withResources c key false s (fun s =>
      withBand c fn key fw false s (fun b s =>
        .ok (s |> bindBand key b |> modZone key (fun z => { z with st := .closed, ext := some (bytesAt ext 0 64) }) |> noteDelta key))))
  | _ => .fail stTransition 10 s

/-- Zone Send Actions of the Zoned Namespace Command Set. -/
def zsaClose : Nat := 1
def zsaFinish : Nat := 2
def zsaOpen : Nat := 3
def zsaReset : Nat := 4
def zsaOffline : Nat := 5
def zsaExt : Nat := 0x10

/-- One action on one zone, once the writes already validated have been applied (R64). -/
def zoneAct (c fn key act : Nat) (ext : List Byte) (fw : Bool) (s : State) : ZRes :=
  if (zoneOf s key).rebuilding || !(zoneOf s key).queue.isEmpty then waitAt key c s
  else if act = zsaOpen then actOpen c fn key fw s
  else if act = zsaClose then actClose key s
  else if act = zsaFinish then actFinish key s
  else if act = zsaReset then actReset key s
  else if act = zsaOffline then actOffline key s
  else if act = zsaExt then actExt c fn key ext fw s
  else .fail stBadField 9 s

/-- The zones that Select All acts on (R535). -/
def selects (act : Nat) (st : ZState) : Bool :=
  match st with
  | .empty => false
  | .implOpen | .explOpen => act == zsaClose || act == zsaFinish || act == zsaReset
  | .closed => act == zsaOpen || act == zsaFinish || act == zsaReset
  | .full => act == zsaReset
  | .readOnly => act == zsaOffline
  | .offline => false

/-- Select All from a zone on, `fuel` zones of those listed at most: the first failure's status is kept, and a wait remembers where
to go on (R535). -/
def selectFrom (c fn act : Nat) (fw : Bool) : List Nat → State → ZRes
  | [], s => .ok s
  | key :: rest, s =>
    if !selects act (zoneOf s key).st then selectFrom c fn act fw rest s else
    match zoneAct c fn key act [] fw s with
    | .ok s => selectFrom c fn act fw rest (modCtx c (fun x => { x with asked := zIdx key + 1 }) s)
    | .fail st cause s => selectFrom c fn act fw rest (modCtx c (fun x =>
        { x with asked := zIdx key + 1, status := if x.status = stOk then st else x.status,
                 cause := if x.status = stOk then cause else x.cause,
                 errZone := if x.status = stOk then some (zIdx key) else x.errZone }) s)
    | .wait s => .wait s

/-- The zones of a namespace that the zone table lists, from an index on. -/
def zonesFrom (s : State) (nsid i : Nat) : List Nat :=
  s.ze.zones.filterMap (fun p => if zNsid p.1 = nsid && decide (i ≤ zIdx p.1) then some p.1 else none)

/-! ### Commands tried, and tried again after a wait -/

/-- SLBA, and the fields of Zone Management Send. -/
def eSlba (e : Entry) : Nat := e.cdw10 + 4294967296 * e.cdw11
def eNlb (e : Entry) : Nat := e.cdw12 % 65536 + 1
def zsaOf (e : Entry) : Nat := bits e.cdw13 7 0
def zsaAll (e : Entry) : Bool := bit e.cdw13 8

/-- LBAs of a Copy's source ranges. -/
def copyLbas (e : Entry) : Nat := (e.ranges.map (fun r => r.2)).sum

/-- LBAs of a write to its zone. -/
def writeNlb (e : Entry) : Nat := if e.opc = 0x19 then copyLbas e else eNlb e

/-- The ticket of an append (R93, R94). -/
def ticketOf (s : State) (x : Ctx) : Nat :=
  if x.e.opc = 0x7D && ((nsOf s x.e.nsid).map (fun n => n.ticketed)).getD false then x.e.cdw15 % 65536 else 0

/-- The opcodes of R59: Write, Write Zeroes, Copy, Zone Append and Peer Copy. -/
def isWriteOpc (opc : Nat) : Bool := opc == 0x01 || opc == 0x08 || opc == 0x19 || opc == 0x7D || opc == 0x85

/-- A namespace's zone that an LBA lies in; none beyond the namespace. -/
def zoneAt (s : State) (nsid lba : Nat) : Option Nat :=
  match nsOf s nsid with
  | some n => if lba / zoneLbas < n.zones then some (zKey nsid (lba / zoneLbas)) else none
  | none => none

/-- The end of an attempt: success of a Zone Management Send, or the failure with the zone it names. -/
def endAct (c key : Nat) (r : ZRes) : State :=
  match r with
  | .ok s => match ctxOf s c with
    | some x => if x.status = stOk then zoneDone c s else failAt c x.status x.cause x.errZone none s
    | none => s
  | .fail st cause s => failAt c st cause (some (zIdx key)) none s
  | .wait s => s

/-- The ticket set's entry that an append replays (R95). -/
def replayed (s : State) (key : Nat) (x : Ctx) : Option Ticket :=
  if ticketOf s x = 0 then none else (zoneOf s key).tickets.find? (fun t => t.ticket == ticketOf s x)

/-- Whether the append of a ticket is still in flight: its status is not fixed. -/
def inFlight (s : State) (t : Ticket) : Bool :=
  !t.applied || (match ctxOf s t.ctx with
    | some y => y.st == .committed && y.validated && y.ticket == t.ticket
    | none => false)

/-- A write validated, or failed at the check that fails; data of Write, Zone Append and Write Zeroes moves from then on (R14). A
replayed append waits for the original and then writes nothing (R95). An LBA out of range has CAUSE 0 here, which R101 does not place (DESIGN CHOICE,
notes/assumptions/31.md). -/
def tryWrite (c : Nat) (fw : Bool) (s : State) : State :=
  match ctxOf s c with
  | none => s
  | some x =>
    if x.st != .started || x.validated then s else
    match zoneAt s x.e.nsid (eSlba x.e) with
    | none => failAt c stLbaRange 0 none (some (eSlba x.e)) s
    | some key =>
      match replayed s key x with
      | some t =>
        if inFlight s t then modCtx c (fun y => { y with waitTicket := true }) s
        else if t.nlb != writeNlb x.e then failField c s
        else complete c stReplayed ((zIdx key * zoneLbas + t.lba) % 4294967296) ((zIdx key * zoneLbas + t.lba) / 4294967296) s
      | none =>
        match validate c x.fn key (x.e.opc == 0x7D) (eSlba x.e % zoneLbas) (writeNlb x.e) (ticketOf s x) fw s with
        | .ok t => modCtx c (fun y => { y with
            fua := bit x.e.cdw12 30, waitTicket := false, arrived := if x.e.opc = 0x19 || x.e.opc = 0x85 then y.arrived else y.nlb }) t
        | .fail st cause t => t |> dropKeys c |> failAt c st cause (some (zIdx key)) (some (eSlba x.e))
        | .wait t => modCtx c (fun y => { y with waitTicket := false }) t

/-- Replays whose original has ended go on (R95). -/
def wakeTickets (s : State) : State :=
  forEach (s.ce.ctxs.filterMap (fun p => if p.2.waitTicket && p.2.st == .started then some p.1 else none)) (fun c => tryWrite c false) s

/-- A Zone Management Send carried out as far as it can be. An LBA out of range has CAUSE 0, which R101 does not place (DESIGN CHOICE,
notes/assumptions/31.md). -/
def tryZms (c : Nat) (fw : Bool) (s : State) : State :=
  match ctxOf s c with
  | none => s
  | some x =>
    if x.st != .started then s else
    if zsaAll x.e then
      match selectFrom c x.fn (zsaOf x.e) fw (zonesFrom s x.e.nsid x.asked) s with
      | r => endAct c 0 r
    else
      match zoneAt s x.e.nsid (eSlba x.e) with
      | none => failAt c stLbaRange 0 none (some (eSlba x.e)) s
      | some key =>
        if eSlba x.e % zoneLbas != 0 then failField c s
        else endAct c key (zoneAct c x.fn key (zsaOf x.e) x.e.payload fw s)

/-- A command that waited tried again. -/
def tryCmd (c : Nat) (fw : Bool) (s : State) : State :=
  match ctxOf s c with
  | none => s
  | some x => if x.e.opc = 0x79 then tryZms c true s else if isWriteOpc x.e.opc then tryWrite c fw s else s

/-- Once a zone's validated writes have all applied, what waited for that goes on in order (R64). -/
def runWaiting (key : Nat) (s : State) : State :=
  let z := zoneOf s key
  if z.rebuilding || !z.queue.isEmpty || z.waiting.isEmpty || bandHeld s key then s else
  s |> modZone key (fun z => { z with waiting := [] }) |> forEach z.waiting (fun c => tryCmd c false)

/-- Every zone whose held commands may go on. -/
def runHeld (s : State) : State :=
  forEach (s.ze.zones.filterMap (fun z => if z.2.waiting.isEmpty then none else some z.1)) runWaiting s

/-- Firmware completes the transitions that wait for a band, in the order they began to wait (R56). -/
def serveBandWait (s : State) : State :=
  let l := s.ze.bandWait
  s |> onZe (fun z => { z with bandWait := [] })
    |> forEach l (fun c => tryCmd c true)
    |> runHeld

/-! ### A write that fails before its data is applied (R60, R96) -/

/-- Where the writes of a zone's queue end: the zone's validation pointer once one of them has left it (R60, R135). -/
def queueEnd (s : State) (z : Zone) (q : List Nat) : Nat :=
  match q.getLast?.bind (ctxOf s) with
  | some y => y.first + y.nlb
  | none => z.wp

/-- A context's place in its zone, its ticket if it applied nothing, and its keys given up. -/
def leaveZone (c : Nat) (x : Ctx) (s : State) : State :=
  let key := zKey x.nsid x.zone
  if !x.validated then dropKeys c s else
  s |> modZone key (fun z => { z with queue := z.queue.filter (fun i => i != c),
                                      vp := if z.queue.contains c then queueEnd s z (z.queue.filter (fun i => i != c)) else z.vp,
                                      tickets := if x.applied = 0 then z.tickets.filter (fun t => t.applied || t.ctx != c) else z.tickets })
    |> onGr (fun g => { g with waiters := g.waiters.filter (fun i => i != c) })
    |> dropKeys c

/-- The writes of a zone behind a place in its queue fail, none of their data applied (R60). -/
def failBehind (key : Nat) (cs : List Nat) (s : State) : State :=
  let st := if (zoneOf s key).st == .full then stFull else stInvalidWrite
  forEach cs (fun c t =>
    match ctxOf t c with
    | none => t
    | some x => t |> leaveZone c x |> failAt c st 5 (some (zIdx key)) (some (ctxLba x))) s

/-- A validated write fails: the validation pointer returns to where its data ends, and every write validated behind it fails. The
zone's own change, if any, is `zf`. -/
def failWriteWith (c : Nat) (st : Status) (cause : Nat) (zf : State → State) (s : State) : State :=
  match ctxOf s c with
  | none => s
  | some x =>
    if !x.validated then s |> leaveZone c x |> failAt c st cause none none else
    let key := zKey x.nsid x.zone
    let behind := ((zoneOf s key).queue.dropWhile (fun i => i != c)).tail
    s |> leaveZone c x
      |> modZone key (fun z => { z with vp := x.first + x.applied })
      |> zf
      |> failAt c st cause (some x.zone) (some (ctxLba x))
      |> failBehind key behind
      |> drainStopped key
      |> runWaiting key
      |> runHeld
      |> wakeTickets

def failWrite (c : Nat) (st : Status) (cause : Nat) (s : State) : State := failWriteWith c st cause id s

/-- A write whose data does not fit: the zone goes Full, finished by the controller (R54, R290). -/
def failFit (c : Nat) (cause : Nat) (s : State) : State :=
  match ctxOf s c with
  | none => s
  | some x => failWriteWith c stCapacity 0 (finishedByController (zKey x.nsid x.zone) cause) s

/-! ### Order of effects within a queue (R81) -/

/-- Whether a command's effect has taken place, or it has none. -/
def effectDone (s : State) (c : Nat) : Bool :=
  match ctxOf s c with
  | none => true
  | some x =>
    x.st == .completed ||
    (if isWriteOpc x.e.opc then x.validated && decide (x.applied = x.nlb) && x.nlb != 0
     else x.st == .committed || !(x.e.opc == 0x79 || x.e.opc == 0x81))

/-- The commands of a context's queue that were submitted before it. -/
def earlier (s : State) (c : Nat) (x : Ctx) : List Nat :=
  ((sqOf s x.fn x.sqid).map (fun q => q.live.takeWhile (fun i => i != c))).getD []

def effectsBefore (s : State) (c : Nat) (x : Ctx) : Bool := (earlier s c x).all (effectDone s)

/-- Whether a write may be validated: every earlier write of its queue has been, and every earlier change of a zone is made. -/
def mayValidate (s : State) (c : Nat) (x : Ctx) : Bool :=
  (earlier s c x).all (fun i => match ctxOf s i with
    | none => true
    | some y => y.st == .completed || (if isWriteOpc y.e.opc then y.validated else y.st == .committed || !(y.e.opc == 0x79 || y.e.opc == 0x81)))

/-- The zone bound to a band whose data is there, not on its way. -/
def bandZone (s : State) (b : Nat) : Option Nat :=
  match (bandOf s b).zone with
  | some (n, z) => if (zoneOf s (zKey n z)).band = some b then some (zKey n z) else none
  | none => none

end Sys2Proof.Machine
end

