-- ==== Sys2Proof/Machine/Operands.lean ====
section
/-! DEFINITION. The operands of data commands: the elements of precision trimming, the LBAs that a write carries, and the frames that
they make (05_transforms.md R139 to R143, R161, R162). -/

namespace Sys2Proof.Machine

/-- An LBA of zeros. -/
def zeroBlock : Block := List.replicate 4096 0#8

/-! ### Precision trimming (R161, R162) -/

/-- Bytes of an element of a TRIM_TYPE, its stored mantissa bits M and its exponent bits. -/
def trimBytes (typ : Nat) : Nat := if typ = 1 then 8 else if typ = 2 then 4 else 2
def trimM (typ : Nat) : Nat := if typ = 1 then 52 else if typ = 2 then 23 else if typ = 3 then 10 else 7
def trimExp (typ : Nat) : Nat := if typ = 1 then 11 else if typ = 2 then 8 else if typ = 3 then 5 else 8

/-- Whether an element is a NaN, and the canonical quiet NaN of its sign. -/
def isNan (typ v : Nat) : Bool :=
  decide (bits v (trimM typ + trimExp typ - 1) (trimM typ) = 2 ^ trimExp typ - 1) && decide (v % 2 ^ trimM typ ≠ 0)
def quietNan (typ v : Nat) : Nat :=
  (v / 2 ^ (trimM typ + trimExp typ)) * 2 ^ (trimM typ + trimExp typ) + (2 ^ trimExp typ - 1) * 2 ^ trimM typ + 2 ^ (trimM typ - 1)

/-- One element through the trim unit. -/
def trimElem (typ keep v : Nat) : Nat :=
  if isNan typ v then quietNan typ v else v - v % 2 ^ (trimM typ - keep)

/-- `n` elements of a byte list trimmed. -/
def trimElems (typ keep : Nat) : Nat → List Byte → List Byte
  | 0, _ => []
  | n + 1, bs => leBytes (trimBytes typ) (trimElem typ keep (leNat (bs.take (trimBytes typ)))) ++ trimElems typ keep n (bs.drop (trimBytes typ))

/-- An LBA through the trim unit of a shape: only a compressed zone is trimmed (01_architecture.md, the write path). -/
def trimBlock (sh : Shape) (b : Block) : Block :=
  if sh.comp && sh.trimType != 0 then trimElems sh.trimType sh.trimKeep (4096 / trimBytes sh.trimType) b else b

/-! ### The data of a write -/

/-- LBA `i` of a write: the host's data, what a Copy or Peer Copy has from its source, or zeros (03_queues.md R111). -/
def writeBlock (x : Ctx) (i : Nat) : Block :=
  if x.e.opc = 0x08 then zeroBlock
  else if x.e.opc = 0x19 || x.e.opc = 0x85 then tget zeroBlock x.got i
  else bytesAt (x.e.blocks.getD i []) 0 4096

/-- The LBAs of a write's data that have come so far without a gap. -/
def gotPrefix (x : Ctx) : Nat := ((List.range (writeNlb x.e)).takeWhile (fun i => (tfind x.got i).isSome)).length

/-- The first LBA of a zone, and the absolute LBA of an offset in it. -/
def absLba (key off : Nat) : Nat := zIdx key * zoneLbas + off

/-! ### Frames (R139 to R143) -/

/-- The slots that a write touches: how many, and of the k-th its number and the slot-relative LBAs `[a, b)` written. -/
def frameCount (x : Ctx) : Nat := if x.nlb = 0 then 0 else (x.first + x.nlb - 1) / 16 + 1 - x.first / 16
def frameSlot (x : Ctx) (k : Nat) : Nat := x.first / 16 + k
def frameFrom (x : Ctx) (k : Nat) : Nat := x.first - 16 * frameSlot x k
def frameTo (x : Ctx) (k : Nat) : Nat := Nat.min 16 (x.first + x.nlb - 16 * frameSlot x k)

/-- Offset in the write of the first LBA that its k-th frame brings, and that after the last. -/
def frameStart (x : Ctx) (k : Nat) : Nat := 16 * frameSlot x k + frameFrom x k - x.first
def frameEnd (x : Ctx) (k : Nat) : Nat := 16 * frameSlot x k + frameTo x k - x.first

/-- A slot's partial frames that are still its data, oldest first. -/
def slotParts (z : Zone) (slot : Nat) : List Frame := z.frames.filter (fun f => f.slot == slot && f.part && !f.abandoned)

/-- The frame holding the data of an LBA offset of a zone: the slot's full frame, or the partial frame that carries it. -/
def frameAt (z : Zone) (off : Nat) : Option Frame :=
  match z.frames.find? (fun f => f.slot == off / 16 && !f.part) with
  | some f => some f
  | none => (slotParts z (off / 16)).find? (fun f => decide (f.first ≤ off % 16 ∧ off % 16 < f.first + f.count))

/-- A byte list cut into LBAs, `n` at most. -/
def splitBlocks : Nat → List Byte → List Block
  | 0, _ => []
  | n + 1, bs => if bs.isEmpty then [] else bs.take 4096 :: splitBlocks n (bs.drop 4096)

/-- The LBAs of a unit's plaintext; of a compressed payload as far as LBA `stop` of the unit, or whole, and none where it breaks R145. -/
def unitBlocks (stop : Option Nat) (u : Sealed) : Option (List Block) :=
  if u.pay.isEmpty then some u.plain else (inflate (stop.map (fun p => 4096 * (p + 1))) u.pay).map (splitBlocks 16)

/-- The frame that a write's k-th slot gives, sealed under the write's key (R141 to R143, R167). -/
def mkFrame (s : State) (key : Nat) (x : Ctx) (k : Nat) : Frame :=
  let z := zoneOf s key
  let sh := shapeOf s x.nsid z
  let slot := frameSlot x k
  let a := frameFrom x k
  let b := frameTo x k
  let new := (List.range (b - a)).map (fun j => trimBlock sh (writeBlock x (frameStart x k + j)))
  let full := b == 16
  let data := if full then (slotParts z slot).flatMap (fun f => f.sealed.plain) ++ new else new
  let pay := fullPayload data.flatten
  let raw := !full || decide (65520 < pay.length)
  let first := if full then 0 else a
  let kk := x.encKey.getD (0, 0)
  withHeader
    { slot := slot, first := first, count := data.length, raw := raw, part := !full, trimmed := sh.trimType != 0,
      payBytes := if raw then 4096 * data.length else pay.length,
      sealed := { plain := if raw then data else [], pay := if raw then [] else pay, key := kk.1, salt := kk.2, ctr := x.ctr + k,
                  nonce := x.ctr + k, lba := absLba key (16 * slot + first), nsid := x.nsid, zone := x.zone, bgen := zoneBgen s key } }

/-- One LBA of an uncompressed zone sealed under a write's key. -/
def mkUnit (s : State) (key : Nat) (x : Ctx) (i : Nat) : Sealed :=
  let kk := x.encKey.getD (0, 0)
  { plain := [writeBlock x i], key := kk.1, salt := kk.2, ctr := x.ctr + i, nonce := x.ctr + i, lba := absLba key (x.first + i), nsid := x.nsid,
    zone := x.zone, bgen := zoneBgen s key }

/-- Cipher units of a write: its LBAs, or its frames (01_architecture.md R16). -/
def writeUnits (s : State) (x : Ctx) : Nat :=
  if zoneComp (zoneOf s (zKey x.nsid x.zone)) then frameCount x else x.nlb

end Sys2Proof.Machine
end

