-- ==== Sys2Proof/Machine/Flags.lean ====
section
/-! DEFINITION. The flags that reads compute: completion DW0 (03_queues.md R89, R90) and the counts of the Read Margin Histogram
(09_tail_latency.md R274, R275). -/

namespace Sys2Proof.Machine

/-- DW0 of a Read or Verify (R89), with a margin. -/
def dw0With (x : Ctx) (margin : Nat) : Nat := margin % 256 + 256 * x.detour.toNat + 512 * x.recon.toNat + 1024 * x.reloc.toNat
def readDw0 (x : Ctx) : Nat := dw0With x x.margin

/-- A margin seen for a context: the least counts (R90). -/
def noteMargin (c m : Nat) (s : State) : State := modCtx c (fun x => { x with margin := Nat.min x.margin m }) s

/-- The histogram of a namespace changed. -/
def onHist (nsid : Nat) (f : Hist → Hist) (s : State) : State := modNs nsid (fun n => { n with hist := f n.hist }) s

/-- A codeword of a density counted with its margin: bins saturate (R274, R275). -/
def histCodeword (dens m : Nat) (h : Hist) : Hist :=
  { h with codewords := satBits 64 (h.codewords + 1), bins := tmod 0 (256 * dens + m) (fun n => satBits 32 (n + 1)) h.bins }
def histGranary (n : Nat) (h : Hist) : Hist := { h with granary := satBits 64 (h.granary + n) }
def histDetour (h : Hist) : Hist := { h with detours := satBits 64 (h.detours + 1) }
def histRecon (h : Hist) : Hist := { h with recon := satBits 64 (h.recon + 1) }
def histAbandoned (h : Hist) : Hist := { h with abandoned := satBits 64 (h.abandoned + 1) }

end Sys2Proof.Machine
end

