-- ==== Sys2Proof/Machine/Squash.lean ====
section
/-! DEFINITION. Ending the work of a context before its time, and taking a function away (04_tenants.md R134 to R136,
03_queues.md R107). -/

namespace Sys2Proof.Machine

/-- The context that a read job serves. -/
def issuerCtx : Issuer → Option Nat
  | .hostRead c _ _ => some c
  | _ => none

/-- The tags of a context's read jobs, and those of their detours' constituents. -/
def jobTags (s : State) (c : Nat) : List Nat :=
  let own := s.fl.jobs.filterMap (fun j => if issuerCtx j.2.who = some c then some j.1 else none)
  own ++ s.fl.jobs.filterMap (fun j => match j.2.who with
    | .constituent t => if own.contains t then some j.1 else none
    | _ => none)

/-- Reads taken back: their descriptors not yet issued leave the die queues and complete with CANCELLED, and whatever still comes is discarded
(R203, R262). -/
def cancelTags (ts : List Nat) (s : State) : State :=
  let mine (x : Desc × Issuer) : Bool := ts.contains x.1.tag && decide (x.1.op ≤ 3) && x.2 != Issuer.firmware
  if ts.isEmpty then s else
  s |> onFl (fun f => { f with jobs := f.jobs.filter (fun j => !ts.contains j.1), heldPosts := f.heldPosts.filter (fun p => !mine p.2) })
    |> forEach (s.fl.dies.map (fun d => d.1)) (fun dk => dropDescs dk 5 mine)

/-- A Peer Copy's source told to stop (R342). -/
def cancelCopy (c : Nat) (x : Ctx) (s : State) : State :=
  if x.e.opc = 0x85 && x.chunks != 0 && x.e.cdw13 % 262144 != ownNode s then
    (sendMsg tCopyReq (x.e.cdw13 % 262144) 0 [c, 1] [] s).1
  else s

/-- A context's work stopped: its place in its zone and its keys given up, its reads and its waits ended. -/
def stopWork (c : Nat) (s : State) : State :=
  match ctxOf s c with
  | none => s
  | some x =>
    s |> leaveZone c x
      |> cancelTags (jobTags s c)
      |> cancelCopy c x
      |> onZe (fun z => { z with bandWait := z.bandWait.filter (fun i => i != c),
                                 zones := tmap (fun _ y => { y with waiting := y.waiting.filter (fun i => i != c) }) z.zones })

/-- A squashed write whose data is packed is applied as far as it is packed (R54, R135): a write that is applied whole is never split. -/
def applyPacked (c : Nat) (s : State) : State :=
  match ctxOf s c with
  | none => s
  | some x =>
    if !x.validated || x.packed ≤ x.applied then s else
    let key := zKey x.nsid x.zone
    s |> modCtx c (fun y => { y with applied := y.packed })
      |> modZone key (fun z => { z with
           wp := z.wp + (x.packed - x.applied),
           tickets := z.tickets.map (fun t => if t.ctx = c then { t with applied := true } else t) })
      |> noteDelta key |> zoneFilled key

/-- The writes of a present function generation that are validated behind a write which does not end whole: they fail (R60, R135). -/
def freshBehind (s : State) (c : Nat) : List Nat :=
  match ctxOf s c with
  | none => []
  | some x =>
    if !x.validated || x.applied == x.nlb then [] else
    ((zoneOf s (zKey x.nsid x.zone)).queue.dropWhile (fun i => i != c)).tail.filter (fun i => ((ctxOf s i).map (ctxFresh s)).getD false)

/-- A context stopped and returned to FREE, with no entry. -/
def squashCtx (c : Nat) (s : State) : State :=
  let s := applyPacked c s
  let key := ((ctxOf s c).map (fun x => zKey x.nsid x.zone)).getD 0
  s |> stopWork c |> freeCtx c |> failBehind key (freshBehind s c) |> drainStopped key |> runHeld

/-- The contexts of a function fetched under a generation other than its present one. -/
def oldCtxs (s : State) (fn : Nat) : List (Nat × Ctx) :=
  s.ce.ctxs.filter (fun p => p.2.fn == fn && !p.2.tunnel && p.2.fgen != (fnOf s fn).gen)

/-- Whether a STARTED command has passed its commit point: a Select All that has changed a zone. -/
def begun (x : Ctx) : Bool := x.e.opc == 0x79 && x.asked != 0

/-- Whether a context past its commit point still has internal work (R134): LBAs to apply, zones that a Select All has yet to change, namespaces to delete, or an activation under way (18_bring_up.md R504). -/
def worksOn (x : Ctx) : Bool :=
  (x.st == .committed && isWriteOpc x.e.opc && decide (x.applied < x.nlb)) || (x.st == .started && x.sqid != 0 && begun x) ||
  (x.st == .committed && x.sqid == 0 && (x.e.opc == 0x0D || x.e.opc == 0x10))

/-- Whether a write is applied whole or not at all (R92, R135). -/
def wholeWrite (s : State) (x : Ctx) : Bool :=
  x.e.opc != 0x19 && x.e.opc != 0x85 && (decide (x.nlb ≤ 64) || zoneComp (zoneOf s (zKey x.nsid x.zone)))

/-- LBAs of a squashed write whose data had arrived in the Larder: all of a whole write; of a Copy or Peer Copy what came; of another
write a number that no command gives (notes/assumptions/3.md). -/
def arrivedAtSquash (s : State) (x : Ctx) : Nat :=
  if wholeWrite s x || x.e.opc = 0x19 || x.e.opc = 0x85 then x.arrived
  else x.applied + freeVal s % (x.nlb + 1 - x.applied)

/-- Steps 1 to 3 of R134 begin: the generation increments, contexts before their commit point return to FREE, and those past it go
on with the data that has arrived. A second reset before the first has ended merges into it, and the reset of a function that a
parity fault squashes takes that squash over. -/
def squashBegin (fn : Nat) (kind : SquashKind) (s : State) : State :=
  let f := fnOf s fn
  if f.squash.isSome then
    (if kind = .vfDisable || f.squash = some .parity then modFn fn (fun f => { f with squash := some kind }) s else s)
  else
    let s := modFn fn (fun f => { f with gen := (f.gen + 1) % 256, squash := some kind }) s
    let old := oldCtxs s fn
    s |> onAtt (fun a => { a with download := a.download.filter (fun d => d.owner != fn) })
      |> forEach (old.filterMap (fun p => if worksOn p.2 then none else some p.1)) squashCtx
      |> forEach (old.filterMap (fun p => if worksOn p.2 then some p.1 else none)) (fun c t =>
           match ctxOf t c with
           | none => t
           | some x => if !isWriteOpc x.e.opc || x.sqid = 0 then t else
                       let n := arrivedAtSquash t x
                       t |> modCtx c (fun x => { x with arrived := n }) |> cancelCopy c x |> tookFree)

/-- Whether a port's VF Enable and NumVFs cover a function; a PF is always there (R119). -/
def vfCovered (s : State) (fn : Nat) : Bool :=
  let p := tget {} s.ce.ports (portOf fn)
  isPf fn || (p.vfEnable && decide (fn < vfFn (portOf fn) (p.numVfs + 1)))

/-- Step 5 of R134: the function's queues, Freeze Log entries, pending events and controller registers return to reset state, and each
affected zone's validation pointer is set to its write pointer (R135). A VF that VF Enable covers again stays present (R119). A squash for a parity fault has no step 5: the controller
stays failed (14_control.md R390). -/
def squashEnd (fn : Nat) (s : State) : State :=
  if (fnOf s fn).squash = some .parity then modFn fn (fun f => { f with squash := none }) s else
  let f := fnOf s fn
  s |> onCe (fun e => { e with sqs := e.sqs.filter (fun p => p.1 / 65536 != fn), cqs := e.cqs.filter (fun p => p.1 / 65536 != fn) })
    |> modFn fn (fun g => { g with
         en := false, rdy := false, cfs := false, shn := false, shst := 0, squash := none, deficit := 0, rrNext := 0,
         freezeMasked := false, asyncEvents := [], tempThreshold := 368, tempCrossed := false,
         present := g.present && (f.squash != some .vfDisable || vfCovered s fn) })
    |> onZe (fun z => { z with zones := tmap (fun _ y =>
         if y.queue.isEmpty then { y with vp := y.wp } else y) z.zones })

end Sys2Proof.Machine
end

