-- ==== Sys2Proof/Machine/Queues.lean ====
section
/-! DEFINITION. Doorbells, arbitration, the start and the posting of commands, queue creation and deletion, Abort and Resume Queue
(03_queues.md R75 to R111, 04_tenants.md R121 to R132). -/

namespace Sys2Proof.Machine

/-! ### Doorbells (R82, R121) -/

/-- Whether a function's doorbells act. -/
def bellOn (s : State) (fn : Nat) : Bool := (fnOf s fn).present && (fnOf s fn).en && (fnOf s fn).squash.isNone

/-- The first `n` of a list of entries; entries that the list does not give are all zero. -/
def padEntries (n : Nat) (l : List Entry) : List Entry := (l ++ List.replicate n ({} : Entry)).take n

/-- SQ_TAIL_DOORBELL: the tail is recorded; `entries` are those that host memory holds from the old tail on. -/
def execSqTailDoorbell (fn sqid tail : Nat) (entries : List Entry) (s : State) : Host.Outcome State Fault Refusal :=
  .next (match sqOf s fn sqid with
  | none => s
  | some q =>
    if bellOn s fn && decide (tail < q.size) then
      modSq fn sqid (fun q => { q with
        tail := tail, entries := q.entries ++ padEntries ((tail + q.size - q.tail) % q.size) entries }) s
    else s)

/-- CQ_HEAD_DOORBELL. -/
def execCqHeadDoorbell (fn cqid head : Nat) (s : State) : Host.Outcome State Fault Refusal :=
  .next (match cqOf s fn cqid with
  | none => s
  | some q => if bellOn s fn && decide (head < q.size) then modCq fn cqid (fun q => { q with head := head }) s else s)

/-! ### Arbitration (R76, R77, R122, R128 to R131) -/

/-- Whether fetching runs at all. -/
def fetching (s : State) : Bool := !s.ce.fetchStop && inService s && !s.pw.waking && !s.pw.wakeHold

/-- Contexts a submission queue may hold (R113). -/
def qctxMax (s : State) : Nat := Nat.min 4096 (Nat.max 1 (rdf s R.ceQctx 12 0))

/-- Whether a queue has an entry that may be fetched (R77, R98, R104, R105). -/
def fetchable (s : State) (q : Sq) : Bool :=
  !q.entries.isEmpty && q.frozen.isNone && q.deleting.isNone && q.resuming.isNone && q.drain.isEmpty && decide (q.live.length < qctxMax s)

/-- LBAs of an entry as arbitration counts them, and the entry's cost (R128). -/
def lbasOf (e : Entry) : Nat :=
  if e.opc = 0x19 then copyLbas e
  else if [0x01, 0x02, 0x08, 0x0C, 0x7D, 0x85].contains e.opc then eNlb e else 0
def costOf (e : Entry) : Nat := 1 + ceilDiv (lbasOf e) 16

/-- A function's I/O queues that may be fetched from, by queue ID. -/
def ioReady (s : State) (fn : Nat) : List (Nat × Sq) :=
  s.ce.sqs.filterMap (fun p => if p.1 / 65536 = fn && p.1 % 65536 != 0 && fetchable s p.2 then some (p.1 % 65536, p.2) else none)

/-- A function's next queue, round robin. -/
def nextQueue (s : State) (fn : Nat) : Option (Nat × Sq) :=
  let l := ioReady s fn
  match l.find? (fun p => decide ((fnOf s fn).rrNext ≤ p.1)) with
  | some p => some p
  | none => l.head?

/-- A token bucket refilled for 1 µs and clipped to its depth; with no cap it holds nothing (R129, R130). -/
def refill (level : Int) (cap burst : Nat) : Int :=
  if cap = 0 then min level 0 else min (level + cap) (cap * burst * 100 : Nat)

/-- What a function has at the start of a round: new settings, refilled buckets, and its WEIGHT gained (R128 to R130). -/
def roundFn (s : State) (fn : Nat) (f : Fn) : Fn :=
  let sh := f.share
  { f with inForce := sh,
           cmdBucket := refill f.cmdBucket sh.iopsCap sh.burst, byteBucket := refill f.byteBucket sh.bwCap sh.burst,
           deficit := if (ioReady s fn).isEmpty then 0 else Nat.min (f.deficit + sh.weight) (4 * sh.weight) }

/-- Whether a function's buckets and weight let it fetch. -/
def bucketsOpen (f : Fn) : Bool :=
  f.inForce.weight != 0 && (f.inForce.iopsCap == 0 || decide (0 < f.cmdBucket)) && (f.inForce.bwCap == 0 || decide (0 < f.byteBucket))

/-! ### What a Flush covers (R88) -/

/-- Whether a Flush names a namespace: by NSID, or with 0xFFFF_FFFF every one attached to its function. -/
def flushNs (s : State) (fn nsid n : Nat) : Bool :=
  if nsid = 0xFFFFFFFF then ((nsOf s n).bind (fun y => y.attached)) == some fn else n == nsid

/-- A range of LBA offsets less another. -/
def cutRange (p r : Nat × Nat) : List (Nat × Nat) :=
  [(p.1, Nat.min p.2 r.1), (Nat.max p.1 r.2, p.2)].filter (fun q => decide (q.1 < q.2))

/-- A write that holds a place in a zone and whose entry is not yet posted: its range of LBA offsets there. -/
def heldRange (key : Nat) (p : Nat × Ctx) : Option (Nat × Nat) :=
  if decide (ioCtx ≤ p.1) && isWriteOpc p.2.e.opc && p.2.validated && !p.2.discarded && zKey p.2.nsid p.2.zone == key then
    some (p.2.first, p.2.first + p.2.nlb) else none

/-- The accepted data of a zone: what lies below the accepted pointer, less the writes whose entries are not posted (R84,
notes/assumptions/31.md). -/
def acceptedRanges (s : State) (key : Nat) : List (Nat × Nat) :=
  (s.ce.ctxs.filterMap (heldRange key)).foldl (fun ps r => ps.flatMap (fun p => cutRange p r))
    ([(0, (zoneOf s key).ap)].filter (fun q => decide (q.1 < q.2)))

/-- What a Flush covers when it is fetched: the accepted data of the namespaces it names that is not yet on flash. -/
def coverAtFetch (s : State) (fn : Nat) (e : Entry) : List (Nat × (Nat × Nat)) :=
  (s.ze.zones.filter (fun p => flushNs s fn e.nsid (zNsid p.1))).flatMap (fun p =>
    ((acceptedRanges s p.1).filter (fun r => !rangeOnFlash s p.1 r.1 (r.2 - r.1))).map (fun r => (p.1, r)))

/-- What earlier writes of the Flush's own queue had applied when they failed. -/
def queuePartials (s : State) (fn : Nat) (e : Entry) (q : Sq) : List (Nat × (Nat × Nat)) :=
  q.partials.filter (fun p => flushNs s fn e.nsid (zNsid p.1) && !rangeOnFlash s p.1 p.2.1 (p.2.2 - p.2.1))

/-- What of a write a Flush behind it in its queue covers: the LBAs applied, in a namespace that the Flush names. -/
def writeCover (s : State) (f y : Ctx) : Option (Nat × (Nat × Nat)) :=
  if isWriteOpc y.e.opc && y.validated && !y.discarded && y.applied != 0 && flushNs s f.fn f.e.nsid y.nsid then
    some (zKey y.nsid y.zone, (y.first, y.first + y.applied)) else none

/-- The LBAs that a posted write of the queue applied before it failed: a later Flush of the queue covers them too, as the accepted pointer
may stop short of them. What has reached flash is dropped. -/
def notePartial (fn sqid : Nat) (y : Ctx) (s : State) : State :=
  let key := zKey y.nsid y.zone
  if isWriteOpc y.e.opc && y.validated && !y.discarded && y.applied != 0 && y.applied != y.nlb then
    modSq fn sqid (fun q => { q with
      partials := (q.partials ++ [(key, (y.first, y.first + y.applied))]).filter (fun p => !rangeOnFlash s p.1 p.2.1 (p.2.2 - p.2.1)) }) s
  else s

/-- A write posted: the Flushes behind it in its queue cover it from now on. -/
def noteFlushes (fn sqid c : Nat) (y : Ctx) (s : State) : State :=
  if sqid = 0 then s else
  forEach ((((sqOf s fn sqid).map (fun q => q.live)).getD []).filter (fun i => i != c)) (fun i t =>
    match ctxOf t i with
    | none => t
    | some f => if f.e.opc = 0x00 && !f.validated then
        whenSome (writeCover t f y) (fun p => modCtx i (fun g => { g with cover := g.cover ++ [p] })) t else t) (notePartial fn sqid y s)

/-- The entry at a queue's head fetched into a context (R76, R78): which free context of its class, the spec leaves open. -/
def fetchOne (fn q : Nat) (s : State) : State :=
  match sqOf s fn q with
  | none => s
  | some sq =>
    match sq.entries, pickFree s.ce.ctxs (if q = 0 then 0 else ioCtx) (if q = 0 then ioCtx else nCtx - ioCtx) (freeVal s) with
    | e :: rest, some c =>
      s |> tookFree
        |> onCe (fun x => { x with ctxs := tset c {
             fn := fn, sqid := q, fgen := (fnOf s fn).gen, epoch := sq.epoch, e := e,
             cover := if e.opc = 0x00 && q != 0 then coverAtFetch s fn e ++ queuePartials s fn e sq else [] } x.ctxs })
        |> modSq fn q (fun x => { x with entries := rest, head := (x.head + 1) % x.size, live := x.live ++ [c] })
    | _, _ => s

/-- A pause for want of contexts: event source 96, once until contexts return (R76). -/
def pauseClass (cls : Nat) (s : State) : State :=
  if s.ce.paused.contains cls then s
  else s |> onCe (fun e => { e with paused := e.paused ++ [cls] }) |> raise 96 sevInfo [cls]

/-- Admin entries of a function fetched, `n` at most: the state and how many more may be fetched. -/
def fetchAdmin : Nat → Nat → State → Nat × State
  | 0, _, s => (0, s)
  | n + 1, fn, s =>
    match sqOf s fn 0 with
    | none => (n + 1, s)
    | some q =>
      if !(fetchable s q && fnLive (fnOf s fn)) then (n + 1, s)
      else if admFree s = 0 then (n + 1, pauseClass 1 s)
      else fetchAdmin n fn (fetchOne fn 0 s)

/-- A function's turn: I/O entries fetched while its deficit and buckets allow, `n` at most. -/
def fetchTurn : Nat → Nat → State → Nat × State
  | 0, _, s => (0, s)
  | n + 1, fn, s =>
    let f := fnOf s fn
    match nextQueue s fn with
    | none => (n + 1, s)
    | some (q, sq) =>
      let e := sq.entries.headD {}
      if !(fnLive f && bucketsOpen f) || f.deficit < costOf e then (n + 1, s)
      else if ioFree s = 0 then (n + 1, pauseClass 0 s)
      else
        fetchTurn n fn (s |> fetchOne fn q |> modFn fn (fun f => { f with
          deficit := f.deficit - costOf e, rrNext := q + 1,
          cmdBucket := f.cmdBucket - (if f.inForce.iopsCap = 0 then 0 else 1000),
          byteBucket := f.byteBucket - (if f.inForce.bwCap = 0 then 0 else (lbasOf e * 4096 : Nat)) }))

/-- Functions in turn order from the one where the last round stopped. -/
def turnOrder (from_ : Nat) (fns : List Nat) : List Nat := fns.filter (fun f => decide (from_ ≤ f)) ++ fns.filter (fun f => decide (f < from_))

/-- All turns of a round; a round cut short remembers the function at which it stopped. -/
def fetchAll (pass : Nat → Nat → State → Nat × State) (mark : Bool) : List Nat → Nat → State → Nat × State
  | [], n, s => (n, s)
  | fn :: rest, 0, s => if mark && !(ioReady s fn).isEmpty then (0, onCe (fun e => { e with turn := fn }) s) else fetchAll pass mark rest 0 s
  | fn :: rest, n + 1, s =>
    match pass (n + 1) fn s with
    | (0, s) => if mark then (0, onCe (fun e => { e with turn := fn }) s) else fetchAll pass mark rest 0 s
    | (k + 1, s) => fetchAll pass mark rest (k + 1) s

/-- Commands that one round may fetch on the whole device (01_architecture.md R25, 16_power_thermal.md R449). -/
def roundLimit (s : State) : Nat := if thermLim s = 0 then 32 else admitN s

/-- ARBITRATION_ROUND. -/
def execArbitrationRound (s : State) : Host.Outcome State Fault Refusal :=
  .next (
    let fns := (s.ce.sqs.map (fun p => p.1 / 65536)).eraseDups
    let known := (fns ++ s.ce.fns.map (fun p => p.1)).eraseDups
    let s := s |> forEach known (fun fn t => modFn fn (roundFn t fn) t)
               |> onCe (fun e => { e with paused := e.paused.filter (fun k => if k = 0 then ioFree s == 0 else admFree s == 0) })
    if fetching s then
      let (n, s) := fetchAll fetchAdmin false fns (roundLimit s) s
      (fetchAll fetchTurn true (turnOrder s.ce.turn fns) n s).2
    else s)

/-! ### Start (R78, R110, R111, R126) -/

/-- Opcodes of the I/O command set (R111), and of those whose namespace must be granted. -/
def ioOpcodes : List Nat := [0x00, 0x01, 0x02, 0x08, 0x0C, 0x19, 0x79, 0x7A, 0x7D, 0x81, 0x85]

/-- The firmware-run I/O commands (R111). -/
def fwRun (opc : Nat) : Bool := [0x19, 0x79, 0x7A, 0x81, 0x85].contains opc

/-- Whether a namespace is attached to a function. -/
def nsGranted (s : State) (fn nsid : Nat) : Bool := (nsOf s nsid).any (fun n => n.attached == some fn)

/-- LBAs of a namespace. -/
def nsLbas (s : State) (nsid : Nat) : Nat := ((nsOf s nsid).map (fun n => n.zones)).getD 0 * zoneLbas

def stSizeLimit : Status := { sct := 1, sc := 0x83 }
def stSglType : Status := { sct := 0, sc := 0x11 }

/-- Bytes of MDTS 9 at a 4 KiB memory page size (R91). -/
def mdtsBytes : Nat := 2097152

/-- The SGL descriptor types accepted for an I/O command's data (R111): Data Block, Segment and Last Segment, and for reads Bit Bucket. A
PSDT of 3 is reserved; the statuses are those of the NVMe Base Specification (PRESUMED, notes/assumptions/31.md). -/
def sglFault (e : Entry) : Option Status :=
  if 3 ≤ e.psdt then some stBadField
  else if e.psdt != 0 && e.sgl.any (fun t => !(t == 0 || t == 2 || t == 3 || (t == 1 && e.opc == 0x02))) then some stSglType
  else none

/-- The field checks of an I/O command (R91, R111). -/
def ioFieldFault (s : State) (e : Entry) : Option Status :=
  let n := eNlb e
  if e.opc = 0x02 then (if n > 512 then some stBadField else if eSlba e + n > nsLbas s e.nsid then some stLbaRange else none)
  else if e.opc = 0x0C then (if eSlba e + n > nsLbas s e.nsid then some stLbaRange else none)
  else if e.opc = 0x01 then (if n > 512 then some stBadField else none)
  else if e.opc = 0x7D then (if n > 64 || eSlba e % zoneLbas != 0 then some stBadField else none)
  else if e.opc = 0x19 then
    (if bits e.cdw12 11 8 != 0 then some stBadField
     else if e.ranges.isEmpty || decide (e.ranges.length > 128) || e.ranges.any (fun r => decide (r.2 > 32768)) || decide (copyLbas e > 262144)
       then some stSizeLimit
     else if e.ranges.any (fun r => decide (r.1 + r.2 > nsLbas s e.nsid)) then some stLbaRange else none)
  else if e.opc = 0x79 then
    (if [1, 2, 3, 4, 5, 0x10].contains (zsaOf e) && !(zsaAll e && zsaOf e == 0x10) then none else some stBadField)
  else if e.opc = 0x7A then
    (if 4 * (e.cdw12 + 1) ≤ mdtsBytes && bits e.cdw13 7 0 ≤ 1 && bits e.cdw13 15 8 ≤ 7 && decide (eSlba e < nsLbas s e.nsid) then none else some stBadField)
  else none

/-- The I/O commands that SAFE ends (16_power_thermal.md R442). -/
def safeBars (s : State) (e : Entry) : Bool :=
  s.pw.mode == mSafe && [0x01, 0x08, 0x19, 0x79, 0x7D, 0x81, 0x85].contains e.opc

/-- Opcodes of the admin command set, and those of PFs only (R110). -/
def adminOpcodes : List Nat := [0x00, 0x01, 0x02, 0x04, 0x05, 0x06, 0x08, 0x09, 0x0A, 0x0C, 0x0D, 0x10, 0x11, 0x15, 0x1C, 0x1D, 0x1E, 0x80, 0x81,
  0x82, 0xC0]
def pfOpcodes : List Nat := [0x0D, 0x10, 0x11, 0x15, 0x1C, 0x1D, 0x1E, 0x80]

/-- Feature identifiers and log pages (R112, R110). -/
def setFids : List Nat := [0x02, 0x04, 0x06, 0x10, 0xD0, 0xD1, 0xD2, 0xD3, 0xD4]
def logPages : List Nat := [0x01, 0x02, 0x03, 0x05, 0xC0, 0xC1, 0xC2, 0xC3, 0xC4, 0xC5, 0xC6]
def stBadLog : Status := { sct := 1, sc := 0x09 }

/-- Bytes that an admin command asks to transfer, of the commands whose length a dword gives (R91). -/
def adminBytes (e : Entry) : Nat :=
  if e.opc = 0x02 then 4 * (e.cdw10 / 65536 + (e.cdw11 % 65536) * 65536 + 1)
  else if e.opc = 0x11 then 4 * (e.cdw10 + 1)
  else if e.opc = 0x81 || e.opc = 0x82 then e.cdw11
  else e.payload.length

/-- The checks of an admin command that every action of its opcode shares. Log pages other than the vendor's are those that the controller
data of R448, R462 and R479 needs (DESIGN CHOICE, notes/assumptions/31.md). -/
def adminFault (s : State) (x : Ctx) : Option Status :=
  let e := x.e
  let sel := bits e.cdw10 3 0
  if !adminOpcodes.contains e.opc then some stBadOpcode
  else if pfOpcodes.contains e.opc && !(isPf x.fn || x.tunnel) then some stBadOpcode
  else if e.fuse != 0 || (!x.tunnel && decide (mdtsBytes < adminBytes e)) then some stBadField
  else if s.pw.mode == mSafe && (e.opc == 0x0D || e.opc == 0x15 || e.opc == 0x80) then some stProtected
  else if (e.opc = 0x0D || e.opc = 0x15) && decide (1 < sel) then some stBadField
  else if e.opc = 0x1C && !([7, 8, 9].contains sel) then some stBadField
  else if e.opc = 0x81 && !(bits e.cdw10 31 24 == 0xF2 && decide (1 ≤ bits e.cdw10 23 21 ∧ bits e.cdw10 23 21 ≤ 4)) then some stBadField
  else if e.opc = 0x82 && !(bits e.cdw10 31 24 == 0 || (bits e.cdw10 31 24 == 0xF2 && bits e.cdw10 23 21 == 1)) then some stBadField
  else if e.opc = 0x09 && !setFids.contains (bits e.cdw10 7 0) then some stBadField
  else if e.opc = 0x0A && !setFids.contains (bits e.cdw10 7 0) then some stBadField
  else if e.opc = 0x02 && !logPages.contains (bits e.cdw10 7 0) then some stBadLog
  else none

/-- Whether every earlier command of a context's queue has started. -/
def earlierStarted (s : State) (c : Nat) (x : Ctx) : Bool :=
  (earlier s c x).all (fun i => ((ctxOf s i).map (fun y => y.st != .fetched)).getD true)

/-- The held commands of a Continue that are posted or started (R102), and whether none is left but those behind a new freeze. -/
def resumeDone (s : State) (q : Sq) (held starts : List Nat) : Nat × Bool :=
  let done (c : Nat) : Bool := !q.live.contains c || (starts.contains c && ((ctxOf s c).map (fun y => y.st != .fetched)).getD true)
  let behind (c : Nat) : Bool := (q.frozen.map (fun f => !q.live.contains f.ctx || before q.live f.ctx c)).getD false
  ((held.filter done).length, held.all (fun c => done c || behind c))

/-- A Continue with nothing left to post or start (R102, R103): its Resume Queue completes and fetching goes on. -/
def settleResume (fn sqid : Nat) (s : State) : State :=
  match sqOf s fn sqid with
  | none => s
  | some q =>
    match q.resuming with
    | some (r, held, starts) =>
      let d := resumeDone s q held starts
      if d.2 then s |> modSq fn sqid (fun q => { q with resuming := none }) |> complete r stOk d.1 0 else s
    | none => s

/-- Every Continue in progress, looked at again. -/
def settleResumes (s : State) : State :=
  forEach (s.ce.sqs.filterMap (fun p => if p.2.resuming.isSome then some p.1 else none)) (fun k => settleResume (k / 65536) (k % 65536)) s

/-- The checks of a command at its start: grants and fields, and then the zone engine or firmware. -/
def startCommand (ctx : Nat) (x : Ctx) (s : State) : State :=
  let start (s : State) : State := modCtx ctx (fun x => { x with st := .started }) s
  if x.sqid = 0 then
    match adminFault s x with
    | some st => fail ctx st s
    | none =>
      s |> modCtx ctx (fun y => { y with named := some (s.ze.nss.filterMap (fun p => if p.2.attached = some x.fn then some p.1 else none)) })
        |> start |> toFirmware ctx
  else if !ioOpcodes.contains x.e.opc then failAt ctx stBadOpcode 9 none none s
  else if x.e.fuse != 0 then failField ctx s
  else if !(nsGranted s x.fn x.e.nsid || (x.e.opc == 0x00 && x.e.nsid == 0xFFFFFFFF)) then
    failGrant ctx 1 x.e.nsid none none s
  else if safeBars s x.e then fail ctx stProtected s
  else
    match (sglFault x.e).or (ioFieldFault s x.e) with
    | some st => failAt ctx st 9 none none s
    | none => s |> start |> onlyIf (fwRun x.e.opc) (toFirmware ctx)

/-- COMMAND_STARTED (R78). Nothing starts in HOLDUP. R101 does not place every status of the start checks: 0x0/0x80 of a Read, Verify or Copy source,
0x1/0x83 and 0x0/0x11 have CAUSE 9 (DESIGN CHOICE, notes/assumptions/31.md). -/
def execCommandStarted (ctx : Nat) (s : State) : Host.Outcome State Fault Refusal :=
  .next (match ctxOf s ctx with
  | none => s
  | some x =>
    match sqOf s x.fn x.sqid with
    | none => s
    | some q =>
      if x.st != .fetched || x.tunnel || !ctxFresh s x || q.frozen.isSome || s.gr.holdup || !earlierStarted s ctx x then s
      else s |> startCommand ctx x |> settleResume x.fn x.sqid)

/-! ### Posting (R78, R82, R86, R98) -/

/-- Whether a completion queue has a free slot. -/
def cqRoom (q : Cq) : Bool := (q.tail + 1) % q.size != q.head

/-- Whether a completed write must still be held for write-through (R86): one that had its status fixed before health became degraded waits
for flash even when health returns. -/
def heldWrite (s : State) (x : Ctx) : Bool := x.through && !x.discarded && !rangeOnFlash s (zKey x.nsid x.zone) x.first x.nlb

/-- The context of a queue whose entry is next to be posted: in submission order, Asynchronous Event Requests apart (R82), and none
behind a freeze (R98). -/
def nextPost (s : State) (sqid : Nat) (q : Sq) : Option (Nat × Ctx) :=
  let at_ (c : Nat) : Option (Nat × Ctx) := (ctxOf s c).map (fun x => (c, x))
  let xs := q.live.filterMap at_
  let aer (p : Nat × Ctx) : Bool := sqid == 0 && p.2.e.opc == 0x0C && p.2.st != .fetched
  match xs.find? (fun p => aer p && p.2.st == .completed) with
  | some p => some p
  | none =>
    match xs.find? (fun p => !aer p) with
    | some p =>
      if p.2.st == .completed && !heldWrite s p.2 && (match q.frozen with
        | none => true
        | some f => q.live.contains f.ctx || q.discarding.isSome) then some p else none
    | none => none

/-! ### PCIe functions (R115, R116, R121) -/

/-- Whether a port's link joins it with others, by the sampled straps. -/
def portJoined (s : State) : Bool := s.rs.straps == 1 || s.rs.straps == 2

/-- The lowest port of the link that a port is on. -/
def linkHead (s : State) (port : Nat) : Nat := if s.rs.straps = 1 then port / 2 * 2 else if s.rs.straps = 2 then 0 else port

/-- PCIe function number of a port's PF on its link, the VF Offset and VF Stride of its SR-IOV capability, and the routing ID of a function
relative to its link's bus: VF routing IDs run on into the bus numbers that follow. -/
def pfNumber (s : State) (port : Nat) : Nat := if portJoined s then port else 0
def vfOffset (s : State) (port : Nat) : Nat := if portJoined s then 4 + 511 * port else 1
def vfStride : Nat := 1
def pcieFunction (s : State) (fn : Nat) : Nat :=
  let p := portOf fn
  if isPf fn then pfNumber s p else pfNumber s p + vfOffset s p + (fn - vfFn p 1) * vfStride

/-- Where a queue's doorbell lies in its function's BAR0, with CAP.DSTRD 0 (R121): its submission queue tail, or its completion queue head. -/
def bellOffset (cq : Bool) (qid : Nat) : Nat := 0x1000 + (2 * qid + cq.toNat) * 4

/-- The doorbell at an offset of BAR0. -/
def bellAt (off : Nat) : Option (Bool × Nat) :=
  if 0x1000 ≤ off && off % 4 = 0 then some ((off - 0x1000) / 4 % 2 == 1, (off - 0x1000) / 8) else none

/-- The Controller Capabilities of a controller (R75, R121): MQES 0xFFFF, CQR 1, AMS 0 (round robin only) and DSTRD 0 in the places of the NVMe
Base Specification; `rest` is what that standard's other fields hold. -/
def capReg (rest : Nat) : Nat :=
  setBits (setBits (setBits (setBits rest 15 0 0xFFFF) 16 16 1) 18 17 0) 35 32 0

/-- An entry put on a function's completion queue, with its MSI-X. -/
def postEntry (fn cqid : Nat) (e : Cqe) (s : State) : State :=
  modCq fn cqid (fun q => { q with
    posted := { e with phase := q.phase, irq := q.irq.isSome, rid := pcieFunction s fn } :: q.posted,
    tail := (q.tail + 1) % q.size, phase := if q.tail + 1 = q.size then !q.phase else q.phase }) s

/-- The accepted pointer of a zone moves with a posted write (10_granary.md R303). -/
def acceptWrite (x : Ctx) (s : State) : State :=
  if isWriteOpc x.e.opc && x.status == stOk && x.nlb != 0 then
    let key := zKey x.nsid x.zone
    if x.discarded then s else
    s |> modZone key (fun z => { z with ap := Nat.min z.wp (Nat.max z.ap (x.first + x.nlb)) }) |> noteDelta key
  else s

/-- A queue whose deletion waited for its contexts is removed, and its Delete completes (R105). -/
def settleDelete (fn sqid : Nat) (s : State) : State :=
  match sqOf s fn sqid with
  | none => s
  | some q =>
    match q.deleting with
    | some d => if q.live.isEmpty then s |> onCe (fun e => { e with sqs := tdel (qKey fn sqid) e.sqs }) |> succeed d else s
    | none => s

/-- A Discard whose held entries and drained entries are all posted (R104): the queue unfreezes and fetching resumes, and the Resume Queue
completes with the number of held commands (R102). -/
def settleDiscard (fn sqid : Nat) (s : State) : State :=
  match sqOf s fn sqid with
  | none => s
  | some q =>
    match q.discarding with
    | some (r, held) =>
      if held.any (fun c => q.live.contains c) || !q.drain.isEmpty || (q.frozen.map (fun f => q.live.contains f.ctx)).getD false then s else
      s |> modSq fn sqid (fun q => { q with frozen := none, discarding := none })
        |> raise 98 sevInfo [] |> complete r stOk held.length 0
    | none => s

/-- A namespace deleted: its zones lose their data and bands and leave the zone table (R123). -/
def deleteNs (nsid : Nat) (s : State) : State :=
  s |> forEach (zonesFrom s nsid 0) discardZone
    |> onZe (fun z => { z with nss := tdel nsid z.nss, zones := z.zones.filter (fun p => zNsid p.1 != nsid) })

/-- Whether a started command works on a namespace: the one it names, or one of those a Format NVM of every namespace began with. -/
def onNamespace (x : Ctx) (n : Nat) : Bool :=
  x.e.nsid == n || (x.sqid == 0 && x.e.opc == 0x80 && x.e.nsid == 0xFFFFFFFF && (x.named.getD []).contains n)

/-- Whether a waiting Namespace Attachment or Namespace Management still has started commands to wait for (04_tenants.md R125): a
detach those of its controller (`zone`) on its namespace, a delete those of any controller on the namespaces in `covered`. Of its own
queue only the commands before it can post before it (R82). -/
def nsBusy (s : State) (c : Nat) (d : Ctx) : Bool :=
  let live := ((sqOf s d.fn d.sqid).map (fun q => q.live)).getD []
  s.ce.ctxs.any (fun p => p.1 != c && !p.2.tunnel && p.2.st != .fetched && !(p.2.sqid == 0 && [0x0C, 0x0D, 0x15].contains p.2.e.opc) &&
    (p.2.sqid != 0 || p.2.fn != d.fn || d.tunnel || before live p.1 c) &&
    (if d.e.opc = 0x15 then p.2.fn == d.zone && onNamespace p.2 d.nsid else d.covered.any (fun n => onNamespace p.2 n.1)))

/-- Detaches and deletes that wait, looked at again. -/
def settleDetach (s : State) : State :=
  forEach (s.ce.ctxs.filterMap (fun p =>
      if (p.2.e.opc = 0x15 || p.2.e.opc = 0x0D) && p.2.st = .committed && (p.1 < ioCtx || p.2.tunnel) then some (p.1, p.2) else none))
    (fun d t => if nsBusy t d.1 d.2 then t else t |> forEach (d.2.covered.map (fun n => n.1)) deleteNs |> succeed d.1) s

/-- COMPLETION_POSTED: the next entry of a queue, or of those that a Discard drains, is posted. -/
def execCompletionPosted (fn sqid : Nat) (s : State) : Host.Outcome State Fault Refusal :=
  .next (match sqOf s fn sqid with
  | none => s
  | some q =>
    match cqOf s fn q.cqid with
    | none => s
    | some cq =>
      if s.gr.holdup || !cqRoom cq then s else
      match nextPost s sqid q with
      | some (c, x) =>
        if !ctxFresh s x then s else
        s |> postEntry fn q.cqid { sqid := sqid, sqHead := q.head, cid := x.e.cid, status := x.status, dw0 := x.dw0, dw1 := x.dw1 }
          |> acceptWrite x
          |> noteFlushes fn sqid c x
          |> freeCtx c
          |> settleDiscard fn sqid
          |> settleResume fn sqid
          |> settleDelete fn sqid
          |> settleDetach
      | none =>
        match q.drain with
        | e :: rest =>
          if q.live.isEmpty then
            s |> modSq fn sqid (fun q => { q with drain := rest, head := (q.head + 1) % q.size })
              |> postEntry fn q.cqid { sqid := sqid, sqHead := (q.head + 1) % q.size, cid := e.cid, status := stDiscard }
              |> settleDiscard fn sqid
          else s
        | [] => s)

/-- COMPLETION_POSTING_WAIT: a posting waits on a full completion queue. -/
def execCompletionPostingWait (fn sqid : Nat) (s : State) : Host.Outcome State Fault Refusal :=
  .next (match sqOf s fn sqid with
  | none => s
  | some q =>
    match cqOf s fn q.cqid with
    | none => s
    | some cq =>
      if !cqRoom cq && ((nextPost s sqid q).isSome || (!q.drain.isEmpty && q.live.isEmpty)) then raise 101 sevWarning [] s else s)

/-! ### Queue creation and deletion (R75, R105, R110) -/

def stCqInvalid : Status := { sct := 1, sc := 0x00 }
def stBadQid : Status := { sct := 1, sc := 0x01 }
def stBadQsize : Status := { sct := 1, sc := 0x02 }
def stBadVector : Status := { sct := 1, sc := 0x08 }
def stBadDelete : Status := { sct := 1, sc := 0x0C }

/-- Fields of Create and Delete commands. -/
def eQid (e : Entry) : Nat := e.cdw10 % 65536
def eQsize (e : Entry) : Nat := e.cdw10 / 65536 % 65536

/-- CREATE_IO_SUBMISSION_QUEUE. Which cluster becomes its home, firmware chooses. -/
def execCreateIoSubmissionQueue (ctx : Nat) (s : State) : Host.Outcome State Fault Refusal :=
  .next (onAdmin ctx 0x01 (fun x s =>
    let q := eQid x.e
    let cq := bits x.e.cdw11 31 16
    if cq = 0 || (cqOf s x.fn cq).isNone then fail ctx stCqInvalid s
    else if q = 0 || (fnOf s x.fn).nvq < q || (sqOf s x.fn q).isSome then fail ctx stBadQid s
    else if eQsize x.e = 0 then fail ctx stBadQsize s
    else if !bit x.e.cdw11 0 then fail ctx stBadField s
    else
      s |> onCe (fun e => { e with sqs := tset (qKey x.fn q) { cqid := cq, size := eQsize x.e + 1, home := freeVal s % 4 } e.sqs })
        |> tookFree |> succeed ctx) s)

/-- CREATE_IO_COMPLETION_QUEUE. -/
def execCreateIoCompletionQueue (ctx : Nat) (s : State) : Host.Outcome State Fault Refusal :=
  .next (onAdmin ctx 0x05 (fun x s =>
    let q := eQid x.e
    let iv := bits x.e.cdw11 31 16
    if q = 0 || (fnOf s x.fn).nvq < q || (cqOf s x.fn q).isSome then fail ctx stBadQid s
    else if eQsize x.e = 0 then fail ctx stBadQsize s
    else if !bit x.e.cdw11 0 then fail ctx stBadField s
    else if bit x.e.cdw11 1 && decide ((fnOf s x.fn).nvi ≤ iv) then fail ctx stBadVector s
    else
      s |> onCe (fun e => { e with cqs := tset (qKey x.fn q) { size := eQsize x.e + 1, irq := if bit x.e.cdw11 1 then some iv else none } e.cqs })
        |> succeed ctx) s)

/-- DELETE_IO_SUBMISSION_QUEUE (R105): commands that have not started end with 0x0/0x08, and the queue goes once what had started
is posted. -/
def execDeleteIoSubmissionQueue (ctx : Nat) (s : State) : Host.Outcome State Fault Refusal :=
  .next (onAdmin ctx 0x00 (fun x s =>
    match sqOf s x.fn (eQid x.e) with
    | none => fail ctx stBadQid s
    | some q =>
      if eQid x.e = 0 || q.deleting.isSome then fail ctx stBadQid s else
      s |> modCtx ctx (fun x => { x with st := .committed })
        |> whenSome q.discarding (fun d => complete d.1 stOk d.2.length 0)
        |> whenSome q.resuming (fun d => complete d.1 stOk (resumeDone s q d.2.1 d.2.2).1 0)
        |> modSq x.fn (eQid x.e) (fun q => { q with
             frozen := none, deleting := some ctx, entries := [], drain := [], continuing := [], discarding := none, resuming := none })
        |> forEach (q.live.filter (fun c => ((ctxOf s c).map (fun y => y.st == .fetched)).getD false)) (fun c => fail c stSqDeleted)
        |> settleDelete x.fn (eQid x.e)) s)

/-- DELETE_IO_COMPLETION_QUEUE. -/
def execDeleteIoCompletionQueue (ctx : Nat) (s : State) : Host.Outcome State Fault Refusal :=
  .next (onAdmin ctx 0x04 (fun x s =>
    let q := eQid x.e
    if q = 0 || (cqOf s x.fn q).isNone then fail ctx stBadQid s
    else if s.ce.sqs.any (fun p => p.1 / 65536 == x.fn && p.2.cqid == q) then fail ctx stBadDelete s
    else s |> onCe (fun e => { e with cqs := tdel (qKey x.fn q) e.cqs }) |> succeed ctx) s)

/-! ### Abort (R79, R106, R107) -/

/-- Whether an Abort takes its target (R106). -/
def abortable (x : Ctx) : Bool := x.st == .fetched || (x.st == .started && !begun x)

/-- A target aborted: its work stops, and it ends with 0x0/0x07 in its turn; a Read or Verify that has begun carries its DW0 (R89). -/
def abortTarget (c : Nat) (x : Ctx) (s : State) : State :=
  if x.st = .fetched then complete c stAborted 0 0 s
  else
    s |> cancelTags (jobTags s c)
      |> cancelCopy c x
      |> onZe (fun z => { z with bandWait := z.bandWait.filter (fun i => i != c),
                                 zones := tmap (fun _ y => { y with waiting := y.waiting.filter (fun i => i != c) }) z.zones })
      |> (if x.sqid != 0 && x.started && (x.e.opc == 0x02 || x.e.opc == 0x0C) then fun s => s |> dropKeys c |> complete c stAborted (readDw0 x) 0
          else failWrite c stAborted 0)
      |> runHeld

/-- ABORT. -/
def execAbortCmd (ctx : Nat) (s : State) : Host.Outcome State Fault Refusal :=
  .next (onAdmin ctx 0x08 (fun x s =>
    let sqid := eQid x.e
    let cid := bits x.e.cdw10 31 16
    let live := ((sqOf s x.fn sqid).map (fun q => q.live)).getD []
    match live.find? (fun c => c != ctx && ((ctxOf s c).map (fun y => y.e.cid == cid)).getD false) with
    | none => complete ctx stOk 1 0 s
    | some c =>
      match ctxOf s c with
      | none => complete ctx stOk 1 0 s
      | some y =>
        if abortable y then
          s |> noticeAbort c y |> abortTarget c y |> settleResumes |> raise 99 sevInfo [x.fn, sqid, cid] |> complete ctx stOk 0 0
        else complete ctx stOk 1 0 s) s)

/-- ASYNCHRONOUS_EVENT_REQUEST (R82, R110): it completes with an event that waits, or waits for one; AERL is 15. -/
def execAsynchronousEventRequest (ctx : Nat) (s : State) : Host.Outcome State Fault Refusal :=
  .next (onAdmin ctx 0x0C (fun x s =>
    let waiting := (((sqOf s x.fn 0).map (fun q => q.live)).getD []).filter (fun c =>
      ((ctxOf s c).map (fun y => y.e.opc == 0x0C && y.st == .started && c != ctx)).getD false)
    if 16 ≤ waiting.length then fail ctx { sct := 1, sc := 0x05 } s else
    match (fnOf s x.fn).asyncEvents with
    | ev :: rest => s |> modFn x.fn (fun f => { f with asyncEvents := rest }) |> complete ctx stOk (asyncDw0 ev) 0
    | [] => s) s)

/-! ### Resume Queue (R102 to R104) -/

/-- The commands that a freeze holds: those behind the freezing command. -/
def heldOf (q : Sq) (f : Freeze) : List Nat := if q.live.contains f.ctx then (q.live.dropWhile (fun c => c != f.ctx)).tail else q.live

/-- Whether a context has started and has not reached COMPLETED. -/
def running (s : State) (c : Nat) : Bool := ((ctxOf s c).map (fun x => x.st == .started || x.st == .committed)).getD false

/-- The checks of a Resume Queue and its wait for the held commands that had started; `act` gets the queue and what it holds. A queue that is
not frozen is refused before DRAIN is looked at (DESIGN CHOICE, notes/assumptions/31.md). -/
def resume (ctx : Nat) (discard : Bool) (act : Ctx → Nat → Sq → List Nat → State → State) (s : State) : State :=
  onAdmin ctx 0xC0 (fun x s =>
    if bit x.e.cdw11 0 != discard then s else
    let sqid := eQid x.e
    match sqOf s x.fn sqid with
    | none => fail ctx stBadQid s
    | some q =>
      match q.frozen with
      | none => fail ctx stSequence s
      | some f =>
        if bit x.e.cdw11 1 && !discard then fail ctx stBadField s
        else if q.discarding.isSome || q.resuming.isSome || (heldOf q f).any (running s) then s
        else act x sqid q (heldOf q f) s) s

/-- CONTINUE (R103): the first held entry with a freezing status freezes the queue again, with REFROZEN. The Resume Queue completes, and
fetching goes on, once the held entries are posted and the held FETCHED commands started, or a freeze holds the rest. -/
def execResumeContinue (ctx : Nat) (s : State) : Host.Outcome State Fault Refusal :=
  .next (resume ctx false (fun x sqid _ held s =>
    let again := held.find? (fun c => ((ctxOf s c).map (fun y => y.st == .completed && freezing y.status)).getD false)
    let starts := held.filter (fun c => ((ctxOf s c).map (fun y => y.st == .fetched)).getD false)
    s |> modCtx ctx (fun y => { y with st := .committed })
      |> modSq x.fn sqid (fun q => { q with frozen := none, continuing := held, resuming := some (ctx, held, starts) })
      |> raise 98 sevInfo []
      |> whenSome again freezeQueue
      |> settleResume x.fn sqid) s)

/-- DISCARD (R104): the held commands that had not started end with 0x7/0xC0; with DRAIN so do the entries still in the queue. The queue
unfreezes once all of them are posted. -/
def execResumeDiscard (ctx : Nat) (s : State) : Host.Outcome State Fault Refusal :=
  .next (resume ctx true (fun x sqid q held s =>
    let drain := bit x.e.cdw11 1
    s |> forEach (held.filter (fun c => ((ctxOf s c).map (fun y => y.st == .fetched)).getD false)) (fun c => fail c stDiscard)
      |> modSq x.fn sqid (fun p => { p with
           discarding := some (ctx, held), continuing := [], drain := if drain then q.entries else [], entries := if drain then [] else p.entries })
      |> modCtx ctx (fun y => { y with st := .committed })
      |> settleDiscard x.fn sqid) s)

/-- QUEUE_RE_HOMING (R109). -/
def execQueueReHoming (fn sqid cluster : Nat) (s : State) : Host.Outcome State Fault Refusal :=
  .next (if (sqOf s fn sqid).isSome && decide (cluster < 4) then rehome fn sqid cluster s else s)

end Sys2Proof.Machine
end

