-- ==== Sys2Proof/Machine/WritePath.lean ====
section
/-! DEFINITION. The write path: validation, encryption, packing into frames, the copy into the Granary, and Flush
(01_architecture.md R14 to R17, 02_zones.md R53, R54, R59, 03_queues.md R79 to R96, 05_transforms.md R139 to R151). -/

namespace Sys2Proof.Machine

/-! ### Starting -/

/-- A write of the fast path starts: it is validated in its turn. -/
def startWrite (c : Nat) (x : Ctx) (s : State) : State := if mayValidate s c x then tryWrite c false s else s

/-- WRITE. -/
def execWrite (ctx : Nat) (s : State) : Host.Outcome State Fault Refusal := .next (onIo ctx 0x01 (startWrite ctx) s)
/-- ZONE_APPEND. -/
def execZoneAppend (ctx : Nat) (s : State) : Host.Outcome State Fault Refusal := .next (onIo ctx 0x7D (startWrite ctx) s)
/-- WRITE_ZEROES. -/
def execWriteZeroes (ctx : Nat) (s : State) : Host.Outcome State Fault Refusal := .next (onIo ctx 0x08 (startWrite ctx) s)

/-! ### Encryption (stage 4) -/

/-- A unit that fails its tag check: zeroed, counted, and event source 261 (R168). Its LBA takes two parameters (R534), which leaves a record's
three parameters no place for the slot (notes/assumptions/32.md). -/
def tagFailure (band lba slot : Nat) (s : State) : State :=
  s |> count (R.ciCnt 2) R.ciOvf 2 1 |> raise 261 sevError (band :: words64 lba ++ [slot])

/-- The key that a validated write captured, once it may be used. -/
def writeKey (s : State) (x : Ctx) : Option (Nat × Nat) :=
  match x.encKey with
  | some k => some k
  | none => x.keys.getLast?.bind (fun q => keyOf s q.1 q.2)

/-- The slot's partial frames that a write's k-th frame takes in. -/
def partsOf (s : State) (key : Nat) (x : Ctx) (k : Nat) : List Frame :=
  if frameTo x k = 16 then slotParts (zoneOf s key) (frameSlot x k) else []

/-- Whether the k-th unit of a write can be encrypted now: its data has come, and the slot's earlier partial frames are in place. -/
def unitReady (s : State) (key c : Nat) (x : Ctx) (u : Nat) : Bool :=
  if zoneComp (zoneOf s key) then
    decide (frameEnd x u ≤ x.arrived) && (decide (u ≠ 0 ∨ x.first % 16 = 0) || (zoneOf s key).queue.head? == some c)
  else decide (u < x.arrived)

/-- One unit of a write encrypted; the write's captures end with its last (R171). Partial frames that do not authenticate fail
the write (R169). -/
def encryptUnit (c u : Nat) (x : Ctx) (s : State) : State :=
  let key := zKey x.nsid x.zone
  match writeKey s x with
  | none => s
  | some k =>
    if !x.validated || x.waitCeil || !keysUsable s x || x.unitsDone.contains u || decide (writeUnits s x ≤ u) || !unitReady s key c x u then s else
    match (partsOf s key x u).find? (fun f => !opens k (placeAad s key (16 * f.slot + f.first)) f.sealed) with
    | some f => s |> tagFailure ((zoneOf s key).band.getD 0) f.sealed.lba ((shapeOf s x.nsid (zoneOf s key)).keySlot) |> failWrite c stAuth 0
    | none =>
      let x := { x with encKey := some k }
      let comp := zoneComp (zoneOf s key)
      let bytes := if comp then 16 * ceilDiv (mkFrame s key x u).payBytes 16 else 4096
      let parts := ((partsOf s key x u).map (fun f => 16 * ceilDiv f.payBytes 16)).sum
      s |> modCtx c (fun y => { y with encKey := some k, unitsDone := y.unitsDone ++ [u] })
        |> count (R.ciCnt 0) R.ciOvf 0 bytes
        |> count (R.ciCnt 1) R.ciOvf 1 parts
        |> onlyIf (x.unitsDone.length + 1 = writeUnits s x) (dropKeys c)

/-! ### Full zones and stopped zones -/

/-- What follows when the last LBA of a write has been applied. -/
def finishWrite (c key : Nat) (s : State) : State :=
  s |> modZone key (fun z => { z with
         queue := z.queue.filter (fun i => i != c),
         tickets := z.tickets.map (fun t => if t.ctx = c && !t.applied then { t with applied := true } else t) })
    |> zoneFilled key |> forceFor c |> settleWrite c |> drainStopped key |> runWaiting key |> runHeld |> wakeTickets

/-- The frames that are packed at once: all those of a write, or a piece of at most four slots of a Copy or Peer Copy (R54). -/
def pieceOf (x : Ctx) : Nat × Nat :=
  let k0 := (x.first + x.packed) / 16 - x.first / 16
  if x.e.opc = 0x19 || x.e.opc = 0x85 then (k0, Nat.min (frameCount x) (k0 + 4)) else (0, frameCount x)

/-- Whether more of a write's data that has arrived is still to be applied. -/
def moreToApply (s : State) (key : Nat) (x : Ctx) : Bool :=
  if zoneComp (zoneOf s key) then
    decide (x.applied < x.packed) || (decide (x.packed < x.nlb) && decide (frameEnd x ((pieceOf x).2 - 1) ≤ x.arrived))
  else decide (x.applied < x.arrived)

/-- A write of an old function generation ends once the data that had arrived is applied (R135): no entry, and the validation pointer
is where its data ends. -/
def endSquashed (c key : Nat) (s : State) : State :=
  match ctxOf s c with
  | none => s
  | some x =>
    if ctxFresh s x || moreToApply s key x then s
    else
      let behind := ((zoneOf s key).queue.dropWhile (fun i => i != c)).tail
      s |> leaveZone c x |> modZone key (fun z => { z with vp := z.wp }) |> freeCtx c |> failBehind key behind |> drainStopped key
        |> runWaiting key |> runHeld

/-- The write pointer passes `n` more LBAs of a write, which has reached its commit point (R79). -/
def advance (c key n : Nat) (s : State) : State :=
  let s := s |> modCtx c (fun x => { x with applied := x.applied + n, st := .committed, waitSpace := false })
             |> modZone key (fun z => { z with wp := z.wp + n })
             |> noteDelta key |> pressure
  match ctxOf s c with
  | none => s
  | some x => if x.applied = x.nlb then finishWrite c key s else endSquashed c key s

/-- A write's place in the zone's list of starts (R305): a write that is applied whole, a piece of a compressed copy, or each LBA of
another. -/
def noteStart (key first n : Nat) (s : State) : State := modZone key (fun z => { z with starts := tset first n z.starts }) s

/-! ### Waiting for Granary space (R17) -/

/-- Whether a write may take Granary space now: it fits, and no write that began to wait earlier still waits. -/
def mayTake (s : State) (c key : Nat) (full parts : List Nat) (e : Nat) : Bool :=
  (s.gr.waiters.isEmpty || s.gr.waiters.head? == some c) && hasRoom s key full parts e

def waitSpace (c : Nat) (s : State) : State :=
  s |> modCtx c (fun x => { x with waitSpace := true })
    |> onGr (fun g => { g with waiters := if g.waiters.contains c then g.waiters else g.waiters ++ [c] })
    |> pressure

def takeSpace (c : Nat) (s : State) : State := onGr (fun g => { g with waiters := g.waiters.filter (fun i => i != c) }) s

/-- Whether it is a write's turn to be applied in its zone and in its queue (R59, R81). -/
def atHead (s : State) (c key : Nat) (x : Ctx) : Bool :=
  x.validated && (x.st == .started || x.st == .committed) && (zoneOf s key).queue.head? == some c &&
  (!ctxFresh s x || effectsBefore s c x)

/-! ### Packing (R54, R141, R149, R150) -/

/-- Fill of a zone as R54 counts it against the band: fill codewords and closed tails too, in 16-byte units. -/
def fillUnits (z : Zone) : Nat := 256 * (z.fills.map (fun f => f.2)).sum + (z.closedCw.map (fun c => 256 - c.2)).sum

/-- A partial frame that its slot's full frame releases, never having been in the stream. -/
def releasedBy (slot : Nat) (f : Frame) : Bool := f.slot == slot && pendingPart f

/-- Fill that the frames of a write add, less the pending partial frames they release. -/
def addedFill (z : Zone) (fs : List Frame) : Int :=
  ((fs.map frameLen).sum : Int) - (((fs.filter (fun f => !f.part)).map (fun f => ((z.frames.filter (releasedBy f.slot)).map frameLen).sum)).sum : Nat)

/-- A full frame packed: it takes the end of the stream, its slot's written partial frames are abandoned and the pending ones released
(R147, R149). -/
def packFull (c key b : Nat) (f : Frame) (s : State) : State :=
  let z := zoneOf s key
  let gone := z.frames.filter (releasedBy f.slot)
  let dead := (slotParts z f.slot).filter (fun p => p.off.isSome)
  let deadUnits := (dead.map frameLen).sum
  let (g, s) := putItem 0 (16 * frameLen f) key (16 * f.slot + f.first) s
  let z1 := appendUnits (frameLen f) z
  s |> forEach (gone.filterMap (fun p => p.seg)) freeItem
    |> modZone key (fun _ => { z1 with
         frames := (z.frames.filter (fun p => !releasedBy f.slot p)).map (fun p => if p.slot = f.slot && p.part then { p with abandoned := true } else p) ++
                   [{ f with off := some z.stream, seg := some g }],
         fill := z.fill + frameLen f - (gone.map frameLen).sum,
         abandoned := z.abandoned + deadUnits,
         headers := z.headers + 3 - 3 * (gone.length + dead.length),
         index := idxFrame f z.stream z.abandoned z.index })
    |> forEach (spanCws z1 z.stream (frameLen f)) (openStripe key b)
    |> count (R.txCnt 0) R.txOvf 0 65536
    |> count (R.txCnt 1) R.txOvf 1 (frameLen f)
    |> onlyIf f.raw (count (R.txCnt 2) R.txOvf 2 1)
    |> mirrorFrame c key g f

/-- A partial frame put into the Granary, pending (R141). -/
def packPart (c key : Nat) (f : Frame) (s : State) : State :=
  let (g, s) := putItem 1 (16 * frameLen f) key (16 * f.slot + f.first) s
  s |> modZone key (fun z => { z with frames := z.frames ++ [{ f with seg := some g }], fill := z.fill + frameLen f, headers := z.headers + 3,
                                      index := idxApplied f.slot z.index })
    |> mirrorFrame c key g f

/-- Finish Zone Recommended (R53). -/
def recommend (key b : Nat) (s : State) : State :=
  let z := zoneOf s key
  onlyIf (decide (15 * bandCapacity s (shapeOf s (zNsid key) z) b ≤ 256 * z.fill)) (modZone key (fun z => { z with fzr := true })) s

/-- Bytes of frames. -/
def frameSizes (fs : List Frame) : List Nat := fs.map (fun f => 16 * frameLen f)

/-- A write's frames packed, the fit settled and the first LBA applied in one step, its commit point (R54). -/
def packNow (c key : Nat) (x : Ctx) (s : State) : State :=
  let z := zoneOf s key
  match z.band with
  | none => s
  | some b =>
    let (k0, k1) := pieceOf x
    let ks := (List.range (k1 - k0)).map (fun i => k0 + i)
    let fs := ks.map (mkFrame s key x)
    let cap : Int := (bandCapacity s (shapeOf s x.nsid z) b / 16 : Nat)
    let need := (z.fill : Int) + addedFill z fs
    let upTo := frameEnd x (k1 - 1)
    if cap < need + (fillUnits z : Int) then s |> takeSpace c |> failFit c (if need ≤ cap then 3 else 1)
    else if !mayTake s c key (frameSizes (fs.filter (fun f => !f.part))) (frameSizes (fs.filter (fun f => f.part)))
        (appendUnits ((fs.filter (fun f => !f.part)).map frameLen).sum z).nextPos then waitSpace c s
    else
      s |> takeSpace c
        |> noteStart key (x.first + x.packed) (upTo - x.packed)
        |> forEach fs (fun f t => if f.part then packPart c key f t else packFull c key b f t)
        |> recommend key b
        |> modCtx c (fun y => { y with packed := upTo })
        |> advance c key 1

/-- Whether a write's next frames can be packed. -/
def canPack (s : State) (c key : Nat) (x : Ctx) : Bool :=
  zoneComp (zoneOf s key) && atHead s c key x && decide (x.packed = x.applied ∧ x.packed < x.nlb) &&
  (let p := pieceOf x
   (List.range (p.2 - p.1)).all (fun i => x.unitsDone.contains (p.1 + i)))

/-- FRAME_PACKED. -/
def execFramePacked (ctx : Nat) (s : State) : Host.Outcome State Fault Refusal :=
  .next (match ctxOf s ctx with
    | none => s
    | some x => if canPack s ctx (zKey x.nsid x.zone) x && !x.waitSpace then packNow ctx (zKey x.nsid x.zone) x s else s)

/-! ### The copy into the Granary (stage 5) -/

/-- LBAs of an uncompressed write that can be applied now: all or nothing of a whole write, and otherwise those whose units have been
encrypted without a gap. -/
def readyLbas (s : State) (x : Ctx) : Nat :=
  let n := Nat.min x.arrived (((List.range x.nlb).takeWhile (fun i => x.unitsDone.contains i)).length)
  if wholeWrite s x then (if n = x.nlb then x.nlb - x.applied else 0) else n - x.applied

/-- The next LBAs of an uncompressed write applied: they must fit in the band (R290) and find Granary space (R17). -/
def applyNow (c key : Nat) (x : Ctx) (s : State) : State :=
  let z := zoneOf s key
  match z.band with
  | none => s
  | some b =>
    let n := readyLbas s x
    if bandCws s.board (zoneDens z) (dataWidth s b) < z.nextPos + (x.nlb - x.applied) && x.applied = 0 then s |> takeSpace c |> failFit c 3
    else if bandCws s.board (zoneDens z) (dataWidth s b) < z.nextPos + n then s |> takeSpace c |> failFit c 3
    else if n = 0 then endSquashed c key s
    else if !mayTake s c key (List.replicate n 4096) [] (z.nextPos + n) then waitSpace c s
    else
      s |> takeSpace c
        |> (if wholeWrite s x then noteStart key x.first x.nlb
            else forEach (List.range n) (fun i => noteStart key (x.first + x.applied + i) 1))
        |> forEach (List.range n) (fun i t => applyUnit c key b (x.first + x.applied + i) (mkUnit s key x (x.applied + i)) t)
        |> advance c key n

/-- GRANARY_APPLY. -/
def execGranaryApply (ctx : Nat) (s : State) : Host.Outcome State Fault Refusal :=
  .next (match ctxOf s ctx with
    | none => s
    | some x =>
      let key := zKey x.nsid x.zone
      if !atHead s ctx key x || x.waitSpace then s
      else if zoneComp (zoneOf s key) then
        (if x.applied < x.packed then advance ctx key (x.packed - x.applied) s else endSquashed ctx key s)
      else applyNow ctx key x s)

/-- GRANARY_SPACE_OBTAINED: the write that has waited longest proceeds once its space is free. -/
def execGranarySpaceObtained (s : State) : Host.Outcome State Fault Refusal :=
  .next (match s.gr.waiters.head?.bind (fun c => (ctxOf s c).map (fun x => (c, x))) with
    | none => s
    | some (c, x) =>
      let key := zKey x.nsid x.zone
      if zoneComp (zoneOf s key) then (if canPack s c key x then packNow c key x s else s)
      else if atHead s c key x then applyNow c key x s else s)

/-! ### Flush (R88) -/

/-- FLUSH: once the earlier writes of its queue are applied, the stripes that hold covered data are forced, and the Flush waits for
what is not on flash. What was accepted before its fetch it covers since then; the earlier writes of its queue are added here, or when
they were posted. -/
def execFlush (ctx : Nat) (s : State) : Host.Outcome State Fault Refusal :=
  .next (onIo ctx 0x00 (fun x s =>
    if x.validated || !effectsBefore s ctx x then s else
    let zs := (x.cover ++ (earlier s ctx x).filterMap (fun c => (ctxOf s c).bind (writeCover s x))).filter (fun p =>
      !rangeOnFlash s p.1 p.2.1 (p.2.2 - p.2.1))
    s |> modCtx ctx (fun y => { y with validated := true, cover := zs })
      |> forEach zs (fun z => forceTo z.1 z.2.2 .flush)
      |> settleFlush ctx) s)

end Sys2Proof.Machine
end

