-- ==== Sys2Proof/Machine/ReadPath.lean ====
section
/-! DEFINITION. The read path: where each LBA is served from, decryption and the tag check, Read, Verify, Copy and Peer Copy
(01_architecture.md R18 to R22, 03_queues.md R81, R89, R90, R111, 05_transforms.md R146, R157, 06_cipher.md R165 to R171,
11_balwen.md R340 to R342). -/

namespace Sys2Proof.Machine

/-! ### Sources -/

/-- Node and namespace that a Peer Copy names, and its first source LBA (R340). -/
def pcNode (e : Entry) : Nat := e.cdw13 % 262144
def pcNsid (e : Entry) : Nat := e.cdw14
def pcSlba (e : Entry) : Nat := e.cdw2 + 4294967296 * e.cdw3

/-- The namespace and the LBAs that a command reads, in the order of its data. -/
def srcNsid (e : Entry) : Nat := if e.opc = 0x85 then pcNsid e else e.nsid
def srcLbas (e : Entry) : List Nat :=
  if e.opc = 0x19 then e.ranges.flatMap (fun r => (List.range r.2).map (fun i => r.1 + i))
  else if e.opc = 0x85 then (List.range (eNlb e)).map (fun i => pcSlba e + i)
  else (List.range (eNlb e)).map (fun i => eSlba e + i)

/-- The zone key of an LBA of a namespace, and its offset in the zone. -/
def lbaKey (nsid lba : Nat) : Nat := zKey nsid (lba / zoneLbas)
def lbaOff (lba : Nat) : Nat := lba % zoneLbas

/-- Codewords that a read of a slot reads: every codeword of its span, which the index locates (R156, R157). -/
def slotCws (z : Zone) (slot : Nat) : List Nat :=
  let n := idxLen (entryOf z.index slot)
  if n = 0 then [] else spanCws z (locate z.index slot) n

/-- Whether a header agrees with the slot that is read: its place, its LBAs and its flags. -/
def hdrFits (key : Nat) (sh : Shape) (f : Frame) : Bool :=
  hdrSlba f.hdr == absLba key (16 * f.slot + f.first) && hdrFirst f.hdr == f.first && hdrCount f.hdr == f.count &&
  hdrTrimmed f.hdr == (sh.trimType != 0) && hdrPartial f.hdr == f.part && hdrRaw f.hdr == f.sealed.pay.isEmpty

/-- The check of R146 that a frame fails: 1 a header of its span, abandoned frames' among them, against R142, 2 such a header against the slot
that is read, 3 the frame lengths of the span against LEN, 4 PAY_BYTES against the end of the token stream (R145); 0 none. -/
def frameCheck (key : Nat) (z : Zone) (sh : Shape) (f : Frame) : Nat :=
  let span := if f.off.isSome then z.frames.filter (fun g => g.slot == f.slot && g.off.isSome) else [f]
  if span.any (fun g => !hdrValid g.hdr) then 1
  else if span.any (fun g => !hdrFits key sh g) then 2
  else if f.off.isSome && (span.map (fun g => 3 + hdrUnits g.hdr)).sum != idxLen (entryOf z.index f.slot) then 3
  else if !f.sealed.pay.isEmpty && hdrBytes f.hdr != f.sealed.pay.length then 4
  else 0

/-- The cipher unit of a frame, with an LBA's place in it. -/
def frameRef (s : State) (key gen place : Nat) (f : Frame) : SrcRef :=
  let z := zoneOf s key
  let sh := shapeOf s (zNsid key) z
  { slot := sh.keySlot, gen := gen, zone := key, sealed := f.sealed, place := place, bytes := 16 * ceilDiv f.payBytes 16,
    band := z.band.getD 0, pos := if f.seg.isSome then [] else slotCws z f.slot, aad := placeAad s key (16 * f.slot + f.first),
    bgen := zoneBgen s key, check := frameCheck key z sh f }

/-- Where the data of an LBA below the write pointer is: its cipher unit, and the codewords to read where the Granary does not hold it
(R18, R157). -/
def srcRef (s : State) (key off gen : Nat) : Option SrcRef :=
  let z := zoneOf s key
  let slot := (shapeOf s (zNsid key) z).keySlot
  if zoneComp z then
    (frameAt z off).map (fun f => frameRef s key gen (off - (16 * f.slot + f.first)) f)
  else
    (tfind z.units off).map (fun u =>
      { slot := slot, gen := gen, zone := key, sealed := u.sealed, band := z.band.getD 0,
        pos := if u.seg.isSome then [] else [u.pos], aad := placeAad s key off, bgen := zoneBgen s key })

/-- The other frames that hold a slot's current data, where an LBA of the slot is read from flash: they are decrypted and checked with it
(R157, R159). -/
def extraRefs (s : State) (src : List (Nat × SrcRef)) (from_ : Nat) : List (Nat × SrcRef) :=
  let own := src.filter (fun r => !r.2.pos.isEmpty && zoneComp (zoneOf s r.2.zone))
  let slots := (own.map (fun r => (r.2.zone, r.2.slot, r.2.gen, (r.2.sealed.lba % zoneLbas) / 16))).eraseDups
  let more := slots.flatMap (fun q =>
    ((slotParts (zoneOf s q.1) q.2.2.2).filter (fun f => (frameAt (zoneOf s q.1) (16 * q.2.2.2)).all (fun g => g.part) &&
        f.seg.isNone && !own.any (fun r => r.2.zone == q.1 && r.2.sealed == f.sealed))).map (fun f => { frameRef s q.1 q.2.2.1 0 f with extra := true }))
  more.mapIdx (fun i r => (from_ + i, r))

/-- Whether the index or the zone table entry of a zone that a command reads is lost: the read waits until firmware has rebuilt it (12_memory.md
R357). -/
def indexLost (s : State) (nsid : Nat) (lbas : List Nat) : Bool :=
  lbas.any (fun l => (zoneOf s (lbaKey nsid l)).index.lost || (zoneOf s (lbaKey nsid l)).rebuilding)

/-- The zones whose data a list of LBAs touches (R171). -/
def touched (s : State) (nsid : Nat) (lbas : List Nat) : List Nat :=
  (lbas.filterMap (fun l => if lbaOff l < (zoneOf s (lbaKey nsid l)).wp then some (lbaKey nsid l) else none)).eraseDups

/-- A command's reading ended: nothing more is to come, and its captures end. -/
def endRead (c : Nat) (s : State) : State := s |> cancelTags (jobTags s c) |> dropKeys c

/-- The context's chunk ends with a status: COPY_END goes to the node that asked (11_balwen.md R342). -/
def endChunk (c : Nat) (st : Status) (s : State) : State :=
  match ctxOf s c with
  | none => s
  | some x => (s |> endRead c |> onCe (fun e => { e with ctxs := tdel c e.ctxs })
                 |> sendMsg tCopyEnd x.e.cdw13 0 [x.e.cdw14, st.sct, st.sc] []).1

/-- A command that reads fails: a Copy or Peer Copy as a write does (R60, R92), a Read or Verify with its DW0 (R90); a chunk that is served ends. -/
def failRead (c : Nat) (st : Status) (cause margin : Nat) (zone lba : Option Nat) (s : State) : State :=
  match ctxOf s c with
  | none => s
  | some x =>
    if isWriteOpc x.e.opc then s |> cancelTags (jobTags s c) |> failWrite c st cause
    else if x.e.opc = chunkOpc then endChunk c st s
    else s |> endRead c |> modCtx c (fun y => { y with cause := cause, errZone := zone, errLba := lba })
           |> complete c st (dw0With x margin) 0

/-- The end of every command that captured a shadow which an Erase discards (R171). -/
def failShadow (k : Nat) (cs : List Nat) (s : State) : State :=
  forEach cs (fun c t =>
    match ctxOf t c with
    | none => t
    | some x => if x.keys.any (fun q => q.1 == k) then failRead c stKeyUnavailable 6 x.margin none none t else t) s

/-- Erase with the end of the commands that captured the shadow it discards (R170, R171). -/
def eraseSlotAll (k : Nat) (s : State) : State :=
  let cs := if (slotOf s k).shadow.isSome then shadowHolders s k else []
  s |> eraseSlotOp k |> failShadow k cs

/-- A command begins to read its sources as they stand (R18, R61, R171): zeros and data of the Granary need no flash. -/
def beginRead (c : Nat) (x : Ctx) (s : State) : State :=
  let nsid := srcNsid x.e
  let lbas := srcLbas x.e
  match lbas.find? (fun l => (zoneOf s (lbaKey nsid l)).st == .offline) with
  | some l => failRead c stOffline 10 x.margin (some (l / zoneLbas)) (some l) s
  | none =>
    let zs := (touched s nsid lbas).map (fun k => (k, (shapeOf s nsid (zoneOf s k)).keySlot))
    match zs.find? (fun z => (captureGen s z.2).isNone) with
    | some z => failRead c stKeyUnavailable 6 x.margin (some (zIdx z.1)) none s
    | none =>
      let caps := zs.map (fun z => (z.1, (z.2, (captureGen s z.2).getD 0)))
      let refs := lbas.mapIdx (fun i l => (i, match tfind caps (lbaKey nsid l) with
        | some q => if lbaOff l < (zoneOf s (lbaKey nsid l)).wp then srcRef s (lbaKey nsid l) (lbaOff l) q.2 else none
        | none => none))
      let src := refs.filterMap (fun r => r.2.map (fun y => (r.1, y)))
      let src := src ++ extraRefs s src lbas.length
      let zeros := refs.filterMap (fun r => if r.2.isNone then some (r.1, zeroBlock) else none)
      let need := (src.flatMap (fun r => r.2.pos.map (fun p => (r.2.zone, p)))).eraseDups
      let held := (src.filter (fun r => r.2.pos.isEmpty)).length
      s |> modCtx c (fun y => { y with
             started := true, src := src, got := zeros, todo := src.map (fun r => r.1), need := need,
             keys := (caps.map (fun q => q.2)).eraseDups ++ y.keys,
             reloc := zs.any (fun z => (zoneOf s z.1).move.isSome) })
        |> onHist nsid (histGranary held)

/-- Whether an earlier command of the queue is still to write an LBA of a list (R81). -/
def readHeld (s : State) (c : Nat) (x : Ctx) (nsid : Nat) (lbas : List Nat) : Bool :=
  (earlier s c x).any (fun i => match ctxOf s i with
    | none => false
    | some y =>
      isWriteOpc y.e.opc && y.e.nsid == nsid && !effectDone s i &&
      lbas.any (fun l =>
        if y.validated then l / zoneLbas == y.zone && decide (y.first ≤ lbaOff l ∧ lbaOff l < y.first + y.nlb)
        else if y.e.opc = 0x7D then l / zoneLbas == eSlba y.e / zoneLbas
        else decide (eSlba y.e ≤ l ∧ l < eSlba y.e + writeNlb y.e)))

/-! ### Decryption (stage 4) -/

/-- A Read or Verify done: success, or 0x7/0xC4 where a unit failed its tag check (R168). -/
def finishRead (c : Nat) (s : State) : State :=
  match ctxOf s c with
  | none => s
  | some x => s |> endRead c |> complete c (if x.badTag then stAuth else stOk) (readDw0 x) 0

/-- Source units of a command that a cipher unit's end serves: those of the same unit. -/
def sameUnit (x : Ctx) (r : SrcRef) : List (Nat × SrcRef) := x.src.filter (fun q => q.2.zone == r.zone && q.2.sealed == r.sealed)

/-- Whether every codeword of a unit has been decoded. -/
def unitHere (x : Ctx) (r : SrcRef) : Bool := r.pos.all (fun p => !x.need.contains (r.zone, p))

/-! ### Reads that raced a move or an erase (R30, 08_flash_integrity.md R224) -/

/-- A command's places in a zone looked up again on the current map; an LBA that is no longer below the write pointer is zeros (R18). -/
def remapCtx (c key : Nat) (s : State) : State :=
  modCtx c (fun x =>
    let here (r : Nat × SrcRef) : Bool := r.2.zone == key && x.todo.contains r.1
    let off (r : SrcRef) : Nat := r.sealed.lba % zoneLbas + r.place
    let look (r : SrcRef) : Option SrcRef :=
      if off r < (zoneOf s key).wp then (srcRef s key (off r) r.gen).map (fun q => { q with extra := r.extra }) else none
    let src := x.src.filterMap (fun r => if here r then (look r.2).map (fun q => (r.1, q)) else some r)
    let gone := (x.src.filter (fun r => here r && (look r.2).isNone)).map (fun r => (r.1, r.2.extra))
    { x with src := src,
             todo := x.todo.filter (fun i => !gone.any (fun g => g.1 == i)),
             got := gone.foldl (fun t g => if g.2 then t else tset g.1 zeroBlock t) x.got,
             need := (x.need.filter (fun n => n.1 != key)) ++
                     (src.flatMap (fun r => if here r then r.2.pos.map (fun p => (key, p)) else [])).eraseDups }) s

/-- Whether the band that a unit was read from has been erased since it was looked up: its band generation is another, so that the unit would
fail its tag check, and the zone engine's map check stops it (R30). -/
def staleUnit (s : State) (r : SrcRef) : Bool := !r.pos.isEmpty && (bandOf s r.band).gen != r.bgen

/-- LBAs of a chunk sent in their order, from LBA `i` on, as far as a session takes them. -/
def sendLbas (c : Nat) (x : Ctx) : Nat → Nat → State → State
  | 0, _, s => s
  | n + 1, i, s =>
    match sendMsg tCopyData x.e.cdw13 4096 [x.e.cdw14, eSlba x.e + i] (tget zeroBlock x.got i) s with
    | (t, true) => sendLbas c x n (i + 1) (modCtx c (fun y => { y with arrived := i + 1 }) t)
    | (t, false) => t

/-- What a served chunk has read is sent in LBA order, and COPY_END after the last LBA (R342). -/
def sendChunk (c : Nat) (s : State) : State :=
  match ctxOf s c with
  | none => s
  | some x =>
    let n := ((List.range (eNlb x.e)).takeWhile (fun i => (tfind x.got i).isSome)).length
    let t := sendLbas c x (n - x.arrived) x.arrived s
    onlyIf ((ctxOf t c).any (fun y => y.arrived == eNlb y.e)) (endChunk c stOk) t

/-- What follows the last unit of a Read or Verify, or of a chunk. -/
def unitsEnded (c : Nat) (s : State) : State :=
  match ctxOf s c with
  | none => s
  | some y =>
    if isWriteOpc y.e.opc then onlyIf (ctxFresh s y) (modCtx c (fun y => { y with arrived := gotPrefix y })) s
    else if y.e.opc = chunkOpc then sendChunk c s
    else s |> onlyIf (y.todo.isEmpty) (dropKeys c) |> onlyIf (y.e.opc = 0x0C && y.todo.isEmpty) (finishRead c)

/-- One source unit decrypted and checked (R146, R157, R168). A Read decompresses up to the last LBA asked for in the slot, a Verify the whole
slot. -/
def decryptUnit (c : Nat) (x : Ctx) (r : SrcRef) (s : State) : State :=
  match keyOf s r.slot r.gen with
  | none => s
  | some k =>
    if !unitHere x r || !keysUsable s x then s
    else if staleUnit s r then s |> remapCtx c r.zone |> unitsEnded c
    else
    let off := zIdx r.zone
    let us := sameUnit x r
    let good := opens k r.aad r.sealed
    let data := unitBlocks (if x.e.opc = 0x0C then none else (us.map (fun q => q.2.place)).max?) r.sealed
    if good && (r.check != 0 || data.isNone) then
      s |> count (R.ciCnt 1) R.ciOvf 1 r.bytes
        |> count (R.txCnt 4) R.txOvf 4 1
        |> raise 258 sevError [r.band, r.sealed.lba % zoneLbas / 16, Config.eventParam 258 (if r.check = 0 then 4 else r.check)]
        |> failRead c stUnrecovered 8 0 (some off) (some r.sealed.lba)
    else
      let blocks := (us.filter (fun q => !q.2.extra)).map (fun q =>
        (q.1, if good then (data.getD []).getD q.2.place zeroBlock else zeroBlock))
      let s := s
        |> count (R.ciCnt 1) R.ciOvf 1 r.bytes
        |> onlyIf (!good) (tagFailure r.band r.sealed.lba r.slot)
        |> modCtx c (fun y =>
             let got := blocks.foldl (fun t b => tset b.1 b.2 t) y.got
             { y with got := got, todo := y.todo.filter (fun j => !us.any (fun q => q.1 == j)), badTag := y.badTag || !good })
      if (isWriteOpc x.e.opc || x.e.opc == chunkOpc) && !good then failRead c stAuth 0 0 (some off) (some r.sealed.lba) s else unitsEnded c s

/-! ### The source of a Peer Copy (11_balwen.md R342) -/

/-- The entry that stands for a chunk: its LBAs are read as a Read would read them. -/
def chunkEntry (q : ChunkReq) : Entry :=
  { opc := chunkOpc, nsid := q.nsid, cdw10 := q.slba % 4294967296, cdw11 := q.slba / 4294967296, cdw12 := q.n - 1, cdw13 := q.node, cdw14 := q.ctx }

/-- The service of a chunk begun. -/
def startChunk (q : ChunkReq) (s : State) : State :=
  match ((List.range 64).map (fun i => chunkCtx + i)).find? (fun c => (ctxOf s c).isNone) with
  | none => s
  | some c =>
    let x : Ctx := { fn := chunkFn, sqid := 1, st := .started, e := chunkEntry q, via := [q.via] }
    s |> onPb (fun p => { p with chunks := p.chunks.erase q })
      |> onCe (fun e => { e with ctxs := tset c x e.ctxs })
      |> beginRead c x |> sendChunk c

/-- Waiting chunks served while fewer than 64 are (R342). -/
def serveChunks (s : State) : State :=
  forEach s.pb.chunks (fun q t =>
    if (chunkLive t).length < 64 && !indexLost t q.nsid ((List.range q.n).map (fun i => q.slba + i)) then startChunk q t else t) s

/-! ### The end of a cipher unit -/

/-- CIPHER_UNIT_DONE: of a command that reads, `unit` is a place in its source; of one that writes, an LBA or a frame of its data.
A Copy first decrypts and then encrypts a unit. -/
def execCipherUnitDone (ctx unit : Nat) (s : State) : Host.Outcome State Fault Refusal :=
  .next (match ctxOf s ctx with
    | none => s
    | some x =>
      if x.sqid = 0 || x.tunnel || !(x.st == .started || x.st == .committed) then s else
      match (if x.todo.contains unit then tfind x.src unit else none) with
      | some r => s |> decryptUnit ctx x r |> onlyIf (x.e.opc == chunkOpc) serveChunks
      | none => if isWriteOpc x.e.opc then encryptUnit ctx unit x s else s)

/-! ### Read and Verify -/

/-- VERIFY: as Read, with no transfer; one that touches no data ends at once. -/
def execVerify (ctx : Nat) (s : State) : Host.Outcome State Fault Refusal :=
  .next (onIo ctx 0x0C (fun x s =>
    if x.started || indexLost s x.e.nsid (srcLbas x.e) || readHeld s ctx x x.e.nsid (srcLbas x.e) then s else
    let s := beginRead ctx x s
    match ctxOf s ctx with
    | some y => if y.st == .started && y.started && y.todo.isEmpty then finishRead ctx s else s
    | none => s) s)

/-- READ_DATA_TRANSFERRED: every LBA has been served, and the data has been moved to the host. -/
def execReadDataTransferred (ctx : Nat) (s : State) : Host.Outcome State Fault Refusal :=
  .next (onIo ctx 0x02 (fun x s =>
    if !x.started || !x.todo.isEmpty then s
    else s |> modCtx ctx (fun y => { y with out := y.got.flatMap (fun b => b.2) }) |> finishRead ctx) s)

/-! ### Copy and Peer Copy -/

/-- The data that needs no cipher has come (zeros). -/
def noteArrived (c : Nat) (s : State) : State := modCtx c (fun y => { y with arrived := gotPrefix y }) s

/-- COPY: the sources are read as they stand when it starts, and the destination is validated in its turn. -/
def execCopy (ctx : Nat) (s : State) : Host.Outcome State Fault Refusal :=
  .next (onIo ctx 0x19 (fun x s =>
    if !mayValidate s ctx x || indexLost s x.e.nsid (srcLbas x.e) || readHeld s ctx x x.e.nsid (srcLbas x.e) then s
    else if x.started then tryWrite ctx (s.ze.bandWait.contains ctx) s
    else s |> beginRead ctx x |> noteArrived ctx |> tryWrite ctx (s.ze.bandWait.contains ctx)) s)

/-- Peer Copies that this device runs as issuer (R342). -/
def peerCopies (s : State) : Nat :=
  (s.ce.ctxs.filter (fun p => p.2.e.opc == 0x85 && p.1 ≥ ioCtx && p.2.started && (p.2.st == .started || p.2.st == .committed))).length

/-- Whether a function has a valid PEER entry for a node and a namespace (R341). -/
def peerOk (f : Fn) (node nsid : Nat) : Bool := f.share.peers.any (fun p => p.1 == node && (p.2 == nsid || p.2 == 0xFFFFFFFF))

/-- Whether a source lets a node read a namespace: attached, to a function with a valid PEER entry naming the node (R341). -/
def sourceLets (s : State) (nsid node : Nat) : Bool :=
  match (nsOf s nsid).bind (fun n => n.attached) with
  | some f => (fnOf s f).share.peers.any (fun p => p.1 == node)
  | none => false

def stPath : Status := { sct := 3, sc := 0 }

/-- The next chunks of a Peer Copy asked for: up to 256 LBAs each, four outstanding (R342). -/
def askChunks (c : Nat) : Nat → State → State
  | 0, s => s
  | fuel + 1, s =>
    match ctxOf s c with
    | none => s
    | some x =>
      if 4 ≤ x.chunks || eNlb x.e ≤ x.asked then s else
      let n := Nat.min 256 (eNlb x.e - x.asked)
      match sendMsg tCopyReq (pcNode x.e) 0 [c, 0, pcNsid x.e, pcSlba x.e + x.asked, n] [] s with
      | (t, true) =>
        let via := ((linkTo s (pcNode x.e)).map (fun l => sessKey l (sessNode s l (pcNode x.e)))).toList
        askChunks c fuel (modCtx c (fun y => { y with asked := y.asked + n, chunks := y.chunks + 1, via := y.via ++ via.filter (fun k => !y.via.contains k) }) t)
      | (t, false) => failRead c stPath 0 0 none none t

/-- A Peer Copy goes on once its destination is validated. -/
def peerGo (c : Nat) (s : State) : State :=
  match ctxOf s c with
  | some x => if x.validated && (x.st == .started || x.st == .committed) && pcNode x.e != ownNode s then askChunks c 4 s else s
  | none => s

/-- PEER_COPY: the PEER entry is checked before any request; a source on this device is read without Balwen. The rejected value that event
source 102 names is the node ID, also where it is the namespace that is not granted (R126; DESIGN CHOICE, notes/assumptions/31.md). -/
def execPeerCopy (ctx : Nat) (s : State) : Host.Outcome State Fault Refusal :=
  .next (onIo ctx 0x85 (fun x s =>
    let node := pcNode x.e
    let ns := pcNsid x.e
    if !mayValidate s ctx x then s
    else if x.started then s |> tryWrite ctx (s.ze.bandWait.contains ctx) |> peerGo ctx
    else if !peerOk (fnOf s x.fn) node ns then failGrant ctx 4 node none none s
    else if 64 ≤ peerCopies s then s
    else if node != ownNode s then
      s |> modCtx ctx (fun y => { y with started := true }) |> tryWrite ctx (s.ze.bandWait.contains ctx) |> peerGo ctx
    else if !sourceLets s ns node then s |> raise 402 sevWarning [node, ns] |> failAt ctx stGrant 4 none none
    else if ((nsOf s ns).map (fun n => n.zones * zoneLbas)).getD 0 < pcSlba x.e + eNlb x.e then failAt ctx stLbaRange 0 none (some (pcSlba x.e)) s
    else if indexLost s ns (srcLbas x.e) || readHeld s ctx x ns (srcLbas x.e) then s
    else s |> beginRead ctx x |> noteArrived ctx |> tryWrite ctx (s.ze.bandWait.contains ctx)) s)

end Sys2Proof.Machine
end

