-- ==== Sys2Proof/Machine/Tenants.lean ====
section
/-! DEFINITION. Functions taken away and given back, and Virtualization Management (04_tenants.md R115 to R136, 18_bring_up.md R502). -/

namespace Sys2Proof.Machine

/-! ### Taking a function away (R134 to R136) -/

def portState (s : State) (p : Nat) : Port := tget {} s.ce.ports p
def modPort (p : Nat) (f : Port → Port) (s : State) : State := onCe (fun e => { e with ports := tmod {} p f e.ports }) s

/-- The function indexes of the enabled VFs of a port above VF number `n`. -/
def vfsAbove (s : State) (port n : Nat) : List Nat :=
  let p := portState s port
  if p.vfEnable then (List.range (p.numVfs - n)).map (fun i => vfFn port (n + 1 + i)) else []

/-- The VFs of a port above number `n` disabled, with one event of source 66. -/
def disableVfs (port n : Nat) (s : State) : State :=
  let vs := vfsAbove s port n
  let s := modPort port (fun p => { p with vfEnable := p.vfEnable && n != 0, numVfs := if p.vfEnable then Nat.min p.numVfs n else p.numVfs }) s
  match vs with
  | [] => s
  | v :: _ => s |> raise 66 sevInfo [port, v, vs.getLastD v] |> forEach vs (fun fn => squashBegin fn .vfDisable) |> settleDetach

/-- A function-level reset: of a PF it also disables every VF of its port (R120). An FLR of a secondary that is Offline changes nothing
(R119). -/
def flr (fn : Nat) (s : State) : State :=
  let f := fnOf s fn
  if !f.present || !(f.online || isPf fn) then s else
  s |> onlyIf (f.squash.isNone || f.squash == some .parity) (raise 64 sevInfo [fn])
    |> squashBegin fn .flr
    |> onlyIf (isPf fn) (fun s => s |> disableVfs fn 0 |> modPort fn (fun p => { p with vfEnable := false, numVfs := 0 }))
    |> settleDetach

/-- FLR. -/
def execFlr (fn : Nat) (s : State) : Host.Outcome State Fault Refusal := .next (flr fn s)

/-- VF_DISABLE: VF Enable cleared (`numVfs` 0), or NumVFs reduced to `numVfs`. -/
def execVfDisable (port numVfs : Nat) (s : State) : Host.Outcome State Fault Refusal := .next (disableVfs port numVfs s)

/-- VF_ENABLE: the configuration space of VFs 1 to `numVfs` appears (R119). -/
def execVfEnable (port numVfs : Nat) (s : State) : Host.Outcome State Fault Refusal :=
  .next (s |> modPort port (fun p => { p with vfEnable := true, numVfs := Nat.max numVfs (if p.vfEnable then p.numVfs else 0) })
           |> forEach ((List.range numVfs).map (fun i => vfFn port (i + 1))) (fun fn => modFn fn (fun f => { f with present := true })))

/-- CONTROLLER_RESET: CC.EN written from 1 to 0 acts as an FLR (R502). -/
def execControllerReset (fn : Nat) (s : State) : Host.Outcome State Fault Refusal :=
  .next (
    let f := fnOf s fn
    if !(f.present && f.en) then s else
    s |> onlyIf (f.squash.isNone || f.squash == some .parity) (raise 64 sevInfo [fn])
      |> squashBegin fn .controllerReset
      |> settleDetach)

/-- The ports of the link that a PERST_N pin governs (19_package.md R529): with HOST_CFG 1 and 2 ports are joined, and the pins of the
other ports of a joined link are ignored. -/
def linkPorts (s : State) (port : Nat) : List Nat :=
  if s.rs.straps = 1 then (if port % 2 = 0 then [port, port + 1] else [])
  else if s.rs.straps = 2 then (if port = 0 then [0, 1, 2, 3] else [])
  else [port]

/-- A port whose PERST_N is asserted: an FLR of its PF, and its PCIe logic reset (R502). -/
def portReset (port : Nat) (s : State) : State :=
  s |> flr port |> modPort port (fun p => { p with perst := true, linkUp := false, l12 := false })

/-- PERST_N (R502). -/
def execPerstN (port : Nat) (s : State) : Host.Outcome State Fault Refusal :=
  .next (forEach (linkPorts s port) portReset s)

/-- SQUASH_DONE: every context of the old generation is FREE, and step 5 of R134 follows. -/
def execSquashDone (fn : Nat) (s : State) : Host.Outcome State Fault Refusal :=
  .next (if (fnOf s fn).squash.isSome && (oldCtxs s fn).isEmpty then s |> squashEnd fn |> settleDetach else s)

/-- FALL_BACK_SQUASH (R134 step 4): what is left of the function's work is squashed by force, an activation that it still runs ends, and firmware
reclaims the Larder buffers that the abandoned work held (13_larder.md R379); which those are, the engines know, so the command names them. -/
def execFallBackSquash (fn : Nat) (s : State) (bufs : List Word := []) : Host.Outcome State Fault Refusal :=
  .next (
    let old := (oldCtxs s fn).map (fun p => p.1)
    if (fnOf s fn).squash.isNone || old.isEmpty then s else
    s |> onlyIf ((s.rs.activating.map (fun c => old.contains c)).getD false) activationEnd
      |> forEach old squashCtx
      |> onlyIf (reachable s .larder 0) (forEach bufs (fun h => lrOp 6 0xE0 h.toNat 0))
      |> raise 65 sevWarning [fn, old.length] |> settleDetach)

/-! ### Enabling and shutting down a controller -/

/-- Whether the device is ready for hosts (18_bring_up.md R491 step 12). -/
def deviceIsReady (s : State) : Bool := (inService s && !starting s) || s.pw.mode == mDoze || s.pw.mode == mCellar

/-- The admin queue pair of a controller that is enabled. Its size is in AQA, which no command gives (notes/assumptions/10.md). -/
def adminQueues (fn : Nat) (s : State) : State :=
  s |> onCe (fun e => { e with sqs := tset (qKey fn 0) { size := 4096, home := freeVal s % 4 } e.sqs,
                               cqs := tset (qKey fn 0) { size := 4096, irq := some 0 } e.cqs })
    |> tookFree

/-- CONTROLLER_ENABLE: CC.EN set. A PF enabled again after an orderly stop takes the device back to service (R436). -/
def execControllerEnable (fn : Nat) (s : State) : Host.Outcome State Fault Refusal :=
  .next (
    let f := fnOf s fn
    if !(f.present && !f.en && f.squash.isNone) || s.pw.mode == mHalt then s else
    let s := s |> onlyIf (isPf fn) (modPort fn (fun p => { p with perst := false, linkUp := true }))
    let s := if isPf fn && s.pw.mode == mQuiesce && s.pw.stopDone then
        s |> onRs (fun r => { r with clean := false })
          |> onPw (fun p => { p with stop := none, stopTested := false, stopDone := false })
          |> toService
          |> onCe (fun e => { e with fetchStop := false })
      else s
    s |> adminQueues fn
      |> modFn fn (fun f => { f with en := true, rdy := f.online && deviceIsReady s, cfs := false, shn := false, shst := 0 }))

/-- SHUTDOWN_NOTIFICATION: CC.SHN set. Once every enabled PF has set it the device enters QUIESCE (R441); the shutdown of one controller
alone completes by itself (PRESUMED, notes/assumptions/10.md). -/
def execShutdownNotification (fn : Nat) (s : State) : Host.Outcome State Fault Refusal :=
  .next (
    let f := fnOf s fn
    if !(f.present && f.en && f.squash.isNone) then s else
    let s := modFn fn (fun f => { f with shn := true, shst := if isPf fn then 1 else 2 }) s
    let pfs := (List.range 4).map (fnOf s)
    if isPf fn && inService s && pfs.all (fun g => !g.en || g.shn) then quiesce .shutdown s else s)

/-! ### Virtualization Management (R118, R119) -/

def stBadCntlid : Status := { sct := 1, sc := 0x1F }
def stBadSecState : Status := { sct := 1, sc := 0x20 }
def stBadResources : Status := { sct := 1, sc := 0x21 }
def stBadResourceId : Status := { sct := 1, sc := 0x22 }

/-- The secondary controller of the issuing PF that CDW10 names; a tunnelled command acts with the rights of its PF (17_attic.md R463). -/
def secOf (x : Ctx) : Option Nat :=
  match fnOfCntlid (bits x.e.cdw10 31 16) with
  | some fn => if 4 ≤ fn && portOf fn == portOf x.fn then some fn else none
  | none => none

/-- An action of Virtualization Management on a secondary. -/
def onSecondary (ctx act : Nat) (f : Ctx → Nat → State → State) (s : State) : State :=
  onAdmin ctx 0x1C (fun x s =>
    if bits x.e.cdw10 3 0 != act then s else
    match secOf x with
    | none => fail ctx stBadCntlid s
    | some fn => f x fn s) s

/-- SECONDARY_CONTROLLER_ASSIGN: NR resources of type RT, from or back to the shared pool. With the VF present the event changes nothing (R119);
the command then completes with the count that stands (notes/assumptions/31.md). -/
def execSecondaryControllerAssign (ctx : Nat) (s : State) : Host.Outcome State Fault Refusal :=
  .next (onSecondary ctx 8 (fun x fn s =>
    let rt := bits x.e.cdw10 10 8
    let nr := bits x.e.cdw11 15 0
    let f := fnOf s fn
    if 1 < rt then fail ctx stBadResourceId s
    else if f.online then fail ctx stBadSecState s
    else if rt = 0 then
      if 256 < nr || s.ce.vqPool + f.nvq < nr then fail ctx stBadResources s
      else if f.present then complete ctx stOk f.nvq 0 s else
      s |> onCe (fun e => { e with vqPool := e.vqPool + f.nvq - nr }) |> modFn fn (fun f => { f with nvq := nr }) |> complete ctx stOk nr 0
    else
      if 257 < nr || s.ce.viPool + f.nvi < nr then fail ctx stBadResources s
      else if f.present then complete ctx stOk f.nvi 0 s else
      s |> onCe (fun e => { e with viPool := e.viPool + f.nvi - nr }) |> modFn fn (fun f => { f with nvi := nr }) |> complete ctx stOk nr 0) s)

/-- SECONDARY_CONTROLLER_ONLINE. -/
def execSecondaryControllerOnline (ctx : Nat) (s : State) : Host.Outcome State Fault Refusal :=
  .next (onSecondary ctx 9 (fun _ fn s =>
    let f := fnOf s fn
    if f.nvq = 0 || f.nvi = 0 then fail ctx stBadResources s else
    s |> modFn fn (fun f => { f with online := true, rdy := f.rdy || (f.en && f.squash.isNone && deviceIsReady s) }) |> succeed ctx) s)

/-- SECONDARY_CONTROLLER_OFFLINE. -/
def execSecondaryControllerOffline (ctx : Nat) (s : State) : Host.Outcome State Fault Refusal :=
  .next (onSecondary ctx 7 (fun _ fn s =>
    let f := fnOf s fn
    if f.present && f.en then fail ctx stBadSecState s else
    s |> modFn fn (fun f => { f with online := false }) |> succeed ctx) s)

end Sys2Proof.Machine
end

