-- ==== Sys2Proof/Machine/Zones.lean ====
section
/-! DEFINITION. Zone Shape, Zone Management Send and Receive, the free-band list and log page 0xC1 (02_zones.md R43 to R49, R62 to R74). -/

namespace Sys2Proof.Machine

/-! ### Zone Shape (R43 to R49) -/

/-- The descriptor of a Zone Shape. -/
def shapeFrom (d : List Byte) : Shape :=
  { density := bits (fieldAt d 1 1) 2 0, comp := bit (fieldAt d 2 1) 0, life := bits (fieldAt d 2 1) 2 1, trimType := fieldAt d 3 1,
    trimKeep := fieldAt d 4 1, domain := fieldAt d 6 2, keySlot := fieldAt d 8 2 }

/-- The largest TRIM_KEEP of a TRIM_TYPE. -/
def trimKeepMax (t : Nat) : Nat := [0, 51, 22, 9, 6].getD t 0

/-- Step 2 of R45: the descriptor and the command dwords hold valid values. -/
def shapeValid (s : State) (e : Entry) : Bool :=
  let d := e.payload
  let sh := shapeFrom d
  fieldAt d 0 1 == 1 && fieldAt d 1 1 / 8 == 0 && fieldAt d 2 1 / 8 == 0 && fieldAt d 5 1 == 0 && fieldAt d 10 54 == 0 &&
  densEnabled s.board sh.density && decide (sh.trimType ≤ 4 ∧ sh.trimKeep ≤ trimKeepMax sh.trimType ∧ sh.domain ≤ 255 ∧ sh.keySlot ≤ 8191) &&
  (sh.trimType == 0 || sh.comp) &&
  e.cdw12 / 2 == 0 && e.cdw2 == 0 && e.cdw3 == 0 && e.mptr == 0 && e.cdw13 == 0 && e.cdw14 == 0 && e.cdw15 == 0

/-- A Zone Shape carried out by the checks of R45, in their order. Step 1, the grant of the namespace, is made when the command starts: one
that has started runs to completion after a detach (04_tenants.md R125). -/
def zoneShape (c : Nat) (x : Ctx) (s : State) : State :=
  let e := x.e
  let sh := shapeFrom e.payload
  let dflt := bit e.cdw12 0
  let f := fnOf s x.fn
  let zone := if dflt then none else some (eSlba e / zoneLbas)
  if !shapeValid s e then failField c s
  else if !dflt && (eSlba e % zoneLbas != 0 || (zoneAt s e.nsid (eSlba e)).isNone) then failField c s
  else if !(domExists s sh.domain && domGranted f sh.domain) then failGrant c 2 sh.domain zone none s
  else if !slotGranted f sh.keySlot then failGrant c 3 sh.keySlot zone none s
  else if dflt then s |> modNs e.nsid (fun n => { n with dflt := sh }) |> zoneDone c
  else
    let key := zKey e.nsid (eSlba e / zoneLbas)
    if (zoneOf s key).st != .empty then failAt c stTransition 10 zone none s else
    s |> modZone key (fun z => { z with shape := some sh, shaped := true }) |> noteDelta key |> zoneDone c

/-- ZONE_SHAPE: in its turn within its queue (R81). -/
def execZoneShape (ctx : Nat) (s : State) : Host.Outcome State Fault Refusal :=
  .next (onIo ctx 0x81 (fun x s => if effectsBefore s ctx x then zoneShape ctx x s else s) s)

/-! ### Zone Management Send (R62, R64, R535) -/

/-- A Zone Management Send of one action, in its turn within its queue. -/
def zmsRow (ctx : Nat) (all : Bool) (acts : List Nat) (s : State) : State :=
  onIo ctx 0x79 (fun x s =>
    if acts.contains (zsaOf x.e) && zsaAll x.e == all && effectsBefore s ctx x then tryZms ctx true s else s) s

/-- OPEN. -/
def execZoneOpen (ctx : Nat) (s : State) : Host.Outcome State Fault Refusal := .next (zmsRow ctx false [zsaOpen] s)
/-- CLOSE. -/
def execZoneClose (ctx : Nat) (s : State) : Host.Outcome State Fault Refusal := .next (zmsRow ctx false [zsaClose] s)
/-- FINISH. -/
def execZoneFinish (ctx : Nat) (s : State) : Host.Outcome State Fault Refusal := .next (zmsRow ctx false [zsaFinish] s)
/-- RESET. -/
def execZoneReset (ctx : Nat) (s : State) : Host.Outcome State Fault Refusal := .next (zmsRow ctx false [zsaReset] s)
/-- OFFLINE. -/
def execZoneOffline (ctx : Nat) (s : State) : Host.Outcome State Fault Refusal := .next (zmsRow ctx false [zsaOffline] s)
/-- SET_ZONE_DESCRIPTOR_EXTENSION (R68). -/
def execSetZoneDescriptorExtension (ctx : Nat) (s : State) : Host.Outcome State Fault Refusal := .next (zmsRow ctx false [zsaExt] s)
/-- SELECT_ALL (R535). -/
def execSelectAll (ctx : Nat) (s : State) : Host.Outcome State Fault Refusal :=
  .next (zmsRow ctx true [zsaOpen, zsaClose, zsaFinish, zsaReset, zsaOffline] s)

/-! ### Zone Management Receive (R66 to R68) -/

/-- Zone State codes of the Zoned Namespace Command Set. -/
def zsCode : ZState → Nat
  | .empty => 1
  | .implOpen => 2
  | .explOpen => 3
  | .closed => 4
  | .readOnly => 0xD
  | .full => 0xE
  | .offline => 0xF

/-- Reporting options 0x0 to 0x7. -/
def reportTakes (opt : Nat) (st : ZState) : Bool :=
  opt == 0 || [0, 1, 2, 3, 4, 0xE, 0xD, 0xF].getD opt 0 == zsCode st

/-- The Zone Attributes byte (R67). -/
def zoneAttrs (z : Zone) : Nat := z.zfc.toNat + 2 * z.fzr.toNat + 128 * z.ext.isSome.toNat

/-- WP as a zone descriptor reports it (R66). -/
def reportedWp (key : Nat) (z : Zone) : Nat :=
  if z.st == .full || z.st == .readOnly || z.st == .offline then 0xFFFFFFFFFFFFFFFF else zIdx key * zoneLbas + z.wp

/-- A zone descriptor of 64 bytes, and the extension that an extended report adds. -/
def zoneDesc (s : State) (key : Nat) (extended : Bool) : List Byte :=
  let z := zoneOf s key
  leBytes 1 2 ++ leBytes 1 (16 * zsCode z.st) ++ leBytes 1 (zoneAttrs z) ++ leBytes 5 0 ++
  leBytes 8 (zcapOf s (shapeOf s (zNsid key) z) z.width) ++ leBytes 8 (zIdx key * zoneLbas) ++ leBytes 8 (reportedWp key z) ++
  List.replicate 32 0#8 ++ (if extended then z.ext.getD (List.replicate 64 0#8) else [])

/-- A zone report: the zones from that of SLBA on which the option takes, as many as fit. -/
def zoneReport (s : State) (e : Entry) (extended : Bool) : List Byte :=
  let len := 4 * (e.cdw12 + 1)
  let each := if extended then 128 else 64
  let first := eSlba e / zoneLbas
  let n := ((nsOf s e.nsid).map (fun x => x.zones)).getD 0
  let ks := ((List.range (n - first)).map (fun i => zKey e.nsid (first + i))).filter (fun k => reportTakes (bits e.cdw13 15 8) (zoneOf s k).st)
  let fit := ks.take ((len - 64) / each)
  let count := if bit e.cdw13 16 then fit.length else ks.length
  (leBytes 8 count ++ List.replicate 56 0#8 ++ fit.flatMap (fun k => zoneDesc s k extended)).take len

/-- A Zone Management Receive of one action; it waits while a zone's table entry is being rebuilt (12_memory.md R357). -/
def zmrRow (ctx act : Nat) (s : State) : State :=
  onIo ctx 0x7A (fun x s => if (zonesFrom s x.e.nsid (eSlba x.e / zoneLbas)).any (fun k => (zoneOf s k).rebuilding) then s else if bits x.e.cdw13 7 0 = act then answer ctx (zoneReport s x.e (act == 1)) s else s) s

/-- REPORT_ZONES. -/
def execReportZones (ctx : Nat) (s : State) : Host.Outcome State Fault Refusal := .next (zmrRow ctx 0 s)
/-- EXTENDED_REPORT_ZONES. -/
def execExtendedReportZones (ctx : Nat) (s : State) : Host.Outcome State Fault Refusal := .next (zmrRow ctx 1 s)

/-! ### The free-band list (R73, R74) -/

/-- Why a push is rejected, as event source 420 codes it; 0 where it is not. DESIGN CHOICE (notes/assumptions/30.md): a band that is on the
list already is none of the reasons of R74; it is accepted, and taking the band removes both entries. -/
def pushReason (s : State) (d b : Nat) : Nat :=
  let x := bandOf s b
  if !(bandDom s b == some d && rowUsed (rowOf s (bandRow s b))) then 1
  else if x.zone.isSome then 2
  else if !x.erased || x.erasing || x.retired then 3
  else if 256 ≤ (domOf s d).fbl.length then 4
  else 0

/-- A write to ZE_FBL_PUSH. -/
def fblPushAct (v : Nat) (s : State) : State :=
  let d := rdf s R.zeFblSel 7 0
  let b := bits v 18 0
  let why := pushReason s d b
  if why = 0 then s |> modDom d (fun x => { x with fbl := x.fbl ++ [b] }) |> serveBandWait
  else raise 420 sevError [1, b, why] s

/-- ZE_FBL_PUSH. -/
def execZeFblPush (m : Master) (v : Word) (s : State) : Host.Outcome State Fault Refusal :=
  .next (accessOne m D.zeFblPush v.toNat fblPushAct s)

/-! ### Zone Physical Usage log, page 0xC1 (R69 to R72) -/

/-- Bands of a domain that a condition takes. -/
def domBands (s : State) (d : Nat) (p : Nat → Band → Bool) : Nat :=
  (s.ze.bands.filter (fun b => bandDom s b.1 == some d && rowUsed (rowOf s (bandRow s b.1)) && p b.1 b.2)).length

/-- Bands of a domain's rows, retired ones left out, and those of them that are narrowed. -/
def domBandCount (s : State) (d : Nat) : Nat := (domRows s d).length * zoneBlocks s.board - domBands s d (fun _ b => b.retired)
def domNarrow (s : State) (d : Nat) : Nat :=
  ((domRows s d).filter (fun r => rowNarrow (rowOf s r))).length * zoneBlocks s.board -
  domBands s d (fun b x => x.retired && rowNarrow (rowOf s (bandRow s b)))

/-- A domain entry. -/
def usageDomain (s : State) (d : Nat) : List Byte :=
  leBytes 2 d ++ leBytes 2 (domRows s d).length ++ leBytes 4 (domBandCount s d) ++ leBytes 4 (domFree s d) ++
  leBytes 4 (domBands s d (fun _ b => b.zone.isSome)) ++ leBytes 4 (domNarrow s d) ++ leBytes 4 (domBands s d (fun _ b => b.retired)) ++
  leBytes 8 0

/-- Band data capacity of a zone, and its physical fill, in units of 16 bytes; an uncompressed zone's fill is 256 per LBA written. -/
def zoneCapacity (s : State) (z : Zone) (sh : Shape) : Nat := ((z.band.map (bandCapacity s sh)).getD 0) / 16
def zoneFill (z : Zone) (sh : Shape) : Nat := if sh.comp then z.fill else 256 * z.wp

/-- A zone entry. -/
def usageZone (s : State) (key : Nat) : List Byte :=
  let z := zoneOf s key
  let sh := shapeOf s (zNsid key) z
  let narrow := (z.band.map (fun b => rowNarrow (rowOf s (bandRow s b)))).getD false
  leBytes 8 (zIdx key * zoneLbas) ++
  leBytes 1 (sh.density + 8 * sh.comp.toNat + 16 * sh.life + 64 * z.shaped.toNat + 128 * narrow.toNat) ++
  leBytes 1 sh.trimType ++ leBytes 1 sh.trimKeep ++ leBytes 1 0 ++ leBytes 2 sh.domain ++ leBytes 2 sh.keySlot ++
  leBytes 4 (zoneFill z sh) ++ leBytes 4 z.abandoned ++ leBytes 4 (zoneCapacity s z sh) ++ leBytes 4 z.headers

/-- The log of a namespace, for a function. DESIGN CHOICE (notes/assumptions/30.md): ND counts every granted domain number, also one that
does not exist. -/
def usageLog (s : State) (fn nsid : Nat) : List Byte :=
  let n := ((nsOf s nsid).map (fun x => x.zones)).getD 0
  let ds := (List.range 256).filter (domGranted (fnOf s fn))
  let all := (List.range 256).map (domFree s)
  leBytes 4 n ++ leBytes 2 ds.length ++ leBytes 2 0 ++ leBytes 8 all.sum ++ leBytes 4 (openNow s) ++ leBytes 4 (activeNow s) ++
  List.replicate 40 0#8 ++ ds.flatMap (usageDomain s) ++ ((List.range n).map (zKey nsid)).flatMap (usageZone s)

/-- ZONE_PHYSICAL_USAGE_LOG. -/
def execZonePhysicalUsageLog (ctx : Nat) (s : State) : Host.Outcome State Fault Refusal :=
  .next (onAdmin ctx 0x02 (fun x s =>
    if bits x.e.cdw10 7 0 != 0xC1 then s
    else if !(nsGranted s x.fn x.e.nsid || (x.tunnel && (nsOf s x.e.nsid).isSome)) then fail ctx stBadNs s
    else answer ctx (logPart x (usageLog s x.fn x.e.nsid)) s) s)

end Sys2Proof.Machine
end

