-- ==== Sys2Proof/Machine/Cipher.lean ====
section
/-! DEFINITION. Key operations of Security Send and Receive, and the cipher block's registers (06_cipher.md R170 to R189). -/

namespace Sys2Proof.Machine

/-! ### Security Send and Receive (R179 to R184) -/

/-- SECP, the operation in SPSP[15:13], the slot in SPSP[12:0], and TL or AL. -/
def eSecp (e : Entry) : Nat := bits e.cdw10 31 24
def eSecOp (e : Entry) : Nat := bits e.cdw10 23 21
def eSecSlot (e : Entry) : Nat := bits e.cdw10 20 8
def eTl (e : Entry) : Nat := e.cdw11

/-- A key operation refused: status, and event source 266 with the issuer, the operation and the step (R181). -/
def keyRefused (ctx op step : Nat) (st : Status) (x : Ctx) (s : State) : State :=
  s |> raise 266 sevWarning [x.fn, op, step] |> failAt ctx st (if step = 2 && op != 2 then 3 else 0) none none

/-- A Security Send of an operation; the Attic must run to carry it out. -/
def onSecSend (ctx op : Nat) (f : Ctx → State → State) (s : State) : State :=
  onAdmin ctx 0x81 (fun x s => if eSecp x.e = 0xF2 && eSecOp x.e = op && atticRuns s then f x s else s) s

/-- INSTALL_ROOT_TRANSPORT_KEY: only as a tunnelled command. -/
def execInstallRootTransportKey (ctx : Nat) (s : State) : Host.Outcome State Fault Refusal :=
  .next (onSecSend ctx 1 (fun x s =>
    if !x.tunnel || eTl x.e != 32 then keyRefused ctx 1 1 stBadField x s
    else s |> onAtt (fun a => { a with rootKey := some (leNat (bytesAt x.e.payload 0 32)) }) |> succeed ctx) s)

/-- The PF whose rights a command has: its issuer's, or for a tunnelled command that of the target controller's port (R463). -/
def pfOf (x : Ctx) : Nat := if isPf x.fn then x.fn else portOf x.fn

/-- LOAD_FUNCTION_TRANSPORT_KEY: `blob` is the wrapped key of the payload's bytes 8 to 47. -/
def execLoadFunctionTransportKey (ctx : Nat) (blob : Wrapped) (s : State) : Host.Outcome State Fault Refusal :=
  .next (onSecSend ctx 2 (fun x s =>
    let target := fnOfCntlid (fieldAt x.e.payload 0 2)
    if !(isPf x.fn || x.tunnel) || eTl x.e != 48 then keyRefused ctx 2 1 stBadField x s
    else match target.filter (fun t => portOf t == pfOf x) with
    | none => keyRefused ctx 2 2 stBadField x s
    | some t =>
      match s.att.rootKey with
      | none => keyRefused ctx 2 3 stKeyUnavailable x s
      | some k =>
        if blob.kek != k then keyRefused ctx 2 4 stAuth x s
        else if blob.plain.length != 32 then keyRefused ctx 2 5 stBadField x s
        else s |> onAtt (fun a => { a with fnKeys := tset t (leNat blob.plain) a.fnKeys }) |> succeed ctx) s)

/-- LOAD_SLOT: `blob` is the wrapped slot record. -/
def execLoadSlot (ctx : Nat) (blob : Wrapped) (s : State) : Host.Outcome State Fault Refusal :=
  .next (onSecSend ctx 3 (fun x s =>
    let k := eSecSlot x.e
    if eTl x.e != 56 then keyRefused ctx 3 1 stBadField x s
    else if !slotGranted (fnOf s x.fn) k then keyRefused ctx 3 2 stGrant x s
    else match tfind s.att.fnKeys x.fn with
    | none => keyRefused ctx 3 3 stKeyUnavailable x s
    | some kek =>
      if blob.kek != kek then keyRefused ctx 3 4 stAuth x s
      else if blob.plain.length != 48 || fieldAt blob.plain 44 4 != 0 then keyRefused ctx 3 5 stBadField x s
      else
        match loadSlotOp k (fieldAt blob.plain 0 32) (fieldAt blob.plain 32 4) (fieldAt blob.plain 36 8) s with
        | (_, true) => keyRefused ctx 3 6 stSequence x s
        | (t, false) => succeed ctx t) s)

/-- ERASE_SLOT. -/
def execEraseSlot (ctx : Nat) (s : State) : Host.Outcome State Fault Refusal :=
  .next (onSecSend ctx 4 (fun x s =>
    let k := eSecSlot x.e
    if eTl x.e != 0 then keyRefused ctx 4 1 stBadField x s
    else if !slotGranted (fnOf s x.fn) k then keyRefused ctx 4 2 stGrant x s
    else s |> eraseSlotAll k |> succeed ctx) s)

/-- Zones out of Empty and not Offline whose shape names a slot; one made Full from Empty, which holds no band, is not counted (R184, R55). -/
def slotBound (s : State) (k : Nat) : Nat :=
  (s.ze.zones.filter (fun z => z.2.st != .empty && z.2.st != .offline && z.2.band.isSome && (z.2.shape.map (fun h => h.keySlot)) == some k)).length

/-- A Slot Status entry for an issuer. -/
def slotEntry (s : State) (f : Fn) (k : Nat) : List Byte :=
  if !slotGranted f k then List.replicate 16 0#8 else
  let x := slotOf s k
  leBytes 1 (x.loaded.toNat + 2 * x.shadow.isSome.toNat + 4 * x.exhausted.toNat + 8 * x.warned.toNat + 128) ++ leBytes 3 0 ++
  leBytes 4 (slotBound s k) ++ leBytes 8 (counterLeft x)

/-- SLOT_STATUS. -/
def execSlotStatus (ctx : Nat) (s : State) : Host.Outcome State Fault Refusal :=
  .next (onAdmin ctx 0x82 (fun x s =>
    if !(eSecp x.e = 0xF2 && eSecOp x.e = 1) then s
    else if eTl x.e % 16 != 0 || eTl x.e < 16 || 65536 < eTl x.e then fail ctx stBadField s
    else
      let k := eSecSlot x.e
      let ks := ((List.range (eTl x.e / 16)).map (fun i => k + i)).filter (fun i => decide (i < 8192))
      answer ctx (ks.flatMap (slotEntry s (fnOf s x.fn))) s) s)

/-- SECURITY_PROTOCOL_LIST: protocols 0x00 and 0xF2, in the form of the SPC standard. -/
def execSecurityProtocolList (ctx : Nat) (s : State) : Host.Outcome State Fault Refusal :=
  .next (onAdmin ctx 0x82 (fun x s =>
    if eSecp x.e = 0 then answer ctx ((leBytes 7 0 ++ [2#8, 0x00#8, 0xF2#8]).take (eTl x.e)) s else s) s)

/-! ### Registers (R173, R174, R177, R188) -/

/-- SHADOW_PENDING_TIMEOUT. -/
def execShadowPendingTimeout (slot : Nat) (s : State) : Host.Outcome State Fault Refusal :=
  .next (if (slotOf s slot).shadow.isSome then raise 265 sevWarning [slot, holders s slot (slotOf s slot).keyGen] s else s)

/-- A write to CI_KW_KEY_n, CI_KW_SALT and CI_KW_FLOOR: staged. -/
def kwKeyAct (n v : Nat) (s : State) : State := onCi (fun c => { c with kwKey := tput 0 n v c.kwKey }) s
def kwSaltAct (v : Nat) (s : State) : State := onCi (fun c => { c with kwSalt := v }) s
def kwFloorAct (v : Nat) (s : State) : State := onCi (fun c => { c with kwFloor := v }) s

/-- The key that the staging registers hold. -/
def stagedKey (c : Cipher) : Nat := ((List.range 8).map (fun n => tget 0 c.kwKey n * 2 ^ (32 * n))).sum

/-- A write to CI_KW_CMD: Load or Erase of the slot of CI_KW_SEL; every write zeroes the staging registers. -/
def kwCmdAct (v : Nat) (s : State) : State :=
  let k := rdf s R.ciKwSel 12 0
  let c := s.ci
  let s := onCi (fun c => { c with kwKey := [], kwSalt := 0, kwFloor := 0 }) s
  if v % 4 = 1 then
    let (t, no) := loadSlotOp k (stagedKey c) c.kwSalt c.kwFloor s
    onCi (fun c => { c with kwRefused := no }) t
  else if v % 4 = 2 then eraseSlotAll k s
  else s

/-- CI_KW_LOAD. -/
def execCiKwLoad (m : Master) (s : State) : Host.Outcome State Fault Refusal := .next (accessOne m D.ciKwCmd 1 kwCmdAct s)
/-- CI_KW_ERASE. -/
def execCiKwErase (m : Master) (s : State) : Host.Outcome State Fault Refusal := .next (accessOne m D.ciKwCmd 2 kwCmdAct s)

/-- A committed write to CI_KS_CTR: only upwards. -/
def ksCtrAct (v : Nat) (s : State) : State :=
  let k := rdf s R.ciKsSel 12 0
  let s := wr R.ciKsCtr 0 s
  if (slotOf s k).ctr < v then s |> modSlot k (fun x => { x with ctr := v }) |> markSlot k else raise 267 sevWarning [k] s

/-- A committed write to CI_KS_CEIL: never downwards. The raise is in the metadata journal first (R177). -/
def ksCeilAct (v : Nat) (s : State) : State :=
  let k := rdf s R.ciKsSel 12 0
  let s := wr R.ciKsCeil 0 s
  if v < (slotOf s k).ceil then raise 267 sevWarning [k] s else s |> recordCeil k v |> raiseCeil k v

/-- Firmware's own raise of a slot's ceiling (R177): in steps of 2^24 once the counter has come within 2^23 of it, and in one step to 2^24 above
the counter where a Load's FLOOR took it there, or where the counter stands more than a step beyond. -/
def keepCeil (k : Nat) (s : State) : State :=
  let x := slotOf s k
  if x.ctr + 8388608 < x.ceil || x.ceil = 18446744073709551615 then s else
  let v := Nat.min 18446744073709551615 (if x.floored || decide (x.ceil + 16777216 < x.ctr) then x.ctr + 16777216 else x.ceil + 16777216)
  s |> recordCeil k v |> raiseCeil k v

/-- CI_KS_CTR_WRITE: the HI half commits the staged LO half. -/
def execCiKsCtrWrite (m : Master) (hi : Word) (s : State) : Host.Outcome State Fault Refusal :=
  .next (accessOne m D.ciKsCtr hi.toNat ksCtrAct s)
/-- CI_KS_CEIL_WRITE. -/
def execCiKsCeilWrite (m : Master) (hi : Word) (s : State) : Host.Outcome State Fault Refusal :=
  .next (accessOne m D.ciKsCeil hi.toNat ksCeilAct s)

end Sys2Proof.Machine
end

