-- ==== Sys2Proof/Machine/Features.lean ====
section
/-! DEFINITION. Get Features and Set Features (03_queues.md R87, R93, R112; 04_tenants.md R133; 09_tail_latency.md R264; 10_granary.md
R307; 16_power_thermal.md R444, R448, R450, R451). -/

namespace Sys2Proof.Machine

def stNotChangeable : Status := { sct := 1, sc := 0x0E }
def stNotSaveable : Status := { sct := 1, sc := 0x0D }

/-- Feature identifier, SV and SEL. -/
def eFid (e : Entry) : Nat := bits e.cdw10 7 0
def eSv (e : Entry) : Bool := bit e.cdw10 31
def eSel (e : Entry) : Nat := bits e.cdw10 10 8

/-- A Set Features of a feature. -/
def onSet (ctx fid : Nat) (f : Ctx → State → State) (s : State) : State :=
  onAdmin ctx 0x09 (fun x s => if eFid x.e = fid then f x s else s) s

/-- Whether a command has PF rights: it came from a PF or through a tunnel (17_attic.md R463). -/
def pfRights (x : Ctx) : Bool := isPf x.fn || x.tunnel

/-- A feature that only a PF may set. -/
def pfSet (ctx : Nat) (x : Ctx) (f : State → State) (s : State) : State := if pfRights x then f s else fail ctx stNotChangeable s

/-- The namespaces that NSID names for a function: an attached one, or with 0xFFFF_FFFF every one attached to it; none otherwise. -/
def namedNs (s : State) (x : Ctx) : List Nat :=
  let own := x.named.getD (s.ze.nss.filterMap (fun p => if p.2.attached = some x.fn then some p.1 else none))
  if x.e.nsid = 0xFFFFFFFF then own else own.filter (fun n => n == x.e.nsid)

/-! ### Tenant Share, 0xD0 (R133) -/

/-- The structure of a share: as last set, or the defaults. -/
def shareBytes (h : Share) : List Byte :=
  if !h.raw.isEmpty then h.raw else
  leBytes 1 1 ++ leBytes 3 0 ++ leBytes 2 h.weight ++ leBytes 1 h.burst ++ leBytes 1 0 ++ leBytes 4 h.iopsCap ++ leBytes 4 h.bwCap ++
  bytesAt (h.ksRanges.flatMap (fun r => leBytes 4 (r.1 + 65536 * r.2))) 0 16 ++ leBytes 32 h.domains ++
  bytesAt (h.peers.flatMap (fun p => leBytes 4 (p.1 + 2147483648) ++ leBytes 4 p.2 ++ leBytes 4 0)) 0 192

/-- KS_RANGE i, and PEER i, of the structure. -/
def shareKs (d : List Byte) (i : Nat) : Nat := fieldAt d (16 + 4 * i) 4
def sharePeer (d : List Byte) (i : Nat) : Nat := fieldAt d (64 + 12 * i) 4

/-- The share of a structure. -/
def shareFrom (d : List Byte) : Share :=
  { weight := fieldAt d 4 2, burst := fieldAt d 6 1, iopsCap := fieldAt d 8 4, bwCap := fieldAt d 12 4,
    ksRanges := ((List.range 4).map (shareKs d)).map (fun v => (bits v 12 0, bits v 29 16)),
    domains := fieldAt d 32 32,
    peers := ((List.range 16).filter (fun i => bit (sharePeer d i) 31)).map (fun i => (bits (sharePeer d i) 17 0, fieldAt d (68 + 12 * i) 4)),
    raw := bytesAt d 0 256 }

/-- The checks on a Set of R133. -/
def shareValid (d : List Byte) : Bool :=
  fieldAt d 0 1 == 1 && decide (fieldAt d 4 2 ≤ 1023) && fieldAt d 6 1 != 0 && fieldAt d 1 3 == 0 && fieldAt d 7 1 == 0 &&
  (List.range 4).all (fun i => let v := shareKs d i
    bits v 15 13 == 0 && bits v 31 30 == 0 && (bits v 29 16 == 0 || decide (bits v 12 0 + bits v 29 16 ≤ 8192))) &&
  (List.range 16).all (fun i => bits (sharePeer d i) 30 18 == 0 && fieldAt d (72 + 12 * i) 4 == 0)

/-- The function whose share a PF's command names: itself or one of its secondaries. -/
def shareTarget (x : Ctx) : Option Nat :=
  let pf := if isPf x.fn then x.fn else portOf x.fn
  (fnOfCntlid (bits x.e.cdw11 15 0)).filter (fun t => t == pf || (decide (4 ≤ t) && portOf t == pf))

/-- SET_TENANT_SHARE. -/
def execSetTenantShare (ctx : Nat) (s : State) : Host.Outcome State Fault Refusal :=
  .next (onSet ctx 0xD0 (fun x => pfSet ctx x (fun s =>
    match shareTarget x with
    | none => fail ctx stBadField s
    | some t =>
      if !shareValid x.e.payload then fail ctx stBadField s
      else s |> modFn t (fun f => { f with share := shareFrom x.e.payload }) |> raise 103 sevInfo [t] |> succeed ctx)) s)

/-! ### Thermal Grace, 0xD1 (R451) -/

/-- SET_THERMAL_GRACE. -/
def execSetThermalGrace (ctx : Nat) (s : State) : Host.Outcome State Fault Refusal :=
  .next (onSet ctx 0xD1 (fun x => pfSet ctx x (fun s =>
    if 60 < x.e.cdw11 then fail ctx stBadField s
    else s |> graceSet x.e.cdw11 |> onlyIf (eSv x.e) (onBoard (fun b => { b with graceSaved := x.e.cdw11 })) |> succeed ctx)) s)

/-! ### Detour Policy, 0xD2 (R263, R264) -/

/-- SET_DETOUR_POLICY. -/
def execSetDetourPolicy (ctx : Nat) (s : State) : Host.Outcome State Fault Refusal :=
  .next (onSet ctx 0xD2 (fun x s =>
    let e := x.e
    if !bit e.cdw11 31 then
      let v := bits e.cdw11 13 0
      let ns := namedNs s x
      if ns.isEmpty && e.nsid != 0xFFFFFFFF then fail ctx stBadNs s
      else if bits e.cdw11 30 14 != 0 || !(v == 0 || decide (100 ≤ v ∧ v ≤ 10000)) then fail ctx stBadField s
      else
        s |> forEach ns (fun n => modNs n (fun y => { y with deadline := v, deadlineSaved := if eSv e then v else y.deadlineSaved }))
          |> raise 431 sevInfo [0, e.nsid, v] |> succeed ctx
    else pfSet ctx x (fun s =>
      let d := bits e.cdw11 7 0
      let rate := bits e.cdw12 15 0
      let depth := bits e.cdw12 31 16
      if bits e.cdw11 30 8 != 0 || depth = 0 || !(domExists s d && domGranted (fnOf s x.fn) d) then fail ctx stBadField s
      else
        let lv := domLevel s d
        let s := modDom d (fun y => { y with rate := rateIn s d rate, depth := depthIn s d depth, rateSaved := if eSv e then rate else y.rateSaved,
                                             depthSaved := if eSv e then depth else y.depthSaved }) s
        s |> modDom d (fun y => { y with level := some (Nat.min lv (1000 * domDepth s d)), lvAt := s.ck.tb })
          |> raise 431 sevInfo [1, d, e.cdw12] |> succeed ctx) s) s)

/-! ### Ticketed Append, 0xD3 (R93) -/

/-- SET_TICKETED_APPEND. -/
def execSetTicketedAppend (ctx : Nat) (s : State) : Host.Outcome State Fault Refusal :=
  .next (onSet ctx 0xD3 (fun x s =>
    let ns := namedNs s x
    let on := bit x.e.cdw11 0
    if ns.isEmpty && x.e.nsid != 0xFFFFFFFF then fail ctx stBadNs s
    else
      s |> forEach ns (fun n => modNs n (fun y => { y with ticketed := on, ticketedSaved := if eSv x.e then on else y.ticketedSaved }))
        |> succeed ctx) s)

/-! ### Mirror Mode, 0xD4 (R307 to R309) -/

/-- Mirror mode as a Set leaves it. With the mode off, or a new partner, no copy is waited for any more. Where it takes write-through into force or out
of it, the writes follow (R86, R309) and the time is counted (R313). -/
def mirrorSet (en : Bool) (policy partner tmo : Nat) (s : State) : State :=
  let keep := en && s.gr.mirEn && s.gr.mirPartner == partner
  s |> withWt (onGr (fun g => { g with
         mirEn := en, mirPolicy := policy, mirPartner := partner, mirTmo := tmo, mirLost := keep && g.mirLost,
         mirOut := if keep then g.mirOut else [], mirHeld := if keep then g.mirHeld else [], mirLbas := if keep then g.mirLbas else [] }))
    |> settleAll

/-- SET_MIRROR_MODE. -/
def execSetMirrorMode (ctx : Nat) (s : State) : Host.Outcome State Fault Refusal :=
  .next (onSet ctx 0xD4 (fun x => pfSet ctx x (fun s =>
    let e := x.e
    let tmo := bits e.cdw13 15 0
    if 3 < e.cdw11 || 262143 < e.cdw12 || tmo = 0 || 1000 < tmo then fail ctx stBadField s
    else
      let en := bit e.cdw11 0
      let pol := bits e.cdw11 1 1
      s |> mirrorSet en pol e.cdw12 tmo
        |> onlyIf (eSv e) (onBoard (fun b => { b with mirSaved := en, mirSavedPolicy := pol, mirSavedPartner := e.cdw12, mirSavedTmo := tmo }))
        |> succeed ctx)) s)

/-! ### The standard features -/

/-- SET_VOLATILE_WRITE_CACHE (R87): WCE 0 is refused first; whether the feature is saveable the spec does not say, and it is not here
(DESIGN CHOICE, notes/assumptions/31.md). -/
def execSetVolatileWriteCache (ctx : Nat) (s : State) : Host.Outcome State Fault Refusal :=
  .next (onSet ctx 0x06 (fun x s =>
    if !bit x.e.cdw11 0 then fail ctx stBadField s else if eSv x.e then fail ctx stNotSaveable s else succeed ctx s) s)

/-- Firmware writes FT_CAP_LIM as the lesser of the two caps (R444). -/
def applyCaps (s : State) : State :=
  let v := lesserLimit ([0, 24000, 16000].getD s.pw.capPs 0) s.pw.capMgmt
  s |> wrf R.ftCapLim 16 0 v |> ftCapAct v

/-- SET_POWER_MANAGEMENT (R444). -/
def execSetPowerManagement (ctx : Nat) (s : State) : Host.Outcome State Fault Refusal :=
  .next (onSet ctx 0x02 (fun x s =>
    let ps := bits x.e.cdw11 4 0
    if eSv x.e then fail ctx stNotSaveable s
    else if 2 < ps then fail ctx stBadField s
    else s |> onPw (fun p => { p with capPs := ps }) |> applyCaps |> succeed ctx) s)

/-- Whether a thermal management temperature is 0 or from MNTMT to MXTMT (R450). -/
def tmtOk (t : Nat) : Bool := t == 0 || decide (343 ≤ t ∧ t ≤ 367)

/-- SET_HOST_CONTROLLED_THERMAL_MANAGEMENT (R450): TMT1 in CDW11[31:16], TMT2 in CDW11[15:0], as in the NVMe Base Specification. -/
def execSetHostControlledThermalManagement (ctx : Nat) (s : State) : Host.Outcome State Fault Refusal :=
  .next (onSet ctx 0x10 (fun x s =>
    let t1 := bits x.e.cdw11 31 16
    let t2 := bits x.e.cdw11 15 0
    if eSv x.e then fail ctx stNotSaveable s
    else if !(tmtOk t1 && tmtOk t2) || (t1 != 0 && t2 != 0 && decide (t2 ≤ t1)) then fail ctx stBadField s
    else
      s |> onPw (fun p => { p with hctmT1 := t1, hctmT2 := t2 })
        |> wrf R.thHctm 15 0 t1 |> wrf R.thHctm 31 16 t2 |> hctmUpdate 0 |> succeed ctx) s)

/-- SET_TEMPERATURE_THRESHOLD (R448): the over-temperature threshold of the composite temperature. -/
def execSetTemperatureThreshold (ctx : Nat) (s : State) : Host.Outcome State Fault Refusal :=
  .next (onSet ctx 0x04 (fun x s =>
    if eSv x.e then fail ctx stNotSaveable s
    else if bits x.e.cdw11 21 16 != 0 then fail ctx stBadField s
    else s |> modFn x.fn (fun f => { f with tempThreshold := bits x.e.cdw11 15 0 }) |> thresholds |> succeed ctx) s)

/-! ### Get Features -/

/-- DW0 of a feature by SEL: 0 current, 1 default, 2 saved, 3 capabilities (saveable, namespace specific, changeable). -/
def bySel (sel cur dflt saved caps : Nat) : Nat := if sel = 0 then cur else if sel = 1 then dflt else if sel = 2 then saved else caps

/-- DW0 of Mirror Mode's EN and POLICY; PARTNER and TMO have no place in DW0. -/
def mirDw0 (en : Bool) (policy : Nat) : Nat := en.toNat + 2 * policy

/-- GET_FEATURES. -/
def execGetFeatures (ctx : Nat) (s : State) : Host.Outcome State Fault Refusal :=
  .next (onAdmin ctx 0x0A (fun x s =>
    let e := x.e
    let sel := eSel e
    let dw0 (v : Nat) : State := complete ctx stOk v 0 s
    let ns := namedNs s x
    match eFid e with
    | 0x02 => dw0 (bySel sel s.pw.capPs 0 0 4)
    | 0x04 => dw0 (bySel sel (fnOf s x.fn).tempThreshold 368 368 4)
    | 0x06 => dw0 (bySel sel 1 1 1 4)
    | 0x10 => dw0 (bySel sel (s.pw.hctmT1 * 65536 + s.pw.hctmT2) 0 0 4)
    | 0xD1 => dw0 (bySel sel (rdf s R.thCfg 29 24) 5 s.board.graceSaved 5)
    | 0xD4 => dw0 (bySel sel (mirDw0 s.gr.mirEn s.gr.mirPolicy) 0 (mirDw0 s.board.mirSaved s.board.mirSavedPolicy) 5)
    | 0xD3 =>
      (match ns with
      | n :: _ =>
        let y := (nsOf s n).getD {}
        dw0 (bySel sel y.ticketed.toNat 0 y.ticketedSaved.toNat 7)
      | [] => fail ctx stBadNs s)
    | 0xD2 =>
      if (if bit e.cdw11 31 then bits e.cdw11 30 8 else bits e.cdw11 30 14) != 0 then fail ctx stBadField s
      else if !bit e.cdw11 31 then
        (match ns with
        | n :: _ =>
          let y := (nsOf s n).getD {}
          dw0 (bySel sel y.deadline 300 y.deadlineSaved 7)
        | [] => fail ctx stBadNs s)
      else
        let d := bits e.cdw11 7 0
        if !(domExists s d && domGranted (fnOf s x.fn) d) then fail ctx stBadField s
        else
          let n := (domRows s d).length
          let y := domOf s d
          let saved := (if y.rateSaved = 65535 then n else y.rateSaved) + 65536 * (if y.depthSaved = 65535 then 16 * n else y.depthSaved)
          dw0 (bySel sel (domRate s d + 65536 * domDepth s d) (n + 65536 * (16 * n)) saved 5)
    | 0xD0 =>
      let t := if pfRights x then shareTarget x else some x.fn
      (match t with
      | none => fail ctx stBadField s
      | some t =>
        if sel = 3 then dw0 5
        else answer ctx (shareBytes (if sel = 1 then (fnDflt t).share else (fnOf s t).share)) s)
    | _ => fail ctx stBadField s) s)

end Sys2Proof.Machine
end

