-- ==== Sys2Proof/Machine/Logs.lean ====
section
/-! DEFINITION. Get Log Page: the standard pages and pages 0xC0 and 0xC2 to 0xC6 (03_queues.md R98 to R100, 08_flash_integrity.md R240,
09_tail_latency.md R274, 10_granary.md R313, 11_balwen.md R337, 17_attic.md R473). -/

namespace Sys2Proof.Machine

/-- LID, LSP, RAE, LSI and LPO of a Get Log Page. -/
def eLid (e : Entry) : Nat := bits e.cdw10 7 0
def eLsp0 (e : Entry) : Bool := bit e.cdw10 8
def eRae (e : Entry) : Bool := bit e.cdw10 15
def eLsi (e : Entry) : Nat := bits e.cdw11 31 16
def eLpo (e : Entry) : Nat := e.cdw12 + e.cdw13 * 4294967296

/-- A Get Log Page of a page. -/
def onLog (ctx lid : Nat) (f : Ctx → State → State) (s : State) : State :=
  onAdmin ctx 0x02 (fun x s => if eLid x.e = lid then f x s else s) s

/-- A page of controller scope, read with NSID 0 or 0xFFFF_FFFF. -/
def ctlScope (ctx : Nat) (x : Ctx) (f : State → State) (s : State) : State :=
  if x.e.nsid = 0 || x.e.nsid = 0xFFFFFFFF then f s else fail ctx stBadField s

/-! ### Standard pages -/

/-- The highest of sensors 3n − 3 to 3n − 1, in K (16_power_thermal.md R448). -/
def sensorK (s : State) (n : Nat) : Nat :=
  let ts := (List.range 3).map (fun i => s.pw.temps.getD (3 * n + i) 0)
  (ts.foldl max (ts.headD 0) + 273).toNat

/-- The SMART / Health page: what the spec gives, at the places of the NVMe Base Specification, which gives the rest. -/
def smartLog (s : State) (fn : Nat) : List Byte :=
  leBytes 1 (critWarn s (fnOf s fn)) ++ leBytes 2 (compK s) ++ bytesAt (Config.miBytes 7 fn) 0 189 ++
  leBytes 4 (satBits 32 (s.pw.warnNs / 60000000000)) ++ leBytes 4 (satBits 32 (s.pw.critNs / 60000000000)) ++
  (List.range 8).flatMap (fun n => leBytes 2 (sensorK s n)) ++
  leBytes 4 (satBits 32 (tget 0 s.pw.hctmCount 0)) ++ leBytes 4 (satBits 32 (tget 0 s.pw.hctmCount 1)) ++
  leBytes 4 (satBits 32 (tget 0 s.pw.hctmCount 2 / 1000000000)) ++ leBytes 4 (satBits 32 (tget 0 s.pw.hctmCount 3 / 1000000000)) ++ List.replicate 280 0#8

/-- The Firmware Slot page: the slot that runs and the one that boots next; the revisions are the NVMe Base Specification's. -/
def slotLog (s : State) : List Byte :=
  let next := (selNewest s).slot
  leBytes 1 (s.att.runSlot + (if next = s.att.runSlot then 0 else 16 * next)) ++ bytesAt (Config.miBytes 8 0) 0 511

/-- GET_LOG_PAGE: the standard pages. -/
def execGetLogPage (ctx : Nat) (s : State) : Host.Outcome State Fault Refusal :=
  .next (onAdmin ctx 0x02 (fun x s =>
    match eLid x.e with
    | 0x01 => answer ctx (logPart x (bytesAt (Config.miBytes 9 x.fn) 0 64)) s
    | 0x02 => answer ctx (logPart x (smartLog s x.fn)) s
    | 0x03 => answer ctx (logPart x (slotLog s)) s
    | 0x05 => answer ctx (logPart x (bytesAt (Config.miBytes 10 0) 0 4096)) s
    | _ => s) s)

/-! ### Freeze Log, 0xC0 (R100) -/

/-- A 64-byte entry of a frozen queue. -/
def freezeBytes (s : State) (sqid : Nat) (q : Sq) (f : Freeze) : List Byte :=
  let held := heldOf q f
  let waiting := held.filter (fun c => ((ctxOf s c).map (fun x => x.st == .fetched)).getD false)
  let none8 := 0xFFFFFFFFFFFFFFFF
  leBytes 2 sqid ++ leBytes 2 f.cid ++ leBytes 4 f.nsid ++ leBytes 8 (f.zslba.getD none8) ++ leBytes 8 (f.lba.getD none8) ++
  leBytes 1 f.status.sc ++ leBytes 1 (f.status.sct % 8) ++ leBytes 1 f.cause ++ leBytes 1 f.refrozen.toNat ++ leBytes 1 f.opc ++ leBytes 3 0 ++
  leBytes 4 waiting.length ++ leBytes 4 (held.length - waiting.length) ++ leBytes 8 f.time ++ List.replicate 16 0#8

/-- The Freeze Log of a function. -/
def freezeLog (s : State) (fn : Nat) : List Byte :=
  let es := s.ce.sqs.filterMap (fun p => if p.1 / 65536 = fn then p.2.frozen.map (fun f => freezeBytes s (p.1 % 65536) p.2 f) else none)
  leBytes 4 es.length ++ List.replicate 60 0#8 ++ es.flatten

/-- FREEZE_LOG: with RAE clear the event of R98 is unmasked. -/
def execFreezeLog (ctx : Nat) (s : State) : Host.Outcome State Fault Refusal :=
  .next (onLog ctx 0xC0 (fun x => ctlScope ctx x (fun s =>
    s |> answer ctx (logPart x (freezeLog s x.fn)) |> onlyIf (!eRae x.e) (modFn x.fn (fun f => { f with freezeMasked := false })))) s)

/-! ### Block Wear, 0xC2 (R240) -/

/-- The life limit; life units per erase of a density, such that a die-block reaches the limit at the endurance that the die profile gives, rounded
up (DEDUCED, notes/assumptions/33.md); and wear points per erase (R238). -/
def lifeLimit : Nat := 1260000
def lifeUnits (b : Board) (dens : Nat) : Nat := ceilDiv lifeLimit (Nat.max 1 (b.endurance.getD dens 60000))
def wearPoints (dens : Nat) : Nat := [1, 4, 7, 10].getD dens 1

/-- The dies of a row, and its die-blocks of the zone region with the spares appointed to it. -/
def rowDies (r : Nat) : List Nat := (List.range 16).map (dieAt r)
def rowBlks (s : State) (r : Nat) : List DieBlk :=
  (rowDies r).flatMap (fun dk => (List.range (zoneBlocks s.board)).map (fun i => blkOf s dk (servingBlk s dk (16 + i))))

/-- Unappointed spares of a die. -/
def sparesLeft (s : State) (dk : Nat) : Nat :=
  ((List.range s.board.dieBlocks).filter (fun i => (blkOf s dk i).st == 5)).length

def listMax (l : List Nat) : Nat := l.foldl Nat.max 0
def listMin (l : List Nat) : Nat := l.foldl Nat.min (l.headD 0)

/-- Dies of a row that are marked failed. -/
def rowFailed (s : State) (r : Nat) : Nat := ((rowDies r).filter (dieFailed s)).length

/-- A summary entry. -/
def wearSummary (s : State) (r : Nat) : List Byte :=
  let bs := rowBlks s r
  let all := (rowDies r).flatMap (fun dk => (List.range s.board.dieBlocks).map (blkOf s dk))
  let bands := s.ze.bands.filterMap (fun b => if bandRow s b.1 = r then some (bandWear s b.1) else none)
  leBytes 2 r ++ leBytes 2 ((rowOf s r).domain.getD 0xFFFF) ++ leBytes 1 ((rowDies r).filter (dieUsable s)).length ++
  leBytes 1 ((rowOf s r).use.getD 2) ++ leBytes 2 (listMin ((rowDies r).map (sparesLeft s))) ++
  leBytes 4 (listMin (bs.map (fun b => b.erases))) ++ leBytes 4 (listMax (bs.map (fun b => b.erases))) ++ leBytes 4 (listMax bands) ++
  leBytes 4 (listMax (all.map (fun b => b.life))) ++ leBytes 2 (all.filter (fun b => b.st == 4)).length ++ leBytes 6 0

/-- The index that a die-block serves. -/
def servesIdx (i : Nat) (b : DieBlk) : Nat := if b.st = 4 || b.st = 5 || b.st = 6 then 0xFFFF else b.serves.getD i

/-- A detail entry. -/
def wearDetail (s : State) (dk i : Nat) : List Byte :=
  let b := blkOf s dk i
  leBytes 4 b.erases ++ leBytes 4 b.wear ++ leBytes 4 b.life ++ leBytes 1 b.st ++
  leBytes 1 (b.lastDens + 4 * (dieFailed s dk).toNat) ++ leBytes 2 (servesIdx i b)

/-- The header and entries for a list of rows. -/
def wearLog (s : State) (rows : List Nat) (entries : List (List Byte)) : List Byte :=
  leBytes 4 entries.length ++ leBytes 4 lifeLimit ++ [0, 1, 2, 3].flatMap (fun d => leBytes 2 (lifeUnits s.board d)) ++
  leBytes 4 ((rows.map (rowFailed s)).sum) ++ List.replicate 44 0#8 ++ entries.flatten

/-- The rows of the domains that a function is granted. -/
def grantedRows (s : State) (fn : Nat) : List Nat :=
  s.ze.rows.filterMap (fun p => match p.2.domain with
    | some d => if domGranted (fnOf s fn) d then some p.1 else none
    | none => none)

/-- BLOCK_WEAR_LOG. -/
def execBlockWearLog (ctx : Nat) (s : State) : Host.Outcome State Fault Refusal :=
  .next (onLog ctx 0xC2 (fun x => ctlScope ctx x (fun s =>
    let rows := grantedRows s x.fn
    if !eLsp0 x.e then answer ctx (logPart x (wearLog s rows (rows.map (wearSummary s)))) s
    else
      let r := eLsi x.e
      if !rows.contains r then fail ctx stBadField s
      else answer ctx (logPart x (wearLog s [r] ((rowDies r).flatMap (fun dk => (List.range s.board.dieBlocks).map (wearDetail s dk))))) s)) s)

/-! ### Event Recorder, 0xC3 (17_attic.md R468, R473) -/

/-- The CODE of a record: its event's own code where the source's chapter gives none is the constant of Config. -/
def recCode (e : Event) : Nat := e.code.getD (Config.eventParam e.src 65535)

/-- A record of 32 bytes (R468). -/
def recBytes (r : ERec) : List Byte :=
  leBytes 8 r.ev.time ++ leBytes 4 r.lastOfs ++ leBytes 2 r.ev.src ++ leBytes 2 (recCode r.ev) ++ leBytes 1 r.ev.sev ++
  leBytes 1 (r.carried.toNat + 2 * r.trunc.toNat) ++ leBytes 2 r.repeats ++ leBytes 4 r.ev.p0 ++ leBytes 4 r.ev.p1 ++ leBytes 4 r.ev.p2

/-- The page of a snapshot. -/
def recorderLog (r : Recorder) : List Byte :=
  let l := r.snapshot
  leBytes 4 l.length ++ leBytes 4 ((l.map (fun x => x.seq)).headD 0) ++ leBytes 4 ((l.map (fun x => x.seq)).getLastD 0) ++ leBytes 4 0 ++
  [0, 1, 2, 3].flatMap (fun k => leBytes 4 (tget 0 r.snapDrops k)) ++ List.replicate 32 0#8 ++ l.flatMap recBytes

/-- EVENT_RECORDER_LOG: offset 0 takes a snapshot, and with LSP bit 0 clears the recorder, event source 490 with class 5. -/
def execEventRecorderLog (ctx : Nat) (s : State) : Host.Outcome State Fault Refusal :=
  .next (onLog ctx 0xC3 (fun x s =>
    if !(isPf x.fn || x.tunnel) then fail ctx stBadLog s else
    let s := if eLpo x.e = 0 then
        s |> onAtt (fun a => { a with evrec := { a.evrec with snapshot := a.evrec.recs, snapDrops := a.evrec.drops } })
          |> onlyIf (eLsp0 x.e) (recClear 5)
      else s
    answer ctx (logPart x (recorderLog s.att.evrec)) s) s)

/-! ### Peer Recovery, 0xC4 (11_balwen.md R337) -/

/-- The copies held for an owner, in their order, wherever each lies. -/
def ownerCopies (o : Owner) : List MirrorPage := o.saved ++ o.pages.map (fun p => p.2)

/-- An owner's entry. -/
def ownerBytes (node : Nat) (o : Owner) : List Byte :=
  leBytes 4 node ++ leBytes 1 o.state ++ leBytes 1 (o.notice.toNat + 2 * o.domFull.toNat) ++ leBytes 2 o.bands.length ++
  leBytes 8 (((ownerCopies o).filter (fun p => !p.state)).map (fun p => p.bytes)).sum ++
  leBytes 8 (((ownerCopies o).filter (fun p => p.state)).map (fun p => p.bytes)).sum ++ leBytes 8 o.lostTime

/-- The page; on a VF it has no entries. The reserved half is that of a device in mirror mode. -/
def peerLog (s : State) (pf : Bool) : List Byte :=
  let es := if pf then s.pb.owners else []
  leBytes 4 es.length ++ leBytes 4 0 ++ leBytes 8 ((if s.gr.mirEn then s.gr.size / 2 else 0) * mib) ++
  leBytes 8 ((s.gr.segs.filter (fun g => g.2.kind == 5)).length * mib) ++ List.replicate 40 0#8 ++ es.flatMap (fun o => ownerBytes o.1 o.2)

/-- An owner's copies and bands freed, event source 401. -/
def freeOwner (node : Nat) (s : State) : State :=
  let o := tget {} s.pb.owners node
  s |> forEach o.bands (fun b => freeBand b false)
    |> onPb (fun p => { p with owners := tdel node p.owners })
    |> forEach (o.pages.map (fun p => p.1)) freeItem
    |> returnCopies node (o.pages.map (fun p => p.2))
    |> raise 401 sevInfo [node]

/-- PEER_RECOVERY_LOG: with LSP bit 0 a PF discards an entry. -/
def execPeerRecoveryLog (ctx : Nat) (s : State) : Host.Outcome State Fault Refusal :=
  .next (onLog ctx 0xC4 (fun x => ctlScope ctx x (fun s =>
    let page := peerLog s (isPf x.fn || x.tunnel)
    if !eLsp0 x.e then answer ctx (logPart x page) s
    else match s.pb.owners[eLsi x.e]? with
    | some (node, o) =>
      if (isPf x.fn || x.tunnel) && (o.state == 1 || o.state == 3) then s |> answer ctx (logPart x page) |> freeOwner node
      else fail ctx stBadField s
    | none => fail ctx stBadField s)) s)

/-! ### Hold-up Health, 0xC5 (R313) -/

/-- The page. -/
def holdupLog (s : State) : List Byte :=
  let g := s.gr
  leBytes 1 (match g.health with
    | .unknown => 0
    | .good => 1
    | .degraded => 2) ++
  leBytes 1 ((writeThrough s).toNat + 2 * g.testing.toNat + 4 * g.dumpFailed.toNat + 8 * g.limited.toNat) ++ leBytes 2 0 ++
  leBytes 4 s.board.eHu ++ leBytes 4 (s.board.eHu * 5 / 6) ++ leBytes 4 g.size ++ leBytes 8 g.lastTest ++ leBytes 2 g.dv ++
  leBytes 2 s.board.dvMax ++ leBytes 4 g.tests ++ leBytes 4 g.testsFailed ++ leBytes 4 g.dumps ++ leBytes 8 g.lastId ++
  leBytes 4 g.lastDumpUs ++ leBytes 4 g.lastDumpMib ++ leBytes 1 g.lastDumpCause ++ leBytes 7 0 ++ leBytes 8 g.fillCw ++
  leBytes 8 g.forceFua ++ leBytes 8 g.forceFlush ++ leBytes 8 g.forceWt ++ leBytes 8 g.forcePress ++ leBytes 8 (wtNsNow s) ++
  List.replicate 16 0#8

/-- HOLD_UP_HEALTH_LOG. -/
def execHoldUpHealthLog (ctx : Nat) (s : State) : Host.Outcome State Fault Refusal :=
  .next (onLog ctx 0xC5 (fun x => ctlScope ctx x (fun s => answer ctx (logPart x (holdupLog s)) s)) s)

/-! ### Read Margin Histogram, 0xC6 (09_tail_latency.md R274, R275) -/

/-- The sum of several histograms; SINCE is the earliest. -/
def histSum (l : List Hist) : Hist :=
  let add (f : Hist → Nat) : Nat := satBits 64 (l.map f).sum
  { since := listMin (l.map (fun h => h.since)), codewords := add (fun h => h.codewords), detours := add (fun h => h.detours),
    recon := add (fun h => h.recon), granary := add (fun h => h.granary), abandoned := add (fun h => h.abandoned),
    bins := l.foldl (fun t h => h.bins.foldl (fun t b => tmod 0 b.1 (fun v => satBits 32 (v + b.2)) t) t) [] }

/-- The page of a histogram. -/
def histLog (h : Hist) : List Byte :=
  let sat (d : Nat) : Bool := h.bins.any (fun b => b.1 / 256 == d && decide (4294967295 ≤ b.2))
  leBytes 8 h.since ++ leBytes 8 h.codewords ++ leBytes 8 h.detours ++ leBytes 8 h.recon ++ leBytes 8 h.granary ++ leBytes 8 h.abandoned ++
  leBytes 1 ((sat 0).toNat + 2 * (sat 1).toNat + 4 * (sat 2).toNat + 8 * (sat 3).toNat) ++ List.replicate 15 0#8 ++
  (List.range 1024).flatMap (fun i => leBytes 4 (tget 0 h.bins i))

/-- READ_MARGIN_HISTOGRAM_LOG. -/
def execReadMarginHistogramLog (ctx : Nat) (s : State) : Host.Outcome State Fault Refusal :=
  .next (onLog ctx 0xC6 (fun x s =>
    let ns := namedNs s x
    if ns.isEmpty && x.e.nsid != 0xFFFFFFFF then fail ctx stBadNs s else
    let h := histSum (ns.filterMap (fun n => (nsOf s n).map (fun y => y.hist)))
    s |> answer ctx (logPart x (histLog h))
      |> onlyIf (eLsp0 x.e) (forEach ns (fun n => modNs n (fun y => { y with hist := { since := s.ck.tb } })))) s)

end Sys2Proof.Machine
end

