-- ==== Sys2Proof/Machine/Admin.lean ====
section
/-! DEFINITION. Identify, namespaces, images, NVMe-MI over the admin queue, and tunnelled admin commands (03_queues.md R110, 04_tenants.md
R117, R123 to R125, 17_attic.md R462, R463, R478, R479, 18_bring_up.md R504, R505). -/

namespace Sys2Proof.Machine

/-! ### Identify -/

/-- A structure of `n` bytes: what the standards give, with the spec's fields put over it at their offsets. -/
def overlay (n : Nat) (base : List Byte) (fields : List (Nat × List Byte)) : List Byte :=
  fields.foldl (fun b f => (b.take f.1 ++ f.2 ++ b.drop (f.1 + f.2.length)).take n) (bytesAt base 0 n)

/-- Identify Controller (03_queues.md R75, R87, R91, R92, R106, R110, R111, R123; 16_power_thermal.md R441, R444, R448, R450; 17_attic.md R478,
R479). -/
def idController (fn : Nat) : List Byte :=
  overlay 4096 (Config.miBytes 11 fn)
    [(77, leBytes 1 9), (78, leBytes 2 (cntlidOf fn)), (84, leBytes 4 30000000), (88, leBytes 4 5000000), (258, leBytes 1 15), (259, leBytes 1 15),
     (260, leBytes 1 0x16), (263, leBytes 1 2), (266, leBytes 2 368), (268, leBytes 2 378), (270, leBytes 2 2), (319, leBytes 1 1),
     (322, leBytes 2 1), (324, leBytes 2 343), (326, leBytes 2 367), (516, leBytes 4 4096), (520, leBytes 2 0x188), (525, leBytes 1 1),
     (526, leBytes 2 63), (528, leBytes 2 63), (2048, leBytes 2 38800), (2080, leBytes 2 30800), (2112, leBytes 2 22800)]

/-- Identify Namespace (03_queues.md R92, R111; 04_tenants.md R123, R124). -/
def idNamespace (n : Ns) : List Byte :=
  let size := leBytes 8 (n.zones * zoneLbas)
  overlay 4096 (Config.miBytes 12 0)
    [(0, size ++ size), (30, leBytes 1 0), (34, leBytes 2 63), (36, leBytes 2 63), (40, leBytes 6 0), (74, leBytes 2 32768), (76, leBytes 4 262144), (80, leBytes 1 127)]

/-- Identify Namespace of the Zoned Namespace Command Set (02_zones.md R37, R58, R61, R68). -/
def idZoned (n : Ns) : List Byte :=
  overlay 4096 (Config.miBytes 13 0)
    [(2, leBytes 2 1), (4, leBytes 4 (n.mar - 1)), (8, leBytes 4 (n.mor - 1)), (2816, leBytes 8 zoneLbas ++ leBytes 1 1)]

/-- The I/O Command Set specific Identify Controller data: ZASL of the zoned set (R91), VSL and WZSL of the NVM set. -/
def idCommandSet (csi : Nat) : List Byte :=
  overlay 4096 (Config.miBytes 14 csi) (if csi = 2 then [(0, leBytes 1 6)] else [(0, leBytes 2 0)])

/-- Flexible resources assigned to secondaries. -/
def assigned (s : State) (f : Fn → Nat) : Nat := (s.ce.fns.map (fun p => if 4 ≤ p.1 then f p.2 else 0)).sum

/-- Primary Controller Capabilities (04_tenants.md R117). -/
def idPrimary (s : State) (fn : Nat) : List Byte :=
  overlay 4096 []
    [(0, leBytes 2 (cntlidOf fn)), (4, leBytes 1 3),
     (32, leBytes 4 16128 ++ leBytes 4 (assigned s (fun f => f.nvq)) ++ leBytes 2 64 ++ leBytes 2 64 ++ leBytes 2 256 ++ leBytes 2 1),
     (64, leBytes 4 32508 ++ leBytes 4 (assigned s (fun f => f.nvi)) ++ leBytes 2 65 ++ leBytes 2 65 ++ leBytes 2 257 ++ leBytes 2 1)]

/-- A Secondary Controller List entry (R118). -/
def secEntry (s : State) (pf v : Nat) : List Byte :=
  let fn := vfFn pf v
  let f := fnOf s fn
  overlay 32 [] [(0, leBytes 2 (cntlidOf fn)), (2, leBytes 2 (cntlidOf pf)), (4, leBytes 1 f.online.toNat), (8, leBytes 2 v), (10, leBytes 2 f.nvq),
                 (12, leBytes 2 f.nvi)]

/-- The secondaries of a PF from a CNTLID on, 127 at most. -/
def idSecondaries (s : State) (pf from_ : Nat) : List Byte :=
  let vs := (((List.range 512).map (· + 1)).filter (fun v => decide (from_ ≤ cntlidOf (vfFn pf v)))).take 127
  overlay 4096 [] [(0, leBytes 1 vs.length), (32, vs.flatMap (secEntry s pf))]

/-- A list of namespace identifiers above one. -/
def idNsList (l : List Nat) (above : Nat) : List Byte := bytesAt ((l.filter (fun n => decide (above < n))).flatMap (leBytes 4)) 0 4096

/-- The controllers from a CNTLID on. -/
def idCtlList (s : State) (from_ : Nat) : List Byte :=
  let l := ((((List.range 2052).filter (fun k => (fnOf s k).present)).map cntlidOf).filter (fun c => decide (from_ ≤ c))).take 2047
  overlay 4096 [] [(0, leBytes 2 l.length ++ l.flatMap (leBytes 2))]

/-- Namespaces attached to a function. -/
def ownNss (s : State) (fn : Nat) : List Nat := s.ze.nss.filterMap (fun p => if p.2.attached = some fn then some p.1 else none)

/-- IDENTIFY, by CNS. -/
def execIdentify (ctx : Nat) (s : State) : Host.Outcome State Fault Refusal :=
  .next (onAdmin ctx 0x06 (fun x s =>
    let e := x.e
    let cnt := bits e.cdw10 31 16
    let csi := bits e.cdw11 31 24
    let found := nsOf s e.nsid
    let own (f : Ns → List Byte) : State := if (namedNs s x).contains e.nsid then answer ctx (f (found.getD {})) s else fail ctx stBadNs s
    let listed (f : Ns → List Byte) : State := if found.isSome then answer ctx (f (found.getD {})) s else fail ctx stBadNs s
    match bits e.cdw10 7 0 with
    | 0x00 => own idNamespace
    | 0x01 => answer ctx (idController x.fn) s
    | 0x02 => answer ctx (idNsList (ownNss s x.fn) e.nsid) s
    | 0x05 => own (fun n => if csi = 2 then idZoned n else idNamespace n)
    | 0x06 => answer ctx (idCommandSet csi) s
    | 0x07 => answer ctx (idNsList (ownNss s x.fn) e.nsid) s
    | 0x08 => own (fun _ => bytesAt (Config.miBytes 15 0) 0 4096)
    | 0x10 => pfOnly ctx x (answer ctx (idNsList (s.ze.nss.map (fun p => p.1)) e.nsid)) s
    | 0x11 => if pfRights x then listed idNamespace else fail ctx stBadOpcode s
    | 0x12 =>
      if pfRights x then
        listed (fun n => match n.attached with
          | some f => overlay 4096 [] [(0, leBytes 2 1 ++ leBytes 2 (cntlidOf f))]
          | none => overlay 4096 [] [])
      else fail ctx stBadOpcode s
    | 0x13 => pfOnly ctx x (answer ctx (idCtlList s cnt)) s
    | 0x14 => if isPf x.fn then answer ctx (idPrimary s x.fn) s else fail ctx stBadField s
    | 0x15 => if isPf x.fn then answer ctx (idSecondaries s x.fn cnt) s else fail ctx stBadField s
    | 0x1C => answer ctx (overlay 4096 [] [(0, leBytes 8 5)]) s
    | _ => answer ctx (bytesAt (Config.miBytes 16 (bits e.cdw10 7 0)) 0 4096) s) s)

/-! ### Namespaces (04_tenants.md R123 to R125, 02_zones.md R48) -/

/-- Zones of all namespaces. -/
def totalZones (s : State) : Nat := (s.ze.nss.map (fun p => p.2.zones)).sum

/-- A limit of a namespace: the requested one, or the device's. MOR_REQ and MAR_REQ are compared as the limits they stand for, 0xFFFF_FFFF as the
device limit (R123; DESIGN CHOICE, notes/assumptions/31.md). -/
def reqLimit (v dev : Nat) : Nat := if v = 0xFFFFFFFF then dev else v + 1

/-- The default shape of a new namespace (R48). -/
def dfltShape (s : State) (fn : Nat) : Shape :=
  { density := 1, comp := false, life := 1,
    domain := ((List.range 256).find? (fun d => domExists s d && domGranted (fnOf s fn) d)).getD 0xFFFF,
    keySlot := ((List.range 8192).find? (slotGranted (fnOf s fn))).getD 0xFFFF }

/-- NAMESPACE_CREATE. Which free identifier it takes, the spec leaves open. -/
def execNamespaceCreate (ctx : Nat) (s : State) : Host.Outcome State Fault Refusal :=
  .next (onAdmin ctx 0x0D (fun x s =>
    if bits x.e.cdw10 3 0 != 0 then s else
    let d := x.e.payload
    let size := fieldAt d 0 8
    let mor := fieldAt d 3840 4
    let mar := fieldAt d 3844 4
    if bits x.e.cdw11 31 24 != 2 || fieldAt d 26 1 % 16 != 0 || bits (fieldAt d 26 1) 6 5 != 0 || size != fieldAt d 8 8 || size = 0 ||
       size % zoneLbas != 0 || !(mor ≤ 4095 || mor == 0xFFFFFFFF) || !(mar ≤ 16383 || mar == 0xFFFFFFFF) ||
       decide (reqLimit mar 16384 < reqLimit mor 4096) then fail ctx stBadField s
    else if 819200 < totalZones s + size / zoneLbas then fail ctx { sct := 1, sc := 0x15 } s
    else match pickFree s.ze.nss 1 4096 (freeVal s) with
    | none => fail ctx { sct := 1, sc := 0x16 } s
    | some n =>
      let new : Ns := { zones := size / zoneLbas, mor := reqLimit mor 4096, mar := reqLimit mar 16384, dflt := dfltShape s (pfOf x),
                        hist := { since := s.ck.tb } }
      s |> onZe (fun z => { z with nss := tset n new z.nss })
        |> tookFree |> complete ctx stOk n 0) s)

/-- NAMESPACE_DELETE: at once detached, and gone once no started command is left on it. -/
def execNamespaceDelete (ctx : Nat) (s : State) : Host.Outcome State Fault Refusal :=
  .next (onAdmin ctx 0x0D (fun x s =>
    if bits x.e.cdw10 3 0 != 1 then s else
    let ns := (s.ze.nss.map (fun p => p.1)).filter (fun n => x.e.nsid == 0xFFFFFFFF || n == x.e.nsid)
    if ns.isEmpty && x.e.nsid != 0xFFFFFFFF then fail ctx stBadNs s
    else
      s |> forEach ns (fun n => modNs n (fun y => { y with attached := none }))
        |> modCtx ctx (fun y => { y with st := .committed, covered := ns.map (fun n => (n, 0)) })
        |> settleDetach) s)

/-- The controllers of a Namespace Attachment's list, as functions. -/
def attachList (e : Entry) : List (Option Nat) :=
  (List.range (Nat.min 2047 (fieldAt e.payload 0 2))).map (fun i => fnOfCntlid (fieldAt e.payload (2 + 2 * i) 2))

/-- A Namespace Attachment of a selection, with a list of one controller or more and a namespace that exists. -/
def onAttach (ctx sel : Nat) (f : Ctx → List Nat → Ns → State → State) (s : State) : State :=
  onAdmin ctx 0x15 (fun x s =>
    if bits x.e.cdw10 3 0 != sel then s else
    let l := attachList x.e
    match nsOf s x.e.nsid with
    | none => fail ctx stBadNs s
    | some n => if l.isEmpty || l.contains none then fail ctx { sct := 1, sc := 0x1C } s else f x (l.filterMap id) n s) s

/-- NAMESPACE_ATTACH (R124). -/
def execNamespaceAttach (ctx : Nat) (s : State) : Host.Outcome State Fault Refusal :=
  .next (onAttach ctx 0 (fun x l n s =>
    if n.attached.isSome || 1 < l.length then fail ctx { sct := 1, sc := 0x18 } s
    else s |> modNs x.e.nsid (fun y => { y with attached := l.head? }) |> succeed ctx) s)

/-- NAMESPACE_DETACH (R125): it takes effect at once and completes when the started commands have posted. -/
def execNamespaceDetach (ctx : Nat) (s : State) : Host.Outcome State Fault Refusal :=
  .next (onAttach ctx 1 (fun x l n s =>
    if l.any (fun f => n.attached != some f) then fail ctx { sct := 1, sc := 0x1A } s
    else
      s |> modNs x.e.nsid (fun y => { y with attached := none })
        |> modCtx ctx (fun y => { y with st := .committed, nsid := x.e.nsid, zone := l.headD 0 })
        |> settleDetach) s)

/-- FORMAT_NVM: every zone of the namespace is reset, once the writes already validated have been applied (R64). -/
def execFormatNvm (ctx : Nat) (s : State) : Host.Outcome State Fault Refusal :=
  .next (onAdmin ctx 0x80 (fun x s =>
    let ns := namedNs s x
    let zs := ns.flatMap (fun n => zonesFrom s n 0)
    if bits x.e.cdw10 11 9 != 0 || bits x.e.cdw10 3 0 != 0 || bits x.e.cdw10 13 12 != 0 then fail ctx { sct := 1, sc := 0x0A } s
    else if ns.isEmpty then fail ctx stBadNs s
    else if zs.any (fun k => !(zoneOf s k).queue.isEmpty) then s
    else
      s |> forEach zs (fun k t => if (zoneOf t k).st == .readOnly || (zoneOf t k).st == .offline then t else resetZone k t)
        |> succeed ctx) s)

/-! ### Images (17_attic.md R478, R479) -/

def stBadSlot : Status := { sct := 1, sc := 0x06 }
def stBadImage : Status := { sct := 1, sc := 0x07 }
def stNeedsReset : Status := { sct := 1, sc := 0x0B }
def stMaxTime : Status := { sct := 1, sc := 0x12 }
def stProhibited : Status := { sct := 1, sc := 0x13 }
def stOverlap : Status := { sct := 1, sc := 0x14 }

/-- The issuer of an image command: its function, or 4,096 for the management controller. -/
def imgIssuer (x : Ctx) : Nat := if x.tunnel then 4096 else x.fn

/-- An issuer as an event parameter. -/
def issuerParam (me : Nat) : Nat := if me = 4096 then Config.eventParam 483 4096 else me

/-- Bytes staged from offset 0 on without a gap. -/
def assemble : List (Nat × List Byte) → List Byte → List Byte
  | [], acc => acc
  | (o, b) :: r, acc => if o = acc.length then assemble r (acc ++ b) else acc

/-- Whether a staged image is complete. -/
def imgComplete (b : List Byte) : Bool := decide (4096 ≤ b.length ∧ 4096 + imgLength b ≤ b.length) && imgShape b

/-- A piece staged in the DRAM; event source 483 when it completes an image. -/
def stagePiece (ctx : Nat) (x : Ctx) (off : Nat) (b : List Byte) (s : State) : State :=
  let me := imgIssuer x
  let d := (s.att.download.filter (fun d => !(d.direct && d.owner == me))).getD { owner := 4097 }
  if d.direct then fail ctx stSequence s else
  if d.owner != 4097 && d.owner != me then fail ctx stSequence s else
  let d := if off = 0 && (tfind d.pieces 0).isSome then { owner := me } else d
  if d.pieces.any (fun p => decide (off < p.1 + p.2.length ∧ p.1 < off + b.length)) then fail ctx stOverlap s else
  let d2 := { d with owner := if off = 0 then me else d.owner, pieces := tset off b d.pieces }
  let done := imgComplete (assemble d2.pieces []) && !imgComplete (assemble d.pieces [])
  s |> onAtt (fun a => { a with download := some d2 })
    |> onlyIf done (raise 483 sevInfo [imgType (assemble d2.pieces []), issuerParam me])
    |> succeed ctx

/-- A piece written straight into a configuration copy, in OFF and CELLAR. -/
def directPiece (ctx : Nat) (x : Ctx) (off : Nat) (b : List Byte) (s : State) : State :=
  let me := imgIssuer x
  let p := cfgTarget s
  if off = 0 then
    if (s.att.download.map (fun d => d.owner != me && d.owner != 4097)).getD false then fail ctx stSequence s
    else if imgType b != 2 then fail ctx stBadImage s
    else s |> writeImage p b |> onAtt (fun a => { a with download := some { owner := me, direct := true, next := b.length } })
           |> onlyIf (imgComplete b) (raise 483 sevInfo [2, issuerParam me]) |> succeed ctx
  else
    match s.att.download with
    | some d =>
      if d.owner != me || !d.direct || off < d.next then fail ctx stSequence s
      else
        let old := imageIn s p
        let new := old ++ List.replicate (off - old.length) 0xFF#8 ++ b
        s |> writeImage p new |> onAtt (fun a => { a with download := some { d with next := off + b.length } })
          |> onlyIf (imgComplete new && !imgComplete old) (raise 483 sevInfo [2, issuerParam me]) |> succeed ctx
    | none => fail ctx stSequence s

/-- Whether the DRAM is not in use: OFF and CELLAR. -/
def noDram (s : State) : Bool := s.pw.mode == mOff || s.pw.mode == mCellar

/-- FIRMWARE_IMAGE_DOWNLOAD. -/
def execFirmwareImageDownload (ctx : Nat) (s : State) : Host.Outcome State Fault Refusal :=
  .next (onAdmin ctx 0x11 (fun x s =>
    let len := 4 * (x.e.cdw10 + 1)
    let off := 4 * x.e.cdw11
    if len % 4096 != 0 || off % 4096 != 0 then fail ctx stBadField s
    else if noDram s then directPiece ctx x off (bytesAt x.e.payload 0 len) s
    else stagePiece ctx x off (bytesAt x.e.payload 0 len) s) s)

/-- Why an image may not be committed to a slot (R479): the place of the check, and the status. -/
def imgRefusal (s : State) (slot : Nat) (b : List Byte) : Option (Nat × Status) :=
  if !imgComplete b then some (0, stBadImage)
  else if imgType b != (if slot = 3 then 2 else 1) then some (1, stBadImage)
  else if !imgWellFormed s.att.fuses b then some (2, stBadImage)
  else if imgSvn b < s.att.fuses.rollback then some (3, stProhibited)
  else none

/-- The slot that FS names. -/
def fsSlot (s : State) (fs : Nat) : Nat := if fs = 0 then otherSlot s.att.runSlot else fs

/-- The place in the boot flash of a slot. -/
def slotPlace (s : State) (slot : Nat) : Nat := if slot = 3 then cfgTarget s else slot - 1

/-- What follows a committed or named slot, by commit action: a selection record, and for action 011 the activation (R495, R504). -/
def commitAction (ctx ca slot : Nat) (s : State) : State :=
  if ca = 0 || slot = 3 then succeed ctx s
  else
    let new := imgBody (imageIn s (slot - 1))
    let run := imgBody (imageIn s (s.att.runSlot - 1))
    let s := appendSel slot true 0 s
    if ca < 3 then succeed ctx s
    else if Config.microcode new != Config.microcode run then fail ctx stNeedsReset s
    else
      s |> modCtx ctx (fun y => { y with st := .committed })
        |> onRs (fun r => { r with activating := some ctx, actSlot := slot })
        |> onCe (fun e => { e with fetchStop := true })

/-- The image that a commit takes: the staged one, the one written straight to a configuration copy, or none for action 010 and for action
011 with nothing staged. -/
def commitImage (s : State) (slot : Nat) : List Byte :=
  match s.att.download with
  | some d => if d.direct then (if slot = 3 then imageIn s (cfgTarget s) else []) else assemble d.pieces []
  | none => []

/-- FIRMWARE_COMMIT. -/
def execFirmwareCommit (ctx : Nat) (s : State) : Host.Outcome State Fault Refusal :=
  .next (onAdmin ctx 0x10 (fun x s =>
    let ca := bits x.e.cdw10 5 3
    let fs := bits x.e.cdw10 2 0
    let slot := fsSlot s fs
    let place := slotPlace s slot
    let staged := s.att.download.isSome
    if 3 < ca then fail ctx stBadField s
    else if 3 < fs then fail ctx stBadSlot s
    else if s.rs.activating.isSome || (s.att.download.map (fun d => d.owner != imgIssuer x && d.owner != 4097)).getD false then fail ctx stSequence s
    else if ca ≤ 1 && slot = s.att.runSlot then fail ctx stBadSlot s
    else if ca = 3 && slot = 3 then fail ctx stNeedsReset s
    else if ca = 2 || (ca = 3 && !staged) then
      -- the image already in the slot
      if slot = 3 then (if (cfgCopy s).isSome then succeed ctx s else fail ctx stBadImage s)
      else if !imageValid s (slot - 1) 1 then s |> imageRefused 2 slot |> fail ctx stBadImage
      else if !slotBoots s slot then s |> imageRefused 3 slot |> fail ctx stProhibited
      else commitAction ctx ca slot s
    else
      let b := commitImage s slot
      match imgRefusal s slot b with
      | some (check, st) => s |> imageRefused check slot |> fail ctx st
      | none =>
        s |> writeImage place b
          |> programCommit place
          |> onAtt (fun a => { a with download := none })
          |> commitAction ctx ca slot) s)

/-! ### Activation (18_bring_up.md R504, R505) -/

/-- Step 2 of R504: every started command has posted its entry, but for Asynchronous Event Requests, the commit and commands held by a
freeze. -/
def drained (s : State) (act : Nat) : Bool :=
  s.ce.ctxs.all (fun p =>
    p.1 == act || p.2.st == .fetched || (p.2.e.opc == 0x0C && p.1 < ioCtx) || p.2.tunnel ||
    (match sqOf s p.2.fn p.2.sqid with
     | some q => (match q.frozen with
        | some f => p.2.st == .completed && (heldOf q f).contains p.1
        | none => false)
     | none => false))

/-- FIRMWARE_ACTIVATION: steps 3 and 4 of R504. The sequencers run again, and the new firmware has reached ready (R477, R495). -/
def execFirmwareActivation (ctx : Nat) (s : State) : Host.Outcome State Fault Refusal :=
  .next (
    if s.rs.activating != some ctx || !drained s ctx then s else
    let slot := s.rs.actSlot
    s |> firmwareReset
      |> onAtt (fun a => { a with runSlot := slot, trialRun := true })
      |> onFl (fun f => { f with chans := tmap (fun _ c => if c.st = .parked then { c with st := .running } else c) f.chans })
      |> forEach (s.fl.chans.filterMap (fun c => if c.2.st = .running then some c.1 else none)) (fun ch => wrb (R.scCtl ch) 0 true)
      |> confirmSlot
      |> raise 486 sevInfo [slot, imgVersion (imageIn s (slot - 1))]
      |> activationEnd
      |> succeed ctx)

/-- ACTIVATION_DRAIN_TIMEOUT (R505): the old image goes on; the slot stays committed. -/
def execActivationDrainTimeout (s : State) : Host.Outcome State Fault Refusal :=
  .next (match s.rs.activating with
  | some c => if drained s c then s else s |> activationEnd |> fail c stMaxTime
  | none => s)

/-! ### NVMe-MI over the admin queue, and tunnelled commands (R460 to R463) -/

/-- The next state of an outcome. -/
def nextOf (o : Host.Outcome State Fault Refusal) (s : State) : State :=
  match o with
  | .next t => t
  | _ => s

/-- An NVMe-MI command of R462 served at once. -/
def miServe (op : Nat) (s : State) : State :=
  match op with
  | 0x00 => nextOf (execReadNvmeMiDataStructure s) s
  | 0x01 => nextOf (execNvmSubsystemHealthStatusPoll s) s
  | 0x02 => nextOf (execControllerHealthStatusPoll s) s
  | 0x03 => nextOf (execConfigurationSet s) s
  | 0x04 => nextOf (execConfigurationGet s) s
  | 0x05 => nextOf (execVpdRead s) s
  | 0x06 => nextOf (execVpdWrite s) s
  | 0x07 => nextOf (execNvmeMiReset s) s
  | _ => miRespond (Config.miStatus 2) [] s

/-- The request of an NVMe-MI Send or Receive: opcode in CDW11[7:0], request dwords in CDW12 and CDW13, as in the NVMe-MI standard. Its
endpoint number is 6. -/
def miInBand (x : Ctx) : MiReq :=
  { endpoint := 6, opcode := bits x.e.cdw11 7 0, fn := (fnOfCntlid (bits x.e.cdw12 15 0)).getD x.fn,
    arg := if bits x.e.cdw11 7 0 = 5 then bits x.e.cdw13 15 0 else x.e.cdw12, off := bits x.e.cdw12 15 0, data := x.e.payload }

/-- An NVMe-MI command carried by the admin queue: the Attic serves it beside its endpoints' queue, and the response's status is DW0. -/
def inBand (ctx : Nat) (ops : List Nat) (x : Ctx) (s : State) : State :=
  if !atticRuns s then s else
  let r := miInBand x
  let cur := s.att.miCur
  let t := onAtt (fun a => { a with miCur := some r }) s
  let t := if ops.contains r.opcode then miServe r.opcode t else miRespond (Config.miStatus 2) [] t
  let o := tget ({} : MiResp) t.att.miLast 6
  t |> onAtt (fun a => { a with miCur := cur, miOut := s.att.miOut, miLast := tdel 6 a.miLast })
    |> modCtx ctx (fun y => { y with out := o.data })
    |> complete ctx stOk o.status 0

/-- NVME_MI_SEND: the commands that carry data to the device or none. -/
def execNvmeMiSend (ctx : Nat) (s : State) : Host.Outcome State Fault Refusal :=
  .next (onAdmin ctx 0x1D (inBand ctx [0x03, 0x06, 0x07]) s)

/-- NVME_MI_RECEIVE: the commands that return data. -/
def execNvmeMiReceive (ctx : Nat) (s : State) : Host.Outcome State Fault Refusal :=
  .next (onAdmin ctx 0x1E (inBand ctx [0x00, 0x01, 0x02, 0x04, 0x05]) s)

/-- Admin commands that are not tunnelled: the queue commands, Abort and Asynchronous Event Request (R463). -/
def notTunnelled : List Nat := [0x00, 0x01, 0x04, 0x05, 0x08, 0x0C]

/-- Whether the mode serves tunnelled commands; OFF and CELLAR serve image download and commit (R460). -/
def tunnelServed (s : State) (opc : Nat) : Bool :=
  if noDram s then opc == 0x10 || opc == 0x11
  else inService s || s.pw.mode == mDoze || s.pw.mode == mQuiesce || s.pw.mode == mHalt

/-- TUNNELLED_ADMIN_COMMAND (R463): the request in progress becomes an admin command of its target controller, with PF rights; the commands
that carry out its opcode then act on it. -/
def execTunnelledAdminCommand (s : State) : Host.Outcome State Fault Refusal :=
  .next (miOn 0x100 (fun r s =>
    if (ctxOf s tunnelCtx).isSome then s
    else if !tunnelServed s r.cmd.opc then miRespond (Config.miStatus 1) [] s
    else
      let x : Ctx := { fn := r.fn, fgen := (fnOf s r.fn).gen, tunnel := true, st := .started, e := r.cmd }
      let s := onCe (fun e => { e with ctxs := tset tunnelCtx x e.ctxs }) s
      if notTunnelled.contains r.cmd.opc then fail tunnelCtx stBadOpcode s
      else match adminFault s x with
      | some st => fail tunnelCtx st s
      | none => s) s)

end Sys2Proof.Machine
end

