-- ==== Sys2Proof/Machine/FlashOps.lean ====
section
/-! DEFINITION. The flash side's shared operations: die queues, tokens, the ends of operations, die-blocks, die failure, zone moves and
the recovery ladder (07_flash_channels.md R201 to R215, 08_flash_integrity.md R222 to R245, 09_tail_latency.md R252 to R263). -/

namespace Sys2Proof.Machine

/-! ### Descriptors (R201, R202, R213) -/

/-- Token classes of operations (R202): 0 read, 1 program and erase, 2 dump. The Reset LUN that a sequencer issues in HOLDUP takes a token of the
dump class (R210). -/
def opClass (s : State) (op : Nat) (who : Issuer) : Nat :=
  if op = 0x30 || (s.fl.poolDump && who == .sequencer) then 2 else if op = 0x10 || op = 0x20 then 1 else 0

/-- Whether an operation can be suspended at all (R209, R254). -/
def isLong (op : Nat) : Bool := op == 0x10 || op == 0x20

/-- Token cost of a descriptor (R213). -/
def tokenCost (s : State) (d : Desc) : Nat :=
  if d.op ≤ 3 then rdf s (R.ftCost d.dens) 7 0
  else if d.op = 0x10 then rdf s (R.ftCost d.dens) 15 8
  else if d.op = 0x20 then rdf s (R.ftCost d.dens) 31 24
  else if d.op = 0x30 then rdf s (R.ftCost 0) 23 16
  else 1

/-- The queues an operation is allowed on (R202). -/
def opOn (op q : Nat) : Bool :=
  if op = 0x01 || op = 0x02 then q == 0 || q == 3
  else if op = 0x10 || op = 0x30 then q == 1
  else if op = 0x20 then q == 2
  else (op == 0x03 || op == 0x40 || op == 0x41 || op == 0x42 || op == 0x48) && q == 3

/-- Whether every field of a descriptor is in range (R201, R203). -/
def descOk (s : State) (die : Nat) (d : Desc) : Bool :=
  d.die == die && decide (d.dens < 4 ∧ d.pass ≤ 2 ∧ d.planes < 2 ^ s.board.planes ∧ d.suspMax < 16 ∧ d.block < s.board.dieBlocks ∧
    d.wl < s.board.wordlines ∧ d.level < bitsPerCell d.dens ∧ d.cw < 2 ^ (4 * s.board.planes) ∧ d.thr < 65536 ∧ d.tag < 4294967296) &&
  bits d.thr 14 12 == 0 && d.rsvd == 0 && opOn d.op d.queue && (decide (3 < d.op) || decide (d.addr < 4294967296))

/-! ### The token arbiter (R214) -/

/-- Tokens of a class taken (`n > 0`) or returned. -/
def heldBy (cls : Nat) (n : Int) (s : State) : State :=
  onFl (fun f =>
    if cls = 0 then { f with rdHeld := (f.rdHeld + n).toNat }
    else if cls = 1 then { f with peHeld := (f.peHeld + n).toNat }
    else { f with dumpHeld := (f.dumpHeld + n).toNat }) s

def tokensHeld (s : State) : Nat := s.fl.rdHeld + s.fl.peHeld + s.fl.dumpHeld

/-- A request appended to those of its class. -/
def askTokens (cls dk cost : Nat) (s : State) : State :=
  let r : TokReq := { die := dk, cost := cost }
  onFl (fun f =>
    if cls = 0 then { f with rdReq := f.rdReq ++ [r] }
    else if cls = 1 then { f with peReq := f.peReq ++ [r] }
    else { f with dumpReq := f.dumpReq ++ [r] }) s

/-- The request that the arbiter considers, and its class. Below BO2 no pulse starts (10_granary.md R295). -/
def arbHead (s : State) : Option (Nat × TokReq) :=
  if s.gr.bo2 then none
  else if s.fl.poolDump then s.fl.dumpReq.head?.map (fun r => (2, r))
  else
    match s.fl.peReq.head?, s.fl.rdReq.head? with
    | some p, some r => if s.fl.peHeld < rdf s R.ftCfg 16 0 && decide (4 * s.fl.peHeld < poolSize s) then some (1, p) else some (0, r)
    | some p, none => some (1, p)
    | none, some r => some (0, r)
    | none, none => s.fl.dumpReq.head?.map (fun r => (2, r))

/-- SC_CNT of an operation's start: reads, program passes, erases. -/
def countStart (ch op : Nat) (s : State) : State :=
  if op ≤ 3 then count (R.scCnt ch 0) (R.scOvf ch) 0 1 s
  else if op = 0x10 || op = 0x30 then count (R.scCnt ch 1) (R.scOvf ch) 1 1 s
  else if op = 0x20 then count (R.scCnt ch 2) (R.scOvf ch) 2 1 s
  else s

/-- What the start of a program changes: an ERASED die-block is WRITTEN (R232), and a metadata die-block holds records as new as the newest
checkpoint (R234). -/
def markWritten (dk : Nat) (d : Desc) (s : State) : State :=
  if d.op = 0x10 || d.op = 0x30 then
    modBlk dk d.block (fun b => { b with
      st := if b.st = 2 then 3 else b.st, dens := some (if d.op = 0x30 then 0 else d.dens), lastDens := if d.op = 0x30 then 0 else d.dens,
      epoch := (s.gr.ckpt.map (fun c => c.num)).getD 0 }) s
  else s

/-- A program pass issued: its wordline counts as programmed from here on, whole or cut short (10_granary.md R303). -/
def noteIssued (dk : Nat) (d : Desc) (s : State) : State :=
  if d.op != 0x10 then s else
  match bandOfBlk s dk d.block with
  | some (b, pos) => modBand b (fun x => { x with issued := tput 0 pos (Nat.max (tget 0 x.issued pos) (d.wl + 1)) x.issued }) s
  | none => s

/-- An operation issued: its descriptor leaves its queue, the volume is selected, and its sets are those that stand now (R192, R205, R228). -/
def startOp (cls : Nat) (r : TokReq) (o : Op) (s : State) : State :=
  let sets := opSets s r.die o.d
  s |> modDie r.die (fun d => { d with
         q := d.q.erase (o.d, o.who), winReads := if d.susp.isSome then d.winReads + 1 else d.winReads,
         cur := some { o with phase := .running, tokens := r.cost, cls := cls, issued := s.ck.tb, since := s.ck.tb, sets := sets } })
    |> selectVolume (r.die / 64) (r.die % 64)
    |> trackSet r.die o.d
    |> countStart (r.die / 64) o.d.op
    |> markWritten r.die o.d
    |> noteIssued r.die o.d
    |> pumpPosts r.die

/-- A suspended operation resumed. -/
def resumeOp (cls : Nat) (r : TokReq) (s : State) : State :=
  s |> modDie r.die (fun d => { d with resuming := false, susp := none, cur := d.susp.map (fun o =>
         { o with phase := .running, tokens := r.cost, cls := cls, since := s.ck.tb, spent := o.spent + (s.ck.tb - o.since) }) })
    |> selectVolume (r.die / 64) (r.die % 64)

/-- A grant: the die's waiting operation starts, or its suspended one resumes. -/
def grant (cls : Nat) (r : TokReq) (s : State) : State :=
  let s := heldBy cls r.cost s
  let d := dieOf s r.die
  if d.resuming then resumeOp cls r s else whenSome d.cur (startOp cls r) s

/-- Grants made until the head request of the preferred class does not fit. -/
def arbitrateN : Nat → State → State
  | 0, s => s
  | fuel + 1, s =>
    match arbHead s with
    | none => s
    | some (cls, r) =>
      if tokensHeld s + r.cost ≤ poolSize s then
        arbitrateN fuel (grant cls r (onFl (fun f =>
          if cls = 0 then { f with rdReq := f.rdReq.tail } else if cls = 1 then { f with peReq := f.peReq.tail }
          else { f with dumpReq := f.dumpReq.tail }) s))
      else s
def arbitrate (s : State) : State := arbitrateN (s.fl.rdReq.length + s.fl.peReq.length + s.fl.dumpReq.length) s

/-! ### Bands and die-blocks -/

/-- Whether a channel takes posts for a die: from HALTED on, and after initialisation for usable dies only. Descriptors queued before that for a die then
found unusable stay in their queue and are issued; the spec does not speak of them (DESIGN CHOICE, notes/assumptions/20.md). -/
def dieTakes (s : State) (ch die : Nat) : Bool :=
  let c := chanOf s ch
  c.st == .halted || c.st == .init || bit c.usable die

/-- A read job moved to a step of the ladder. -/
def modJob (tag : Nat) (f : ReadJob → ReadJob) (s : State) : State := onFl (fun x => { x with jobs := talter tag f x.jobs }) s
def jobOf (s : State) (tag : Nat) : Option ReadJob := tfind s.fl.jobs tag

/-- A descriptor that a failed die cannot carry out: completed, and a read goes on with the rebuild of its page (R222, R241). -/
def deadDesc (ch : Nat) (d : Desc) (who : Issuer) (s : State) : State :=
  s |> fcpl ch d who 4 |> onlyIf (decide (d.op ≤ 3)) (modJob d.tag (fun j => { j with step := 5, ready := false }))

/-- An operation suspended for reads (R209, R254): one that is long, has run for its minimum run, and has suspends left. At SUSP_MAX the refusal is
recorded. The channel is not in HOLDUP, and not in PARKED or STOPPED, where nothing new is issued (R200). -/
def minRunNs (s : State) (op : Nat) : Nat := 1000 * (if op = 0x20 then rdf s R.dsMinrun 25 16 else rdf s R.dsMinrun 9 0)
def ranMinimum (s : State) (o : Op) : Bool := decide (o.since + minRunNs s o.d.op ≤ s.ck.tb)
def trySuspend (ch die : Nat) (s : State) : State :=
  let dk := 64 * ch + die
  let x := dieOf s dk
  match x.cur with
  | none => s
  | some o =>
    if !isLong o.d.op || o.phase != .running || !(x.q.any (fun e => e.1.queue == 0)) || (chanOf s ch).st != .running || x.susp.isSome ||
       !ranMinimum s o then s
    else if o.suspends < o.d.suspMax then modDie dk (fun y => { y with cur := some { o with phase := .suspending } }) s
    else raise (evOdd ch) sevInfo [die, o.d.tag] s

/-- What the checks of a post to a die answer at once (R200, R203, R212, R215); none where the descriptor enters its queue. A sequencer that is OFF has no
power to take or complete a descriptor: the post is lost (DESIGN CHOICE, notes/assumptions/20.md). -/
def postRefused (ch die : Nat) (d : Desc) (who : Issuer) (s : State) : Option State :=
  let dk := 64 * ch + die
  let c := chanOf s ch
  if c.st = .off then some s
  else if !descOk s die d then some (s |> fcpl ch d who 8 |> raise (evOdd ch) sevWarning [d.tag])
  else if dieFailed s dk || !dieTakes s ch die then some (deadDesc ch d who s)
  else if (c.st = .holdup || c.st = .stopped) && (d.op = 0x10 || d.op = 0x20) then some (fcpl ch d who 6 s)
  else none

/-- A descriptor posted to a die; a read may suspend the operation in progress. -/
def postDesc (ch die : Nat) (d : Desc) (who : Issuer) (s : State) : State :=
  let d := { d with posted := s.ck.tb }
  (postRefused ch die d who s).getD (s |> enqueue (64 * ch + die) (d, who) |> onlyIf (d.queue == 0) (trySuspend ch die))

/-- A read of the ladder posted: its agent makes it once it is held no longer (R537). -/
def postLadder (ch die : Nat) (d : Desc) (who : Issuer) (s : State) : State :=
  if agentHeld s (posterOf s ch (d, who)) then onFl (fun f => { f with heldPosts := f.heldPosts ++ [(ch, (d, who))] }) s else postDesc ch die d who s

/-- A descriptor put at the head of its die queue (R222, R262), as soon as the queue has room (R537). -/
def postHead (ch die : Nat) (d : Desc) (who : Issuer) (s : State) : State :=
  let d := { d with posted := s.ck.tb }
  (postRefused ch die d who s).getD (s |> enqueueHead (64 * ch + die) (d, who) |> onlyIf (d.queue == 0) (trySuspend ch die))

/-- Whether a stripe of a zone is complete: every data position of it holds data or fill (R198, R289). -/
def stripeReady (s : State) (z : Zone) (b w : Nat) : Bool :=
  let per := stripeCws s.board (zoneDens z) (dataWidth s b)
  decide (per * (w + 1) ≤ z.nextPos) && !(z.tail != 0 && decide ((z.nextPos - 1) / per = w))

/-- Whether a pass is the next one of a die-block (R207). -/
def passInOrder (s : State) (d : Desc) (coarse fine : Nat) : Bool :=
  if twoPass s.board d.dens then
    (d.pass == 1 && d.wl == coarse && (decide (d.wl < 2) || decide (d.wl ≤ fine + 1))) ||
    (d.pass == 2 && d.wl == fine && (decide (d.wl + 2 ≤ coarse) || (d.wl + 1 == s.board.wordlines && coarse == s.board.wordlines)))
  else d.pass == 0 && d.wl == fine

/-- How far a die-block has been programmed. -/
def progress (s : State) (dk blk : Nat) : Nat × Nat :=
  match bandOfBlk s dk blk with
  | some (b, pos) => tget (0, 0) (bandOf s b).prog pos
  | none => ((blkOf s dk blk).prog, (blkOf s dk blk).prog)

/-- A die-block retired (R236): RETIRE is journalled, and a spare is appointed to its index, in ascending order; with no spare left the
band is retired (R237). `keep` journals the record. -/
def appointSpareBy (keep : JRec → State → State) (dk i : Nat) (s : State) : State :=
  let ch := dk / 64
  let lo := 16 + zoneBlocks s.board
  match (List.range (s.board.dieBlocks - lo)).find? (fun k => (blkOf s dk (lo + k)).st == 5) with
  | some k =>
    s |> modBlk dk (lo + k) (fun b => { b with st := 0, serves := some i })
      |> keep { typ := 4, ch := ch, die := dk % 64, block := lo + k, aux := i, erases := (blkOf s dk (lo + k)).erases }
      |> raise 422 sevInfo [chDie ch (dk % 64), lo + k, i]
  | none =>
    if i < 16 then s else
    let b := bandNo s (dieRow ch (dk % 64)) (i - 16)
    s |> modBand b (fun x => { x with retired := true, erasing := false })
      |> fblTake ((bandDom s b).getD 0) b
      |> raise 428 sevError [dieRow ch (dk % 64), i - 16]

def appointSpare (dk i : Nat) (s : State) : State := appointSpareBy journal dk i s

def retireBlk (dk blk cause : Nat) (s : State) : State :=
  let x := blkOf s dk blk
  let ch := dk / 64
  s |> modBlk dk blk (fun y => { y with st := 4, startOpen := false })
    |> journal { typ := 3, cause := cause, ch := ch, die := dk % 64, block := blk, erases := x.erases }
    |> raise 421 sevWarning [chDie ch (dk % 64), blk, cause]
    |> appointSpare dk (x.serves.getD blk)

/-! ### Orphans (11_balwen.md R335) -/

/-- Free bands that may be written now in a domain: those of its free-band list first. -/
def readyBands (s : State) (d : Nat) : List Nat :=
  ((domOf s d).fbl ++ (s.ze.bands.filterMap (fun p => if bandDom s p.1 == some d && rowUsed (rowOf s (bandRow s p.1)) then some p.1 else none))).eraseDups.filter (bandReady s)

def setOwner (node : Nat) (o : Owner) (s : State) : State := onPb (fun p => { p with owners := tset node o p.owners }) s

/-- The wordlines of its bands that the persisting of `n` copies writes in SLC, a codeword each. -/
def orphanWls (s : State) : List Nat → Nat → List (Nat × Nat)
  | [], _ => []
  | b :: r, n =>
    let c := bandCws s.board 0 (dataWidth s b)
    (b, ceilDiv (Nat.min n c) (slcCws s * dataWidth s b)) :: orphanWls s r (n - c)

/-- Whether the wordlines of a persisting have all been programmed, on the parity die too. -/
def orphansOn (s : State) (o : Owner) : Bool :=
  (orphanWls s o.jobBands o.job).all (fun p =>
    (rowPositions (rowOf s (bandRow s p.1))).all (fun q => decide (p.2 ≤ (tget (0, 0) (bandOf s p.1).prog q).2)))

/-- The persisting of an owner's copies ended: they leave the reserved half. Copies that the owner has sent since stay there. -/
def endPersist (node : Nat) (s : State) : State :=
  match tfind s.pb.owners node with
  | none => s
  | some o =>
    if o.jobBands.isEmpty || !orphansOn s o then s else
    let done := o.pages.take o.job
    let rest := o.pages.drop o.job
    s |> setOwner node { o with state := if o.state = 4 then 4 else if rest.isEmpty then 3 else 0, lostTime := if rest.isEmpty || o.state = 4 then o.lostTime else 0,
                                pages := rest, saved := o.saved ++ done.map (fun p => p.2), job := 0, jobBands := [] }
      |> forEach (done.map (fun p => p.1)) freeItem
      |> returnCopies node (done.map (fun p => p.2))
      |> raise 400 sevInfo [node, o.bands.length]

/-- The copies of a lost owner on their way to SLC bands of PB_ORPH.DOMAIN, which count as bound, to no namespace; the assembler's programs write them
there. While the domain has no band for them they stay in the reserved half. -/
def persistOwner (node : Nat) (s : State) : State :=
  match tfind s.pb.owners node with
  | none => s
  | some o =>
    if o.state != 1 then s
    else if o.pages.isEmpty then setOwner node { o with state := 3 } s else
    let d := rdf s R.pbOrph 7 0
    match takeBands s (readyBands s d) o.pages.length with
    | none => setOwner node { o with domFull := true } s
    | some bs =>
      s |> forEach bs (fun b t => t |> fblTake d b |> modBand b (fun x => { x with zone := some (0, node), dens := some 0 }))
        |> setOwner node { o with state := 2, domFull := false, bands := o.bands ++ bs, job := o.pages.length, jobBands := bs }

/-- Persisting resumed where bands have become free, and ended where all is programmed. -/
def persistAll (s : State) : State := forEach (s.pb.owners.map (fun o => o.1)) (fun n t => t |> persistOwner n |> endPersist n) s

/-- An owner judged lost. -/
def loseOwner (node : Nat) (s : State) : State :=
  match tfind s.pb.owners node with
  | none => s
  | some o =>
    if o.state != 0 && o.state != 4 then s else
    s |> setOwner node { o with state := if o.jobBands.isEmpty then 1 else 2, lostTime := s.ck.tb }
      |> raise 399 sevError [node] |> persistOwner node

/-- Whether a program of a band serves an owner's copies: a wordline in SLC that they need. -/
def orphanProgram (s : State) (b : Nat) (d : Desc) : Bool := match (bandOf s b).zone with
  | some (0, node) => match tfind s.pb.owners node with
    | some o => d.dens == 0 && d.pass == 0 && (orphanWls s o.jobBands o.job).any (fun p => p.1 == b && decide (d.wl < p.2))
    | none => false
  | _ => true

/-! ### Zone moves (R241 to R245) -/

/-- Whether a band can hold a zone. -/
def bandHolds (s : State) (z : Zone) (b : Nat) : Bool := decide (liveCws z ≤ bandCws s.board (zoneDens z) (dataWidth s b))

/-- A free band of the zone's domain that can hold it, preferring a full-width one (R242). -/
def migrationBand (s : State) (z : Zone) : Option Nat :=
  let d := (z.shape.map (fun h => h.domain)).getD 0
  let l := (domOf s d).fbl ++ (s.ze.bands.filterMap (fun p => if bandDom s p.1 == some d && rowUsed (rowOf s (bandRow s p.1)) then some p.1 else none))
  let ok := l.filter (fun b => bandReady s b && bandHolds s z b)
  match ok.find? (bandFull s) with
  | some b => some b
  | none => ok.head?

/-- Bytes that a move copies, and the time that the Termite's copy rate, in MB/s, gives them (R246, R249). -/
def moveBytes (z : Zone) : Nat := 4096 * liveCws z
def moveNs (s : State) (z : Zone) : Nat := moveBytes z * 1000 / Nat.max 1 s.board.copyRate

/-- A move begun: the relocation generation increments, the target band is taken, reads of the zone set RELOC (R245, R89), and the first cipher
unit captures the key slot (06_cipher.md R171). The Termite's moves share its copy rate; die-failure migration has none (R246). -/
def startMove (key target duty : Nat) (s : State) : State :=
  let z := zoneOf s key
  let slot := (shapeOf s (zNsid key) z).keySlot
  match reserve slot (liveUnits z) s with
  | none => s
  | some (ctr, s) =>
    let d := (z.shape.map (fun h => h.domain)).getD 0
    let due := if duty = 0 then 0 else Nat.max s.ck.tb s.fl.copyBusy + moveNs s z
    s |> fblTake d target
      |> nextRelGen key
      |> onlyIf (duty != 0) (onFl (fun f => { f with copyBusy := due }))
      |> modBand target (fun b => { b with zone := some (zNsid key, zIdx key), prog := [], issued := [], temps := [] })
      |> modZone key (fun z => { z with
           move := some { target := target, gen := z.relGen, duty := duty, ctr := ctr, due := due,
                          keys := ((captureGen s slot).map (fun g => (slot, g))).toList } })
      |> onCe (fun e => { e with ctxs := tmap (fun _ x =>
           if (x.st == .started || x.st == .committed) && x.src.any (fun r => r.2.zone == key) then { x with reloc := true } else x) e.ctxs })
      |> noteDelta key

/-- Die-failure migrations that run for a row, and the zones of a row in migration order: those that were Opened or Closed first, then
the others in ascending band number. -/
def rowMoves (s : State) (r : Nat) : Nat :=
  (s.ze.zones.filter (fun p => (p.2.move.map (fun m => m.duty == 0)).getD false && (p.2.band.map (fun b => bandRow s b == r)).getD false)).length
def rowZones (s : State) (r : Nat) : List Nat :=
  let l := s.ze.zones.filterMap (fun p => match p.2.band with
    | some b => if bandRow s b == r then some (if p.2.stopped then 0 else 1, b, p.1) else none
    | none => none)
  (sortBy (fun a b => decide (a.1 < b.1 ∨ (a.1 = b.1 ∧ a.2.1 ≤ b.2.1))) l).map (fun p => p.2.2)

/-- Zones of a row moved as far as 16 moves at once, bands, keys and counters allow; one that cannot be moved at all becomes Read
Only (R242, R175). A zone whose band is retired moves alike (R237). -/
def tryMigrate (key : Nat) (s : State) : State :=
  let z := zoneOf s key
  let slot := (shapeOf s (zNsid key) z).keySlot
  if z.st != .full || z.move.isSome || !z.queue.isEmpty then s
  else if !(slotOf s slot).loaded then s
  else if counterLeft (slotOf s slot) < liveUnits z then makeReadOnly key s
  else match migrationBand s z with
  | some b => startMove key b 0 s
  | none => if migrationHope s z then s else makeReadOnly key s

def migrateRow (r : Nat) (s : State) : State :=
  s |> forEach (rowZones s r) (fun key t => if rowMoves t r < 16 then tryMigrate key t else t) |> settleRow r

/-- Every migration that can go on does so. -/
def migrateAll (s : State) : State :=
  forEach (s.ze.rows.filterMap (fun p => if p.2.migrating then some p.1 else none)) migrateRow s

/-- Opened and Closed zones of a failed band stop validating; those without validated writes go Full, or Read Only where their domain
has no band for them (R62, R241). -/
def stopZone (key : Nat) (s : State) : State :=
  let z := zoneOf s key
  if !isActive z.st then s else
  s |> modZone key (fun z => { z with stopped := true }) |> drainStopped key

/-- A zone whose data a second failed die has taken is Offline (02_zones.md R62). DESIGN CHOICE (notes/assumptions/13.md): the writes validated in
it that have not been applied end with 0x1/0xBB. -/
def loseZone (key : Nat) (s : State) : State :=
  s |> offlineZone key
    |> forEach (zoneOf s key).queue (fun c t => whenSome (ctxOf t c) (fun x t =>
         t |> stopWork c |> failAt c stOffline 5 (some (zIdx key)) (some (ctxLba x))) t)
    |> runWaiting key |> runHeld

/-- A die marked failed in a row (R241, R244). -/
def rowFailure (ch die : Nat) (s : State) : State :=
  let r := dieRow ch die
  let x := rowOf s r
  let pos := ch % 16
  let s := journal { typ := 5, ch := ch, die := die } s
  if !rowUsed x || x.absent == some pos then s else
  let s := s |> raise 423 sevError [r, chDie ch die]
             |> fblDrop (x.domain.getD 0) (fun b => bandRow s b == r)
  if x.use == some 1 || !x.failedPos.isEmpty then
    s |> modRow r (fun y => { y with failedPos := y.failedPos ++ [pos], migrating := true })
      |> forEach (rowZones s r) loseZone
      |> settleRow r
  else
    s |> modRow r (fun y => { y with failedPos := [pos], migrating := true })
      |> forEach (rowZones s r) stopZone |> migrateRow r

/-- A die marked failed (R212): its queued descriptors and a suspended operation complete with DIE_FAILED. -/
def failDie (ch die cause : Nat) (s : State) : State :=
  let dk := 64 * ch + die
  let x := dieOf s dk
  s |> modChan ch (fun c => { c with failed := if bit c.failed die then c.failed else c.failed + 2 ^ die })
    |> raise (evEven ch) sevError [die, cause]
    |> withdraw dk
    |> modDie dk (fun d => { d with q := [], heads := [], posts := [], cur := none, susp := none, resuming := false, resetLun := false, reading := none })
    |> forEach (x.susp.toList.map (fun o => (o.d, o.who)) ++ unissued x) (fun e => deadDesc ch e.1 e.2)
    |> onFl (fun f => { f with jobs := tmap (fun _ j =>
         if j.ch = ch && j.die = die && !j.ready && !j.detour then { j with step := 5 } else j) f.jobs })
    |> rowFailure ch die

/-- The data of a zone as it stands at the target of its move, unit i sealed afresh under key `k i` (R158, R167). -/
def movedUnits (key : Nat) (z : Zone) (k : Nat → Nat × Nat) (ctr bgen : Nat) : List (Nat × LUnit) :=
  z.units.mapIdx (fun i u => (u.1, { pos := i, sealed := { u.2.sealed with
    key := (k i).1, salt := (k i).2, ctr := ctr + i, nonce := ctr + i, lba := absLba key u.1, bgen := bgen }, seg := none }))
def movedFrames (z : Zone) (k : Nat → Nat × Nat) (ctr bgen : Nat) : List Frame :=
  ((liveFrames z).foldl (fun (acc : Nat × Nat × List Frame) f =>
    (acc.1 + 1, acc.2.1 + frameLen f,
     acc.2.2 ++ [withHeader { f with
       sealed := { f.sealed with key := (k acc.1).1, salt := (k acc.1).2, ctr := ctr + acc.1, nonce := ctr + acc.1, bgen := bgen }, off := some acc.2.1, seg := none }]))
    (0, 0, [])).2.2

/-- A move given up: the zone stays on its source band (R169, R245). -/
def abandonMoveOf (key reason : Nat) (s : State) : State := s |> dropMove key reason |> noteDelta key

/-- The cipher units of a zone that a move decrypts, in its order: the LBA offset each begins at, its seal and its bytes. -/
def moveUnits (z : Zone) : List (Nat × Sealed × Nat) :=
  if zoneComp z then (liveFrames z).map (fun f => (16 * f.slot + f.first, f.sealed, 16 * ceilDiv f.payBytes 16))
  else z.units.map (fun u => (u.1, u.2.sealed, 4096))

/-- The key and salt of a move's first unit (06_cipher.md R171): those that its capture names, which an Erase leaves it; none while the capture is of
a pending shadow. Where an Erase has discarded that shadow, the unit captures anew. -/
def firstKey (s : State) (m : Move) (slot : Nat) : Option (Nat × Nat) :=
  let x := slotOf s slot
  match m.first.or (m.keys.head?.bind (fun q => keyOf s q.1 q.2)) with
  | some k => some k
  | none => if x.loaded && x.shadow.isNone then some (x.key, x.salt) else none

/-- The end of a move: the map switches at one instant if the generation is unchanged and every unit authenticates at its place, and the source
band is unbound (R242, R245). The first unit goes on with the key it captured; the later ones capture in their turn, and wait while the slot is
EMPTY or its shadow pending; all wait while their values lie past the ceiling (06_cipher.md R171, R177). `true` when it switched. -/
def switchMap (key : Nat) (s : State) : State × Bool :=
  let z := zoneOf s key
  let slot := (shapeOf s (zNsid key) z).keySlot
  match z.move, z.band with
  | some m, some b =>
    if m.gen != z.relGen then (dropMove key 5 s, false)
    else if (slotOf s slot).ceil < m.ctr + liveUnits z || (liveUnits z != 0 && (firstKey s m slot).isNone) then (s, false)
    else
      let k0 := (firstKey s m slot).getD (0, 0)
      let one := if liveUnits z ≤ 1 then s else
        s |> modZone key (fun z => { z with move := some { m with keys := [], first := some k0 } }) |> forEach (m.keys.map (fun q => q.1)) settleSlot
      let later := slotOf one slot
      if liveUnits z > 1 && (!later.loaded || later.shadow.isSome) then (one, false)
      else
      let k (i : Nat) : Nat × Nat := if i = 0 then k0 else (later.key, later.salt)
      let units := moveUnits z
      let bytes := (units.map (fun u => u.2.2)).sum
      let s := one |> count (R.ciCnt 1) R.ciOvf 1 bytes
      match (units.mapIdx (fun i u => (i, u))).find? (fun p => !opens (k p.1) (placeAad s key p.2.1) p.2.2.1) with
      | some p => (s |> tagFailure b p.2.2.1.lba slot |> abandonMoveOf key 0, false)
      | none =>
        let s := s |> count (R.ciCnt 0) R.ciOvf 0 bytes
        let bgen := (bandOf s m.target).gen
        let frames := movedFrames z k m.ctr bgen
        let units := movedUnits key z k m.ctr bgen
        let len := (frames.map frameLen).sum
        let gone := z.units.filterMap (fun p => p.2.seg) ++ z.frames.filterMap (fun f => f.seg) ++ z.parity.map (fun p => p.2)
        (s |> forEach gone freeItem
           |> releaseCopies (z.units.map (fun p => (key, p.1)) ++ z.frames.map (fun f => (key, 16 * f.slot + f.first)))
           |> modZone key (fun z => { z with
                band := some m.target, move := none, units := units, frames := frames, parity := [], fills := [], closedCw := [],
                stream := len, tail := len % 256, nextPos := if zoneComp z then ceilDiv len 256 else units.length,
                fill := z.fill - z.abandoned, abandoned := 0, refresh := false, stopped := false })
           |> modZone key (fun z => { z with index := if zoneComp z then rebuildIndex z else {} })
           |> freeBand b false
           |> forEach (m.keys.map (fun q => q.1)) settleSlot
           |> noteDelta key
           |> settleAll, true)
  | _, _ => (s, false)

end Sys2Proof.Machine
end

