-- ==== Sys2Proof/Machine/Posts.lean ====
section
/-! DEFINITION. What is posted to the dies: erases, reads with the jobs they serve, detours, and the holding of an issuer whose post waits
(07_flash_channels.md R201 to R203, R537, 08_flash_integrity.md R232 to R238, 09_tail_latency.md R252 to R262). -/

namespace Sys2Proof.Machine

/-! ### Erases (R232, R234, R235, R238) -/

/-- Whether a metadata or Garret die-block holds nothing that is still needed (R234): a Garret die-block of a half with no dump left to be covered, or a
metadata die-block programmed only before the newest checkpoint, or not at all since its erase. -/
def sysLoose (s : State) (x : DieBlk) (blk : Nat) : Bool :=
  let i := x.serves.getD blk
  if i < 4 then false
  else if i < 12 then x.prog == 0 || decide (x.epoch < ((s.gr.ckpt.map (fun c => c.num)).getD 0))
  else (tfind s.gr.halves ((i - 12) / 2)).isNone

/-- Whether a die-block of the zone region lies in a band that is bound to no zone, not erased and not being erased. -/
def bandLoose (s : State) (dk blk : Nat) : Bool :=
  match bandOfBlk s dk blk with
  | some (b, _) => (bandOf s b).zone.isNone && !(bandOf s b).erased && !(bandOf s b).erasing
  | none => false

/-- Whether a die-block may be erased: it is FREE, or written in a band that is bound to no zone, or a metadata or Garret die-block that holds
nothing still needed. -/
def erasable (s : State) (dk blk : Nat) : Bool :=
  let x := blkOf s dk blk
  x.st == 0 || ((x.st == 2 || x.st == 3) && bandLoose s dk blk) || (x.st == 7 && sysLoose s x blk)

/-- Whether the next erase would take a die-block past its rated life. -/
def lifeOver (s : State) (dk blk : Nat) : Bool :=
  let x := blkOf s dk blk
  x.st != 7 && decide (lifeLimit < x.life + lifeUnits s.board (x.dens.getD 0))

/-- ERASE_START: journalled before the descriptor is handed over; the first of a band's raises the band generation, and the band's other die-blocks
that stand ERASED are to be erased with it (R243). -/
def startErase (dk blk : Nat) (s : State) : State :=
  let x := blkOf s dk blk
  let dens := x.dens.getD 0
  let n := satBits 32 (x.erases + 1)
  let band := bandOfBlk s dk blk
  let first := match band with
    | some (b, _) => (bandOf s b).zone.isNone && !(bandOf s b).erasing
    | none => false
  let b := (band.map (fun p => p.1)).getD 0
  let bgen := (bandOf s b).gen + 1
  s |> onlyIf first (fun t => t
         |> modBand b (fun y => { y with gen := y.gen + 1, erasing := true, erased := false })
         |> modBandBlks b (fun k => if k.st = 2 then { k with st := 0 } else k))
    |> modBlk dk blk (fun y => { y with
         st := if y.st = 7 then 7 else 1, erases := n, life := y.life + lifeUnits s.board dens, wear := y.wear + wearPoints dens, startOpen := true })
    |> journal { typ := 1, ch := dk / 64, die := dk % 64, block := blk, erases := n, bgen := if first then bgen else 0 }

/-- The erase of a die-block begun, or the die-block retired where its life is over (R238). On a die that is failed or not usable the post ends at once
and the die-block keeps its recorded state (R232). -/
def eraseBlk (ch die : Nat) (d : Desc) (who : Issuer) (s : State) : State :=
  let dk := 64 * ch + die
  if dieFailed s dk || !dieTakes s ch die then postDesc ch die d who s
  else if lifeOver s dk d.block then retireBlk dk d.block 3 s else s |> startErase dk d.block |> postDesc ch die d who

/-- SUSP_MAX of the erases that firmware posts (R256). -/
def eraseMax (s : State) : Nat := rdf s R.dsSusp 7 4

/-- An erase posted: only of a die-block that may be erased, and in an unbound band only once no read still uses the band (R57, R234); a FREE die-block
of a bound band is a spare and holds no data (R236). -/
def postErase (ch die : Nat) (d : Desc) (who : Issuer) (s : State) : State :=
  let dk := 64 * ch + die
  if !descOk s die d then postDesc ch die d who s
  else if !erasable s dk d.block || ((bandOfBlk s dk d.block).map (fun p => (bandOf s p.1).zone.isNone && bandRead s p.1)).getD false then s
  else eraseBlk ch die d who s

/-! ### Read jobs -/

/-- The codeword bits of a descriptor, and the indexes of the codewords it reads at a data position of a band (R197). -/
def cwBits (d : Desc) : List Nat := (List.range 16).filter (bit d.cw)
def cwIndexes (s : State) (b pos : Nat) (d : Desc) : List Nat :=
  let ps := dataPositions s b
  let P := s.board.planes
  let L := bitsPerCell d.dens
  if ps.contains pos then
    (cwBits d).map (fun j => (((d.wl * ps.length + ps.idxOf pos) * L + d.level) * P + j / 4) * 4 + j % 4)
  else []

/-- The codeword mask of one codeword index. -/
def cwMask (s : State) (i : Nat) : Nat := 2 ^ (4 * (i / 4 % s.board.planes) + i % 4)

/-- The zone that a command reads on a band. -/
def ctxZone (x : Ctx) (b : Nat) : Option Nat := (x.src.find? (fun r => r.2.band == b && !r.2.pos.isEmpty)).map (fun r => r.2.zone)

/-- The job of a page read: what its codewords serve. -/
def newJob (s : State) (ch die : Nat) (d : Desc) (who : Issuer) : Option ReadJob :=
  match bandOfBlk s (64 * ch + die) d.block with
  | none => none
  | some (b, pos) =>
    let idx := cwIndexes s b pos d
    let base (key : Nat) (l : List Nat) : ReadJob :=
      { who := who, nsid := zNsid key, zone := key, relGen := (zoneOf s key).relGen, band := b, bgen := (bandOf s b).gen, index := l.headD 0, ch := ch, die := die,
        dens := d.dens, posted := s.ck.tb, deadline := s.ck.tb + 1000 * ((nsOf s (zNsid key)).map (fun n => n.deadline)).getD 0, left := l, desc := d }
    match who with
    | .hostRead c _ _ =>
      match (ctxOf s c).bind (fun x => (ctxZone x b).map (fun k => (x, k))) with
      | some (x, key) =>
        let l := idx.filter (fun i => x.need.contains (key, i))
        if l.isEmpty then none else some (base key l)
      | none => none
    | .constituent t => (jobOf s t).map (fun p => base p.zone (cwBits d))
    | _ => if idx.isEmpty then none else some (base ((bandZone s b).getD 0) idx)

def putJob (tag : Nat) (j : ReadJob) (s : State) : State := onFl (fun f => { f with jobs := tset tag j f.jobs }) s
def dropJob (tag : Nat) (s : State) : State := onFl (fun f => { f with jobs := tdel tag f.jobs }) s

/-! ### Detours (R258 to R262) -/

/-- r of R258 for a page read of a density that moves `n` codewords, and the time of a read in progress: a soft read makes two reads (R206, R538). -/
def readNs (s : State) (dens n : Nat) : Nat := 200 + 100 * s.board.readUs10.getD dens 0 + 1320 * n
def readOpNs (s : State) (d : Desc) (n : Nat) : Nat :=
  if d.op = 2 then 2 * (200 + 100 * s.board.softUs10.getD d.dens 0 + 1320 * n)
  else if d.op = 3 then 200 + 100 * s.board.calUs10.getD d.dens 0
  else readNs s d.dens n

/-- Time in ns of a transfer of the planes in PLANES, at 3,600 MT/s or, with the FLASH clock at a half of that, 1,800 MT/s (R191, R207), of a pass, and
of another operation (R538). -/
def slowChannels (s : State) : Bool := bit (winVal s (clkSelOff 1)) 1
def planeCount (s : State) (d : Desc) : Nat := ((List.range s.board.planes).filter (bit d.planes)).length
def xferNs (s : State) (d : Desc) : Nat :=
  planeCount s d * bitsPerCell d.dens * (if s.board.familyB then 18944 else 18432) * (if slowChannels s then 20 else 10) / 36
def passNs (s : State) (d : Desc) : Nat :=
  100 * s.board.passUs10.getD (if d.pass = 0 then d.dens else 4 + 2 * (d.dens - 2) + (d.pass - 1)) 0
def longNs (s : State) (d : Desc) : Nat := if d.op = 0x20 then 100 * s.board.eraseUs10.getD d.dens 0 else xferNs s d + passNs s d
def miscNs (s : State) (op : Nat) : Nat := 100 * s.board.miscUs10.getD (if op = 0x48 then 3 else op - 0x40) 0

/-- Suspend latency of an operation (R258). -/
def suspNs (op : Nat) : Nat := if op = 0x20 then 100000 else 70000

/-- t_free of a die (R258); none where there is no estimate. -/
def tFree (s : State) (dk : Nat) : Option Nat :=
  let x := dieOf s dk
  let now := s.ck.tb
  if (chanOf s (dk / 64)).st = .holdup then none else
  match x.cur with
  | none => some now
  | some o =>
    let n := (cwBits o.d).length
    let start := if o.phase = .waitTokens then now else o.issued
    if o.d.op = 0x30 then none
    else if o.d.op ≤ 3 then some (start + readOpNs s o.d n)
    else if isLong o.d.op then
      (if o.phase = .waitTokens then
         (if o.d.suspMax = 0 then some (now + longNs s o.d) else some (now + minRunNs s o.d.op + suspNs o.d.op))
       else if o.suspends < o.d.suspMax then some (Nat.max now (o.since + minRunNs s o.d.op) + suspNs o.d.op)
       else some (o.issued + longNs s o.d + o.spent))
    else some (start + miscNs s o.d.op)

/-- The estimated end of a read of a density and a number of codewords on a die, behind the reads already queued; one that is chosen and waits for
its tokens counts in t_free only, and where it is the read itself nothing stands ahead of it. `upTo` is the tag of a read that is itself in the queue. -/
def estimate (s : State) (dk dens n : Nat) (upTo : Option Nat) : Option Nat :=
  let x := dieOf s dk
  let chosen : Option (Desc × Issuer) := if choosing x then x.cur.map (fun o => (o.d, o.who)) else none
  let q : List (Desc × Issuer) := x.q.filter (fun e => e.1.queue == 0 && chosen != some e)
  let ahead : List (Desc × Issuer) := match upTo with
    | some t => q.takeWhile (fun e => e.1.tag != t)
    | none => q
  if upTo.isSome && (chosen.map (fun e => e.1.tag)) == upTo then (tFree s dk).map (fun _ => s.ck.tb + readNs s dens n) else
  (tFree s dk).map (fun t => t + (ahead.map (fun e => readOpNs s e.1 (cwBits e.1).length)).sum + readNs s dens n)

/-- The other dies of a band's stripe. -/
def otherDies (s : State) (b dk : Nat) : List Nat := (bandDies s b).filter (fun k => k != dk)

/-- The estimate of a detour: the slowest constituent and 2 µs (R259). -/
def detourEstimate (s : State) (dies : List Nat) (dens n : Nat) : Option Nat :=
  dies.foldl (fun a dk => match a, estimate s dk dens n none with
    | some x, some y => some (Nat.max x (y + 2000))
    | _, _ => none) (some 0)

/-- A refusal for lack of budget: event source 429 once a second at most for a domain (R263). -/
def refuseBudget (dom : Nat) (s : State) : State :=
  let x := domOf s dom
  let due := match x.refAt with
    | some t => decide (t + 1000000000 ≤ s.ck.tb)
    | none => true
  let times := x.refused.filter (fun t => decide (s.ck.tb < t + 1000000000)) ++ [s.ck.tb]
  s |> count (R.dsCnt 1) R.dsOvf 1 1
    |> wrb (R.dsDomStat.bank dom) 31 true
    |> modDom dom (fun d => { d with refused := times })
    |> onlyIf due (fun t => t |> modDom dom (fun d => { d with refAt := some t.ck.tb }) |> raise 429 sevInfo [dom, times.length])

/-- The tags that the zone engine gives constituents. -/
def innerTag (n : Nat) : Nat := 2147483648 + n % 2147483648

/-- One constituent read posted to a die of the stripe. -/
def postConstituent (tag : Nat) (j : ReadJob) (dk : Nat) (s : State) : State :=
  let t := innerTag s.fl.nextTag
  let b := servingBlk s dk (bandBlkIdx s j.band)
  let d0 : Desc := { j.desc with die := dk % 64, queue := 0, block := b, thr := 0, tag := t }
  let d := { d0 with thr := withTcomp s dk d0 }
  let s := onFl (fun f => { f with nextTag := f.nextTag + 1 }) s
  match newJob s (dk / 64) (dk % 64) d (.constituent tag) with
  | none => s
  | some k => s |> putJob t k |> modJob tag (fun j => { j with parts := j.parts ++ [t] }) |> postDesc (dk / 64) (dk % 64) d (.constituent tag)

/-- A detour chosen: the direct descriptor is cancelled, with its completion, and the other dies of the stripe are read (R261). Where it is issued in the
cycle of its cancel (`cross`), the issue wins and both run (R203, R262). -/
def takeDetour (tag dom : Nat) (j : ReadJob) (late cross : Bool) (s : State) : State :=
  let dk := 64 * j.ch + j.die
  let lv := domLevel s dom
  s |> modDom dom (fun d => { d with level := some (lv - 1000), lvAt := s.ck.tb })
    |> count (R.dsCnt 0) R.dsOvf 0 1
    |> onlyIf late (count (R.dsCnt 4) R.dsOvf 4 1)
    |> onlyIf (!cross) (dropDescs dk 5 (fun e => e.1.tag == tag && e.1.op == 1 && e.2 == j.who))
    |> modJob tag (fun j => { j with detour := true, parts := [], margin := 255, both := cross })
    |> forEach (otherDies s j.band dk) (postConstituent tag j)

/-- A band assembler has failed its self-test: detours are disabled (18_bring_up.md R499). -/
def assemblerOut (s : State) : Bool := s.pw.mode == mSafe && s.pw.safeCause == 3 && s.rs.fmask.getD 1 0 / 134217728 % 16 != 0

/-- The decision of R259 for a page read that has not been issued. -/
def decideDetour (tag : Nat) (late : Bool) (s : State) (cross : Bool := false) : State :=
  match jobOf s tag with
  | none => s
  | some j =>
    let dk := 64 * j.ch + j.die
    let n := (cwBits j.desc).length
    let dies := otherDies s j.band dk
    let dom := (bandDom s j.band).getD 0
    if j.detour || j.step != 1 || j.ready || issuerCtx j.who = none || j.desc.op != 1 || j.deadline = j.posted || !rdb s R.dsCtl 0 ||
       dies.any (dieFailed s) || dieFailed s dk || assemblerOut s then s else
    match estimate s dk j.dens n (some tag) with
    | none => s
    | some direct =>
      if direct ≤ j.deadline then s
      else if dies.any (fun k => !hasEntry (dieOf s k) 0 || (chanOf s (k / 64)).st == .holdup) then count (R.dsCnt 2) R.dsOvf 2 1 s
      else match detourEstimate s dies j.dens n with
      | none => count (R.dsCnt 2) R.dsOvf 2 1 s
      | some e =>
        if direct < e + 1000 * rdf s R.dsCtl 15 8 then count (R.dsCnt 2) R.dsOvf 2 1 s
        else if poolSize s < tokensHeld s + dies.length * rdf s (R.ftCost j.dens) 7 0 then count (R.dsCnt 2) R.dsOvf 2 1 s
        else if domLevel s dom < 1000 then refuseBudget dom s
        else takeDetour tag dom j late cross s

/-- A detour given up (R262): the other constituents are cancelled and the direct read is posted again at the head, if it was cancelled. -/
def abandonDetour (tag ch die cause : Nat) (s : State) : State :=
  match jobOf s tag with
  | none => s
  | some j =>
    if !j.detour then s else
    s |> cancelTags j.parts
      |> modJob tag (fun j => { j with detour := false, parts := [], margin := 255, step := 1, ready := j.both && j.ready, both := false, tested := true })
      |> onlyIf (!j.both) (postHead j.ch j.die j.desc j.who)
      |> count (R.dsCnt 3) R.dsOvf 3 1
      |> onHist j.nsid histAbandoned
      |> raise 430 sevWarning [j.band, chDie ch die, cause]

/-- Detours one of whose constituents was to be read on a die that has failed. -/
def settleDetours (s : State) : State :=
  forEach (s.fl.jobs.filterMap (fun p => match p.2.who with
    | .constituent t => if p.2.step = 5 then some (t, p.2) else none
    | _ => none)) (fun p => abandonDetour p.1 p.2.ch p.2.die 3) s

/-! ### Posting (R203, R252, R256, R537) -/

/-- The fields that the hardware and firmware set in their descriptors: the queue of a read (R252), SUSP_MAX of programs and erases (R254, R256), and
TCOMP of a read of the zone engine or the Termite (R229). Firmware's own other fields stand as it gives them. -/
def fillDesc (s : State) (ch : Nat) (d : Desc) (who : Issuer) : Desc :=
  let dk := 64 * ch + d.die
  let hw := who != .firmware
  let d := if (d.op = 1 || d.op = 2) && (d.queue = 0 || d.queue = 3) then
      { d with queue := if agentOf ch who = some 0 then 0 else 3, thr := if hw then withTcomp s dk d else d.thr } else d
  if d.op = 0x10 && hw then { d with suspMax := rdf s R.dsSusp 3 0 }
  else if d.op = 0x20 then { d with suspMax := eraseMax s }
  else if d.op = 0x30 then { d with suspMax := 0 }
  else d

/-- Whether a program may be posted for a die-block (R208, R232): user and metadata programs on ERASED and WRITTEN die-blocks and on metadata
die-blocks, dump programs of the dump engine only, on single-pass SLC wordlines of the armed half's Garret die-blocks that the dump needs, its end
record and event recorder copy included (10_granary.md R299, R300). -/
def mayProgram (s : State) (dk : Nat) (d : Desc) (who : Issuer) : Bool :=
  let x := blkOf s dk d.block
  let i := x.serves.getD d.block
  if d.op = 0x30 then
    who == .dump && d.dens == 0 && d.pass == 0 && x.st == 7 && s.gr.dumpSt == 1 &&
    ((dumpWl s (armedDump s) dk d.block d.wl).any (fun j => decide (slcCws s * j < dumpTotal (armedDump s) + 33))) &&
    ((halfBlks s dk s.gr.armed).takeWhile (fun b => b != d.block)).all (fun b => decide (s.board.wordlines ≤ (blkOf s dk b).prog))
  else x.st == 2 || x.st == 3 || (x.st == 7 && decide (4 ≤ i ∧ i < 12))

/-- The post itself. An erase is journalled first (R234); the assembler programs complete stripes only; a host read may be detoured. A program that
nobody may post is not posted (DESIGN CHOICE, notes/assumptions/33.md). -/
def postNow (ch : Nat) (d : Desc) (who : Issuer) (s : State) : State :=
  let d := fillDesc s ch d who
  let die := d.die
  let dk := 64 * ch + die
  if d.op = 0x20 then postErase ch die d who s
  else if !descOk s die d then postDesc ch die d who s
  else if d.op = 0x10 || d.op = 0x30 then
    if !mayProgram s dk d who then s else
    match (bandOfBlk s dk d.block).bind (fun p => (bandZone s p.1).map (fun k => (p.1, k))) with
    | some (b, key) => if stripeReady s (zoneOf s key) b d.wl then postDesc ch die d who s else s
    | none => if (bandOfBlk s dk d.block).all (fun p => orphanProgram s p.1 d) then postDesc ch die d who s else s
  else if d.op = 1 then
    match newJob s ch die d who with
    | none => postDesc ch die d who s
    | some j => s |> putJob d.tag j |> postDesc ch die d who |> decideDetour d.tag false
  else postDesc ch die d who s

/-- A post: an issuer that is held makes it once it is held no longer (R537). -/
def postBy (ch : Nat) (d : Desc) (who : Issuer) (s : State) : State :=
  if agentHeld s (agentOf ch who) then onFl (fun f => { f with heldPosts := f.heldPosts ++ [(ch, (d, who))] }) s else postNow ch d who s

/-- A post that was held made again. -/
def postAgain (ch : Nat) (d : Desc) (who : Issuer) (s : State) : State :=
  if isLadder s d then postLadder ch d.die d who s else postBy ch d who s

/-- The posts of issuers that were held, in their order. -/
def releaseHeld (s : State) : State :=
  if s.fl.heldPosts.isEmpty then s else
  s |> onFl (fun f => { f with heldPosts := [] }) |> forEach s.fl.heldPosts (fun p => postAgain p.1 p.2.1 p.2.2)

/-- DESCRIPTOR_POST. -/
def execDescriptorPost (ch : Nat) (d : Desc) (who : Issuer) (s : State) : Host.Outcome State Fault Refusal := .next (postBy ch d who s)

/-! ### Calibration (R206, R231) -/

/-- Whether a calibration read of a die-block is on its way. -/
def calibrating (s : State) (dk blk : Nat) : Bool :=
  let x := dieOf s dk
  let p (d : Desc) : Bool := d.op == 3 && d.block == blk
  (unissued x).any (fun e => p e.1) || (x.cur.map (fun o => p o.d)).getD false

/-- A recalibration of a die-block's tracked set begun: a calibration read from the background queue, at the explicit set that firmware names. Which
set and wordline it reads is firmware's own method (R231). -/
def recalibrate (dk blk : Nat) (s : State) : State :=
  if calibrating s dk blk || !dieUsable s dk then s else
  let t := innerTag s.fl.nextTag
  let d : Desc := { op := 3, die := dk % 64, queue := 3, dens := (blkOf s dk blk).lastDens, block := blk, thr := 0x8000, tag := t }
  s |> onFl (fun f => { f with nextTag := f.nextTag + 1 }) |> postBy (dk / 64) d .firmware

end Sys2Proof.Machine
end

