-- ==== Sys2Proof/Machine/Flash.lean ====
section
/-! DEFINITION. The Scarab sequencers' commands: issue, tokens, suspends, the ends of operations, initialisation and the channel
registers (07_flash_channels.md R199 to R215, 08_flash_integrity.md R232 to R238, 09_tail_latency.md R252 to R256). -/

namespace Sys2Proof.Machine

/-- Whether every die-block of a band is erased. -/
def bandErased (s : State) (b : Nat) : Bool :=
  (bandDies s b).all (fun dk => (blkOf s dk (servingBlk s dk (bandBlkIdx s b))).st == 2)

/-! ### Issue (R207, R253 to R255) -/

/-- The entry at the head of a die queue. -/
def headOf (x : Die) (q : Nat) : Option (Desc × Issuer) := x.q.find? (fun e => e.1.queue == q)

/-- Whether a queue's head has waited at least a time. -/
def waited (s : State) (x : Die) (q ns : Nat) : Bool :=
  match headOf x q with
  | some e => decide (e.1.posted + ns ≤ s.ck.tb)
  | none => false

/-- Whether a suspended operation's window is still open (R255). -/
def windowOpen (s : State) (x : Die) : Bool :=
  decide (x.winReads < Nat.max 1 (rdf s R.dsWin 5 0)) && decide (s.ck.tb < x.winStart + 1000 * Nat.max 1 (rdf s R.dsWin 25 16))

/-- The descriptor that an idle die issues (R253); in HOLDUP dump descriptors only. -/
def chooseDesc (s : State) (ch : Nat) (x : Die) : Option (Desc × Issuer) :=
  if (chanOf s ch).st = .holdup then x.q.find? (fun e => e.1.op == 0x30)
  else if (chanOf s ch).st != .running then none
  else if x.susp.isSome then (if windowOpen s x then headOf x 0 else none)
  else if waited s x 1 (100000 * rdf s R.dsAge 7 0) then headOf x 1
  else if waited s x 3 (1000000 * rdf s R.dsAge 23 16) then headOf x 3
  else if (headOf x 0).isSome then headOf x 0
  else if (headOf x 1).isSome && !waited s x 2 (1000000 * rdf s R.dsAge 15 8) then headOf x 1
  else if (headOf x 2).isSome then headOf x 2
  else if (headOf x 1).isSome then headOf x 1
  else headOf x 3

/-- A Reset LUN that the sequencer itself issues (R210, R212). -/
def resetLunDesc (die : Nat) : Desc := { op := 0x48, die := die, queue := 3 }

/-- DIE_ISSUE: the next descriptor is chosen and asks for its tokens; it stays in its queue until they are granted (R253, R258). A program out of
order completes with ORDER and issues nothing. Only a RUNNING sequencer, or one in HOLDUP, issues (R200), and nothing below BO2 (10_granary.md
R295). A read that arrives while a due resume waits for its tokens waits behind the resume, which the spec does not order (DESIGN CHOICE,
notes/assumptions/33.md). -/
def execDieIssue (ch die : Nat) (s : State) : Host.Outcome State Fault Refusal :=
  .next (releaseHeld (
    let dk := 64 * ch + die
    let x := dieOf s dk
    let c := chanOf s ch
    if x.cur.isSome || x.resuming || dieFailed s dk || s.gr.bo2 || !(c.st == .running || c.st == .holdup) then s
    else if x.resetLun then
      s |> modDie dk (fun y => { y with cur := some { d := resetLunDesc die, who := .sequencer, phase := .waitTokens } })
        |> askTokens (opClass s 0x48 .sequencer) dk 1 |> arbitrate
    else match chooseDesc s ch x with
    | none => s
    | some (d, who) =>
      let (coarse, fine) := progress s dk d.block
      if (d.op = 0x10 || d.op = 0x30) && !passInOrder s d coarse fine then
        s |> modDie dk (fun y => { y with q := y.q.erase (d, who) }) |> fcpl ch d who 7 |> pumpPosts dk
      else
        s |> modDie dk (fun y => { y with cur := some { d := d, who := who, phase := .waitTokens } })
          |> askTokens (opClass s d.op who) dk (tokenCost s d) |> arbitrate))

/-- TOKEN_GRANT. -/
def execTokenGrant (s : State) : Host.Outcome State Fault Refusal := .next (releaseHeld (arbitrate s))

/-- TOKEN_WAIT_TIMEOUT: outside HOLDUP, once for a request. -/
def execTokenWaitTimeout (ch die : Nat) (s : State) : Host.Outcome State Fault Refusal :=
  .next (
    let dk := 64 * ch + die
    let reqs := s.fl.rdReq ++ s.fl.peReq ++ s.fl.dumpReq
    let warn (l : List TokReq) := l.map (fun r => if r.die = dk then { r with warned := true } else r)
    if s.fl.poolDump || !(reqs.any (fun r => r.die == dk && !r.warned)) then s else
    let x := dieOf s dk
    let op := if x.resuming then (x.susp.map (fun o => o.d.op)).getD 0 else (x.cur.map (fun o => o.d.op)).getD 0
    s |> onFl (fun f => { f with rdReq := warn f.rdReq, peReq := warn f.peReq, dumpReq := warn f.dumpReq })
      |> raise (evOdd ch) sevWarning [die, op])

/-! ### Suspend and resume (R209, R210, R254, R255) -/

/-- MINIMUM_RUN_REACHED: the operation is suspended if reads wait; at SUSP_MAX the refusal is recorded. -/
def execMinimumRunReached (ch die : Nat) (s : State) : Host.Outcome State Fault Refusal := .next (trySuspend ch die s)

/-- A sequencer in HOLDUP stops once BO2 is crossed and no pulse is in progress on its channel (R200). -/
def pulseOn (s : State) (ch : Nat) : Bool :=
  s.fl.dies.any (fun d => d.1 / 64 == ch && ((d.2.cur.map (fun o => (o.phase == .running || o.phase == .suspending) &&
    (o.d.op == 0x10 || o.d.op == 0x20 || o.d.op == 0x30))).getD false))
def stopQuiet (s : State) : State := stopChans (fun ch => !pulseOn s ch) s

/-- An operation of a die ends with a status: its tokens return and its completion is posted. A Reset LUN of the sequencer's own stands between
timeouts and does not interrupt their row (R212). -/
def endOpWith (counts : List Nat) (ch die st : Nat) (o : Op) (s : State) : State :=
  let dk := 64 * ch + die
  s |> heldBy o.cls (-(o.tokens : Int))
    |> modDie dk (fun y => { y with cur := none, tmoRow := if st = 3 then y.tmoRow + 1 else if o.who = .sequencer && o.d.op = 0x48 then y.tmoRow else 0 })
    |> fcplWith counts ch o.d o.who st
    |> arbitrate
    |> onlyIf s.gr.bo2 stopQuiet
def endOp (ch die st : Nat) (o : Op) (s : State) : State := endOpWith [] ch die st o s

/-- OPERATION_RESUME: the suspended operation takes its tokens again, once no read is in progress and no read is queued or the window is over
(R255). -/
def execOperationResume (ch die : Nat) (s : State) : Host.Outcome State Fault Refusal :=
  .next (releaseHeld (
    let dk := 64 * ch + die
    let x := dieOf s dk
    match x.susp with
    | none => s
    | some o =>
      if x.cur.isSome || x.resuming || (chanOf s ch).st != .running || ((headOf x 0).isSome && windowOpen s x) then s
      else s |> modDie dk (fun y => { y with resuming := true })
             |> askTokens (opClass s o.d.op o.who) dk (tokenCost s o.d) |> arbitrate))

/-! ### The ends of operations (R203, R205 to R208) -/

/-- The operation in progress on a die, if it is one that `p` admits. -/
def onOp (ch die : Nat) (p : Nat → Bool) (f : Op → State → State) (s : State) : State :=
  match (dieOf s (64 * ch + die)).cur with
  | none => s
  | some o => if p o.d.op && o.phase != .waitTokens then f o s else s

/-- PAGE_READ_DONE: the codewords are with the hard decoders. -/
def execPageReadDone (ch die : Nat) (s : State) : Host.Outcome State Fault Refusal :=
  .next (releaseHeld (onOp ch die (fun op => op == 1) (fun o s => s |> endOp ch die 0 o |> modJob o.d.tag (fun j => { j with ready := true })) s))

/-- SOFT_READ_DONE. -/
def execSoftReadDone (ch die : Nat) (s : State) : Host.Outcome State Fault Refusal :=
  .next (releaseHeld (onOp ch die (fun op => op == 2) (fun o s => s |> endOp ch die 0 o |> modJob o.d.tag (fun j => { j with ready := true })) s))

/-- The queue of a job's reads (09_tail_latency.md R252). -/
def jobQueue (j : ReadJob) : Nat := match j.who with
  | .hostRead _ _ _ | .constituent _ => 0
  | _ => 3

/-- THR that names an explicit set; which one firmware uses for a read is the model's choice (notes/assumptions/33.md). -/
def explicitThr (tag : Nat) : Nat := 0x8000 + 256 * (tag % 16)

/-- CALIBRATION_READ_DONE: the bit counts go to the issuer. Firmware finds thresholds by a method of its own (R231, Config.calibrate): in the ladder it
writes them as an explicit set and reads the page at them (R222 step 3); otherwise the tracked set takes them. -/
def execCalibrationReadDone (ch die : Nat) (counts : List Nat) (s : State) : Host.Outcome State Fault Refusal :=
  .next (releaseHeld (onOp ch die (fun op => op == 3) (fun o s =>
    let dk := 64 * ch + die
    let offs := Config.calibrate o.d.dens (o.sets.headD []) counts
    let s := endOpWith counts ch die 0 o s
    match (jobOf s o.d.tag).bind (fun j => if j.step = 3 then some j else none) with
    | some j =>
      let d : Desc := { j.desc with op := 1, queue := jobQueue j, thr := explicitThr o.d.tag }
      s |> writeExplicit dk (o.d.tag % 16) offs
        |> modJob o.d.tag (fun j => { j with offs := offs, desc := d, ready := false })
        |> postLadder ch die d o.who
    | none => storeThr dk o.d.block o.d.dens (tempDiff s dk o.d.block o.d.wl) offs s) s))

/-- The mean temperature of a band's dies (R230). -/
def bandTemp (s : State) (b : Nat) : Option Int :=
  let ts := (bandDies s b).filterMap (fun dk => (dieOf s dk).temp)
  if ts.isEmpty then none else some (ts.sum / ts.length)

/-- The progress of a position after a pass has ended (R207). -/
def passDone (d : Desc) (p : Nat × Nat) : Nat × Nat :=
  if d.pass = 1 then (d.wl + 1, p.2) else if d.pass = 2 then (p.1, d.wl + 1) else (d.wl + 1, d.wl + 1)

/-- A pass that has ended OK counted in its band, with program temperature and life time at a final pass (R230, R248); the band record enters the
journal (10_granary.md R281). -/
def notePass (b pos : Nat) (d : Desc) (s : State) : State :=
  let w8 := Nat.max 1 (s.board.wordlines / 8)
  let final := d.pass != 1
  let temp := if final && decide (d.wl % w8 = 0) then bandTemp s b else none
  s |> modBand b (fun x => { x with
         dens := some d.dens, prog := tput (0, 0) pos (passDone d (tget (0, 0) x.prog pos)) x.prog,
         lastFinal := if final then lifeTime s else x.lastFinal,
         temps := match temp with
           | some t => tset (d.wl / w8) t x.temps
           | none => x.temps })
    |> onlyIf temp.isSome (journal (bandRec b (d.wl / w8) temp))

/-- A bound zone whose band has been retired (R237): as for a die failure in its band. -/
def failBand (b : Nat) (s : State) : State :=
  match bandZone s b with
  | some key => if (bandOf s b).retired then s |> stopZone key |> tryMigrate key else s
  | none => s

/-- Whether a die-block is a metadata die-block (R196). -/
def isMeta (s : State) (dk blk : Nat) : Bool :=
  let i := ((blkOf s dk blk).serves).getD blk
  decide (4 ≤ i ∧ i < 12)

/-- One copy of a journal wordline of 4,096 records programmed: with both, on dies in different quadrants, its records are on flash, and the journal
segments that hold no other leave the Granary (10_granary.md R281, R283, R287). Under the floor of R285 commands may wait for it. -/
def journalPass (dk blk wl : Nat) (s : State) : State :=
  let q := dk / 1024
  let copy (n : Nat) : MetaWl :=
    { die := dk, block := blk, wl := wl, ckpt := (s.gr.ckpt.map (fun c => c.num)).getD 0, first := s.fl.jFlash + 1, n := n - s.fl.jFlash }
  match s.fl.jHalf with
  | none =>
    let n := Nat.min s.fl.journal.length (s.fl.jFlash + 4096)
    if s.fl.jFlash < n then onFl (fun f => { f with jHalf := some (n, q), metaWls := f.metaWls ++ [copy n] }) s else s
  | some (n, p) =>
    if q = p then s else
    s |> onFl (fun f => { f with jFlash := n, jHalf := none, metaWls := f.metaWls ++ [copy n] })
      |> freeJournal n
      |> releaseCopies ((List.range (n - s.fl.jFlash)).map (fun i => journalItem (s.fl.jFlash + 1 + i)))
      |> settleAll

/-- The end of a program pass: OK counts towards release (R286); PROG_FAIL retires the die-block, and its spare is to be programmed from the
start (R236). -/
def progEnd (ch die : Nat) (ok : Bool) (s : State) : State :=
  releaseHeld (onOp ch die (fun op => op == 0x10) (fun o s =>
    let dk := 64 * ch + die
    let s := endOp ch die (if ok then 0 else 1) o s
    let s := if ok then s else raise (evEven ch) sevWarning [die, o.d.op, o.d.block] s
    match bandOfBlk s dk o.d.block with
    | none =>
      if ok then s |> modBlk dk o.d.block (fun b => { b with prog := o.d.wl + 1 }) |> onlyIf (isMeta s dk o.d.block && o.d.dens == 0 && o.d.pass == 0) (journalPass dk o.d.block o.d.wl)
      else retireBlk dk o.d.block 2 s
    | some (b, pos) =>
      if ok then
        s |> notePass b pos o.d |> whenSome (bandZone s b) releaseZone |> wakeTickets |> persistAll
      else
        s |> modBand b (fun x => { x with prog := tdel pos x.prog })
          |> retireBlk dk o.d.block 2 |> failBand b) s)

/-- PROGRAM_PASS_DONE. -/
def execProgramPassDone (ch die : Nat) (ok : Bool) (s : State) : Host.Outcome State Fault Refusal := .next (progEnd ch die ok s)

/-- The end of an erase: OK is journalled, and a band all of whose die-blocks are erased may be bound; ERASE_FAIL retires the die-block. -/
def eraseEnd (ch die : Nat) (ok : Bool) (s : State) : State :=
  releaseHeld (onOp ch die (fun op => op == 0x20) (fun o s =>
    let dk := 64 * ch + die
    let band := bandOfBlk s dk o.d.block
    let s := endOp ch die (if ok then 0 else 2) o s
    if !ok then
      s |> raise (evEven ch) sevWarning [die, o.d.op, o.d.block] |> retireBlk dk o.d.block 1
        |> (match band with
            | some (b, _) => failBand b
            | none => id)
    else
      let s := s
        |> modBlk dk o.d.block (fun b => { b with st := if b.st = 1 then (if b.serves.getD o.d.block < 16 then 7 else 2) else b.st, startOpen := false, dens := none, prog := 0 })
        |> journal { typ := 2, ch := ch, die := die, block := o.d.block, erases := (blkOf s dk o.d.block).erases }
      match band with
      | none => s
      | some (b, _) =>
        if (bandOf s b).erasing && bandErased s b then
          s |> modBand b (fun x => { x with erased := true, erasing := false, prog := [] }) |> serveBandWait |> migrateAll |> persistAll
        else s) s)

/-- ERASE_DONE. -/
def execEraseDone (ch die : Nat) (ok : Bool) (s : State) : Host.Outcome State Fault Refusal := .next (eraseEnd ch die ok s)

/-- The end of a program pass or an erase, by its operation. -/
def longEnd (ch die op : Nat) (ok : Bool) (s : State) : State := if op = 0x10 then progEnd ch die ok s else eraseEnd ch die ok s

/-- STATUS_POLL: a die shown suspended gives its tokens back and opens its read window; one shown complete instead has ended: it completes as
the poll says and is not resumed. In HOLDUP a suspended operation is never resumed: a Reset LUN ends it (R210). -/
def execStatusPoll (ch die : Nat) (shows : DieStatus) (s : State) : Host.Outcome State Fault Refusal :=
  .next (releaseHeld (
    let dk := 64 * ch + die
    match (dieOf s dk).cur with
    | none => s
    | some o =>
      if o.phase != .suspending then s else
      match shows with
      | .busy => s
      | .complete => s |> modDie dk (fun y => { y with cur := some { o with phase := .running } }) |> longEnd ch die o.d.op true
      | .failed => s |> modDie dk (fun y => { y with cur := some { o with phase := .running } }) |> longEnd ch die o.d.op false
      | .suspended =>
        if s.gr.holdup then s |> endOp ch die 6 o |> modDie dk (fun y => { y with resetLun := true }) else
        s |> heldBy o.cls (-(o.tokens : Int))
          |> modDie dk (fun y => { y with
               cur := none, winReads := 0, winStart := s.ck.tb,
               susp := some { o with phase := .suspended, tokens := 0, suspends := o.suspends + 1, since := s.ck.tb } })
          |> count (R.scCnt ch 3) (R.scOvf ch) 3 1
          |> arbitrate))

/-- DUMP_PROGRAM_DONE: one more wordline of the dump has been programmed into the Garret, or has failed (R203, R208). Its codewords, 16 in SEQ order from
that of the wordline, are in the Garret with their ADDR (10_granary.md R282, R299). -/
def execDumpProgramDone (ch die : Nat) (s : State) (ok : Bool := true) : Host.Outcome State Fault Refusal :=
  .next (releaseHeld (onOp ch die (fun op => op == 0x30) (fun o s =>
    let dk := 64 * ch + die
    let d := armedDump s
    let t := s |> endOp ch die (if ok then 0 else 1) o
      |> onlyIf (!ok) (raise (evEven ch) sevWarning [die, o.d.op, o.d.block])
      |> modBlk dk o.d.block (fun b => { b with prog := o.d.wl + 1 })
    match dumpWl s d dk o.d.block o.d.wl with
    | none => t
    | some j =>
      let seqs := ((List.range (slcCws s)).map (fun i => slcCws s * j + i)).filter (fun n => decide (n < dumpTotal d))
      onGr (fun g => { g with halves := talter g.armed (fun d => { d with
        tried := d.tried ++ [j], cws := if ok then d.cws ++ seqs.map (fun n => (n, dumpAddr d n)) else d.cws }) g.halves }) t) s))

/-- DIE_OPERATION_DONE: Identify, Features or Reset LUN; in INIT, a die's own initialisation, with the step that failed (0 none). -/
def execDieOperationDone (ch die : Nat) (s : State) (step : Nat := 0) : Host.Outcome State Fault Refusal :=
  .next (releaseHeld (
    if (chanOf s ch).st = .init then
      modChan ch (fun c => { c with initDone := if c.initDone.any (fun d => d.1 == die) then c.initDone else c.initDone ++ [(die, Nat.min 6 step)] }) s
    else onOp ch die (fun op => 0x40 ≤ op) (fun o s =>
      s |> endOp ch die 0 o
        |> modDie (64 * ch + die) (fun y => { y with
             resetLun := y.resetLun && o.d.op != 0x48,
             temp := if o.d.op = 0x42 && o.who = .sequencer && y.reading.isSome then y.reading else y.temp,
             reading := if o.d.op = 0x42 && o.who = .sequencer then none else y.reading })) s))

/-- A Get Features that reads a die's temperature (R229). -/
def tempDesc (die : Nat) : Desc := { op := 0x42, die := die, queue := 3 }

/-- DIE_TEMPERATURE_READ: a Get Features enters the background queue, and ends with the temperature that the die has (R229, R252). -/
def execDieTemperatureRead (ch die : Nat) (temp : Int) (s : State) : Host.Outcome State Fault Refusal :=
  .next (
    let dk := 64 * ch + die
    let x := dieOf s dk
    if (chanOf s ch).st != .running || !dieUsable s dk then s
    else s |> onlyIf x.reading.isNone (postDesc ch die (tempDesc die) .sequencer) |> modDie dk (fun y => { y with reading := some temp }))

/-- A read of a host command or of the ladder that timed out is posted again at the head of its queue; a constituent's detour is left to its own
rule (R222, R262). -/
def repostRead (ch die : Nat) (o : Op) (s : State) : State :=
  match jobOf s o.d.tag with
  | some j =>
    let mine := match j.who with
      | .constituent _ => false
      | .hostRead _ _ _ => true
      | _ => decide (2 ≤ j.step)
    if decide (o.d.op ≤ 3) && mine then postHead ch die o.d o.who s else s
  | none => s


/-- OPERATION_TIMEOUT: the operation completes with TIMEOUT and the die is reset; the third in a row, or a Reset LUN timed out, marks the
die failed (R212). An operation suspended on the die stays suspended across that Reset LUN and is resumed later; the spec does not say whether the
Reset ends it (DESIGN CHOICE, notes/assumptions/33.md). -/
def timeoutOp (ch die : Nat) (s : State) : State :=
  let dk := 64 * ch + die
  match (dieOf s dk).cur with
  | none => s
  | some o =>
    if o.phase = .waitTokens then s else
    let s := s |> endOp ch die 3 o |> raise (evEven ch) sevWarning [die, o.d.op, o.d.block]
               |> count (R.scCnt ch 4) (R.scOvf ch) 4 1 |> modDie dk (fun y => { y with resetLun := true, reading := if o.d.op = 0x42 then none else y.reading })
    let band := bandOfBlk s dk o.d.block
    let s := if o.d.op = 0x20 then s |> retireBlk dk o.d.block 1 |> whenSome band (fun p => failBand p.1) else s
    if o.d.op = 0x48 then failDie ch die 2 s
    else if 3 ≤ (dieOf s dk).tmoRow then s |> modJob o.d.tag (fun j => { j with step := 5, ready := false }) |> failDie ch die 1
    else repostRead ch die o s

/-! ### Channel registers and states (R199, R200, R203, R216) -/

/-- SC_CANCEL: descriptors not issued that carry a TAG complete with CANCELLED, also those whose posting still waits for room, of which the spec does not
speak (DESIGN CHOICE, notes/assumptions/33.md). -/
def scCancelAct (ch tag : Nat) (s : State) : State :=
  s |> forEach (List.range 64) (fun die => dropDescs (64 * ch + die) 5 (fun e => e.1.tag == tag)) |> releaseHeld

/-- SC_CANCEL. -/
def execScCancel (m : Master) (ch : Nat) (tag : Word) (s : State) : Host.Outcome State Fault Refusal :=
  .next (if ch < 64 then accessReg m D.scCancel ch 0 false (D.scCancel.at ch 0) tag.toNat (scCancelAct ch) s else s)

/-- A write to SC_CTL: RUN starts initialisation or resumes; 0 halts only from HALTED or INIT. -/
def scCtlAct (ch v : Nat) (s : State) : State :=
  let c := chanOf s ch
  if bit v 0 then
    if c.st = .halted && !c.uc.isEmpty then modChan ch (fun c => { c with st := .init, initDone := [] }) s
    else if c.st = .parked then modChan ch (fun c => { c with st := .running }) s
    else s
  else if c.st = .init then modChan ch (fun c => { c with st := .halted }) s
  else s

/-- SC_CTL_RUN. -/
def execScCtlRun (m : Master) (ch : Nat) (s : State) : Host.Outcome State Fault Refusal :=
  .next (if ch < 64 then accessReg m D.scCtl ch 0 false (D.scCtl.at ch 0) 1 (scCtlAct ch) s else s)

/-- A write to SC_UC_DATA: a word into the microcode store of a halted sequencer. The event of a refused write gives the register's offset, 0x24; whether
the spec means that or the word's offset in the store, it does not say (DESIGN CHOICE, notes/assumptions/33.md). -/
def scUcDataAct (ch v : Nat) (s : State) : State :=
  if rdb s (R.scCtl ch) 0 then raise (evOdd ch) sevWarning [0x24] s
  else
    let a := rdf s (R.scUcAddr ch) 16 2
    s |> onlyIf (decide (a < 24576)) (modChan ch (fun c => { c with uc := tset a v c.uc }))
      |> wrf (R.scUcAddr ch) 16 2 (a + 1)

/-- SC_UC_DATA_WRITE. -/
def execScUcDataWrite (m : Master) (ch : Nat) (v : Word) (s : State) : Host.Outcome State Fault Refusal :=
  .next (if ch < 64 then accessReg m D.scUcData ch 0 false (D.scUcData.at ch 0) v.toNat (scUcDataAct ch) s else s)

/-- FLASH_DOMAIN_POWERED: the eight sequencers of FLASH_k go from OFF to HALTED with empty queues. -/
def execFlashDomainPowered (k : Nat) (s : State) : Host.Outcome State Fault Refusal :=
  .next (if k < 8 && domState s (k + 2) != 0 then
    forEach (List.range 8) (fun i t =>
      let ch := 8 * k + i
      if (chanOf t ch).st = .off then
        t |> modChan ch (fun c => { c with st := .halted })
          |> onFl (fun f => { f with dies := f.dies.filter (fun p => p.1 / 64 != ch) })
      else t) s
    else s)

/-- Die-blocks that carry a factory bad-block mark: the factory die-blocks 0 to 3 are never judged (R236). -/
def badMarks (s : State) (dk : Nat) : List Nat :=
  (s.board.factoryBad.filterMap (fun k =>
    if k / 4096 = dk && decide (4 ≤ k % 4096 ∧ k % 4096 < s.board.dieBlocks) then some (k % 4096) else none)).eraseDups

/-- A record for the block-state journal. Before recovery the Granary is not set up, and the record is kept for RECOVERY to
journal. -/
def keepRec (r : JRec) (s : State) : State :=
  if s.gr.recovered then journal r s else onFl (fun f => { f with startRecs := f.startRecs ++ [r] }) s

/-- The first identification of a die (R232, R236): each marked die-block becomes BAD, its RETIRE of cause 4 is journalled, and a
spare is appointed to its index. A marked spare serves no index. -/
def firstIdent (dk : Nat) (s : State) : State :=
  if s.fl.known.contains dk then s else
  let ms := badMarks s dk
  s |> onFl (fun f => { f with known := dk :: f.known })
    |> forEach ms (fun b => modBlk dk b (fun x => { x with st := 6 }))
    |> forEach ms (fun b t => t
         |> keepRec { typ := 3, cause := 4, ch := dk / 64, die := dk % 64, block := b, erases := (blkOf t dk b).erases }
         |> raise 421 sevWarning [chDie (dk / 64) (dk % 64), b, 4]
         |> onlyIf (decide (b < 16 + zoneBlocks t.board)) (appointSpareBy keepRec dk b))

/-- Threshold sets loaded into a die's state (R211 step 6): the tracked sets of its first 16 zone-region die-blocks (which ones, the spec leaves open:
DESIGN CHOICE, notes/assumptions/33.md). -/
def loadSets (dk : Nat) (s : State) : State := modDie dk (fun x => { x with tracked := (List.range 16).map (fun i => 16 + i), explicit := [] }) s

/-- Initialisation over: volumes are appointed, the usable dies are set and those not known are identified, the sequencer runs, or serves the dump in
HOLDUP, and each die found unusable raises the odd source with its step. -/
def initOver (ch : Nat) (dies : List (Nat × Nat)) (s : State) : State :=
  let usable := (dies.filterMap (fun d => if d.2 = 0 && d.1 < 64 then some d.1 else none)).eraseDups
  s |> modChan ch (fun c => { c with
         st := if !s.gr.holdup then .running else if 2 ≤ s.gr.dumpSt then .stopped else .holdup, usable := (usable.map (fun d => 2 ^ d)).sum,
         volumes := (dies.map (fun d => dieVolume d.1)).eraseDups, vol := none, initDone := [] })
    |> forEach usable (fun d => firstIdent (64 * ch + d))
    |> forEach usable (fun d => loadSets (64 * ch + d))
    |> forEach (dies.filter (fun d => d.2 != 0)) (fun d => raise (evOdd ch) sevError [d.1, d.2])

/-- CHANNEL_INIT_DONE: for each present die the step at which it failed, 0 for a usable one (R195, R211). The steps are those
of 14_control.md R534, 1 to 6; a larger operand counts as 6. -/
def execChannelInitDone (ch : Nat) (dies : List (Nat × Nat)) (s : State) : Host.Outcome State Fault Refusal :=
  .next (if (chanOf s ch).st = .init then initOver ch (dies.map (fun d => (d.1, Nat.min 6 d.2))) s else s)

/-- INIT_LIMIT_EXPIRED: at 200 ms the dies that have not finished are marked unusable (step 6); those that have finished are as they were found. -/
def execInitLimitExpired (ch : Nat) (s : State) : Host.Outcome State Fault Refusal :=
  .next (if (chanOf s ch).st = .init then
    let done := (chanOf s ch).initDone
    initOver ch (done ++ ((fittedDies s.board).filter (fun d => !done.any (fun x => x.1 == d))).map (fun d => (d, 6))) s
  else s)

end Sys2Proof.Machine
end

