-- ==== Sys2Proof/Machine/GranaryCmds.lean ====
section
/-! DEFINITION. Checkpoints, the line monitor, the brown-out levels, the dump's end, the hold-up health test, the mirror partner's loss and
return, and the loss of a mirror owner (10_granary.md R283, R293 to R302, R309 to R312, 11_balwen.md R335, R336). -/

namespace Sys2Proof.Machine

/-! ### Checkpoints (R281, R283) -/

/-- A metadata die-block of a quadrant with a wordline left to write: on a usable die of a channel that runs. Firmware chooses; the model takes the
lowest (DESIGN CHOICE, notes/assumptions/38.md). -/
def metaHome (s : State) (q : Nat) : Option (Nat × Nat) :=
  ((usableKeys s).filter (fun dk => dk / 1024 == q && (chanOf s (dk / 64)).st == .running)).findSome? (fun dk =>
    (((List.range 8).map (fun i => servingBlk s dk (4 + i))).find? (fun b =>
      let x := blkOf s dk b
      x.st == 7 && !x.startOpen && decide (x.prog < s.board.wordlines))).map (fun b => (dk, b)))

/-- One wordline of a checkpoint written in SLC, in two copies on dies in different quadrants (R283); none where there is no place for both. -/
def ckptWordline (num : Nat) (s : State) : Option State :=
  match (List.range 4).filterMap (metaHome s) with
  | a :: b :: _ => some (forEach [a, b] (fun h t =>
      t |> onFl (fun f => { f with metaWls := f.metaWls ++ [{ die := h.1, block := h.2, wl := (blkOf s h.1 h.2).prog, ckpt := num }] })
        |> modBlk h.1 h.2 (fun x => { x with prog := x.prog + 1 })) s)
  | _ => none
def ckptWrite (num : Nat) : Nat → State → Option State
  | 0, s => some s
  | n + 1, s => (ckptWordline num s).bind (ckptWrite num n)

/-- Wordlines of a checkpoint: its retirement list, 8 bytes an entry, in its first codewords, then a codeword for each zone's entry. The spec lays a
checkpoint out no further (DESIGN CHOICE, notes/assumptions/38.md). -/
def ckptWls (s : State) : Nat := Nat.max 1 (ceilDiv (ceilDiv (8 * s.dm.remap.length) 4096 + s.ze.zones.length) (slcCws s))

/-- A zone table checkpoint on flash: its codewords are written, the deltas it covers leave the Granary, and it records the life times
(08_flash_integrity.md R248) and the retirement list (12_memory.md R362). Where there is no place for it, it is not written. -/
def checkpoint (s : State) : State :=
  match ckptWrite (((s.gr.ckpt.map (fun c => c.num)).getD 0) + 1) (ckptWls s) s with
  | none => s
  | some s =>
  let zs := tmap (fun _ z => { z with deltas := false }) s.ze.zones
  let keys := s.ze.zones.filterMap (fun p => if p.2.deltas then some (deltaItem p.1) else none)
  let c : Ckpt := { num := ((s.gr.ckpt.map (fun c => c.num)).getD 0) + 1, zones := zs, retired := s.dm.remap, life := lifeTime s,
                    lStart := s.fl.lifeStart, slots := s.ci.slots, time := s.ck.tb }
  s |> onZe (fun z => { z with zones := zs })
    |> onGr (fun g => { g with ckpt := some c })
    |> freeKind 3
    |> releaseCopies keys
    |> settleAll

/-- ZONE_TABLE_CHECKPOINT: by firmware, once the zone table has been recovered. -/
def execZoneTableCheckpoint (s : State) : Host.Outcome State Fault Refusal :=
  .next (if active s && s.gr.recovered then checkpoint s else s)

/-! ### The line monitor (R293, R294) -/

def lmMode (s : State) : Nat := rdf s R.lmCfg 1 0

/-- The tracked half-period: the mean of those kept. -/
def lmMean (s : State) : Nat := if s.gr.lmRun.isEmpty then 0 else s.gr.lmRun.sum / s.gr.lmRun.length

/-- LINE_HALF_PERIOD: eight in a row in the range of 45 to 66 Hz lock the monitor, one outside it unlocks it. -/
def execLineHalfPeriod (us : Nat) (s : State) : Host.Outcome State Fault Refusal :=
  .next (
    if !(lmMode s == 1 || lmMode s == 2) || s.pw.mode = mOff then s
    else if 7580 ≤ us && us ≤ 11110 then
      let t := onGr (fun g => { g with lmRun := (g.lmRun ++ [us]).drop (g.lmRun.length + 1 - 8) }) s
      if s.gr.lmLocked || t.gr.lmRun.length < 8 then t
      else t |> onGr (fun g => { g with lmLocked := true }) |> raise 354 sevWarning [lmMean t]
    else if s.gr.lmLocked then
      s |> raise 354 sevWarning [lmMean s] |> onGr (fun g => { g with lmLocked := false, lmRun := [] })
    else onGr (fun g => { g with lmRun := [] }) s)

/-- Whether the line is lost (R293): `mv` is the highest level on LW_IN since the last peak or crossing, or the level now in mode 3, and `us` the time
since then, or that the level has lasted. Modes 1 and 2 detect nothing while unlocked (R294). -/
def lineLost (s : State) (mv us : Nat) : Bool :=
  match lmMode s with
  | 1 => s.gr.lmLocked && decide (mv < rdf s R.lmLevel 11 0) && decide (lmMean s + 2000 ≤ us)
  | 2 => s.gr.lmLocked && decide (lmMean s + 1000 ≤ us)
  | 3 => decide (mv < rdf s R.lmLevel 27 16) && decide (100 ≤ us)
  | _ => false

/-- LINE_LOSS_DETECTED. -/
def execLineLossDetected (s : State) (mv us : Nat := 0) : Host.Outcome State Fault Refusal :=
  .next (
    if s.pw.mode = mOff || !lineLost s mv us then s
    else s |> wrb R.lmStat 31 true |> raise 355 sevCritical [] |> holdup 1)

/-! ### The brown-out levels (R295) and HU_LINE (R296) -/

/-- A level in mV: the factory trim plus the signed offset, from 0 to 1,200. -/
def boLevel (trim ofs : Nat) : Int := max 0 (min 1200 ((trim : Int) + (if 128 ≤ ofs then (ofs : Int) - 256 else (ofs : Int))))
def bo1Level (s : State) : Int := boLevel (rdf s R.boTrim 11 0) (rdf s R.boOfs 7 0)
def bo2Level (s : State) : Int := boLevel (rdf s R.boTrim 27 16) (rdf s R.boOfs 15 8)

/-- BO1_CROSSED. -/
def execBo1Crossed (mv : Nat) (s : State) : Host.Outcome State Fault Refusal :=
  .next (if s.pw.mode = mOff || bo1Level s ≤ (mv : Int) then s else s |> raise 356 sevCritical [] |> holdup 2)

/-- BO2_CROSSED: no new pulse, and a dump that has not ended is cut (R301). -/
def execBo2Crossed (mv : Nat) (s : State) : Host.Outcome State Fault Refusal :=
  .next (
    if s.pw.mode = mOff || bo2Level s ≤ (mv : Int) then s else
    s |> onGr (fun g => { g with bo2 := true })
      |> raise 357 sevCritical []
      |> onlyIf (s.gr.dumpSt == 1) (onGr (fun g => { g with
           dumpSt := 3, endTime := s.ck.tb, lastDumpUs := (s.ck.tb - (armedDump s).time) / 1000,
           lastDumpMib := (armedDump s).cws.length / 256, lastDumpCause := (armedDump s).cause,
           halves := talter g.armed (fun d => { d with cut := true }) g.halves }))
      |> stopQuiet)

/-- HU_LINE_LOW: HOLDUP with CAUSE 3 unless it was entered already. A line that this device itself drives is low already. -/
def execHuLineLow (ns : Nat) (s : State) : Host.Outcome State Fault Refusal :=
  .next (
    if s.pw.mode = mOff || ns < 200 then s else
    let t := onGr (fun g => { g with huIn := false }) s
    if s.pw.mode = mHoldup then t else t |> raise 358 sevCritical [] |> holdup 3)

/-! ### The dump's end (R300, R302) -/

/-- Whether every wordline of the dump's regions has been programmed, or its program has failed, or its die has. -/
def dumpTried (s : State) (d : Dump) : Bool :=
  (List.range (ceilDiv (dumpTotal d) (slcCws s))).all (fun j => d.tried.contains j || dieFailed s (d.dies.getD (j % d.dies.length) 0))

/-- DUMP_END: after the dump's regions the end record is programmed, and unless BO2 was crossed the newest 4,096 event records in 32 codewords; the
sequencers stop. -/
def execDumpEnd (s : State) : Host.Outcome State Fault Refusal :=
  .next (
    let d := armedDump s
    if s.gr.dumpSt != 1 || !dumpTried s d then s else
    s |> onGr (fun g => { g with
           dumpSt := 2, endTime := s.ck.tb, dumpFailed := false,
           halves := tset g.armed { d with
             cws := d.cws ++ [(dumpTotal d, 0xFFFFFFFF)] ++ (if s.gr.bo2 then [] else (List.range 32).map (fun i => (dumpTotal d + 1 + i, 0xFFFFFFFE))),
             ended := true, recs := Nat.min 4096 s.att.evrec.recs.length } g.halves,
           lastDumpUs := (s.ck.tb - d.time) / 1000, lastDumpMib := dumpTotal d / 256, lastDumpCause := d.cause })
      |> onlyIf (!s.gr.bo2) (onAtt (fun a => { a with evrec := { a.evrec with garret := a.evrec.recs.drop (a.evrec.recs.length - 4096) } }))
      |> raise 360 sevInfo (words64 d.id ++ [dumpTotal d])
      |> stopFlash)

/-- HOLD_UP_COMPLETED_RESET: 100 ms after the end of the dump (R302), with BO_SENSE above BO1. -/
def execHoldUpCompletedReset (mv : Nat) (s : State) : Host.Outcome State Fault Refusal :=
  .next (if s.pw.mode = mHoldup && 2 ≤ s.gr.dumpSt && elapsed s s.gr.endTime 100000000 && bo1Level s < (mv : Int) then warmReset 3 s else s)

/-! ### The hold-up health test (R311, R312) -/

/-- The test started: write-through is forced, V0 is sampled and HU_TEST_N is driven low. It is ignored while a test runs and in
HOLDUP. The result of a test that has ended before is still applied in its turn. -/
def startTest (v0 : Nat) (s : State) : State :=
  if s.gr.testing || s.pw.mode = mHoldup || s.pw.mode = mOff then s
  else withWt (onGr (fun g => { g with testing := true, wtForced := true, testV0 := v0, botCrossed := false, huTestN := false })) s

/-- HOLD_UP_TEST_START: by the Attic, once LOAD has ended. -/
def execHoldUpTestStart (v0 : Nat) (s : State) : Host.Outcome State Fault Refusal :=
  .next (if s.rs.standby && s.att.released && active s && s.pw.mode != mLoad then startTest v0 s else s)

/-- HU_TEST_START: HU_TEST with START. -/
def execHuTestStart (m : Master) (v0 : Nat) (s : State) : Host.Outcome State Fault Refusal :=
  .next (accessOne m D.huTest (setBits (rd s R.huTest) 0 0 1) (fun v => onlyIf (bit v 0) (startTest v0)) s)

/-- The length t_T of the test in µs: E_HU / (6 × P_TEST). -/
def testUs (b : Board) : Nat := b.eHu * 1000 / (6 * Nat.max 1 b.pTest)

/-- HOLD_UP_TEST_END: HU_TEST_N is released and V1 sampled `us` after the start, at t_T, or before it at the crossing of step 2′: a V1 not above
HU_TEST.BOT. -/
def execHoldUpTestEnd (v1 : Nat) (s : State) (us : Nat := 0) : Host.Outcome State Fault Refusal :=
  .next (if !s.gr.testing || (decide (us < testUs s.board) && decide (rdf s R.huTest 27 16 < v1)) then s else
    onGr (fun g => { g with
      testing := false, testEnded := true, testV1 := v1, huTestN := true, botCrossed := decide (v1 ≤ rdf s R.huTest 27 16),
      testGood := decide (g.testV0 - v1 ≤ s.board.dvMax) && decide (rdf s R.huTest 27 16 < v1), dv := g.testV0 - v1, lastTest := s.ck.tb, tests := satBits 32 (g.tests + 1) }) s)

/-- HOLD_UP_TEST_RESULT: 2 s after the end of the test, the result applied and recorded; a good one lifts the write-through that the test forced, unless
another test runs by then. -/
def execHoldUpTestResult (s : State) : Host.Outcome State Fault Refusal :=
  .next (if !s.gr.testEnded || !elapsed s s.gr.lastTest 2000000000 then s else
    let good := s.gr.testGood
    s |> withWt (onGr (fun g => { g with
           testEnded := false, wtForced := g.testing, health := if good then .good else .degraded, recorded := some good,
           testsFailed := if good then g.testsFailed else satBits 32 (g.testsFailed + 1) }))
      |> (if good then raise 365 sevInfo [s.gr.dv] else raise 364 sevError [s.gr.dv]))

/-! ### The mirror partner (R309) -/

/-- The partner judged lost: under POLICY 0 writes wait, under POLICY 1 they go on in write-through. -/
def partnerLost (s : State) : State :=
  s |> withWt (onGr (fun g => { g with mirLost := true })) |> raise 366 sevError [s.gr.mirPartner]

/-- MIRROR_PARTNER_LOST: a copy has gone unacknowledged for `ms`, which TMO limits. -/
def execMirrorPartnerLost (s : State) (ms : Nat := 0) : Host.Outcome State Fault Refusal :=
  .next (if s.gr.mirTmo ≤ ms && s.gr.mirEn && !s.gr.mirLost && !s.gr.mirOut.isEmpty then partnerLost s else s)

/-- The context that waits for the copy of a zone's item. -/
def mirWaiter (s : State) (item : Nat × Nat) : Nat :=
  ((s.gr.mirOut.find? (fun o => (tfind s.gr.mirLbas o.1) == some item)).map (fun o => o.2)).getD nCtx

/-- Every page not yet released sent to the partner. -/
def copyAll (s : State) : State :=
  s |> onGr (fun g => { g with mirOut := [], mirHeld := [], mirLbas := [] })
    |> forEach s.ze.zones (fun z t => t
         |> forEach z.2.units (fun u => whenSome u.2.seg (fun g => mirrorPage (mirWaiter s (z.1, u.1)) z.1 u.1 0 (pageOf s g z.1 u.1) u.2.sealed))
         |> forEach z.2.frames (fun f => whenSome f.seg (fun g => mirrorFrame (mirWaiter s (z.1, 16 * f.slot + f.first)) z.1 g f)))
    |> forEach (s.ze.zones.filterMap (fun z => if z.2.deltas then some z.1 else none)) noteDelta

/-- MIRROR_PARTNER_RESTORED. -/
def execMirrorPartnerRestored (s : State) : Host.Outcome State Fault Refusal :=
  .next (if s.gr.mirEn && s.gr.mirLost then
    s |> withWt (onGr (fun g => { g with mirLost := false })) |> copyAll |> settleAll |> raise 367 sevInfo [s.gr.mirPartner]
  else s)

/-! ### A mirror owner's loss (11_balwen.md R335, R336) -/

/-- OWNER_LOST: no frame from it for `ms`, which PB_ORPH.TMO limits; 0 there is used as 1. -/
def execOwnerLost (node : Nat) (s : State) (ms : Nat := 0) : Host.Outcome State Fault Refusal :=
  .next (if Nat.max 1 (rdf s R.pbOrph 25 16) ≤ ms then loseOwner node s else s)

/-- ORPHAN_PULL_TIMEOUT: the owner recovers from its dump alone, also where no session reached the partner. -/
def execOrphanPullTimeout (s : State) : Host.Outcome State Fault Refusal :=
  .next (if starting s && !s.gr.recovered && s.board.mirSaved && s.gr.pulled.isEmpty then onGr (fun g => { g with pullDone := true }) s else s)

end Sys2Proof.Machine
end

