-- ==== Sys2Proof/Machine/Balwen.lean ====
section
/-! DEFINITION. The Balwen links: training, the receipt of frames, replay, time, mirroring at the partner, orphans and Peer Copy at both
ends (11_balwen.md R316 to R343). -/

namespace Sys2Proof.Machine

/-! ### Links (R317 to R319) -/

/-- The Peer Copies that use a session: their requests went out in it. -/
def usesSess (s : State) (n key : Nat) : List Nat :=
  s.ce.ctxs.filterMap (fun p => if p.2.e.opc == 0x85 && p.1 ≥ ioCtx && p.2.started && p.2.chunks != 0 &&
    (p.2.st == .started || p.2.st == .committed) && p.2.via.contains (sessKey n key) then some p.1 else none)

/-- A session fails, and every pending use of it (R329, R341). -/
def loseSess (n key : Nat) (s : State) : State :=
  s |> failSession n key
    |> forEach (usesSess s n key) (fun c => failRead c stPath 0 0 none none)
    |> dropChunks (fun _ _ via => via == sessKey n key)

/-- Every session of a link fails. -/
def loseAll (n : Nat) (s : State) : State := forEach (sessionsOf s n) (loseSess n) s

/-- A link that goes to FAULT: 1 duplicate node, 2 version. -/
def faultLink (n cause : Nat) (s : State) : State :=
  s |> loseAll n |> modLink n (fun l => { l with st := .fault, fault := cause }) |> raise (392 + n) sevError [cause]

/-- What a write to PL_CTL_n does beyond storing: EN starts negotiation and its clearing ends the link, RETRAIN retrains it. -/
def plCtlAct (n v : Nat) (s : State) : State :=
  let st := (linkOf s n).st
  if !rdb s (R.plCtl n) 0 then
    (if st = .off then s else s |> loseAll n |> modLink n (fun _ => {}))
  else if st = .off then modLink n (fun _ => { st := .training }) s
  else if bit v 5 then leaveUp n s
  else s

/-- PL_CTL_EN. -/
def execPlCtlEn (m : Master) (link : Nat) (v : Word) (s : State) : Host.Outcome State Fault Refusal :=
  .next (if link < 4 then accessReg m D.plCtl link 0 false (D.plCtl.at link 0) v.toNat (plCtlAct link) s else s)

/-- RETRAIN: PL_CTL_n with its RETRAIN bit. -/
def execRetrain (m : Master) (link : Nat) (s : State) : Host.Outcome State Fault Refusal :=
  .next (if link < 4 then
    accessReg m D.plCtl link 0 false (D.plCtl.at link 0) (setBits (rd s (R.plCtl link)) 5 5 1) (plCtlAct link) s
  else s)

/-- The width that the lanes which pass give (R317); 0 where none passes. -/
def widthOf (lanes : Nat) : Nat :=
  if lanes % 16 = 15 then 4 else if lanes % 4 = 3 || lanes / 4 % 4 = 3 then 2 else if lanes % 16 = 0 then 0 else 1

/-- RATE_MAX of a link. -/
def rateMax (s : State) (n : Nat) : Nat := Nat.min 2 (rdf s (R.plCtl n) 3 2)

/-- Whether an outcome of negotiation brings the link UP: at a rate it advertises with a lane that passes, or in Ethernet mode with four
lanes at one of the two rates of R318. -/
def linkGoes (s : State) (n rate lanes : Nat) : Bool :=
  decide (rateMax s n ≤ rate ∧ rate ≤ 2) && (if linkEth s n then decide (rate ≤ 1) && widthOf lanes == 4 else widthOf lanes != 0)

/-- NEGOTIATION_SUCCEEDS: the rate reached, the mask of the lanes that pass and the other end's FEC_OFF_OK. A direct link's session opens,
if it has none, and DISCOVER goes out. -/
def execNegotiationSucceeds (link rate lanes : Nat) (peerFecOff : Bool) (s : State) : Host.Outcome State Fault Refusal :=
  .next (
    let l := linkOf s link
    if l.st != .training || l.retryWait || !linkGoes s link rate lanes then s else
    let fec := !(rate == 2 && rdb s (R.plCtl link) 4 && peerFecOff)
    let s := s |> modLink link (fun l => { l with st := .up, rate := rate, width := widthOf lanes, fec := fec, fault := 0 })
               |> raise (384 + link) sevInfo [rate, widthOf lanes, if linkEth s link then 0 else l.peer]
    if linkEth s link then forEach (sessionsOf s link) (fun node => sessFlush link (sessKey link node)) s
    else s |> openSess (sessKey link 0) |> sessFlush link (sessKey link 0) |> sessSend link (sessKey link 0) (discoverFrame tDiscover link l.peer s))

/-- TRAINING_TIMEOUT: no success within 500 ms. -/
def execTrainingTimeout (link : Nat) (s : State) : Host.Outcome State Fault Refusal :=
  .next (if (linkOf s link).st == .training then modLink link (fun l => { l with retryWait := true }) s else s)

/-- TRAINING_RETRY: one second after that, negotiation begins again. -/
def execTrainingRetry (link : Nat) (s : State) : Host.Outcome State Fault Refusal :=
  .next (if (linkOf s link).st == .training && (linkOf s link).retryWait then
    s |> modLink link (fun l => { l with retryWait := false }) |> raise (388 + link) sevWarning []
  else s)

/-- SESSION_LOSS_TIMEOUT: one second after the link left UP. -/
def execSessionLossTimeout (link : Nat) (s : State) : Host.Outcome State Fault Refusal :=
  .next (if (linkOf s link).st == .training then loseAll link s else s)

/-- LINK_LOSS: `us` is the time without a valid frame and `fec` the uncorrectable FEC codewords of the last 1 ms. PL_CNT_n_3 counts those, and the
link leaves UP after 1 ms or with more than 16 (R319). -/
def execLinkLoss (link : Nat) (s : State) (us fec : Nat := 0) : Host.Outcome State Fault Refusal :=
  .next (if !linkUp s link then s else
    s |> count (R.plCnt link 3) (R.plOvf link) 3 fec |> onlyIf (decide (1000 ≤ us) || decide (16 < fec)) (leaveUp link))

/-! ### Replay and acknowledgement (R329, R330) -/

/-- Whether a sequence number comes before another, modulo 2^32. -/
def seqBefore (a b : Nat) : Bool :=
  let d := (b + 4294967296 - a) % 4294967296
  d != 0 && decide (d < 2147483648)

/-- The frames that an ACK covers leave the replay buffer. -/
def takeAck (k ack : Nat) (s : State) : State :=
  modSess k (fun x =>
    let left := x.replay.filter (fun f => !seqBefore f.seq ack)
    { x with replay := left, replays := if left.length < x.replay.length then 0 else x.replays }) s

/-- Returned credits, and the frames that waited for them. -/
def takeCredit (n k : Nat) (f : BFrame) (s : State) : State :=
  if f.credit = 0 then sessFlush n k s
  else s |> modSess k (fun x => { x with credits := tput 0 f.creditClass (credOf x f.creditClass + f.credit) x.credits }) |> sessFlush n k

/-- A session's unacknowledged frames sent again; after eight replays without progress the session fails, or its direct link retrains. -/
def replaySess (n k : Nat) (s : State) : State :=
  match sessOf s k with
  | none => s
  | some x =>
    if x.replay.isEmpty || !linkUp s n then s
    else if 8 ≤ x.replays then (if linkEth s n then loseSess n (k % 262144) s else leaveUp n s)
    else
      s |> modSess k (fun y => { y with replays := y.replays + 1 })
        |> forEach x.replay (fun f t => t |> emit n f |> count (R.plCnt n 2) (R.plOvf n) 2 1)

/-- REPLAY_TIMER: no progress of ACK for 20 µs, or 200 µs in Ethernet mode. -/
def execReplayTimer (link node : Nat) (s : State) : Host.Outcome State Fault Refusal :=
  .next (replaySess link (sessKey link (sessNode s link node)) s)

/-- KEEPALIVE_TIMER: an idle UP link sends KEEPALIVE, in Ethernet mode to each node it has a session with. -/
def execKeepaliveTimer (link : Nat) (s : State) : Host.Outcome State Fault Refusal :=
  .next (if !linkUp s link then s else
    forEach (sessionsOf s link) (fun node t =>
      sendPlain link tKeepalive (if linkEth s link then node else (linkOf s link).peer)
        (((sessOf t (sessKey link node)).map (fun x => x.rxSeq)).getD 0) 0 0 [] t) s)

/-- SESSION_IDLE_CLOSE: an Ethernet session idle for 10 s, but not with the mirror partner or a mirror owner. -/
def execSessionIdleClose (link node : Nat) (s : State) : Host.Outcome State Fault Refusal :=
  .next (
    let keep := (s.gr.mirEn && s.gr.mirPartner == node) || (tfind s.pb.owners node).isSome
    if linkEth s link && !keep && (idleSess s link).any (fun p => p.1 == sessKey link node && elapsed s p.2.lastUse 10000000000) then
      onPb (fun p => { p with sessions := tdel (sessKey link node) p.sessions }) s
    else s)

/-! ### Receipt of frames (R322, R324 to R332) -/

/-- Messages between the two ends of a hop, which are never forwarded. -/
def hopMsg (typ : Nat) : Bool := typ == tKeepalive || typ == tAck || typ == tNak || typ == tDiscover || typ == tDiscoverReply

/-- The node that answers on a hop go to. -/
def hopNode (s : State) (n : Nat) (f : BFrame) : Nat := if linkEth s n then f.src else (linkOf s n).peer

/-- An ACK or NAK for a session, with credits returned for a class. -/
def answerHop (n k typ : Nat) (f : BFrame) (credit cls : Nat) (s : State) : State :=
  match sessOf s k with
  | none => s
  | some x => sendPlain n typ (hopNode s n f) x.rxSeq credit cls [] s

/-- A frame for another node forwarded with its TTL lowered on the direct link that the route table gives, in the session of that hop; or
dropped. -/
def forward (n typ : Nat) (f : BFrame) (body : TxFrame) (s : State) : State :=
  let drop (s : State) : State := raise 397 sevWarning [f.dst] s
  if linkEth s n || f.ttl = 0 then drop s else
  match (routeTo s f.dst).filter (fun l => !linkEth s l && carries s l f.dst) with
  | none => drop s
  | some l =>
    let g := { body with typ := typ, src := f.src, dst := f.dst, len := f.len, cls := f.cls, ttl := f.ttl - 1, seqd := msgSeqd typ }
    if msgSeqd typ then sessSend l (sessKey l 0) g s else onlyIf (linkUp s l) (emit l g) s

/-- A frame received on a link (R319, R323, R326 to R332): `body` is what it carries and `act` what its message does here. PL_CNT_n_1 counts the frames
that no check discards (R343). Credits go back at once, but for a frame whose content `keeps` says is held here, where they go back as it is
freed. -/
def rxFrame (n typ : Nat) (f : BFrame) (body : TxFrame) (act : State → State) (s : State) (keeps : State → Bool := fun _ => false) : State :=
  if !linkUp s n || !f.hcrcOk || (linkEth s n && (f.dmac != macOf s (ownNode s) n || f.etype != rdf s R.pbEth 15 0)) then s
  else if f.ver != 1 then (if linkEth s n then s else faultLink n 2 s)
  else if typ = tDiscover && !linkEth s n && f.src = ownNode s then faultLink n 1 s
  else
    let k := sessKey n (if linkEth s n then f.src else 0)
    let bad := f.rsvd != 0 || f.typ.isSome
    let here := f.dst = ownNode s || hopMsg typ
    let deliver (s : State) : State :=
      s |> count (R.plCnt n 1) (R.plOvf n) 1 1 |> (fun s => if here then act s else forward n typ f body s)
    if (!msgSeqd typ && f.typ.isNone) || f.unseq then
      (if bad then s else s |> takeAck k f.ack |> takeCredit n k f |> deliver)
    else
      let s := if typ = tDiscover && linkEth s n && (sessOf s k).isNone then
          (match roomSess n s with
           | (t, true) => openSess k t
           | (t, false) => t)
        else s
      match sessOf s k with
      | none => s
      | some x =>
        let s := takeAck k f.ack s
        if f.len != 0 && !f.pcrcOk then answerHop n k tNak f 0 0 s
        else if f.seq = x.rxSeq then
          let s := s |> modSess k (fun y => { y with rxSeq := (y.rxSeq + 1) % 4294967296, lastUse := s.ck.tb }) |> takeCredit n k f
          let cls := if f.typ.isSome then f.cls else msgClass typ
          let s := answerHop n k tAck f (if !bad && here && keeps s then 0 else frameUnits f.len) cls s
          if bad then s else deliver s
        else answerHop n k (if seqBefore x.rxSeq f.seq then tNak else tAck) f 0 0 s

/-- KEEPALIVE. -/
def execKeepalive (link : Nat) (f : BFrame) (s : State) : Host.Outcome State Fault Refusal := .next (rxFrame link tKeepalive f {} id s)

/-- ACK: its work is done by its header. -/
def execAck (link : Nat) (f : BFrame) (s : State) : Host.Outcome State Fault Refusal := .next (rxFrame link tAck f {} id s)

/-- NAK: replay from ACK. -/
def execNak (link : Nat) (f : BFrame) (s : State) : Host.Outcome State Fault Refusal :=
  .next (rxFrame link tNak f {} (fun t => replaySess link (sessKey link (sessNode t link f.src)) t) s)

/-! ### Discovery (R319, R322) -/

/-- A route that firmware enters: at a node's own entry when it is shorter, or in the first unused one. -/
def addRoute (node link hops : Nat) (s : State) : State :=
  let v := node + 1048576 * link + 16777216 * hops + 2147483648
  if node = ownNode s then s else
  match (List.range 8).find? (fun i => rdb s (rtRef i) 31 && rdf s (rtRef i) 17 0 == node) with
  | some i => if hops < rdf s (rtRef i) 25 24 then wr (rtRef i) v s else s
  | none => match (List.range 8).find? (fun i => !rdb s (rtRef i) 31) with
    | some i => wr (rtRef i) v s
    | none => s

/-- What DISCOVER and its reply tell of a direct neighbour. -/
def learn (n : Nat) (f : BFrame) (neighbours : List (Nat × Nat)) (s : State) : State :=
  if linkEth s n then s else
  s |> modLink n (fun l => { l with peer := f.src, known := true })
    |> addRoute f.src n 1 |> forEach (neighbours.filter (fun m => decide (m.2 ≤ 2))) (fun m => addRoute m.1 n (m.2 + 1))

/-- DISCOVER. -/
def execDiscover (link : Nat) (f : BFrame) (neighbours : List (Nat × Nat)) (s : State) : Host.Outcome State Fault Refusal :=
  .next (rxFrame link tDiscover f { msg := f.src :: neighbours.flatMap (fun m => [m.1, m.2]) } (fun t =>
    let t := learn link f neighbours t
    sessSend link (sessKey link (sessNode t link f.src)) (discoverFrame tDiscoverReply link f.src t) t) s)

/-- DISCOVER_REPLY. -/
def execDiscoverReply (link : Nat) (f : BFrame) (neighbours : List (Nat × Nat)) (s : State) : Host.Outcome State Fault Refusal :=
  .next (rxFrame link tDiscoverReply f { msg := f.src :: neighbours.flatMap (fun m => [m.1, m.2]) } (learn link f neighbours) s)

/-! ### Federation time (R339) -/

/-- The offset in force: it slews towards the computed one by at most 100 ppm. -/
def offsetNow (p : Balwen) (tb : Nat) : Int :=
  let d : Int := ((tb - p.slewAt) / 10000 : Nat)
  if p.offset ≤ p.slewFrom then max p.offset (p.slewFrom - d) else min p.offset (p.slewFrom + d)

/-- PB_FTIME. -/
def ftimeOf (s : State) : Nat := ((s.ck.tb : Int) + offsetNow s.pb s.ck.tb).toNat % 18446744073709551616

/-- TIME_SYNC_INTERVAL: an exchange still open has failed; ten in a row raise event source 404. -/
def execTimeSyncInterval (s : State) : Host.Outcome State Fault Refusal :=
  .next (if !rdb s R.pbTime 31 then s else
    let ref := rdf s R.pbTime 17 0
    let fails := if s.pb.syncOut then s.pb.syncFails + 1 else s.pb.syncFails
    let s := s |> onPb (fun p => { p with syncFails := fails, syncOut := true })
               |> onlyIf (s.pb.syncOut && fails == 10) (raise 404 sevWarning [ref])
    (sendMsg tTimeSync ref 0 [s.ck.tb] [] s).1)

/-- TIME_SYNC: answered with the times of its receipt and of the answer. -/
def execTimeSync (link : Nat) (f : BFrame) (t1 : Nat) (s : State) : Host.Outcome State Fault Refusal :=
  .next (rxFrame link tTimeSync f { msg := [t1] } (fun t => (sendMsg tTimeReply f.src 0 [t1, t.ck.tb, t.ck.tb] [] t).1) s)

/-- TIME_REPLY: the offset is ((T2 − T1) + (T3 − T4)) / 2. -/
def execTimeReply (link : Nat) (f : BFrame) (t1 t2 t3 : Nat) (s : State) : Host.Outcome State Fault Refusal :=
  .next (rxFrame link tTimeReply f { msg := [t1, t2, t3] } (fun t =>
    if !rdb t R.pbTime 31 || f.src != rdf t R.pbTime 17 0 then t else
    let off : Int := (((t2 : Int) - t1) + ((t3 : Int) - t.ck.tb)) / 2
    onPb (fun p => { p with slewFrom := offsetNow p t.ck.tb, slewAt := t.ck.tb, offset := off, syncFails := 0, syncOut := false }) t) s)

/-! ### Hold-up notices (R338) -/

/-- HOLDUP_NOTICE: an owner's is its loss, the partner's the partner's loss. It carries the cause and the sender's time base, which a forwarded notice
keeps. -/
def execHoldupNotice (link : Nat) (f : BFrame) (cause : Nat) (s : State) (tb : Nat := 0) : Host.Outcome State Fault Refusal :=
  .next (rxFrame link 0x30 f { msg := [cause, tb] } (fun t =>
    t |> raise 398 sevWarning [f.src, cause]
      |> onPb (fun p => { p with owners := talter f.src (fun o => { o with notice := true }) p.owners })
      |> loseOwner f.src
      |> onlyIf (t.gr.mirEn && !t.gr.mirLost && t.gr.mirPartner == f.src) partnerLost) s)

/-! ### Mirroring at the partner and at the owner (R333 to R336) -/

/-- Whether a copy finds room in the reserved half. -/
def copyRoom (s : State) (bytes : Nat) : Bool :=
  s.gr.mirEn && decide (partnerSegs s + newSegs s 5 [bytes] ≤ s.gr.size / 2 ∧ newSegs s 5 [bytes] ≤ segsLeft s)

/-- A copy held for an owner, which is there: one that was judged lost mirrors again. -/
def holdCopy (node : Nat) (page : MirrorPage) (s : State) : State :=
  let (g, s) := putItem 5 page.bytes node page.offset s
  onPb (fun p => { p with owners := tmod {} node (fun o : Owner =>
    if o.state = 1 || o.state = 3 then { o with state := 0, notice := false, domFull := false, lostTime := 0, pages := o.pages ++ [(g, page)] }
    else { o with pages := o.pages ++ [(g, page)] }) p.owners }) s

/-- MIRROR_DATA: the copy is held and acknowledged. -/
def execMirrorData (link : Nat) (f : BFrame) (page : MirrorPage) (s : State) : Host.Outcome State Fault Refusal :=
  .next (rxFrame link tMirrorData f { msg := [page.offset, page.kind, page.ctr, page.tag], sealed := page.sealed } (fun t =>
    if copyRoom t page.bytes then
      (sendMsg tMirrorAck f.src 0 [page.offset] [] (holdCopy f.src { page with state := false } t)).1
    else t) s (fun t => copyRoom t page.bytes))

/-- MIRROR_STATE: the records are held, without being interpreted. -/
def execMirrorState (link : Nat) (f : BFrame) (page : MirrorPage) (s : State) : Host.Outcome State Fault Refusal :=
  .next (rxFrame link tMirrorState f { msg := [page.offset, page.zone, page.lba, page.accEnd], delta := page.delta, jrec := page.jrec } (fun t =>
    if copyRoom t page.bytes then holdCopy f.src { page with state := true } t else t) s (fun t => copyRoom t page.bytes))

/-- MIRROR_ACK: the partner holds the copy, and the write's status may be fixed. -/
def execMirrorAck (link : Nat) (f : BFrame) (offset : Nat) (s : State) : Host.Outcome State Fault Refusal :=
  .next (rxFrame link tMirrorAck f { msg := [offset] } (fun t =>
    if !t.gr.mirEn || f.src != t.gr.mirPartner then t else
    let c := t.gr.mirOut.find? (fun o => o.1 == offset)
    t |> onGr (fun g => { g with mirOut := g.mirOut.filter (fun o => o.1 != offset),
                                 mirHeld := if (tfind g.mirLbas offset).isSome then g.mirHeld ++ [offset] else g.mirHeld })
      |> whenSome (c.map (fun o => o.2)) settleWrite) s)

/-- MIRROR_RELEASE: the copies named are freed, or all of them and the owner's bands. -/
def execMirrorRelease (link : Nat) (f : BFrame) (offsets : List Nat) (s : State) : Host.Outcome State Fault Refusal :=
  .next (rxFrame link tMirrorRelease f { msg := offsets } (fun t =>
    match tfind t.pb.owners f.src with
    | none => t
    | some o =>
      if offsets.isEmpty then freeOwner f.src t
      else
        let named (m : MirrorPage) : Bool := offsets.contains m.offset
        let gone := o.pages.filter (fun p => named p.2)
        t |> setOwner f.src { o with pages := o.pages.filter (fun p => !named p.2), saved := o.saved.filter (fun m => !named m),
                                     job := ((o.pages.take o.job).filter (fun p => !named p.2)).length }
          |> forEach (gone.map (fun p => p.1)) freeItem
          |> returnCopies f.src (gone.map (fun p => p.2))
          |> persistAll) s)

/-- ORPHAN_PULL: every copy held for the owner goes back in its original order. -/
def execOrphanPull (link : Nat) (f : BFrame) (s : State) : Host.Outcome State Fault Refusal :=
  .next (rxFrame link tOrphanPull f {} (fun t =>
    match tfind t.pb.owners f.src with
    | none => t
    | some o =>
      t |> onPb (fun p => { p with owners := tset f.src { o with state := 4 } p.owners })
        |> forEach (ownerCopies o) (fun p t =>
             let msg := [p.offset, p.kind, p.ctr, p.tag, p.state.toNat, p.zone, p.lba, p.accEnd]
             (sendFrame { typ := tOrphanData, dst := f.src, len := p.bytes, msg := msg, sealed := p.sealed, delta := p.delta, jrec := p.jrec } t).1)) s)

/-- ORPHAN_DATA: a copy that the partner gives back, kept for RECOVERY to apply. -/
def execOrphanData (link : Nat) (f : BFrame) (page : MirrorPage) (s : State) : Host.Outcome State Fault Refusal :=
  .next (rxFrame link tOrphanData f { msg := [page.offset, page.kind, page.ctr, page.tag], sealed := page.sealed } (fun t =>
    if starting t && t.gr.pullSent && !t.gr.recovered && !t.gr.pullDone && f.src == t.gr.mirPartner then
      onGr (fun g => { g with pulled := g.pulled ++ [page] }) t
    else t) s)

/-! ### Peer Copy (R341, R342) -/

/-- The COPY_DATA of a cancelled chunk that still wait in a session are not sent (R342). -/
def unqueueCopy (node ctx : Nat) (s : State) : State :=
  onPb (fun p => { p with sessions := tmap (fun _ x => { x with
    queue := x.queue.filter (fun f => !(f.typ == tCopyData && f.dst == node && f.msg.head? == some ctx)) }) p.sessions }) s

/-- COPY_REQ: the chunk is served, or waits behind 64 that are, or is refused; a cancel ends the chunks of its context. `ctx` is the context of the
node that asks; its messages name it, and so do the source's (DESIGN CHOICE, notes/assumptions/34.md). -/
def execCopyReq (link : Nat) (f : BFrame) (nsid slba n : Nat) (cancel : Bool) (s : State) (ctx : Nat := 0) : Host.Outcome State Fault Refusal :=
  .next (rxFrame link tCopyReq f { msg := [ctx, cancel.toNat, nsid, slba, n] } (fun t =>
    let end_ (st : Status) (t : State) : State := (sendMsg tCopyEnd f.src 0 [ctx, st.sct, st.sc] [] t).1
    if cancel then t |> dropChunks (fun node c _ => node == f.src && c == ctx) |> unqueueCopy f.src ctx |> serveChunks
    else if !sourceLets t nsid f.src then t |> raise 402 sevWarning [f.src, nsid] |> end_ stGrant
    else if ((nsOf t nsid).map (fun x => x.zones * zoneLbas)).getD 0 < slba + n then end_ stLbaRange t
    else if n = 0 then end_ stOk t
    else t |> onPb (fun p => { p with chunks := p.chunks ++ [{ node := f.src, ctx := ctx, nsid := nsid, slba := slba, n := n, via := sessKey link (sessNode t link f.src) }] }) |> serveChunks) s)

/-- The context of a Peer Copy that a source answers. -/
def onPeerCopy (ctx : Nat) (f : BFrame) (act : Ctx → State → State) (s : State) : State :=
  match ctxOf s ctx with
  | none => s
  | some x =>
    if x.e.opc == 0x85 && ioCtx ≤ ctx && x.started && (x.st == .started || x.st == .committed) && x.chunks != 0 && pcNode x.e == f.src then act x s
    else s

/-- COPY_DATA: the next LBA of the source. -/
def execCopyData (link : Nat) (f : BFrame) (ctx : Nat) (block : Block) (s : State) : Host.Outcome State Fault Refusal :=
  .next (rxFrame link tCopyData f { msg := [ctx], block := block } (onPeerCopy ctx f (fun x t =>
    if x.asked ≤ x.got.length then t
    else t |> modCtx ctx (fun y => { y with got := tset y.got.length (bytesAt block 0 4096) y.got })
           |> onlyIf (ctxFresh t x) (noteArrived ctx))) s)

/-- CAUSE of a status that a source gave (03_queues.md R101). -/
def causeOf (st : Status) : Nat := if st = stGrant then 4 else if st = stKeyUnavailable then 6 else if st = stUnrecovered then 8 else if st = stOffline then 10 else 0

/-- COPY_END: the next chunk is asked for, or the Peer Copy ends with the source's status. -/
def execCopyEnd (link : Nat) (f : BFrame) (ctx : Nat) (st : Status) (s : State) : Host.Outcome State Fault Refusal :=
  .next (rxFrame link tCopyEnd f { msg := [ctx, st.sct, st.sc] } (onPeerCopy ctx f (fun _ t =>
    let t := modCtx ctx (fun y => { y with chunks := y.chunks - 1 }) t
    if st = stOk then askChunks ctx 4 t else failRead ctx st (causeOf st) 0 none none t)) s)

end Sys2Proof.Machine
end

