-- ==== Sys2Proof/Machine/Clocks.lean ====
section
/-! DEFINITION. The clock tree: domain clocks and their handovers, monitors and fallback, PLLs, the Firefly pin and the time
base (15_clocks.md R411 to R431). -/

namespace Sys2Proof.Machine

/-! ### Domain clocks (R414 to R418) -/

/-- CLK_DSTAT of a domain: 0 FIRC, 1 root PLL, 2 gated awaiting FIRC, 3 handover. -/
def clkSrc (s : State) (d : Nat) : Nat := tget 0 s.ck.dsrc d
def setClkSrc (d v : Nat) (s : State) : State :=
  onCk (fun c => { c with dsrc := tput 0 d v c.dsrc, handing := tdel d c.handing }) s

/-- READY of the source that a select value chooses: 0 FIRC, 1 root PLL (R416). -/
def srcReady (c : Clocks) (src : Nat) : Bool := if src = 1 then c.rootRdy else c.fircRdy

/-- The source that a domain runs from: during a handover, the old one. -/
def clkFrom (s : State) (d : Nat) : Nat :=
  match tfind s.ck.handing d with
  | some h => h / 2
  | none => clkSrc s d

/-- The domains whose handover is not forced: they reach the new source within 20 ns of the write (R416). -/
def endHandovers (c : Clocks) : Clocks :=
  { c with dsrc := c.handing.foldl (fun t p => if srcReady c (p.2 / 2) then tput 0 p.1 (p.2 % 2) t else t) c.dsrc,
           handing := c.handing.filter (fun p => !srcReady c (p.2 / 2)) }

/-- The bits of CLK_SEL_d's VALUE: SRC, and DIV8 for FLASH only; the others are reserved (R429, 00_scope.md R12). -/
def clkSelBits (d v : Nat) : Nat := if d = 1 then v % 4 else v % 2

/-- Firmware has switched ENGINE, FLASH, FABRIC and DRAMC to the root PLL: the command engine fetches again after a wake (R35). -/
def endWakeHold (s : State) : State :=
  onlyIf (s.pw.wakeHold && [1, 2, 3, 4].all (fun d => clkSrc s d == 1)) (onPw (fun p => { p with wakeHold := false })) s

/-- A write to CLK_SEL_d (R416): refused when the selected source has READY at 0 or when DIV8 changes while FLASH runs from
the root PLL; otherwise the window takes the value and a glitch-free handover starts. -/
def clkSelAct (d v : Nat) (s : State) : State :=
  let w := clkSelBits d v
  let src := w % 2
  let refused := !srcReady s.ck src || (d == 1 && clkFrom s 1 == 1 && bit w 1 != bit (winVal s (clkSelOff 1)) 1)
  if refused then raise 0 sevWarning [d, v] s else
  let s := winSet (clkSelOff d) w s
  let old := clkFrom s d
  if old = src then setClkSrc d src s
  else onCk (fun c => { c with dsrc := tput 0 d 3 c.dsrc, handing := tset d (src + 2 * (old % 2)) c.handing }) s

/-- CLK_SEL_WRITE (R416). -/
def execClkSelWrite (m : Master) (d : Nat) (v : Word) (s : State) : Host.Outcome State Fault Refusal :=
  .next (if d < 6 then accessWindow m D.clkSel d v.toNat (clkSelAct d) s else s)

/-- HANDOVER_FORCED (R417): the old source has stopped; the domain takes the new source. -/
def execHandoverForced (d : Nat) (s : State) : Host.Outcome State Fault Refusal :=
  .next (match tfind s.ck.handing d with
    | none => s
    | some h => s |> setClkSrc d (h % 2) |> endWakeHold |> wrb R.clkFault 4 true |> raise 1 sevWarning [d])

/-! ### Monitors and fallback (R420 to R423) -/

/-- A domain moved to FIRC: the window shows FIRC in all three copies, and while FIRC is not READY the domain stays gated and
event source 6 is raised (R421, R422). -/
def toFirc (d : Nat) (s : State) : State :=
  let s := winSet (clkSelOff d) (setBits (winVal s (clkSelOff d)) 0 0 0) s
  if s.ck.fircRdy then setClkSrc d 0 s else s |> setClkSrc d 2 |> raise 6 sevError [d]

/-- Whether a domain runs from the root PLL or is handing over to or from it. -/
def usesRoot (s : State) (d : Nat) : Bool :=
  match tfind s.ck.handing d with
  | some _ => true
  | none => clkSrc s d == 1

/-- Whether a domain falls back when the root PLL is lost: it runs from the root PLL, or hands over to it. A handover from it to FIRC completes,
forced if it must be (R418). -/
def fallsBack (s : State) (d : Nat) : Bool :=
  match tfind s.ck.handing d with
  | some h => h % 2 == 1
  | none => clkSrc s d == 1

/-- Every such domain falls back to FIRC. -/
def rootToFirc (s : State) : State := forEach ((List.range 6).filter (fallsBack s)) toFirc s

/-- Whether the monitors run: XA, FIRC and the root PLL are not watched in OFF and CELLAR, where they are stopped (R420). -/
def monitored (s : State) : Bool := s.pw.mode != mOff && s.pw.mode != mCellar

/-- Reference fallback begins, or both PLLs relock again while it is in force; event source 7 on entry (R423). -/
def refFallback (s : State) : State :=
  s |> onCk (fun c => { c with refFb := true, relocking := true }) |> wrb R.clkFault 5 true |> onlyIf (!s.ck.refFb) (raise 7 sevError [])

/-- XA_FAULT (R421, R423). The peer PHY PLL loses READY, so the UP links leave UP (R413); the time base counts on FIRC (R426). -/
def execXaFault (s : State) : Host.Outcome State Fault Refusal :=
  .next (if s.ck.xaRdy && monitored s then
    s |> onlyIf s.ck.pphyRdy allLeaveUp
      |> onCk (fun c => { c with xaRdy := false, rootRdy := false, dphyRdy := false, pphyRdy := false, tbFirc := true })
      |> wrb R.clkFault 0 true |> raise 2 sevCritical []
      |> rootToFirc
      |> refFallback
  else s)

/-- ROOT_PLL_FAULT (R421). -/
def execRootPllFault (s : State) : Host.Outcome State Fault Refusal :=
  .next (if s.ck.rootRdy && monitored s then
    s |> onCk (fun c => { c with rootRdy := false })
      |> wrb R.clkFault 1 true |> raise 3 sevError []
      |> rootToFirc
  else s)

/-- FIRC_FAULT (R421): the domains on FIRC, and those handing over to it, are gated until READY returns; a handover from FIRC
completes, forced if it must be. -/
def execFircFault (s : State) : Host.Outcome State Fault Refusal :=
  .next (if s.ck.fircRdy && monitored s then
    let on := (List.range 6).filter (fun d => match tfind s.ck.handing d with
      | some h => h % 2 == 0
      | none => clkSrc s d == 0)
    s |> onCk (fun c => { c with fircRdy := false })
      |> wrb R.clkFault 2 true |> raise 4 sevCritical []
      |> forEach on toFirc
  else s)

/-- SIRC_FAULT (R421): XB watches SIRC while both are READY. The table clears READY of the other sources on their faults, and not that of SIRC. -/
def execSircFault (s : State) : Host.Outcome State Fault Refusal :=
  .next (if s.ck.sircRdy && s.ck.xbRdy then
    s |> onCk (fun c => { c with cellarOnXb := true })
      |> wrb R.clkFault 3 true |> raise 5 sevWarning []
  else s)

/-- The wake from CELLAR is over once FIRC, XA and the enabled PLLs are READY (R424 step 4). -/
def endWake (s : State) : State :=
  if s.pw.waking && s.ck.fircRdy && s.ck.xaRdy && (!rdb s R.clkPll 0 || s.ck.rootRdy) && (!rdb s R.clkPll 1 || s.ck.dphyRdy) then
    onPw (fun p => { p with waking := false }) s
  else s

/-- FIRC_READY (R422, R424): gated domains run again. On the wake from CELLAR every domain clock runs from FIRC and the
control cores start. -/
def execFircReady (s : State) : Host.Outcome State Fault Refusal :=
  .next (if !s.ck.fircRdy && monitored s then
    s |> onCk (fun c => { c with fircRdy := true })
      |> forEach ((List.range 6).filter (fun d => clkSrc s d == 2)) (setClkSrc · 0)
      |> onlyIf s.pw.waking (coresRun none)
      |> endWake
  else s)

/-- FIRC_RESTART_TIMEOUT (R422): a chip warm reset with cause "clock fault". -/
def execFircRestartTimeout (s : State) : Host.Outcome State Fault Refusal :=
  .next (if !s.ck.fircRdy && monitored s then warmReset 4 s else s)

/-- REFERENCE_FALLBACK_RELOCK (R423): the enabled root and DRAM PHY PLLs relock from FIRC, and the DRAM leaves self-refresh with one all-bank refresh
(12_memory.md R350). -/
def execReferenceFallbackRelock (s : State) : Host.Outcome State Fault Refusal :=
  .next (if s.ck.refFb && s.ck.relocking && s.ck.fircRdy then
    s |> onCk (fun c => { c with relocking := false, rootRdy := rdb s R.clkPll 0, dphyRdy := rdb s R.clkPll 1 })
      |> onlyIf (domState s 10 == 2) (onDm (fun d => { d with refresh := d.refresh + 1 }))
  else s)

/-! ### PLLs (R412, R413, R430) -/

/-- PLL_READY (R412): an enabled PLL with its reference running has held lock. In reference fallback the root and the DRAM PHY PLL take FIRC as their
reference, whether or not XA recovers (R423). -/
def execPllReady (pll : Pll) (s : State) : Host.Outcome State Fault Refusal :=
  .next (
    let ref := if s.ck.refFb then s.ck.fircRdy && !s.ck.relocking else s.ck.xaRdy
    if !monitored s then s else
    endWake <| match pll with
    | .root => onlyIf (rdb s R.clkPll 0 && ref) (onCk (fun c => { c with rootRdy := true })) s
    | .dphy => onlyIf (rdb s R.clkPll 1 && ref) (onCk (fun c => { c with dphyRdy := true })) s
    | .pphy => onlyIf (rdb s R.clkPll 2 && s.ck.xaRdy) (onCk (fun c => { c with pphyRdy := true })) s
    | .hphy p => onlyIf (decide (p < 4) && !s.ck.hphyRdy.contains p)
        (onCk (fun c => { c with hphyRdy := sortBy (fun a b => decide (a ≤ b)) (p :: c.hphyRdy) })) s)

/-- HOST_PHY_PLL_LOSS (R413): the port's link fails. -/
def execHostPhyPllLoss (port : Nat) (s : State) : Host.Outcome State Fault Refusal :=
  .next (if s.ck.hphyRdy.contains port then
    s |> onCk (fun c => { c with hphyRdy := c.hphyRdy.filter (fun p => p != port) })
      |> onCe (fun e => { e with ports := tmod {} port (fun p => { p with linkUp := false }) e.ports })
  else s)

/-- PEER_PHY_PLL_LOSS (R413): every UP Balwen link leaves UP. -/
def execPeerPhyPllLoss (s : State) : Host.Outcome State Fault Refusal :=
  .next (if s.ck.pphyRdy then s |> onCk (fun c => { c with pphyRdy := false }) |> allLeaveUp else s)

/-- A write to CLK_PLL (R430): clearing ROOT_EN while a domain runs from the root PLL, or DPHY_EN while DRAMIF is powered, is
ignored. A PLL that is disabled loses lock. -/
def clkPllAct (s0 : State) (v : Nat) (s : State) : State :=
  let old := rd s0 R.clkPll
  let badRoot := bit old 0 && !bit v 0 && (List.range 6).any (usesRoot s0)
  let badDphy := bit old 1 && !bit v 1 && domState s0 10 != 0
  s |> onlyIf badRoot (fun t => t |> wrb R.clkPll 0 true |> raise 0 sevWarning [0, v])
    |> onlyIf badDphy (fun t => t |> wrb R.clkPll 1 true |> raise 0 sevWarning [1, v])
    |> onlyIf (!bit v 2 && s0.ck.pphyRdy) allLeaveUp
    |> (fun t => onCk (fun c => { c with rootRdy := c.rootRdy && rdb t R.clkPll 0, dphyRdy := c.dphyRdy && rdb t R.clkPll 1,
                                         pphyRdy := c.pphyRdy && rdb t R.clkPll 2 }) t)

/-- CLK_PLL_WRITE (R430). -/
def execClkPllWrite (m : Master) (v : Word) (s : State) : Host.Outcome State Fault Refusal :=
  .next (accessOne m D.clkPll v.toNat (clkPllAct s) s)

/-! ### The Firefly pin (R425) -/

/-- Nominal frequency of a Firefly source in Hz; FLASH as its DIV8 gives. -/
def ffNominal (s : State) (src : Nat) : Nat :=
  match src with
  | 0 => 200000000
  | 1 => 32768
  | 2 => 50000000
  | 3 => 32768
  | 4 => 200000000
  | 5 => 1800000000
  | 6 => if bit (winVal s (clkSelOff 1)) 1 then 900000000 else 1800000000
  | 7 => 1200000000
  | 8 => 900000000
  | 9 => 800000000
  | 10 => 225000000
  | 11 => 200000000
  | 12 => 100000000
  | 13 => 156250000
  | 14 => 1000000
  | _ => 0

/-- A write to FF_CFG (R425): refused whole when the nominal output would exceed 200 MHz. -/
def ffCfgAct (s0 : State) (v : Nat) (s : State) : State :=
  let src := bits v 7 4
  let div := bits v 31 16
  if ffNominal s0 src > 200000000 * (div + 1) then s |> wr R.ffCfg (rd s0 R.ffCfg) |> raise 8 sevWarning [src, div] else s

/-- FF_CFG_WRITE (R425). -/
def execFfCfgWrite (m : Master) (v : Word) (s : State) : Host.Outcome State Fault Refusal :=
  .next (accessOne m D.ffCfg v.toNat (ffCfgAct s) s)

/-! ### The time base (R426 to R428) -/

/-- Whether the Cellar's 32.768 kHz counter runs on XB (R427, R421). -/
def counterOnXb (s : State) : Bool := rdb s R.clkMon 0 || s.ck.cellarOnXb

/-- The time that a catch-up adds for counter values C0 and C1: at least 20 ns (R427, R428). -/
def catchUp (c0 c1 : Nat) : Nat := Nat.max 20 ((c1 - c0) * 1000000000 / (32768 * 20) * 20)

/-- XA_READY (R426, R427): the time base counts XA again, and after CELLAR it is caught up. -/
def execXaReady (c1 : Nat) (s : State) : Host.Outcome State Fault Refusal :=
  .next (if s.ck.xaRdy || !monitored s then s else
    let s := s |> onCk (fun c => { c with xaRdy := true, tbFirc := false }) |> endWake
    if s.ck.tbStopped then
      let d := catchUp s.ck.c0 c1
      s |> onCk (fun c => { c with tb := (c.tb + d) % 18446744073709551616, tbSleep := d, tbStopped := false })
        |> raise 9 sevInfo (words64 d ++ [Config.eventParam 9 (counterOnXb s).toNat])
    else s)

/-- XB_READY (R411): XB is watched and used only where it is fitted. -/
def execXbReady (s : State) : Host.Outcome State Fault Refusal :=
  .next (if rdb s R.clkMon 0 && s.rs.standby then onCk (fun c => { c with xbRdy := true }) s else s)

/-- One tick of 20 ns on an empty queue: the time base advances on XA, or on FIRC while XA is not READY (R426), and the
handovers in progress end (R416). In OFF and CELLAR no source of it runs. -/
def idleTick (s : State) : State :=
  let s := s |> onCk endHandovers |> endWakeHold
  if s.ck.tbStopped || !monitored s || !(s.ck.xaRdy || s.ck.fircRdy) then s else
  onCk (fun c => { c with tb := (c.tb + 20) % 18446744073709551616, tbFirc := !c.xaRdy }) s

end Sys2Proof.Machine
end

