-- ==== Sys2Proof/Machine/Control.lean ====
section
/-! DEFINITION. Mailboxes, firmware events, the Cricket watchdogs, the window's copies and the debug halt (14_control.md R391 to
R410). -/

namespace Sys2Proof.Machine

/-! ### Mailboxes (R396 to R399) -/

/-- A write or doorbell refused by a FULL mailbox. -/
def mbRefuse (mb : Nat) (s : State) : State := s |> wrb (R.mbCtl mb) 3 true |> raise 464 sevWarning [mb]

/-- The lowest core of a cluster that is running. -/
def lowCore (s : State) (cl : Nat) : Option Nat :=
  (List.range 4).find? (fun i => (tget {} s.ctl.cores (4 * cl + i) : Core).running) |>.map (4 * cl + ·)

/-- Receiver and sender of a mailbox as a control core; none for the command engine and the Attic (R397, R408). -/
def mbRxCore (s : State) (mb : Nat) : Option Nat :=
  if mb < 4 then lowCore s mb else if mb < 12 then none else if mb < 16 then lowCore s (mb - 12)
  else if rdb s (R.mbCfg mb) 4 then none else some (rdf s (R.mbCfg mb) 3 0)
def mbTxCore (s : State) (mb : Nat) : Option Nat :=
  if mb < 4 then none else if mb < 8 then lowCore s (mb - 4) else if mb < 12 then lowCore s (mb - 8) else if mb < 16 then none
  else some (rdf s (R.mbCfg mb) 11 8)

/-- Whether the Attic receives from a mailbox, and whether it sends through it (R397, R408). -/
def mbRxAttic (s : State) (mb : Nat) : Bool := if mb < 16 then decide (8 ≤ mb ∧ mb < 12) else rdb s (R.mbCfg mb) 4
def mbTxAttic (mb : Nat) : Bool := decide (12 ≤ mb ∧ mb < 16)

/-- The mailbox interrupt of a control core, and of the Attic: a FULL mailbox addressed to it, or an ACK it asked to hear of. -/
def mbIrq (s : State) (core : Nat) : Bool :=
  (List.range 32).any (fun m => (boxFull s m && mbRxCore s m == some core) ||
    ((tget {} s.ctl.boxes m : Mailbox).ackIrq && mbTxCore s m == some core))
def mbAtticIrq (s : State) : Bool :=
  (List.range 32).any (fun m => (boxFull s m && mbRxAttic s m) || ((tget {} s.ctl.boxes m : Mailbox).ackIrq && mbTxAttic m))

/-- A reply of a cluster taken in by the command engine (R398, R399): a FREE context or a stale generation or epoch discards
it; TYPE 4 completes the command, TYPE 5 returns it to the fast path. -/
def takeReply (mb : Nat) (s : State) : State :=
  let tag := rd s (R.mbTag mb)
  let c := bits tag 16 0
  let s := onCe (fun e => { e with sqs := tmap (fun _ q => { q with taken := q.taken.filter (fun w => !(w.1 == c && w.2.1 == bits tag 52 37)) }) e.sqs }) s
  match ctxOf s c with
  | none => raise 465 sevWarning [c] s
  | some x =>
    if bits tag 36 29 ≠ x.fgen || bits tag 52 37 ≠ x.epoch || !x.inFw then s else
    if bits tag 55 53 = 4 then
      let b := rd s (R.mbData mb 2)
      s |> modCtx c (fun y => { y with cause := bits b 23 16 })
        |> complete c { sct := bits b 10 8, sc := bits b 7 0 } (rd s (R.mbData mb 0)) (rd s (R.mbData mb 1))
    else if bits tag 55 53 = 5 then modCtx c (fun y => { y with inFw := false }) s
    else s

/-- The sender's interrupt on an ACK, where MB_CFG asks for it. -/
def mbAckIrq (mb : Nat) (s : State) : State :=
  onlyIf (rdb s (R.mbCfg mb) 16) (onCtl (fun c => { c with boxes := tmod {} mb (fun b => { b with ackIrq := true }) c.boxes })) s

/-- A doorbell (R396): the mailbox becomes FULL and interrupts its receiver. The command engine takes its replies in at once
and acknowledges them. -/
def mbRing (mb : Nat) (s : State) : State :=
  if boxFull s mb then mbRefuse mb s
  else if 4 ≤ mb && mb ≤ 7 then s |> setFull mb false |> takeReply mb |> mbAckIrq mb |> settleRehomes
  else setFull mb true s

/-- A message about a command that a cluster has taken: its answer is still to come (01_architecture.md R31). -/
def noteTaken (mb : Nat) (s : State) : State :=
  let tag := rd s (R.mbTag mb)
  let c := bits tag 16 0
  if bits tag 55 53 = 3 then s else
  whenSome (ctxOf s c) (fun x => modSq (bits tag 28 17) x.sqid (fun q => { q with taken := q.taken ++ [(c, (bits tag 52 37, mb))] })) s

/-- An ACK of the receiver (R396): the mailbox becomes EMPTY, and the command engine sends its next waiting message. -/
def mbTake (mb : Nat) (s : State) : State :=
  if boxFull s mb then
    s |> setFull mb false
      |> mbAckIrq mb
      |> onlyIf (decide (mb < 4)) (fun t => t |> noteTaken mb |> mbPump mb |> settleRehomes)
  else s

/-- A write to MB_CTL_m: of an ACK and a doorbell to a FULL mailbox, the ACK takes effect and the doorbell is refused. -/
def mbCtlAct (mb v : Nat) (s : State) : State :=
  if bit v 1 && boxFull s mb then s |> mbTake mb |> onlyIf (bit v 0) (mbRefuse mb)
  else if bit v 0 then mbRing mb s
  else s

/-- MB_DOORBELL (R396). -/
def execMbDoorbell (m : Master) (mb : Nat) (s : State) : Host.Outcome State Fault Refusal :=
  .next (if mb < 32 then accessReg m D.mbCtl mb 0 false (D.mbCtl.at mb 0) 1 (mbCtlAct mb) s else s)

/-- MB_ACK (R396). -/
def execMbAck (m : Master) (mb : Nat) (s : State) : Host.Outcome State Fault Refusal :=
  .next (if mb < 32 then accessReg m D.mbCtl mb 0 false (D.mbCtl.at mb 0) 2 (mbCtlAct mb) s else s)

/-- A write to MB_DATA or MB_TAG of a FULL mailbox is ignored (R396); `ref` is the register and `old` what it held. -/
def mbDataAct (mb : Nat) (ref : Ref) (old : Nat) (_ : Nat) (s : State) : State :=
  if boxFull s mb then s |> wr ref old |> mbRefuse mb else s

/-- MB_CFG of MB_00 to MB_15 keeps its fixed receiver and sender; only ACK_IRQ is written (R408). -/
def mbCfgAct (mb old : Nat) (_ : Nat) (s : State) : State :=
  onlyIf (decide (mb < 16)) (wrf (R.mbCfg mb) 11 0 (bits old 11 0)) s

/-! ### Firmware events (R402) -/

/-- A write to EV_SW. -/
def evSwAct (v : Nat) (s : State) : State :=
  raiseCode (472 + bits v 2 0) (some (bits v 31 16)) (bits v 5 4) [rd s (R.evSwP 0), rd s (R.evSwP 1), rd s (R.evSwP 2)] s

/-- EV_SW (R402). -/
def execEvSw (m : Master) (v : Word) (s : State) : Host.Outcome State Fault Refusal :=
  .next (accessOne m D.evSw v.toNat evSwAct s)

/-! ### The Cricket (R403, R404) -/

def dogOf (s : State) (w : Nat) : Dog := tget {} s.ctl.dogs w
def setDog (w : Nat) (d : Dog) (s : State) : State := onCtl (fun c => { c with dogs := tput {} w d c.dogs }) s

/-- T of a watchdog in ms; 0 is used as 1 (R409). -/
def dogT (s : State) (w : Nat) : Nat := Nat.max 1 (rdf s (R.ckCfg w) 15 0)

/-- Whether a control core is halted through the debug port. -/
def coreHalted (s : State) (n : Nat) : Bool := (tget {} s.ctl.cores n : Core).halted

/-- Whether a watchdog counts (R404): EN is set, CORE is powered and clocked, and no debug halt pauses it. -/
def dogCounts (s : State) (w : Nat) : Bool :=
  rdb s (R.ckCfg w) 16 && domState s 0 == 2 && s.pw.mode != mDoze && s.pw.mode != mCellar && s.pw.mode != mHoldup &&
  !(rdb s (R.ckCfg w) 17 && (if w < 4 then (List.range 4).any (fun i => coreHalted s (4 * w + i)) else (List.range 16).any (coreHalted s)))

/-- A watchdog reaches a stage, at so many ms from its last kick; ELAPSED saturates. -/
def dogStage (w stage ms : Nat) (s : State) : State := setDog w { stage := stage, elapsed := Nat.min ms 65535 } s

/-- A write to CK_KICK (R403, R404). -/
def ckKickAct (w v : Nat) (s : State) : State :=
  if v % 65536 = 0xA5 then onlyIf (decide ((dogOf s w).stage < 3)) (setDog w {}) s
  else raise 466 sevWarning [w] s

/-- CRICKET_KICK (R403). -/
def execCricketKick (m : Master) (w : Nat) (v : Word) (s : State) : Host.Outcome State Fault Refusal :=
  .next (if w < 5 then accessReg m D.ckKick w 0 false (D.ckKick.at w 0) v.toNat (ckKickAct w) s else s)

/-- CRICKET_STAGE_1 (R403). -/
def execCricketStage1 (w : Nat) (s : State) : Host.Outcome State Fault Refusal :=
  .next (if w < 5 && dogCounts s w && (dogOf s w).stage == 0 then
    s |> dogStage w 1 (dogT s w) |> raise (448 + w) sevWarning []
  else s)

/-- CRICKET_STAGE_2 (R403): a cluster reset, or for watchdog 4 a firmware-domain reset. -/
def execCricketStage2 (w : Nat) (s : State) : Host.Outcome State Fault Refusal :=
  .next (if w < 5 && dogCounts s w && (dogOf s w).stage == 1 then
    s |> dogStage w 2 (2 * dogT s w) |> raise (453 + w) sevError [] |> (if w < 4 then clusterReset w else firmwareReset)
  else s)

/-- CRICKET_STAGE_3 (R403): HOLDUP with CAUSE 5. -/
def execCricketStage3 (w : Nat) (s : State) : Host.Outcome State Fault Refusal :=
  .next (if w < 5 && dogCounts s w && (dogOf s w).stage == 2 then
    s |> dogStage w 3 (2 * dogT s w + 500) |> raise 458 sevCritical [w] |> holdup 5
  else s)

/-- DEBUG_CORE_HALT (R404): the debug port halts or releases a control core; with DEBUG_LOCK blown it does nothing (R386). -/
def execDebugCoreHalt (core : Nat) (halt : Bool) (s : State) : Host.Outcome State Fault Refusal :=
  .next (if s.att.fuses.debugLock || core ≥ 16 || domState s 0 != 2 then s
    else onCtl (fun c => { c with cores := tmod {} core (fun x => { x with halted := halt }) c.cores }) s)

/-! ### The window's copies (R392) -/

/-- Whether an offset is that of a window register. -/
def isWinOff (off : Nat) : Bool :=
  off % 4 == 0 && (decide (off < 0x18) || decide (0x40 ≤ off ∧ off < 0x74) || decide (0x80 ≤ off ∧ off < 0xB4))

/-- WINDOW_COPY_OUT_VOTED (R392): a copy that takes another value disagrees with the majority and is rewritten from it; the
event is raised once per register per millisecond. -/
def execWindowCopyOutVoted (offset cp : Nat) (value : Word) (s : State) : Host.Outcome State Fault Refusal :=
  .next (if isWinOff offset && decide (cp < 3) && value.toNat % 65536 != winCopy s offset cp then
    match tfind s.rf.voted offset with
    | some t => if s.ck.tb < t + 1000000 then s
                else s |> onRf (fun f => { f with voted := tset offset s.ck.tb f.voted }) |> raise 463 sevWarning [offset, cp]
    | none => s |> onRf (fun f => { f with voted := tset offset s.ck.tb f.voted }) |> raise 463 sevWarning [offset, cp]
  else s)

end Sys2Proof.Machine
end

