-- ==== Sys2Proof/Machine/Integrity.lean ====
section
/-! DEFINITION. Reads of flash, their decoding and recovery, detours, the Termite and die-failure migration
(08_flash_integrity.md R221 to R248, 09_tail_latency.md R257 to R263). -/

namespace Sys2Proof.Machine

/-- OPERATION_TIMEOUT. -/
def execOperationTimeout (ch die : Nat) (s : State) : Host.Outcome State Fault Refusal :=
  .next (releaseHeld (
    let late := match (dieOf s (64 * ch + die)).cur with
      | some o => (match o.who with
        | .constituent t => if o.phase != .waitTokens then some t else none
        | _ => none)
      | none => none
    s |> timeoutOp ch die |> whenSome late (fun t => abandonDetour t ch die 2) |> settleDetours))

/-- DETOUR_LATE_TEST: once for a page read that has not been issued, from its deadline − r_own on (R260); `cross` tells that its descriptor is issued in
the same cycle (R262). -/
def execDetourLateTest (tag : Nat) (s : State) (cross : Bool := false) : Host.Outcome State Fault Refusal :=
  .next (match jobOf s tag with
    | none => s
    | some j =>
      if j.tested || !((unissued (dieOf s (64 * j.ch + j.die))).any (fun e => e.1.tag == tag && e.1.op == 1)) ||
         decide (s.ck.tb + readNs s j.dens (cwBits j.desc).length < j.deadline) then s
      else s |> modJob tag (fun j => { j with tested := true }) |> (fun t => decideDetour tag true t cross) |> releaseHeld)

/-! ### Early warning and thresholds (R226, R231) -/

/-- LD_EW of a density. -/
def ewOf (s : State) (dens : Nat) : Nat := rdf s R.ldEw (8 * dens + 7) (8 * dens)

/-- A margin below the early-warning threshold: the tracked set is marked, and the band is pushed unless it is queued already. -/
def earlyWarn (b dk blk dens m : Nat) (s : State) : State :=
  if ewOf s dens ≤ m then s else
  let s := markDirty dk blk s
  if s.fl.ewq.any (fun e => e.1 == b) then s
  else if 1024 ≤ s.fl.ewq.length then s |> wrb R.ldEwqStat 31 true |> raise 272 sevWarning []
  else s |> onFl (fun f => { f with ewq := f.ewq ++ [(b, m)] }) |> count (R.ldCnt 5) R.ldOvf 5 1

/-- A read of LD_EWQ_POP: the oldest entry leaves the queue, and its zone is queued for a refresh. -/
def ewqPopAct (s : State) : State :=
  match s.fl.ewq with
  | [] => s
  | e :: rest => s |> onFl (fun f => { f with ewq := rest }) |> whenSome (bandZone s e.1) (fun k => modZone k (fun z => { z with refresh := true }))

/-- LD_EWQ_POP (R226). -/
def execLdEwqPop (m : Master) (s : State) : Host.Outcome State Fault Refusal :=
  .next (accessRd m D.ldEwqPop 0 0 ewqPopAct s)

/-! ### Decoding (R221, R222, R225) -/

/-- INDEX of the codeword that a job decodes: a constituent's job counts codeword bits of its own page (R197, R221). -/
def expIndex (s : State) (j : ReadJob) : Nat := match j.who with
  | .constituent _ => (cwIndexes s j.band (j.ch % 16) { j.desc with cw := 2 ^ j.index }).headD 0
  | _ => j.index

/-- Whether a STAMP is the one expected of a data codeword, BGEN that of the generation the read carries (R221); a parity codeword has none. -/
def stampOk (s : State) (j : ReadJob) (st : Stamp) : Bool :=
  (match j.who with
   | .constituent _ => !((dataPositions s j.band).contains (j.ch % 16))
   | _ => false) ||
  (st.index == expIndex s j && st.band == j.band && st.bgen == j.bgen % 2097152)

/-- The next codeword of a job, or the job's end. -/
def nextCw (tag : Nat) (j : ReadJob) (s : State) : State :=
  match j.left.tail with
  | [] =>
    s |> dropJob tag
      |> (match j.who with
          | .constituent t => modJob t (fun p => { p with parts := p.parts.filter (fun k => k != tag) })
          | _ => id)
  | i :: rest =>
    let thr := withTcomp s (64 * j.ch + j.die) { j.desc with thr := 0 }
    modJob tag (fun k => { k with index := i, left := i :: rest, step := 1, ready := true, margin := 255, offs := [], desc := { k.desc with op := 1, thr := thr } }) s

/-- A result that raced a move is discarded; what the command still needs is looked up on the current map (R30, R224). -/
def staleJob (tag c : Nat) (j : ReadJob) (s : State) : State :=
  s |> dropJob tag |> onlyIf ((zoneOf s j.zone).band != some j.band || (bandOf s j.band).gen != j.bgen) (remapCtx c j.zone)

/-- Whether a result is stale: the relocation generation is another than the read began under, the band has been erased since, or the map has
changed during its ladder (R30, R224). A read that began before a map switch and needs no ladder ends on the source band (R245). -/
def jobStale (s : State) (j : ReadJob) : Bool :=
  j.relGen != (zoneOf s j.zone).relGen || j.bgen != (bandOf s j.band).gen || (decide (2 ≤ j.step) && (zoneOf s j.zone).band != some j.band)

/-- The result of a page read whose detour also runs (R262): the first good one is used, and the constituents are discarded. -/
def directFirst (tag : Nat) (j : ReadJob) (s : State) : State :=
  if j.both then s |> cancelTags j.parts |> modJob tag (fun k => { k with detour := false, both := false, parts := [], margin := 255 }) else s

/-- A codeword done with the margin it contributes; `ms` are the margins of the codewords decoded from flash for it, each counted in the histogram
where the read is the host's (R225, R274, R275). -/
def cwEnd (tag m : Nat) (ms : List Nat) (j : ReadJob) (s : State) : State :=
  let s := earlyWarn j.band (64 * j.ch + j.die) j.desc.block j.dens m s
  match j.who with
  | .hostRead c _ _ =>
    let s := onHist j.nsid (fun h => ms.foldl (fun h m => histCodeword j.dens m h) h) s
    if jobStale s j then staleJob tag c j s
    else
      s |> noteMargin c m
        |> modCtx c (fun x => { x with need := x.need.filter (fun n => n != (j.zone, j.index)) })
        |> nextCw tag j
  | .constituent t =>
    s |> onHist j.nsid (fun h => ms.foldl (fun h m => histCodeword j.dens m h) h) |> modJob t (fun p => { p with margin := Nat.min p.margin m }) |> nextCw tag j
  | _ => nextCw tag j s

/-- A codeword decoded from flash, with its own margin. -/
def cwDone (tag m : Nat) (j : ReadJob) (s : State) : State := cwEnd tag m [m] j s

/-- A read of the ladder posted on the job's die: calibration reads from the background queue, at a set that firmware names (R206, R252). -/
def ladderRead (tag op step : Nat) (j : ReadJob) (s : State) : State :=
  let d := { j.desc with op := op, queue := if op = 3 then 3 else jobQueue j, cw := cwMask s j.index, tag := tag,
                         thr := if op = 3 then explicitThr tag else j.desc.thr }
  s |> modJob tag (fun k => { k with step := step, ready := false, margin := 0, desc := d }) |> postLadder j.ch j.die d j.who

/-- The next step of the recovery ladder after a failure (R222); a constituent's failure abandons its detour. -/
def ladder (tag step : Nat) (j : ReadJob) (s : State) : State :=
  match j.who with
  | .constituent t => abandonDetour t j.ch j.die 1 s
  | _ =>
    if dieFailed s (64 * j.ch + j.die) || 5 ≤ step then modJob tag (fun k => { k with step := 5, ready := false, margin := 0 }) s
    else if step = 3 then ladderRead tag 3 3 j s
    else ladderRead tag 2 step j s

/-- A codeword whose STAMP does not match (R221). -/
def stampBad (tag : Nat) (j : ReadJob) (st : Stamp) (s : State) : State :=
  s |> count (R.ldCnt 4) R.ldOvf 4 1 |> raise 271 sevWarning [j.band, expIndex s j, st.index]
    |> ladder tag (Nat.max 3 (j.step + 1)) j

/-- The thresholds of step 3 go into the tracked set once they have decoded the codeword (R223). -/
def keepThr (j : ReadJob) (s : State) : State :=
  let dk := 64 * j.ch + j.die
  if j.step = 3 && !j.offs.isEmpty then storeThr dk j.desc.block j.dens (tempDiff s dk j.desc.block j.desc.wl) j.offs s else s

/-- A direct read that failed while its detour runs: the detour's result is awaited, and the read is posted again if that fails too. -/
def directLost (tag : Nat) (s : State) : State := modJob tag (fun k => { k with both := false, ready := false }) s

/-- HARD_DECODE_DONE: `errors` is the number of corrected bits, absent where the decoder failed. -/
def execHardDecodeDone (tag : Nat) (errors : Option Nat) (stamp : Stamp) (s : State) : Host.Outcome State Fault Refusal :=
  .next (releaseHeld <| match jobOf s tag with
    | none => s
    | some j =>
      if !j.ready || j.desc.op != 1 then s else
      match errors with
      | some e =>
        let s := count (R.ldCnt 0) R.ldOvf 0 1 s
        if stampOk s j stamp then s |> directFirst tag j |> keepThr j |> cwDone tag (if j.step = 1 then marginOf s e else 0) j
        else if j.both then s |> count (R.ldCnt 4) R.ldOvf 4 1 |> raise 271 sevWarning [j.band, expIndex s j, stamp.index] |> directLost tag
        else stampBad tag j stamp s
      | none =>
        let s := count (R.ldCnt 1) R.ldOvf 1 1 s
        if j.both then directLost tag s else if j.step = 3 then ladderRead tag 2 3 j s else ladder tag 2 j s)

/-- SOFT_DECODE_DONE. -/
def execSoftDecodeDone (tag : Nat) (ok : Bool) (stamp : Stamp) (s : State) : Host.Outcome State Fault Refusal :=
  .next (releaseHeld <| match jobOf s tag with
    | none => s
    | some j =>
      if !j.ready || j.desc.op != 2 then s
      else if ok then
        let s := count (R.ldCnt 2) R.ldOvf 2 1 s
        if stampOk s j stamp then s |> keepThr j |> cwDone tag 0 j else stampBad tag j stamp s
      else s |> count (R.ldCnt 3) R.ldOvf 3 1 |> ladder tag (j.step + 1) j)

/-- The LBA that a codeword of a command's source belongs to. -/
def cwLba (x : Ctx) (j : ReadJob) : Option Nat :=
  (x.src.find? (fun r => r.2.zone == j.zone && r.2.pos.contains j.index)).map (fun r => r.2.sealed.lba)

/-- Step 6 of R222: unrecovered, with margin 0 (R226). A codeword of a zone that is being moved abandons the move (R245); a host read whose map has
changed is issued again on the current one instead (R224). -/
def unrecovered (tag : Nat) (j : ReadJob) (s : State) : State :=
  match (match j.who with
    | .hostRead c _ _ => if jobStale s j then some c else none
    | _ => none) with
  | some c => staleJob tag c j s
  | none =>
    let s := s |> raise 270 sevError [j.band, chDie j.ch j.die, j.desc.wl]
               |> earlyWarn j.band (64 * j.ch + j.die) j.desc.block j.dens 0
               |> onlyIf ((zoneOf s j.zone).move.isSome && (zoneOf s j.zone).band == some j.band) (abandonMoveOf j.zone 1)
    match j.who with
    | .hostRead c _ _ =>
      let lba := (ctxOf s c).bind (fun x => cwLba x j)
      s |> failRead c stUnrecovered 8 0 (some (zIdx j.zone)) lba |> dropJob tag
    | _ => dropJob tag s

/-- STRIPE_REBUILD_DONE: a rebuild for a failed die sets RECON, and contributes the least margin of the pages used, unless the codeword had reached
step 2 (R90, R224). RECON of the histogram counts the page with its last codeword; `margins` are those of the codewords decoded for the rebuild. -/
def execStripeRebuildDone (tag : Nat) (ok : Bool) (s : State) (margins : List Nat := []) : Host.Outcome State Fault Refusal :=
  .next (releaseHeld <| match jobOf s tag with
    | none => s
    | some j =>
      if j.step != 5 || j.detour then s
      else if !ok then unrecovered tag j s
      else
        let failed := dieFailed s (64 * j.ch + j.die)
        let m := if j.margin = 0 then 0 else (margins.min?).getD 0
        s |> onlyIf failed (fun t => t |> onlyIf j.left.tail.isEmpty (onHist j.nsid histRecon) |> whenSome (issuerCtx j.who) (fun c => modCtx c (fun x => { x with recon := true })))
          |> cwEnd tag m margins j
          |> onlyIf failed (modJob tag (fun k => { k with step := 5, ready := false })))

/-- DETOUR_ASSEMBLED: every constituent is decoded; the page's codewords go on with their least margin (R261). A STAMP that does not match (R221;
by default it does) sends the codeword to step 3 of the ladder. -/
def execDetourAssembled (tag : Nat) (s : State) (stamp : Option Stamp := none) : Host.Outcome State Fault Refusal :=
  .next (match jobOf s tag with
    | none => s
    | some j =>
      if !j.detour || !j.parts.isEmpty then s
      else if stamp.any (fun st => !stampOk s j st) then
        let k := { j with detour := false, both := false, margin := 255 }
        s |> modJob tag (fun _ => k) |> stampBad tag k (stamp.getD {}) |> releaseHeld
      else
      match j.who with
      | .hostRead c _ _ =>
        if jobStale s j then staleJob tag c j s
        else
          s |> onHist j.nsid histDetour
            |> noteMargin c j.margin
            |> modCtx c (fun x => { x with detour := true, need := x.need.filter (fun n => !(n.1 == j.zone && j.left.contains n.2)) })
            |> dropJob tag
      | _ => dropJob tag s)

/-! ### Moves (R242, R245) -/

/-- MIGRATION_MOVE_DONE: a die-failure migration of a zone ends; one that could not begin yet begins. -/
def execMigrationMoveDone (nsid zone : Nat) (s : State) : Host.Outcome State Fault Refusal :=
  .next (
    let key := zKey nsid zone
    match (zoneOf s key).move with
    | some m => if m.duty = 0 then migrateAll (switchMap key s).1 else s
    | none => if (zoneOf s key).band.isSome then migrateAll s else s)

/-- Termite moves in progress. -/
def termiteMoves (s : State) : Nat := (s.ze.zones.filter (fun p => (p.2.move.map (fun m => m.duty != 0)).getD false)).length

/-- The bands of a domain, their wear-point spread, and the Full zones of a lifetime class there. -/
def bandsIn (s : State) (d : Nat) : List Nat :=
  (domRows s d).flatMap (fun r => (List.range (zoneBlocks s.board)).map (bandNo s r))
def wearSpread (s : State) (d : Nat) : Nat :=
  let w := (bandsIn s d).map (bandWear s)
  w.foldl Nat.max 0 - (w.min?).getD 0
def classBands (s : State) (d life : Nat) : List Nat :=
  s.ze.zones.filterMap (fun p => match p.2.band with
    | some b => if p.2.st == .full && p.2.move.isNone && bandDom s b == some d && (shapeOf s (zNsid p.1) p.2).life == life then some b else none
    | none => none)

/-- Static levelling (R239): while the spread exceeds the configured one, a zone of class years, or where there is none of class months, from the
least-worn of their bands to the most-worn free band. -/
def levels (s : State) (src target : Nat) : Bool :=
  let d := (bandDom s src).getD 0
  let years := classBands s d 3
  let cands := if years.isEmpty then classBands s d 2 else years
  decide (s.board.spread < wearSpread s d) && cands.contains src && cands.all (fun b => decide (bandWear s src ≤ bandWear s b)) &&
  ((bandsIn s d).filter (bandReady s)).all (fun b => decide (bandWear s b ≤ bandWear s target))

/-- Whether a duty moves a zone now: 1 and 2 the refreshes of zones that are queued (R226, R248), 4 static levelling; patrol (3) moves none. -/
def dutyMoves (s : State) (z : Zone) (target duty : Nat) : Bool :=
  if duty = 1 || duty = 2 then z.refresh else duty == 4 && levels s (z.band.getD 0) target

/-- TERMITE_MOVE_START: a Full zone that one of its duties moves, to a free band of its domain that can hold it, with a loaded slot that has the
counter values. -/
def execTermiteMoveStart (nsid zone target duty : Nat) (s : State) : Host.Outcome State Fault Refusal :=
  .next (
    let key := zKey nsid zone
    let z := zoneOf s key
    let slot := (shapeOf s nsid z).keySlot
    if z.st = .full && z.band.isSome && z.move.isNone && z.queue.isEmpty && bandReady s target && bandHolds s z target &&
       bandDom s target == (z.shape.map (fun h => h.domain)) && (slotOf s slot).loaded && decide (liveUnits z ≤ counterLeft (slotOf s slot)) &&
       decide (termiteMoves s < s.board.moves) && dutyMoves s z target duty && !s.gr.holdup then
      startMove key target duty s
    else s)

/-- TERMITE_MOVE_DONE: not before the copy rate lets the move end (R246). -/
def execTermiteMoveDone (nsid zone : Nat) (s : State) : Host.Outcome State Fault Refusal :=
  .next (
    let key := zKey nsid zone
    let z := zoneOf s key
    match z.move with
    | none => s
    | some m =>
      if m.duty = 0 || s.ck.tb < m.due then s else
      match switchMap key s with
      | (t, true) => t |> raise 425 sevInfo [z.band.getD 0, m.target, m.duty] |> wakeTickets
      | (t, false) => t)

/-! ### Patrol and age (R247, R248) -/

/-- The wordlines that patrol samples. -/
def patrolWls (b : Board) : List Nat :=
  ((List.range 8).map (fun g => g * (b.wordlines / 8)) ++ [b.wordlines - 1]).eraseDups

/-- The reads of a patrol of a band: each die with each sampled wordline that is programmed. -/
def patrolReads (s : State) (band : Nat) : List (Nat × Nat) :=
  (bandDies s band).flatMap (fun dk =>
    ((patrolWls s.board).filter (fun w => decide (w < (tget (0, 0) (bandOf s band).prog (dk / 64 % 16)).2))).map (fun w => (dk, w)))

/-- Whether a patrol of a band is due: at its density's interval, and at first after each start-up (R247, R248). -/
def patrolDue (s : State) (band : Nat) : Bool :=
  let x := bandOf s band
  match x.patrolled with
  | none => true
  | some t => decide (t + s.board.patrolDays.getD (x.dens.getD 0) 1 * 86400000000000 ≤ lifeTime s)

/-- PATROL: `margins` are those of the patrol's reads in their order. Each is counted and treated under R226, and the band's sets are recalibrated
(R231). -/
def execPatrol (band : Nat) (margins : List Nat) (s : State) : Host.Outcome State Fault Refusal :=
  .next (
    let reads := patrolReads s band
    if reads.isEmpty || margins.length != reads.length || !patrolDue s band then s else
    let dens := ((bandOf s band).dens).getD 0
    s |> forEach (reads.zip margins) (fun p t =>
           t |> (if p.2 = 0 then count (R.ldCnt 1) R.ldOvf 1 1 else count (R.ldCnt 0) R.ldOvf 0 1)
             |> earlyWarn band p.1.1 (servingBlk t p.1.1 (bandBlkIdx t band)) dens p.2)
      |> modBand band (fun x => { x with patrolled := some (lifeTime s) })
      |> forEach (reads.map (fun p => p.1)).eraseDups (fun dk t => recalibrate dk (servingBlk t dk (bandBlkIdx t band)) t))

/-- Age limit in days of a lifetime class and a density; 0 is none (R248, R249). -/
def ageDays (s : State) (life dens : Nat) : Nat := s.board.ageDays.getD (4 * life + dens) 0

/-- The powered age of a band: the life time since its last final program pass (R248). -/
def poweredAge (s : State) (b : Nat) : Nat := lifeTime s - (bandOf s b).lastFinal

/-- AGE_REFRESH: a Full zone whose band's powered age has reached its limit is queued for a refresh. -/
def execAgeRefresh (nsid zone : Nat) (s : State) : Host.Outcome State Fault Refusal :=
  .next (
    let key := zKey nsid zone
    let z := zoneOf s key
    let sh := shapeOf s nsid z
    let days := ageDays s sh.life sh.density
    if z.st = .full && z.band.isSome && days != 0 && decide (days * 86400000000000 ≤ poweredAge s (z.band.getD 0)) then modZone key (fun z => { z with refresh := true }) s else s)

end Sys2Proof.Machine
end

