-- ==== Sys2Proof/Machine/Parity.lean ====
section
/-! DEFINITION. Register parity (14_control.md R389, R390). -/

namespace Sys2Proof.Machine

/-- A mismatch in a register of one function's state: its controller fails, fetching stops, and its work is squashed. -/
def fnParity (fn offset : Nat) (s : State) : State :=
  s |> modFn fn (fun f => { f with cfs := true })
    |> squashBegin fn .parity
    |> wrb R.sysParStat 0 true
    |> raise 459 sevError [fn, offset]

/-- A mismatch in any other register: SYS_PAR_ADDR keeps the first offset, and the device enters SAFE. -/
def globalParity (offset : Nat) (s : State) : State :=
  s |> onCtl (fun c => if c.parGlobal then c else { c with parGlobal := true, parAddr := offset })
    |> raise 460 sevCritical [offset]
    |> safeCause 1

/-- Whether a field's bits, or the state behind it, are stored and carry parity (R389). -/
def parityField (f : Field) : Bool := f.acc != .ro && f.acc != .rc

/-- Whether the register space has a stored bit of a native register at an offset: the window has its copies instead (R389, R392). -/
def parityAt (offset : Nat) : Bool := match findReg (regBase + offset) with
  | some h => h.d.blk != .window && h.d.fields.any (fun f => parityField f && (!h.d.wide || (if h.hi then decide (32 ≤ f.hi) else decide (f.lo < 32))))
  | none => false

/-- REGISTER_PARITY_MISMATCH (R389, R390): `fn` is the function whose state the register belongs to, if any; its registers lie in the function's
own BAR0 and not in the register space. -/
def execRegisterParityMismatch (fn : Option Nat) (offset : Nat) (s : State) : Host.Outcome State Fault Refusal :=
  .next (match fn with
    | some n => if (fnOf s n).present then fnParity n offset s else s
    | none => onlyIf (parityAt offset) (globalParity offset) s)

end Sys2Proof.Machine
end

