-- ==== Sys2Proof/Machine/Resets.lean ====
section
/-! DEFINITION. Power-up, resets, secure boot and self-tests (18_bring_up.md R486 to R503, 19_package.md R519 to R521, R529).
Recovery and ready are in Machine/Recovery.lean. -/

namespace Sys2Proof.Machine

/-! ### Rails (R486, R519, R520) -/

/-- The main rails are out of tolerance (19_package.md R520): no further pulse, a dump not ended is cut, and the device enters
OFF. -/
def mainOff (s : State) : State :=
  s |> onlyIf (s.gr.dumpSt == 1) (onGr (fun g =>
         { g with dumpSt := 3, halves := talter g.armed (fun d => { d with cut := true }) g.halves }))
    |> onRs (fun r => { r with mainPg := false })
    |> (fun t => if t.pw.mode = mOff then t else
         t |> onPw (fun p => { p with prev := p.mode, mode := mOff, cause := cSequence, entering := false, waking := false })
           |> raise 10 sevInfo [t.pw.mode, mOff, cSequence]
           |> setDoms mOff)

/-- MAIN_PG_FALL (R520). -/
def execMainPgFall (s : State) : Host.Outcome State Fault Refusal :=
  .next (if s.rs.mainPg then mainOff s else s)

/-- MAIN_PG_RISE (R519, R529): POR is released and the straps are sampled; 0b11 is treated as 0b00. A device whose SECURE-class
self-test failed is held. -/
def execMainPgRise (straps : Nat) (testEn : Bool) (s : State) : Host.Outcome State Fault Refusal :=
  .next (
    if !s.rs.standby || s.rs.mainPg then s else
    let s := onRs (fun r => { r with mainPg := true }) s
    if s.rs.faultCode = some 12 then s
    else s |> por |> onRs (fun r => { r with straps := if straps = 3 then 0 else straps % 4, testEn := testEn }))

/-- STANDBY_POWER_LOSS (R486): the Attic, the transport keys, Cellar retention and the event recorder are lost. -/
def execStandbyPowerLoss (s : State) : Host.Outcome State Fault Refusal :=
  .next (if s.rs.standby then
    s |> onlyIf s.rs.mainPg mainOff
      |> onAtt (fun a => { a with released := false, rootKey := none, fnKeys := [], download := none, miQueue := [], miCur := none,
                                  miPaused := [], miLast := [], sensors := [], evrec := {} })
      |> onCe (fun e => { e with ctxs := tdel tunnelCtx e.ctxs })
      |> onRf (fun f => { f with regs := f.regs.filter (fun p => !atticAddr (p.1 % 4294967296)) })
      |> onCk (fun c => { c with sircRdy := false, xbRdy := false })
      |> onRs (fun _ => { standby := false, mainPg := false })
  else s)

/-- STANDBY_POWER_UP (R486): everything is at its initial state but the flash, the boot flash, the fuses and the board; ER_STAT.LOST
is set and RS_CAUSE.LAST reads 1. The main rails and the Attic's self-test follow. -/
def execStandbyPowerUp (s : State) : Host.Outcome State Fault Refusal :=
  .next (if s.rs.standby then s else
    s |> resetMain
      |> resetRegs (fun _ => false)
      |> onCk (fun _ => {})
      |> onPw (fun p => { mode := mOff, avsTarget := p.avsTarget })
      |> onAtt (fun a => { fuses := a.fuses, images := a.images, committed := a.committed, sel := a.sel, vpd := a.vpd })
      |> onRs (fun _ => { standby := true, mainPg := false }))

/-- SECURE_LBIST_DONE (R496, R499): the Attic is released, or held with fault code 12 until the next standby power-up. -/
def execSecureLbistDone (ok : Bool) (s : State) : Host.Outcome State Fault Refusal :=
  .next (if !s.rs.standby || s.att.released || s.rs.faultCode = some 12 then s
    else if ok then s |> onAtt (fun a => { a with released := true }) |> onRs (fun r => { r with secOk := true })
    else s |> mainOff |> onRs (fun r => { r with faultCode := some 12 }))

/-! ### Chip warm resets (R486, R489) -/

/-- CHIP_WARM_RESET (R486) for a cause of RS_CAUSE.LAST: 3 after a dump has ended, 4 for a clock fault, 5 and 6 with the Granary
drained. -/
def execChipWarmReset (cause : Nat) (s : State) : Host.Outcome State Fault Refusal :=
  .next (
    if cause = 3 then (if s.pw.mode = mHoldup && s.gr.dumpSt ≥ 2 then warmReset 3 s else s)
    else if cause = 4 then warmReset 4 s
    else if (cause = 5 || cause = 6) && segCount s = 0 then warmReset cause s
    else s)

/-- NVM_SUBSYSTEM_RESET (R486, R489): written through a PF, whose BAR writes are ignored while it is squashed (R134), and carried out as a requested chip warm reset. -/
def execNvmSubsystemReset (fn : Nat) (s : State) : Host.Outcome State Fault Refusal :=
  .next (if isPf fn && (fnOf s fn).squash.isNone then requestReset s else s)

/-- A write to RS_REQ (R508): KEY must be 0x5A; OP 2 is refused while the Granary is occupied. -/
def rsReqAct (v : Nat) (s : State) : State :=
  if bits v 15 8 ≠ 0x5A then s
  else if bits v 1 0 = 1 then firmwareReset s
  else if bits v 1 0 = 2 then (if segCount s ≠ 0 then raise 11 sevInfo [mBoot] s else warmReset 6 s)
  else s

/-- RS_REQ_FIRMWARE_DOMAIN_RESET (R503): RS_REQ with OP 1. -/
def execRsReqFirmwareDomainReset (m : Master) (v : Word) (s : State) : Host.Outcome State Fault Refusal :=
  .next (accessOne m D.rsReq (setBits v.toNat 1 0 1) rsReqAct s)

/-- RS_REQ_CHIP_WARM_RESET (R489): RS_REQ with OP 2. -/
def execRsReqChipWarmReset (m : Master) (v : Word) (s : State) : Host.Outcome State Fault Refusal :=
  .next (accessOne m D.rsReq (setBits v.toNat 1 0 2) rsReqAct s)

/-! ### Secure boot (R492 to R495, R500) -/

/-- The next VDD_CORE request on the way to the target, in steps of at most 50 mV (19_package.md R521). -/
def avsNext (p : Power) : Nat :=
  if p.avsReq < p.avsTarget then Nat.min p.avsTarget (p.avsReq + 50) else Nat.max p.avsTarget (p.avsReq - 50)

/-- A verified slot: its cores' boot stage runs, on the lowest core that is not fenced, and SELFTEST follows with the first
request towards LOAD's VDD_CORE. -/
def bootSlot (slot : Nat) (s : State) : State :=
  let low := ((List.range 16).find? (fun n => !(tget {} s.ctl.cores n : Core).fenced)).getD 0
  s |> onAtt (fun a => { a with runSlot := slot, trialRun := (a.sel.headD {}).trial && (a.sel.headD {}).slot == slot })
    |> onCtl (fun c => { c with cores := tmod {} low (fun x : Core => { x with running := true }) c.cores })
    |> setMode mSelftest cSequence
    |> onPw (fun p => { p with avsReq := avsNext p, avsAcked := false })

/-- A start-up fault of BOOT: the device stays there and shows the code. -/
def bootFault (code : Nat) (s : State) : State := onRs (fun r => { r with faultCode := some code }) s

/-- The slot that this boot takes, after the bookkeeping of a trial (R495) and of a slot that fails its checks (R493). -/
def chooseSlot (s : State) : Option Nat × State :=
  let r := selNewest s
  let exhausted := r.trial && decide (3 ≤ r.tries)
  let first := if exhausted then otherSlot r.slot else r.slot
  let s := if exhausted then s |> appendSel first false 0 |> imageRefused 1 r.slot else s
  if slotBoots s first then (some first, onlyIf (r.trial && !exhausted) (appendSel r.slot true (r.tries + 1)) s)
  else if slotBoots s (otherSlot first) then (some (otherSlot first), s |> appendSel (otherSlot first) false 0 |> imageRefused 2 first)
  else (none, s |> imageRefused 2 first)

/-- BOOT_VERIFY (R492 to R495): with the composite temperature below 92 °C and TEST_EN low. Fault code 13 when no slot passes,
14 with event source 492 when no valid configuration image exists. -/
def execBootVerify (s : State) : Host.Outcome State Fault Refusal :=
  .next (
    if s.pw.mode ≠ mBoot || !atticRuns s || s.rs.testEn || s.rs.faultCode.isSome || decide (s.pw.comp ≥ 92) then s else
    match chooseSlot s with
    | (none, t) => bootFault 13 t
    | (some slot, t) =>
      if (cfgCopy t).isNone then t |> raise 492 sevCritical [] |> bootFault 14 else bootSlot slot t)

/-! ### Self-test (R496 to R499) -/

/-- The failing blocks of a list that lie in a kind's range, renumbered from 0. -/
def failedIn (l : List Nat) (lo n : Nat) : List Nat := (List.range n).filter (fun i => l.contains (lo + i))

/-- A list of numbers as a mask. -/
def maskOf (l : List Nat) : Nat := l.foldl (fun a i => a + 2 ^ i) 0

/-- Whether the failures leave no engine of a kind, or no core in some cluster: HALT (R499). -/
def failHalt (l : List Nat) : Bool :=
  (failedIn l 17 17).length == 17 || (failedIn l 34 9).length == 9 || (failedIn l 64 64).length == 64 ||
  (List.range 4).any (fun c => (failedIn l (128 + 4 * c) 4).length == 4)

/-- Whether the failures go beyond the fencing that R499 allows: SAFE. -/
def failSafe (l : List Nat) : Bool :=
  decide ((failedIn l 0 17).length ≥ 2) || decide ((failedIn l 17 17).length ≥ 2) || decide ((failedIn l 34 9).length ≥ 2) ||
  decide ((failedIn l 64 64).length > 4) || decide ((failedIn l 43 16).length > 2) || !(failedIn l 59 4).isEmpty ||
  (List.range 4).any (fun c => decide ((failedIn l (128 + 4 * c) 4).length ≥ 2))

/-- The ACTIVE mask of a kind with `n` engines of which `k` serve: the first `k` that are not fenced. -/
def activeMask (n k : Nat) (bad : List Nat) : Nat := maskOf (((List.range n).filter (fun i => !bad.contains i)).take k)

/-- The failing blocks fenced, with each kind's event (R499). -/
def fence (l : List Nat) (s : State) : State :=
  let comp := failedIn l 0 17
  let deco := failedIn l 17 17
  let ciph := failedIn l 34 9
  let soft := failedIn l 43 16
  let hard := failedIn l 64 64
  s |> wr R.txCompFenced (maskOf comp) |> wr R.txCompActive (activeMask 17 16 comp) |> forEach comp (fun i => raise 256 sevWarning [i])
    |> wr R.txDecoFenced (maskOf deco) |> wr R.txDecoActive (activeMask 17 16 deco) |> forEach deco (fun i => raise 257 sevWarning [i])
    |> wr R.ciEngFenced (maskOf ciph) |> wr R.ciEngActive (activeMask 9 8 ciph) |> forEach ciph (fun i => raise 260 sevWarning [i])
    |> wr R.ldHardFenced (maskOf hard) |> forEach hard (fun i => raise 268 sevWarning [i])
    |> wr R.ldSoftFenced (maskOf soft) |> forEach soft (fun i => raise 269 sevWarning [i])
    |> onCtl (fun c => { c with cores := (failedIn l 128 16).foldl (fun t n => tmod {} n (fun x : Core =>
         { x with fenced := true, running := false }) t) c.cores })

/-- RS_FMASK_j of a list of failing blocks. -/
def fmaskOf (l : List Nat) : List Nat := (List.range 5).map (fun j => maskOf (failedIn l (32 * j) 32))

/-- The blocks of RS_FMASK_j. -/
def fmaskBlocks (m : List Nat) : List Nat := (List.range 160).filter (fun i => bit (m.getD (i / 32) 0) (i % 32))

/-- Whether the data-class test is skipped at SELFTEST (R498). -/
def testSkipped (s : State) : Bool := s.rs.clean && s.rs.verdict != 0 && decide (s.rs.age < 2592000)

/-- The verdict of a data-class test recorded in Cellar retention (R497). -/
def recordVerdict (failed : List Nat) (clean : Bool) (s : State) : State :=
  onRs (fun r => { r with verdict := if failed.isEmpty then 1 else 2, fmask := fmaskOf failed, age := 0, clean := clean }) s

/-- The RWL fields of a register, as the configuration image has them, written by firmware (14_control.md R395, 17_attic.md R480). -/
def writeRwl (key v : Nat) (s : State) : State :=
  match findReg (key % 4294967296) with
  | none => s
  | some h =>
    let r : Ref := { addr := key, rst := h.d.rstOf (if h.d.n1 = 1 then h.j else h.i) h.j }
    wr r ((h.d.fields.filter (fun f => f.acc == .rwl)).foldl (fun a f => setBits a f.hi f.lo (bits v f.hi f.lo)) (rd s r)) s

/-- The configuration image's registers: those of the fields that the model names, and the others (10_granary.md R293, 11_balwen.md R320, 07_flash_channels.md
R217, 15_clocks.md R430). -/
def loadConfig (s : State) : State :=
  s |> wrf R.pbNode 17 0 s.board.nodeId
    |> wrf R.lmCfg 1 0 s.board.lmMode
    |> wrb R.clkMon 0 s.board.xbFitted
    |> wrf R.ftBudget 16 0 (if s.board.budget = 0 then 131071 else s.board.budget)
    |> forEach s.board.rwl (fun p => writeRwl p.1 p.2)

/-- LOAD entered, once the self-tests have ended and VDD_CORE's request is acknowledged (19_package.md R521): every other core
runs. -/
def toLoad (s : State) : State := s |> setMode mLoad cSequence |> loadConfig |> coresRun none |> onRs (fun r => { r with stage := 0 })

/-- SELFTEST_DONE (R497 to R499): `failed` are the blocks that the tests which ran have failed. -/
def execSelftestDone (failed : List Nat) (mbistOk : Bool) (s : State) : Host.Outcome State Fault Refusal :=
  .next (
    if s.pw.mode ≠ mSelftest || s.rs.stage ≠ 0 then s else
    let skip := testSkipped s
    let all := if skip then failed ++ fmaskBlocks s.rs.fmask else failed
    let s := s |> onlyIf (!skip) (recordVerdict failed false)
               |> onRs (fun r => { r with clean := false, dataRan := !skip, mbistOk := mbistOk })
    if failHalt all then s |> onRs (fun r => { r with faultCode := some 15 }) |> halt cSequence else
    let s := s |> fence all |> onlyIf (failSafe all) (safeCause 3)
    if s.pw.avsAcked then toLoad s else onRs (fun r => { r with stage := 1 }) s)

/-- AVS_ACKNOWLEDGE (19_package.md R521): the regulator acknowledges the request; the next step of at most 50 mV follows, and
SELFTEST may end with LOAD's request acknowledged. -/
def execAvsAcknowledge (s : State) : Host.Outcome State Fault Refusal :=
  .next (
    if s.pw.mode ≠ mSelftest then s else
    if s.pw.avsReq ≠ s.pw.avsTarget then onPw (fun p => { p with avsReq := avsNext p }) s else
    let s := onPw (fun p => { p with avsAcked := true }) s
    if s.rs.stage = 1 then toLoad s else s)

/-- DATA_CLASS_TEST_DONE (R441 step 4, R497): the verdict and the clean-shutdown flag; the tested blocks take a firmware-domain
reset. -/
def execDataClassTestDone (failed : List Nat) (s : State) : Host.Outcome State Fault Refusal :=
  .next (
    match s.pw.stop with
    | some why =>
      if s.pw.mode = mQuiesce && why.tests && stopDrained s && !s.pw.stopTested then
        s |> recordVerdict failed true |> onPw (fun p => { p with stopTested := true }) |> firmwareReset
      else s
    | none => s)

end Sys2Proof.Machine
end

