-- ==== Sys2Proof/Machine/Recovery.lean ====
section
/-! DEFINITION. Recovery and ready: the Granary's size, the newest dump, each zone cut at its accepted pointer or restore point, the rows
and domains, the counters, and the checkpoint and armed half before ready (10_granary.md R284, R285, R303 to R305, 02_zones.md R40 to
R42, 05_transforms.md R155, 06_cipher.md R177, 08_flash_integrity.md R234, R248, 11_balwen.md R336). `ze` holds, between a reset and
here, what the device had at the reset; what of it was on flash or in the dump is worked out here (notes/assumptions/9.md). -/

namespace Sys2Proof.Machine

/-! ### The Granary's size (R284, R285) -/

/-- The size that the formula gives, in MiB; energies are in mJ. -/
def computedMib (s : State) : Nat :=
  let n := usableDies s
  let rate := Nat.min 48000000000 (1000000000 * n)
  let e := ((5 * s.board.eHu - 6 * s.board.eFixed) * rate) / (6000 * s.board.pDump) / 268435456 * 256
  Nat.min 16384 (Nat.min (64 * n) e)

def sizeGranary (s : State) : State :=
  let g := computedMib s
  if g < 1024 then s |> onGr (fun x => { x with size := 1024, limited := true }) |> raise 368 sevError [g]
  else onGr (fun x => { x with size := g, limited := false }) s

/-! ### Dumps and the zone table -/

/-- The dump with the highest DUMP_ID, and its half. -/
def newestDump (s : State) : Option (Nat × Dump) :=
  match s.gr.halves with
  | [] => none
  | h :: t => some (t.foldl (fun a x => if a.2.id < x.2.id then x else a) h)

/-! ### What has survived of a dump (R303, R305) -/

/-- Whether the codewords of an item of a dump's segment are in the Garret: all below the first that is missing or has failed its CRC. -/
def itemKept (d : Dump) (seg a b : Nat) : Bool := match d.segs.findIdx? (fun g => g.1 == seg) with
  | none => false
  | some i => ((d.segs[i]?).bind (fun g => itemIn g.2 a b)).any (fun it => decide (256 * i + (it.off + it.bytes - 1) / 4096 < dumpKept d))

/-- Whether the newest dump holds a zone's deltas. -/
def deltaKept (s : State) (key : Nat) : Bool :=
  (newestDump s).any (fun d => d.2.segs.any (fun g => g.2.kind == 3 && itemKept d.2 g.1 key 0))

/-- The number of the last journal record kept: those on flash, and those of the newest dump that follow without a gap, in JSEQ order. -/
def journalKept (s : State) : Nat := match newestDump s with
  | none => s.fl.jFlash
  | some (_, d) =>
    let m := dumpKept d
    (d.segs.mapIdx (fun i g => (i, g.2))).foldl (fun n g =>
      if g.2.kind != 4 then n else g.2.items.foldl (fun n it =>
        let room := (4096 * (m - 256 * g.1) - it.off) / 16
        if it.a - it.b ≤ n then Nat.max n (it.a - it.b + Nat.min it.b room) else n) n) s.fl.jFlash

/-- Whether the final pass of a position's wordline has ended, and whether any pass of it was issued. -/
def finalAt (s : State) (z : Zone) (i : Nat) : Bool :=
  match z.band with
  | none => false
  | some b => let p := placeOf s (zoneDens z) b i; decide (p.wl < (tget (0, 0) (bandOf s b).prog p.pos).2)
def issuedAt (s : State) (z : Zone) (i : Nat) : Bool :=
  match z.band with
  | none => false
  | some b => let p := placeOf s (zoneDens z) b i; decide (p.wl < tget 0 (bandOf s b).issued p.pos)

/-- Whether the dump, or the partner, gave an item of write data of a segment back. -/
def savedPage (s : State) (key off seg : Nat) : Bool :=
  s.gr.pulled.any (fun p => p.state && p.delta.isNone && p.jrec.isNone && p.zone == key && p.lba == off) ||
  (newestDump s).any (fun d => itemKept d.2 seg key off)

/-- First LBA offset of a frame's data. -/
def frameLba (f : Frame) : Nat := 16 * f.slot + f.first

/-- The first accepted LBA of a zone whose data is neither on flash nor given back. -/
def lostAt (s : State) (key : Nat) (z : Zone) : Option Nat :=
  let us := z.units.filterMap (fun u => if u.1 < z.ap && u.2.seg.any (fun g => !savedPage s key u.1 g) && !finalAt s z u.2.pos then some u.1 else none)
  let fs := z.frames.filterMap (fun f =>
    let gone := !f.abandoned && f.seg.any (fun g => !savedPage s key (frameLba f) g) &&
      !(match f.off with
        | some u => (spanCws z u (frameLen f)).all (finalAt s z)
        | none => false)
    if gone && frameLba f < z.ap then some (frameLba f) else none)
  (us ++ fs).min?

/-- The restore point: the start of the write that holds the first missing LBA, if that write is of at most 256 KiB (R305). -/
def restorePoint (z : Zone) (l : Nat) : Nat :=
  match z.starts.find? (fun w => decide (w.1 ≤ l ∧ l < w.1 + w.2 ∧ w.2 ≤ 64)) with
  | some w => w.1
  | none => l

/-! ### The zone table (R285, R303, R305) -/

/-- The newest journal record of a zone's state that is kept, under the floor of R285. What it shows as applied was accepted only once its data was on
flash: the accepted pointer is the end of that. -/
def journalZone (s : State) (key : Nat) : Option Zone :=
  ((s.fl.jZones.filter (fun r => r.2.1 == key && decide (r.1 ≤ journalKept s))).getLast?).map (fun r =>
    let z := { r.2.2 with ap := r.2.2.wp }
    { z with ap := (lostAt s key z).getD z.ap })

/-- The state of the zones as HOLDUP entry or the reset found them. -/
def lastZones (s : State) : List (Nat × Zone) := ((newestDump s).map (fun d => d.2.zones)).getD s.ze.zones

/-- Whether a zone's newest deltas are lost with a dump that was cut in its state region: accepted changes of it may be missing (R305). -/
def deltasLost (s : State) (key : Nat) : Bool :=
  (newestDump s).isSome && !s.gr.limited && ((tfind (lastZones s) key).map (fun z => z.deltas)).getD false && !deltaKept s key &&
  !s.gr.pulled.any (fun p => p.delta.isSome && p.zone == key)

/-- The zone table that checkpoint, journal and dump give: a zone whose newest deltas are lost is as its newest journal record on flash, or its
checkpoint, has it. -/
def baseZones (s : State) : List (Nat × Zone) :=
  (lastZones s).filterMap (fun z =>
    if !z.2.deltas || deltaKept s z.1 then some z
    else match journalZone s z.1 with
      | some y => some (z.1, y)
      | none => (s.gr.ckpt.bind (fun c => tfind c.zones z.1)).map (fun y => (z.1, y)))

/-! ### The partner's copies (11_balwen.md R336) -/

/-- The position of the n-th data codeword of an uncompressed zone, counted past fill (R197, R290). -/
def dataPos (z : Zone) (n : Nat) : Nat := ((List.range (z.nextPos + n + 1)).filter (fun p => !isFill z p)).getD n n

/-- A zone as a pulled delta has it, with the data of it that is on flash. -/
def withDelta (s : State) (key : Nat) (d : Zone) : Zone :=
  let z : Zone := tget {} (lastZones s) key
  { d with deltas := true,
           units := z.units.filter (fun u => decide (u.1 < d.wp) && (u.2.seg.isNone || finalAt s z u.2.pos)),
           frames := z.frames.filter (fun f => decide (frameLba f < d.wp) && (f.seg.isNone || (match f.off with
             | some u => (spanCws z u (frameLen f)).all (finalAt s z)
             | none => false))) }

/-- A pulled page put into its zone, with the shape and band that the zone has: in an uncompressed zone at its LBA's position, in a compressed one as a
frame, at the place that the index gives. -/
def addPulled (s : State) (zs : List (Nat × Zone)) (p : MirrorPage) (off : Nat) : List (Nat × Zone) :=
  let key := zKey p.sealed.nsid p.sealed.zone
  let z : Zone := tget {} zs key
  let band : Option Nat := match z.band with
    | some b => some b
    | none => (s.ze.bands.find? (fun (b : Nat × Band) => b.2.zone == some (p.sealed.nsid, p.sealed.zone))).map (fun b => b.1)
  let sh := shapeOf s p.sealed.nsid z
  let z := { z with band := band, shape := some sh, st := if z.st == ZState.empty then ZState.implOpen else z.st, deltas := true }
  let slot := off / 16
  if sh.comp then
    if z.frames.any (fun f => f.slot == slot && f.first == off % 16 && f.sealed == p.sealed) then zs else
    let raw := p.sealed.pay.isEmpty
    let n := if raw then p.sealed.plain.length else 16
    let f : Frame := withHeader
      { slot := slot, first := off % 16, count := n, raw := raw, part := p.kind == 2, trimmed := sh.trimType != 0,
        payBytes := if raw then 4096 * n else p.sealed.pay.length, sealed := p.sealed, seg := some 0 }
    if p.kind = 2 then tset key { z with frames := z.frames ++ [f], wp := Nat.max z.wp (off + n) } zs
    else
      let len := idxLen (entryOf z.index slot)
      let known := decide (frameLen f ≤ len)
      let u := if known then locate z.index slot + len - frameLen f else z.stream
      let z1 := if known then z else appendUnits (frameLen f) z
      tset key { z1 with frames := z.frames.filter (fun g => !releasedBy slot g) ++ [{ f with off := some u }], wp := Nat.max z.wp (off + n) } zs
  else if (tfind z.units off).isSome then zs
  else
    let pos := dataPos z off
    tset key { z with units := tset off { pos := pos, sealed := { p.sealed with nonce := p.ctr }, seg := some 0 } z.units,
                      nextPos := Nat.max z.nextPos (pos + 1), wp := Nat.max z.wp (off + 1) } zs

/-- The end of the data that a zone holds without a gap. -/
def heldEnd (z : Zone) : Nat :=
  if zoneComp z then ((List.range z.wp).find? (fun l => (frameAt z l).isNone)).getD z.wp
  else z.units.foldl (fun e u => if u.1 = e then e + 1 else e) 0

/-- The pulled records applied after checkpoint and journal: each zone's newest delta, then the pages that records name, in their order; each zone's
accepted pointer is the end of the contiguous data held. -/
def withPulled (s : State) (zs : List (Nat × Zone)) : List (Nat × Zone) :=
  if s.gr.pulled.isEmpty then zs else
  let zs := s.gr.pulled.foldl (fun t p => match p.delta with
    | some d => tset p.zone (withDelta s p.zone d) t
    | none => t) zs
  let zs := (s.gr.pulled.filter (fun r => r.state && r.delta.isNone && r.jrec.isNone)).foldl (fun t r =>
    match s.gr.pulled.find? (fun p => !p.state && p.offset == r.offset) with
    | some p => addPulled s t p r.lba
    | none => t) zs
  tmap (fun _ z => if z.deltas then { z with ap := heldEnd z } else z) zs

/-- The journal records kept, with those that the partner gave back after them. -/
def keptJournal (s : State) : List JRec :=
  let n := journalKept s
  s.fl.journal.take n ++ (s.gr.pulled.filterMap (fun p => if n < p.lba then p.jrec else none))

/-! ### Cutting a zone (R303) -/

/-- An uncompressed zone without its data at or above an LBA, and the position that its next LBA takes. -/
def cutPlain (z : Zone) (lim : Nat) : Zone × Nat :=
  let stop := match tfind z.units lim with
    | some u => u.pos
    | none => z.nextPos
  ({ z with units := z.units.filter (fun u => decide (u.1 < lim)), nextPos := stop,
            fills := z.fills.filterMap (fun f => if f.1 < stop then some (f.1, Nat.min f.2 (stop - f.1)) else none) }, stop)

/-- Frames of a compressed zone that stay below an LBA: those that lie below it, but of the slot it cuts only the partial frames written
to the stream. -/
def keptFrame (lim : Nat) (f : Frame) : Bool :=
  decide (frameLba f + f.count ≤ lim) && (f.slot != lim / 16 || (f.part && f.off.isSome))

/-- The new pending partial frame of the slot that an LBA cuts. The spec names neither the key it is sealed under nor its counter value: it has the
key, salt and counter value of the first old frame, until `freshCounter` gives it a value of its own (DESIGN CHOICE,
notes/assumptions/32.md). -/
def rebuiltFrame (z : Zone) (lim : Nat) : List Frame :=
  let slot := lim / 16
  let held (o : Nat) : Bool := z.frames.any (fun f => f.slot == slot && keptFrame lim f && decide (f.first ≤ o ∧ o < f.first + f.count))
  let got := ((List.range (lim % 16)).filter (fun o => !held o)).filterMap (fun o =>
    (frameAt z (16 * slot + o)).map (fun f => (o, f, ((unitBlocks none f.sealed).getD []).getD (o - f.first) [])))
  match got with
  | [] => []
  | (o, f, _) :: _ =>
    [withHeader
      { slot := slot, first := o, count := got.length, raw := true, part := true, trimmed := f.trimmed, payBytes := 4096 * got.length,
        sealed := { f.sealed with plain := got.map (fun g => g.2.2), pay := [], lba := f.sealed.lba + o - f.first }, seg := some 0 }]

/-- A compressed zone without its data at or above an LBA, and the position that its next unit takes. -/
def cutComp (z : Zone) (lim : Nat) : Zone × Nat :=
  let kept := z.frames.filter (keptFrame lim)
  let ends := kept.filterMap (fun f => f.off.map (fun u => u + frameLen f))
  let stop := if z.frames.all (fun f => f.off.isNone || keptFrame lim f) then z.stream else (ends.max?).getD 0
  let frames := kept.map (fun f => if f.slot = lim / 16 then { f with abandoned := false } else f) ++ rebuiltFrame z lim
  let z := { z with frames := frames, fill := (frames.map frameLen).sum, headers := 3 * (frames.filter (fun f => !f.abandoned)).length,
                    abandoned := ((frames.filter (fun f => f.abandoned)).map frameLen).sum }
  if stop = z.stream then (z, z.nextPos) else
  let p := unitPos z (stop - 1)
  let next := if stop = 0 then unitPos z 0 else p + 1
  let used := stop - ((List.range p).map (unitsIn z)).sum
  let open_ := stop != 0 && decide (used < unitsIn z p)
  ({ z with stream := stop, nextPos := next, tail := if open_ then used else 0,
            closedCw := z.closedCw.filter (fun c => decide (c.1 < next) && !(open_ && c.1 == p)),
            fills := z.fills.filterMap (fun f => if f.1 < next then some (f.1, Nat.min f.2 (next - f.1)) else none) }, unitPos z stop)

/-- One zone recovered; whether it was finished here, and whether accepted data of it is missing. -/
def recoverZone (s : State) (key : Nat) (z : Zone) : Zone × Bool × Bool :=
  let lost := lostAt s key z
  let lim := match lost with
    | some l => Nat.min z.ap (restorePoint z l)
    | none => z.ap
  let (y, pos) := if zoneComp z then cutComp z lim else cutPlain z lim
  let held := (List.range (z.nextPos - pos)).any (fun i => issuedAt s z (pos + i))
  let fin := (held || decide (lim < z.ap)) && (isActive z.st || (z.st == .full && decide (lim < z.wp)))
  let st := if fin then .full else if isActive z.st then (if lim = 0 && z.ext.isNone then .empty else .closed) else z.st
  ({ y with index := if zoneComp y then rebuildIndex y else {}, st := st, zfc := y.zfc || fin, wp := lim, vp := lim, ap := lim, queue := [], waiting := [], move := none, stopped := false, rebuilding := false,
            parity := [], tickets := (y.tickets.filter (fun t => decide (t.lba < lim))).map (fun t => { t with applied := true, ctx := 4294967295 }),
            starts := y.starts.filter (fun w => decide (w.1 < lim)), band := if st = .empty then none else y.band, width := if st = .empty then 15 else y.width,
            deltas := z.deltas || decide (z.wp ≠ lim) || fin }, fin && isActive z.st, lost.isSome)

/-! ### The Granary filled again -/

/-- A zone's items placed in the Granary: what it held and still needs. -/
def placeZone (key : Nat) (s : State) : State :=
  let z := zoneOf s key
  let s := if z.deltas then putState 3 4096 key 0 s else s
  match z.band with
  | none => s
  | some b =>
    let s := forEach z.units (fun u t =>
      match u.2.seg with
      | none => t
      | some g =>
        if savedPage t key u.1 g && !cwOnFlash t (zoneDens z) b u.2.pos then
          let (g, t) := placeItem 0 4096 key u.1 t
          modZone key (fun y => { y with units := tset u.1 { u.2 with seg := some g } y.units }) t
        else modZone key (fun y => { y with units := tset u.1 { u.2 with seg := none } y.units }) t) s
    let (fs, s) := z.frames.foldl (fun (acc : List Frame × State) f =>
      if f.seg.isSome && (pendingPart f || (f.seg.any (savedPage acc.2 key (frameLba f)) &&
          ((f.part && !f.abandoned && z.st != .full && z.st != .readOnly) || !((f.off.map (fun u => (spanCws z u (frameLen f)).all (cwOnFlash acc.2 (zoneDens z) b))).getD false)))) then
        let (g, t) := placeItem (frameKind f) (16 * frameLen f) key (frameLba f) acc.2
        (acc.1 ++ [{ f with seg := some g }], t)
      else (acc.1 ++ [{ f with seg := none }], acc.2)) ([], s)
    let s := modZone key (fun y => { y with frames := fs }) s
    let per := stripeCws s.board (zoneDens z) (dataWidth s b)
    let open_ := (List.range (ceilDiv z.nextPos per)).filter (fun w => !wlOnFlash s (zoneDens z) (bandOf s b) (parityPos s b) w)
    forEach open_ (fun w t => openStripe key b (w * per) t) s

/-- The partner's copies that the dump's codewords below its cut hold, restored as held copies (R301, 11_balwen.md R333). -/
def placeOwners (s : State) : State :=
  match newestDump s with
  | none => s
  | some (_, d) =>
    forEach (d.mirror.filter (fun m => itemKept d m.2.1 m.1 m.2.2.offset)) (fun m t =>
      let (g, t) := placeItem 5 m.2.2.bytes m.1 m.2.2.offset t
      onPb (fun p => { p with owners := tmod {} m.1 (fun o : Owner => { o with pages := o.pages ++ [(g, m.2.2)] }) p.owners }) t) s

/-! ### Rows, domains and index memory (02_zones.md R40 to R42, 05_transforms.md R155) -/

/-- The usable positions of a row. -/
def usablePos (s : State) (r : Nat) : List Nat := (List.range 16).filter (fun p => dieUsable s (dieAt r p))

/-- Whether a zone is bound to a band of a row. -/
def rowBound (s : State) (r : Nat) : Bool := s.ze.bands.any (fun b => bandRow s b.1 == r && b.2.zone.isSome)

/-- A row put into the use that its usable dies give (R40); where the use changes, its bands are erased before use. -/
def useRow (r : Nat) (us : List Nat) (s : State) : State :=
  let use := if us.length = 16 then 0 else if us.length = 15 then 1 else 2
  let absent := if use = 1 then (List.range 16).find? (fun p => !us.contains p) else none
  s |> onlyIf ((rowOf s r).use.isSome && (rowOf s r).use != some use)
         (onZe (fun z => { z with bands := tmap (fun b y => if bandRow s b = r then { y with erased := false } else y) z.bands }))
    |> modRow r (fun y => { y with use := some use, absent := absent })
    |> onlyIf (use == 2) (raise 420 sevError [5, r])

/-- A row classified when its dies are identified at start-up (R40). A row that holds bound zones keeps its recorded use, and a die of it that
is newly unusable is a die failure; the same holds of a die lost by a row in use. -/
def classifyRow (r : Nat) (s : State) : State :=
  let x := rowOf s r
  let us := usablePos s r
  match x.use with
  | none => useRow r us s
  | some u =>
    if 1 < u then useRow r us s
    else if us.length = 16 && !rowBound s r then (if u = 0 then s else useRow r us s)
    else s |> onlyIf (decide (us.length ≤ 14)) (raise 420 sevError [5, r])
           |> forEach ((rowPositions x).filter (fun p => !us.contains p && !x.failedPos.contains p)) (fun p t =>
      rowFailure (dieAt r p / 64) (dieAt r p % 64) t)

/-- A row's entry of the domain map: the domain, or none where the row is unused. -/
def mapEntry (s : State) (r : Nat) : Option Nat :=
  match s.board.domainMap with
  | none => some 0
  | some m => match m[r]? with
    | some d => if d < 256 then some d else none
    | none => none

def mapRow (r : Nat) (s : State) : State :=
  let x := rowOf s r
  let s := match s.board.domainMap.bind (fun m => m[r]?) with
    | some d => if 256 ≤ d && d != 65535 then raise 420 sevError [2, r] s else s
    | none => s
  if x.domain = mapEntry s r then s
  else if x.domain.isNone || !rowBound s r then modRow r (fun y => { y with domain := mapEntry s r }) s
  else raise 420 sevError [3, r] s

/-- A list of settings with those out of a range replaced by their defaults. -/
def inRange (lo hi : Nat) (dflt l : List Nat) : List Nat := dflt.mapIdx (fun i d => let v := l.getD i d; if lo ≤ v && v ≤ hi then v else d)

/-- The Termite's settings in the order of R249: patrol intervals, age refreshes, spread, moves and copy rate in MB/s. -/
def termiteList (b : Board) : List Nat := b.patrolDays ++ b.ageDays ++ [b.spread, b.moves, b.copyRate]

/-- Termite settings of the configuration image out of range are replaced by their defaults (08_flash_integrity.md R249); the position that event source
420 gives counts the values in the order of R249's table, since the spec does not lay the image out (notes/assumptions/33.md). -/
def checkTermite (s : State) : State :=
  let d : Board := {}
  let t := onBoard (fun b => { b with
    patrolDays := inRange 1 365 d.patrolDays b.patrolDays, ageDays := inRange 0 3650 d.ageDays b.ageDays,
    spread := (inRange 100 60000 [d.spread] [b.spread]).headD 0, moves := (inRange 1 64 [d.moves] [b.moves]).headD 0,
    copyRate := (inRange 100 32000 [d.copyRate] [b.copyRate]).headD 0 }) s
  let changed := ((termiteList s.board).zip (termiteList t.board)).mapIdx (fun i p => (i, p.1 != p.2))
  forEach (changed.filter (fun p => p.2)) (fun p => raise 420 sevError [7, p.1]) t

/-- Index blocks reserved by row in ascending order; a row without them is not used. -/
def reserveIndex (s : State) : State :=
  let room := (s.board.dramMib - s.gr.size - s.board.fwMib) * 1048576
  let need := zoneBlocks s.board * 139264
  let rows := (List.range 256).filter (fun r => rowUsed (rowOf s r))
  forEach (rows.drop (room / need)) (fun r t => t |> modRow r (fun y => { y with use := some 2 }) |> raise 420 sevError [6, r]) s

def setRows (s : State) : State :=
  s |> forEach (List.range 256) classifyRow
    |> (fun t => match t.board.domainMap with
         | some m => if m.length < 256 then raise 420 sevError [4, m.length] t else t
         | none => t)
    |> forEach (List.range 256) mapRow
    |> reserveIndex

/-! ### Counters, life time, features, erases -/

/-- Each slot's recorded ceiling becomes its counter, and one step above it the new ceiling, journalled first (06_cipher.md R177); a counter
near its end is marked anew (06_cipher.md R175, R176). The recorded ceilings are those of the journal and of what the zone table state carries. -/
def restoreSlots (s : State) : State :=
  let ck := (s.gr.ckpt.map (fun c => c.slots)).getD []
  let dump := ((newestDump s).map (fun d => if journalKept s < d.2.journal.length then [] else d.2.slots)).getD []
  let jn := s.fl.journal.filter (fun r => r.typ == 14)
  let old (k : Nat) : Nat := Nat.max (Nat.max (tget {} ck k : Slot).recorded (tget {} dump k : Slot).recorded) (recordedCeil jn k)
  let next (k : Nat) : Nat := Nat.min 18446744073709551615 (old k + 16777216)
  s |> journalAll ((List.range 8192).map (fun k => ceilRec k (next k)))
    |> onCi (fun c => { c with slots := (List.range 8192).map (fun k =>
         (k, { (tget {} c.slots k : Slot) with ctr := old k, ceil := next k, recorded := next k, exhausted := false, warned := false, floored := false })) })
    |> (fun t => forEach ((List.range 8192).filter (fun k => decide (counterLeft (slotOf t k) ≤ 4294967296))) markSlot t)

/-- The partial frame that recovery made of a cut slot's data takes a counter value of its own (R174, R177, R303). -/
def freshCounter (key : Nat) (s : State) : State :=
  let z := zoneOf s key
  let slot := (shapeOf s (zNsid key) z).keySlot
  match z.frames.find? (fun f => f.slot == z.wp / 16 && pendingPart f) with
  | none => s
  | some f =>
    match reserve slot 1 s with
    | none => s
    | some (ctr, s) => modZone key (fun z => { z with frames := z.frames.map (fun g =>
        if g == f then withHeader { g with sealed := { g.sealed with ctr := ctr, nonce := ctr } } else g) }) s

/-- The life time's start (08_flash_integrity.md R248). -/
def restoreLife (s : State) : State :=
  match s.gr.ckpt with
  | none => s
  | some c => onFl (fun f => { f with lifeStart := if s.rs.last ≤ 2 then c.life else c.lStart }) s

/-- Feature 0xD2's resolved values written to each domain's DS_DOM_CFG during LOAD (09_tail_latency.md R263, R276). -/
def restoreBudgets (s : State) : State :=
  forEach ((List.range 256).filter (domExists s)) (fun k t =>
    modDom k (fun d => { d with rate := rateIn s k d.rateSaved, depth := depthIn s k d.depthSaved }) t) s

/-- The saved values of features in force (04_tenants.md, 09_tail_latency.md R263, R264, 10_granary.md R307). -/
def restoreFeatures (s : State) : State :=
  s |> onZe (fun z => { z with nss := tmap (fun _ n => { n with ticketed := n.ticketedSaved, deadline := n.deadlineSaved }) z.nss })
    |> onGr (fun g => { g with mirEn := s.board.mirSaved, mirPolicy := s.board.mirSavedPolicy, mirPartner := s.board.mirSavedPartner,
                               mirTmo := s.board.mirSavedTmo, mirLost := false })
    |> wrf R.thCfg 29 24 s.board.graceSaved

/-- Erases without their ERASE_DONE repeated, with a fresh ERASE_START (08_flash_integrity.md R234); the die-blocks of a die that is not usable keep
their recorded state (R232). -/
def repeatErases (s : State) : State :=
  forEach (s.fl.blks.filterMap (fun b => if b.2.startOpen && !dieFailed s (b.1 / 4096) && dieTakes s (b.1 / 262144) (b.1 / 4096 % 64) then some b.1 else none)) (fun k t =>
    let dk := k / 4096
    t |> raise 427 sevInfo [chDie (dk / 64) (dk % 64), k % 4096]
      |> eraseBlk (dk / 64) (dk % 64) { op := 0x20, die := dk % 64, queue := 2, block := k % 4096, suspMax := eraseMax t } .firmware) s

/-! ### The Garret's halves (R299, R304) -/

/-- The die-blocks of a half on the usable dies. -/
def garretBlks (s : State) (h : Nat) : List (Nat × Nat) := (usableKeys s).flatMap (fun dk => (halfBlks s dk h).map (fun b => (dk, b)))

/-- Whether a half is erased. -/
def halfErased (s : State) (h : Nat) : Bool :=
  (garretBlks s h).all (fun p => let x := blkOf s p.1 p.2; x.st == 7 && x.prog == 0 && !x.startOpen)

/-- The die-blocks of a half queued for erase, but for those whose erase is on its way: all of them, or those that are not erased. -/
def eraseHalf (whole : Bool) (h : Nat) (s : State) : State :=
  forEach ((garretBlks s h).filter (fun p => let x := blkOf s p.1 p.2; !x.startOpen && (whole || x.st != 7 || x.prog != 0))) (fun p t =>
    eraseBlk (p.1 / 64) (p.1 % 64) { op := 0x20, die := p.1 % 64, queue := 2, block := p.2, suspMax := eraseMax t } .firmware t) s

/-- The half to be armed: that which was not dumped to. -/
def nextHalf (s : State) : Nat :=
  match newestDump s with
  | some (h, _) => 1 - h
  | none => s.gr.armed

/-! ### RECOVERY -/

/-- Whether firmware must have the partner's copies first (11_balwen.md R336). -/
def needsPull (s : State) : Bool :=
  s.board.mirSaved && !((newestDump s).map (fun d => d.2.ended && !d.2.cut)).getD false && s.gr.pulled.isEmpty && !s.gr.pullDone

/-- ORPHAN_PULL sent to the partner, once a session reaches it; firmware then waits for the copies or for 20 s. -/
def pullCopies (s : State) : State :=
  if s.gr.pullSent then s else
  let (t, ok) := sendMsg tOrphanPull s.gr.mirPartner 0 [] [] s
  onGr (fun g => { g with pullSent := ok }) t

/-- Bands that the recovered zone table does not name are unbound, and those it names are bound. -/
def rebind (s : State) : State :=
  let named (b : Nat) : Option Nat := (s.ze.zones.find? (fun z => z.2.band == some b)).map (fun z => z.1)
  let loose := s.ze.bands.filterMap (fun b => match b.2.zone with
    | some (n, _) => if n != 0 && (named b.1).isNone then some (b.1, b.2.prog.isEmpty && b.2.issued.isEmpty && b.2.erased) else none
    | none => none)
  s |> forEach loose (fun b => freeBand b.1 b.2)
    |> forEach (s.ze.zones.filterMap (fun z => z.2.band.map (fun b => (b, z.1)))) (fun p t => modBand p.1 (fun x => { x with zone := some (zNsid p.2, zIdx p.2) }) t)

/-- After a clock-fault reset with an occupied Granary (18_bring_up.md R490): whether a zone had deltas that no dump holds. -/
def undumpedZone (s : State) (key : Nat) : Bool :=
  s.rs.undumped && (newestDump s).isNone && ((tfind s.ze.zones key).map (fun z => z.deltas)).getD false

/-- Such a zone, and one whose deltas are lost with a cut dump, as its checkpoint gives it, goes Full, finished by the controller, and its loss is
reported (R305). -/
def finishUndumped (s : State) (key : Nat) (r : Zone × Bool × Bool) : Zone × Bool × Bool :=
  if undumpedZone s key || deltasLost s key then ({ r.1 with st := .full, zfc := true, deltas := true }, true, true) else r

/-- The zones that recovery goes through: those of the base, and those that R490 or R305 finishes. -/
def recoverable (s : State) (zs : List (Nat × Zone)) : List (Nat × Zone) :=
  (((lastZones s).map (fun z => z.1)).filter (fun k => (undumpedZone s k || deltasLost s k) && (tfind zs k).isNone)).foldl (fun t k => tset k {} t) zs

/-- Bands lose the program temperatures whose band records are lost. -/
def dropTemps (gone : List JRec) (s : State) : State :=
  forEach (gone.filter (fun r => r.typ == 16)) (fun r => modBand r.erases (fun b => { b with temps := tdel r.aux b.temps })) s

/-- The zones recovered, with their events. -/
def recoverZones (s : State) : State :=
  let zs := recoverable s (withPulled s (baseZones s))
  let out := zs.map (fun z => (z.1, finishUndumped s z.1 (recoverZone s z.1 z.2)))
  let dirty := (zs.filter (fun z => z.2.deltas || z.2.units.any (fun u => u.2.seg.isSome) || z.2.frames.any (fun f => f.seg.isSome))).length
  let missing := (out.filter (fun z => z.2.2.2)).length
  let jn := keptJournal s
  let more := jn.length - s.fl.jFlash
  let id := ((newestDump s).map (fun d => d.2.id)).getD 0
  s |> onZe (fun z => { z with zones := out.foldl (fun t x => tput {} x.1 x.2.1 t) [], bandWait := [] })
    |> dropTemps (s.fl.journal.drop (journalKept s))
    |> onFl (fun f => { f with journal := jn, jHalf := none, jZones := f.jZones.filter (fun r => decide (r.1 ≤ jn.length)) })
    |> rebind
    |> onGr (fun g => { g with segs := [], nextSeg := 0, nextItem := 0, peak := 0, mirOut := [], mirHeld := [], mirLbas := [] })
    |> forEach (List.range (ceilDiv more 65536)) (fun i =>
         let n := Nat.min 65536 (more - 65536 * i)
         putState 4 (16 * n) (s.fl.jFlash + 65536 * i + n) n)
    |> forEach (out.map (fun z => z.1)) placeZone
    |> placeOwners
    |> forEach (out.filter (fun z => z.2.2.1)) (fun z => raise 363 sevWarning (zNsid z.1 :: words64 (zIdx z.1 * zoneLbas)))
    |> onlyIf (decide (0 < missing)) (fun t => t |> raise 361 sevCritical [missing] |> onGr (fun g => { g with dumpFailed := true }) |> sendAsyncAll (1, 0, 2))
    |> raise 362 sevInfo (words64 id ++ [dirty])

/-- A dump without the codewords that fail their CRC when they are read. -/
def withoutBad (bad : List Nat) (s : State) : State :=
  match newestDump s with
  | none => s
  | some (h, d) => onGr (fun g => { g with halves := tset h { d with cws := d.cws.filter (fun c => !bad.contains c.1) } g.halves }) s

/-- The Garret's copy of the event recorder (17_attic.md R472). -/
def mergeRecorder (s : State) : State :=
  if (newestDump s).isNone then s else
  s |> onlyIf (rdb s R.erStat 16) (onAtt (fun a => { a with evrec := recMerge a.evrec.garret a.evrec }))
    |> wrb R.erStat 16 false
    |> onAtt (fun a => { a with evrec := { a.evrec with garret := [] } })

/-- The records of first identifications enter the journal. -/
def journalStart (s : State) : State :=
  s |> forEach s.fl.startRecs journal |> onFl (fun f => { f with startRecs := [] })

/-- RECOVERY: while the device starts, before the device reports ready. `bad` are the SEQs of the dump codewords that fail their CRC. With no good
hold-up test recorded DEGRADED applies, event source 364 (R312). -/
def execRecovery (s : State) (bad : List Nat := []) : Host.Outcome State Fault Refusal :=
  .next (
    if !starting s || s.gr.recovered then s else
    let s := withoutBad bad s
    let s := if s.gr.size = 0 then s |> restoreFeatures |> restoreLife |> sizeGranary else s
    if needsPull s then pullCopies s else
    let used := (newestDump s).isSome
    let governs := s.gr.pulled.isEmpty && !s.gr.pullDone
    s |> recoverZones
      |> restoreSlots
      |> onlyIf (healthBad s) (raise 364 sevError [s.gr.dv])
      |> (fun t => forEach (t.ze.zones.filterMap (fun z => if zoneComp z.2 then some z.1 else none)) freshCounter t)
      |> onGr (fun g => { g with recovered := true, wtSince := s.ck.tb, dumps := if used then satBits 32 (g.dumps + 1) else g.dumps })
      |> onlyIf (s.gr.mirEn && governs) (fun t => (sendMsg tMirrorRelease t.gr.mirPartner 0 [] [] t).1)
      |> onlyIf (!s.gr.pulled.isEmpty) (raise 403 sevWarning [s.gr.mirPartner])
      |> journalStart
      |> checkTermite
      |> setRows
      |> restoreBudgets
      |> repeatErases
      |> (fun t => eraseHalf false (nextHalf t) t)
      |> mergeRecorder)

/-! ### Ready (R304) -/

/-- Every block's LOCK bit set by firmware (14_control.md R395). -/
def lockAll (s : State) : State :=
  forEach [D.clkMon, D.pwCfg, D.lmCfg, D.ldThtBase, D.ftBudget, D.lrPoolCfg, D.dmCfg, D.pbNode, D.ckCfg] (fun d t =>
    forEach (List.range (if d.blk == .cricket then 5 else 1)) (fun i t => whenSome (lockRef d i) (fun l => wrb l.1 l.2 true) t) t) s

/-- DEVICE_READY: the RWL fields are locked; the recovered state is in a checkpoint on flash, the half that was not dumped to is erased and armed, and
the dumped half is queued for erase. -/
def execDeviceReady (s : State) : Host.Outcome State Fault Refusal :=
  .next (
    if !starting s || !s.gr.recovered || s.gr.unplaced || s.gr.ckpt.isNone || !ckptCurrent s || !halfErased s (nextHalf s) then s else
    let half := nextHalf s
    s |> lockAll
      |> onlyIf (!s.gr.pulled.isEmpty) (fun t => (sendMsg tMirrorRelease t.gr.mirPartner 0 [] [] t).1)
      |> onGr (fun g => { g with halves := [], armed := half, armedOk := true, pulled := [] })
      |> onlyIf (newestDump s).isSome (eraseHalf true (1 - half))
      |> onCe (fun e => { e with fetchStop := false, fns := tmap (fun _ f => if f.en && f.online && f.present then { f with rdy := true } else f) e.fns })
      |> (if s.pw.safePending then safe s.pw.safeCause else if s.pw.mode = mLoad then toService else id)
      |> confirmSlot
      |> onlyIf s.rs.pendWarm.isSome (fun t => t |> onRs (fun r => { r with pendWarm := none }) |> requestReset))

end Sys2Proof.Machine
end

