-- ==== Sys2Proof/Machine/Switches.lean ====
section
/-! DEFINITION. Firmware's power switches and reset holds, and a domain that does not reach its state (16_power_thermal.md R455). -/

namespace Sys2Proof.Machine

/-- Whether a FLASH_k domain holds a usable die. -/
def flashUsable (s : State) (k : Nat) : Bool :=
  (List.range 8).any (fun i => (tget {} s.fl.chans (8 * (k - 2) + i) : Chan).usable != 0)

/-- Whether firmware may switch a domain now: RUN or CAPPED, FLASH_k or PEERIF; a FLASH_k leaves ON only while it holds no
usable die. -/
def pwSwOk (s : State) (k v : Nat) : Bool :=
  serving s && ((decide (2 ≤ k ∧ k ≤ 9) && (decide (v % 4 ≥ 2) || !flashUsable s k)) || k == 12)

/-- The Peer Copies whose sessions a PEERIF without power loses end as at a failed session (11_balwen.md R319, R341). -/
def losePeers (s : State) : State :=
  forEach ((List.range 4).flatMap (fun n => (sessionsOf s n).flatMap (usesSess s n))).eraseDups (fun c => failRead c stPath 0 0 none none) s

/-- A firmware write to PW_SW_k: 3 is used as 2; bits 15:2 of VALUE are reserved. -/
def pwSwAct (k v : Nat) (s : State) : State :=
  if pwSwOk s k v then s |> onlyIf (k == 12 && v % 4 == 0) losePeers |> setDom k (Nat.min 2 (v % 4)) |> winSet (pwSwOff k) (v % 4) else raise 12 sevWarning [k] s

/-- PW_SW_WRITE (R455). -/
def execPwSwWrite (m : Master) (k : Nat) (v : Word) (s : State) : Host.Outcome State Fault Refusal :=
  .next (if k < 13 then accessWindow m D.pwSw k v.toNat (pwSwAct k) s else s)

/-- A firmware write to RST_HOLD_k; bits 15:1 of VALUE are reserved. -/
def rstHoldAct (k v : Nat) (s : State) : State :=
  if serving s && (decide (2 ≤ k ∧ k ≤ 9) || k == 12) then winSet (rstHoldOff k) (v % 2) s else raise 12 sevWarning [k] s

/-- RST_HOLD_WRITE (R455). -/
def execRstHoldWrite (m : Master) (k : Nat) (v : Word) (s : State) : Host.Outcome State Fault Refusal :=
  .next (if k < 13 then accessWindow m D.rstHold k v.toNat (rstHoldAct k) s else s)

/-- DOMAIN_STATE_TIMEOUT (R455): the device stops as its mode gives. -/
def execDomainStateTimeout (k : Nat) (s : State) : Host.Outcome State Fault Refusal :=
  .next (
    if k ≥ 13 || s.pw.mode = mOff || s.pw.mode = mHoldup || s.pw.mode = mHalt then s else
    let t := raise 13 sevCritical [k] s
    if s.pw.entering || s.pw.waking || s.pw.mode = mCellar then halt cSequence t
    else if serving s then quiesce .domain t
    else if s.pw.mode = mQuiesce then
      if s.pw.stopDone then halt cSequence t else onPw (fun p => { p with stop := some .domain }) t
    else if s.pw.mode = mBoot || s.pw.mode = mSelftest || s.pw.mode = mLoad then loadFailure t
    else t)

end Sys2Proof.Machine
end

