-- ==== Sys2Proof/Machine/Demand.lean ====
section
/-! DEFINITION. Demand reads of the memories: what an error does to its consumer, by region (12_memory.md R354 to R357), and the Read command,
whose reads of the tables, of the Granary and of the Larder are among them. -/

namespace Sys2Proof.Machine

/-- Granary write data that becomes poisoned at one LBA of a zone: every unit or frame that holds it there is programmed as it
stands and never authenticates (R357). -/
def poisonData (key off : Nat) (s : State) : State :=
  modZone key (fun z => { z with
    units := tmap (fun o u => if o == off && u.seg.isSome then { u with sealed := { u.sealed with poison := true } } else u) z.units,
    frames := z.frames.map (fun f =>
      if f.seg.isSome && decide (f.first + 16 * f.slot ≤ off ∧ off < f.first + 16 * f.slot + f.count) then
        { f with sealed := { f.sealed with poison := true } } else f) }) s

/-- What uncorrectable data does, by where it lies (R357). -/
def memLost (region : MemRegion) (s : State) : State :=
  match region with
  | .granData zone off => s |> poisonData zone off |> onDm (fun d => { d with degraded := true })
  | .granState => s |> onDm (fun d => { d with degraded := true }) |> safeCause 2
  | .threshold blk => onFl (fun f => { f with thr := tmod {} blk (fun t => { t with valid := false, dirty := true }) f.thr }) s
  | .firmware | .coreLocal | .l2 => firmwareReset s
  | .larder c =>
    match ctxOf s c with
    | none => s
    | some x =>
      if !isWriteOpc x.e.opc then failRead c stUnrecovered 8 x.margin none none s
      else if x.applied = 0 then s |> cancelTags (jobTags s c) |> failWrite c { sct := 0, sc := 0x06 } 0
      else s
  | .attic => atticReset 1 s
  | .scarab | .contexts => safeCause 2 s
  | .index b => whenSome (bandZone s b) (fun key => modZone key (fun z => { z with index := { z.index with lost := zoneComp z } })) s
  | .zoneTable key => onlyIf ((tfind s.ze.zones key).isSome) (modZone key (fun z => { z with rebuilding := true })) s
  | .other => s

/-- Whether a region lies in the memory that an access reads. -/
def regionFits (sram : Bool) (r : MemRegion) : Bool :=
  match r with
  | .coreLocal | .l2 | .scarab | .attic | .zoneTable _ | .larder _ | .contexts => sram
  | .granData _ _ | .granState | .index _ | .threshold _ | .firmware => !sram
  | .other => true

/-- The error that a read finds: an uncorrectable one stays until the place is written; an injected one is found, and beside another error it
makes one that the code does not correct, unless both lie in one DRAM device (R354, R355). -/
def errFound (s : State) (sram : Bool) (a : Nat) (err : MemErr) : MemErr :=
  let unit := if sram then 8 else 64
  let here := fun (x : Nat) => x % 2 == sram.toNat && x / 2 / unit == a / unit
  if s.dm.bad.any here then .uncorrectable
  else match err, s.dm.injected.find? (fun p => here p.1) with
    | .none, some p => .corrected p.2
    | .corrected d, some p => if !sram && p.2 == d then .corrected d else .uncorrectable
    | e, _ => e

/-- A demand read of a memory (R356): a correctable error is recorded, corrected and written back; an uncorrectable one is recorded and goes to its
consumer. -/
def demandRead (sram : Bool) (region : MemRegion) (a : Nat) (err : MemErr) (s : State) : State :=
  if !regionFits sram region then s else
  match errFound s sram a err with
  | .none => s
  | .corrected dev => memCorrected sram region a dev 0 s
  | .uncorrectable => s |> memUncorrectable sram region a 0 |> memLost region

/-- READ: the sources are looked up once the earlier writes of the queue to them have been applied. `mem` is the demand read among those that the
command makes that meets an error, if one does. -/
def execRead (ctx : Nat) (s : State) (mem : Option MemRead := none) : Host.Outcome State Fault Refusal :=
  .next (
    let t := onIo ctx 0x02 (fun x t => onlyIf (!x.started) (whenSome mem (fun m => demandRead m.sram m.region m.addr m.err)) t) s
    onIo ctx 0x02 (fun x s =>
      if x.started || indexLost s x.e.nsid (srcLbas x.e) || readHeld s ctx x x.e.nsid (srcLbas x.e) then s else beginRead ctx x s) t)

end Sys2Proof.Machine
end

