-- ==== Sys2Proof/Machine/Weevil.lean ====
section
/-! DEFINITION. The Weevil's pass over the memories (12_memory.md R363, R364). -/

namespace Sys2Proof.Machine

/-- SRAM bytes that the Weevil covers: 144 MiB (01_architecture.md), read as words of 8 bytes. -/
def sramBytes : Nat := 144 * mib

/-- The address of the SRAM word that lies `n` bytes on in the Weevil's order: the local SRAM, the Larder's and the zone state table at
their places in the internal map (14_control.md R384), then L2, Scarab, Attic and contexts, which the map does not show, above them. -/
def sramAddr (n : Nat) : Nat :=
  if n < 16 * mib then 0x02000000 + n else if n < 80 * mib then 0x04000000 + (n - 16 * mib) else 0x08000000 + (n - 80 * mib)

/-- The address that the Weevil reads next. -/
def weevilAddr (s : State) (sram : Bool) : Nat := if sram then sramAddr s.dm.weevilSram else s.dm.weevil

/-- WV_CFG.PERIOD in hours (R368), and the time between two of the Weevil's DRAM reads, in picoseconds: an even pace over the pass (R363). -/
def weevilHours (s : State) : Nat := Nat.max 1 (Nat.min 24 (rdf s R.wvCfg 4 0))
def weevilPace (s : State) : Nat := weevilHours s * 3600000000000000 / (dmUsable s / 64)

/-- The end of a pass: event source 303, MI_CNT_4, and the next pass from the start (R363). -/
def passEnd (s : State) : State :=
  if s.dm.weevil < dmUsable s || s.dm.weevilSram < sramBytes then s else
  s |> raise 303 sevInfo [s.dm.passCorr]
    |> count (R.miCnt 4) R.miOvf 4 1
    |> onDm (fun d => { d with weevil := 0, weevilSram := 0, passCorr := 0 })

/-- Whether the Weevil is at work: it is enabled, its memory is powered, and the pass has not ended there. -/
def weevilReads (s : State) (sram : Bool) : Bool :=
  rdb s R.wvCfg 31 && refreshes s && s.pw.mode != mCellar && s.pw.mode != mHoldup && s.pw.mode != mOff &&
  (if sram then decide (s.dm.weevilSram < sramBytes) else decide (s.dm.weevil < dmUsable s))

/-- WEEVIL_READ (R363): the next access of the DRAM, or the next word of the SRAM, through the correction path. An access beyond the zeroing
watermark is skipped (R364). -/
def execWeevilRead (sram : Bool) (region : MemRegion) (err : MemErr) (s : State) : Host.Outcome State Fault Refusal :=
  .next (
    if !weevilReads s sram || !regionFits sram region then s else
    let a := weevilAddr s sram
    let skip := !sram && decide (zeroMark s ≤ a)
    let s := onDm (fun d => if sram then { d with weevilSram := d.weevilSram + 8 } else { d with weevil := d.weevil + 64 }) s
    if skip then passEnd s else
    match errFound s sram a err with
    | .none => passEnd s
    | .corrected dev => s |> memCorrected sram region a dev 1 |> onDm (fun d => { d with passCorr := d.passCorr + 1 }) |> passEnd
    | .uncorrectable => s |> memUncorrectable sram region a 1 |> passEnd |> memLost region)

end Sys2Proof.Machine
end

