-- ==== Sys2Proof/Machine/RegWrite.lean ====
section
/-! DEFINITION. A write at any address of the register space: the register found, the copy that a selector register chooses,
and what the write does beyond storing (00_scope.md R9 to R13, 14_control.md R384 to R394 and the register tables). -/

namespace Sys2Proof.Machine

/-- The copy of a register that a write reaches: those that a selector register or a control core's bank chooses have one each. -/
def writeRef (m : Master) (s : State) (h : Hit) : Ref :=
  match h.d.id with
  | .zeFblStat => fblRef (rdf s R.zeFblSel 7 0)
  | .pbRt => rtRef (rdf s R.pbRtSel 2 0)
  | .dmLaneDly => laneRef s
  | .dmVref => vrefRef s
  | .dsDomStat => R.dsDomStat.bank (rdf s R.dsDomSel 7 0)
  | .lrPoolCfg => lrCfg (Nat.min 5 (rdf s R.lrPoolSel 2 0))
  | .lrOpHandle => R.lrOpHandle.bank ((lrBank m).getD 16)
  | _ => h.d.at h.i h.j

/-- DS_DOM_CFG of the selected domain: RATE and DEPTH in force, with the budget's level kept and clipped to the new depth
(09_tail_latency.md R263, R276). They are kept with the domain. -/
def dsDomCfgAct (v : Nat) (s : State) : State :=
  let d := rdf s R.dsDomSel 7 0
  let lv := domLevel s d
  s |> wr R.dsDomCfg 0
    |> modDom d (fun y => { y with rate := bits v 15 0, depth := bits v 31 16 })
    |> (fun t => modDom d (fun y => { y with level := some (Nat.min lv (1000 * domDepth t d)), lvAt := t.ck.tb }) t)

/-- HU_TEST with START (10_granary.md R314): the sampled V0 is a number that this command does not carry. -/
def huTestAct (v : Nat) (s : State) : State := onlyIf (bit v 0) (fun t => t |> startTest (freeVal t) |> tookFree) s

/-- What a write of a register does beyond storing its bits; `s` is the state before it and `ref` where it stores. -/
def writeAct (m : Master) (s : State) (h : Hit) (ref : Ref) : Nat → State → State :=
  match h.d.id with
  | .zeFblPush => fblPushAct
  | .ciKwKey => kwKeyAct h.i
  | .ciKwSalt => kwSaltAct
  | .ciKwFloor => kwFloorAct
  | .ciKwCmd => kwCmdAct
  | .ciKsCtr => ksCtrAct
  | .ciKsCeil => ksCeilAct
  | .scCtl => scCtlAct h.i
  | .scUcData => scUcDataAct h.i
  | .scCancel => scCancelAct h.i
  | .ftCapLim => ftCapAct
  | .ftBudget => ftBudgetAct
  | .dsDomCfg => dsDomCfgAct
  | .huTest => huTestAct
  | .plCtl => plCtlAct h.i
  | .dmMrw => dmMrwAct
  | .dmLbCtl => dmLbAct
  | .dmZeroCtl => dmZeroAct
  | .dmRetCmd => dmRetAct
  | .miErrPop => miPopAct
  | .miInjTgt => injTgtAct
  | .lrPoolSel => lrPoolSelAct
  | .lrReq => lrReqAct m
  | .lrOp => lrOpAct m
  | .rsReq => rsReqAct
  | .evSw => evSwAct
  | .mbCtl => mbCtlAct h.i
  | .mbData => mbDataAct h.i ref (rd s ref)
  | .mbTag => mbDataAct h.i ref (rd s ref)
  | .mbCfg => mbCfgAct h.i (rd s ref)
  | .ckKick => ckKickAct h.i
  | .clkPll => clkPllAct s
  | .ffCfg => ffCfgAct s
  | .pwReq => pwReqAct
  | .thHctm => fun _ t => hctmUpdate 0 t
  | .erCtl => erCtlAct m
  | _ => fun _ t => t

/-- A write that reaches a register. -/
def writeHit (m : Master) (h : Hit) (v : Nat) (s : State) : State :=
  match h.d.id with
  | .dmLaneDly =>
    -- above lane 50 the register ignores writes (12_memory.md R368)
    if 50 < rdf s R.dmLaneSel 13 8 then accessReg m { h.d with fields := h.d.fields.map (fun f => { f with acc := .ro }) } h.i h.j h.hi (laneRef s) v (fun _ t => t) s
    else accessReg m h.d h.i h.j h.hi (laneRef s) v (fun _ t => t) s
  | .clkSel => accessWindow m h.d h.i v (clkSelAct h.i) s
  | .pwSw => accessWindow m h.d h.i v (pwSwAct h.i) s
  | .rstHold => accessWindow m h.d h.i v (rstHoldAct h.i) s
  | _ => accessReg m h.d h.i h.j h.hi (writeRef m s h) v (writeAct m s h (writeRef m s h)) s

/-! ### Writes to the memories of the internal map (R356, R365, R367, R384) -/

/-- The core that a master's accesses come from. -/
def coreOf : Master → Option Nat
  | .core n => some n
  | .coreUser n => some n
  | _ => none

/-- The region of a DRAM address: the threshold table's place is known, firmware's layout gives the others. -/
def dramRegion (s : State) (a : Nat) : MemRegion := match thtAt s a with
  | some (k, _) => .threshold k
  | none => someRegion (freeVal s)

/-- A core's access brings its line into the L2 of its cluster: a read of the DRAM where no L2 holds it (R356, 14_control.md R383). -/
def coreFill (n a : Nat) (s : State) : State :=
  let line := a / 64 * 64
  s |> onlyIf (!l2Holds s line) (fun t => t |> demandRead false (dramRegion t line) line .none |> tookFree) |> l2Fill (n / 4) line

/-- A word stored in the SRAM: a merged write of its 8-byte word, refused where that holds an uncorrectable error (R356). -/
def sramStore (region : MemRegion) (addr v : Nat) (s : State) : State :=
  s |> mergeWrite true region (addr / 8 * 8)
    |> onlyIf (!memBad s true (addr / 8 * 8)) (onDm (fun d => { d with sram := tput 0 (addr / 4) v d.sram }))

/-- A write to the DRAM at a DRAM address: dropped beyond the capacity, and at or above the watermark of zeroing (R367). A core's write goes
through its cluster's L2 (14_control.md R383). -/
def dramWrite (m : Master) (a v : Nat) (s : State) : State :=
  if dmUsable s ≤ a then raise 300 sevError (words64 a) s
  else if decide (zeroMark s ≤ a) then raise 299 sevError (words64 a ++ [Config.eventParam 299 1]) s
  else match coreOf m with
    | some n =>
      -- a store into a line that the DRAM cannot give is refused (R356)
      if memBad s false a && !l2Holds s (a / 64 * 64) then memUncorrectable false (dramRegion s a) (a / 64 * 64) 3 s
      else s |> coreFill n a |> l2Write (n / 4) a v
    | none => s |> mergeWrite false (dramRegion s a) (a / 64 * 64) |> tookFree |> onlyIf (!memBad s false a) (dramStore a v)

/-- A write to a memory of the internal map: of control cores, the debug port and the engines, since the Attic sees none of it (R384, R386). What
a master may not write, or a memory without power, answers as a register does. -/
def mapWrite (m : Master) (addr v : Nat) (s : State) : State :=
  let none_ : State := accessEvent m addr true 3 s
  let at_ (dom : Nat) (act : State → State) : State := if domState s dom == 2 then act s else accessEvent m addr true 2 s
  let priv (dom : Nat) (act : State → State) : State := if masterCls m == MClass.priv || masterCls m == MClass.engine then at_ dom act else accessEvent m addr true 1 s
  if m == .attic then none_
  else if masterCls m == MClass.host then accessEvent m addr true 1 s
  else if addr < 0x40000 then s
  else if 0x01000000 ≤ addr && addr < 0x01100000 then
    match coreOf m with
    | some n => at_ 0 (sramStore .coreLocal (addr + 0x01000000 + 0x100000 * n) v)
    | none => none_
  else if 0x02000000 ≤ addr && addr < 0x03000000 then priv 0 (sramStore .coreLocal addr v)
  else if 0x04000000 ≤ addr && addr < 0x08000000 then priv 1 (sramStore (.larder nCtx) addr v)
  else if 0x08000000 ≤ addr && addr < 0x09800000 then priv 1 id
  else if 0x4000000000 ≤ addr && addr < 0x8000000000 then at_ 10 (dramWrite m (addr - 0x4000000000) v)
  else none_

/-- Whether an address lies in the register space (R384). -/
def inRegSpace (addr : Nat) : Bool := decide (regBase ≤ addr ∧ addr < regBase + 0x10000000)

/-- A read of a memory of the internal map, with the value that it returns (R384, R356, R366, R367); the zone state table's layout is not given,
so its words are free values. -/
def mapRead (m : Master) (addr : Nat) (s : State) : State × Nat :=
  let no (kind : Nat) : State × Nat := (accessEvent m addr false kind s, if kind = 1 then 0 else 0xFFFFFFFF)
  let sramAt (dom : Nat) (region : MemRegion) (a : Nat) : State × Nat :=
    if domState s dom == 2 then (demandRead true region (a / 8 * 8) .none s, tget 0 s.dm.sram (a / 4)) else no 2
  if m == .attic then no 3
  else if masterCls m == MClass.host then no 1
  else if addr < 0x40000 then (s, (Config.bootRom (addr / 4)).toNat)
  else if 0x01000000 ≤ addr && addr < 0x01100000 then
    match coreOf m with
    | some n => sramAt 0 .coreLocal (addr + 0x01000000 + 0x100000 * n)
    | none => no 3
  else if 0x02000000 ≤ addr && addr < 0x03000000 then (if masterCls m == MClass.normal then no 1 else sramAt 0 .coreLocal addr)
  else if 0x04000000 ≤ addr && addr < 0x08000000 then (if masterCls m == MClass.normal then no 1 else sramAt 1 (.larder nCtx) addr)
  else if 0x08000000 ≤ addr && addr < 0x09800000 then
    (if masterCls m == MClass.normal then no 1 else if domState s 1 == 2 then (tookFree s, freeVal s % 4294967296) else no 2)
  else if 0x4000000000 ≤ addr && addr < 0x8000000000 then
    let a := addr - 0x4000000000
    if domState s 10 != 2 then no 2
    else if dmUsable s ≤ a then (raise 300 sevError (words64 a) s, 0xFFFFFFFF)
    else if zeroMark s ≤ a then (raise 299 sevError (words64 a ++ [Config.eventParam 299 0]) s, 0)
    else match coreOf m with
      | some n => let t := coreFill n a s; (t, tget 0 t.ctl.l2data (a / 4 * 4))
      | none => (s |> demandRead false (dramRegion s a) (a / 64 * 64) .none |> tookFree, dramLoad s a)
  else no 3

/-- REGISTER_WRITE (R13): judged field by field and applied by access code. Within a block, an address that no register has is reserved
and ignores the write (R385); one outside the blocks is that of a memory, or unmapped (R384, R394). -/
def execRegisterWrite (m : Master) (addr : Nat) (v : Word) (s : State) : Host.Outcome State Fault Refusal :=
  .next (
    if masterSilent s m then s else
    match findReg addr with
    | some h => writeHit m h v.toNat s
    | none =>
      if inRegSpace addr && (masterCls m == MClass.host || masterCls m == MClass.engine) then accessEvent m addr true 1 s else
      match blkAt addr with
      | some (b, ch) => if reachable s b ch then s else accessEvent m addr true 2 s
      | none => mapWrite m addr v.toNat s)

end Sys2Proof.Machine
end

