-- ==== Sys2Proof/Machine/Dispatch.lean ====
section
/-! DEFINITION. The dispatch of commands to their meanings: one arm for every constructor of `Instr`. -/

namespace Sys2Proof.Machine

/-- The effect of a command on the state without its queue. -/
def exec (i : Instr) (s : State) : Host.Outcome State Fault Refusal :=
  match i with
  | .sqTailDoorbell fn sqid tail entries => Sys2Proof.Machine.execSqTailDoorbell fn sqid tail entries s
  | .cqHeadDoorbell fn cqid head => Sys2Proof.Machine.execCqHeadDoorbell fn cqid head s
  | .arbitrationRound => Sys2Proof.Machine.execArbitrationRound s
  | .commandStarted ctx => Sys2Proof.Machine.execCommandStarted ctx s
  | .completionPosted fn sqid => Sys2Proof.Machine.execCompletionPosted fn sqid s
  | .completionPostingWait fn sqid => Sys2Proof.Machine.execCompletionPostingWait fn sqid s
  | .read ctx mem => Sys2Proof.Machine.execRead ctx s mem
  | .readDataTransferred ctx => Sys2Proof.Machine.execReadDataTransferred ctx s
  | .write ctx => Sys2Proof.Machine.execWrite ctx s
  | .zoneAppend ctx => Sys2Proof.Machine.execZoneAppend ctx s
  | .writeZeroes ctx => Sys2Proof.Machine.execWriteZeroes ctx s
  | .verify ctx => Sys2Proof.Machine.execVerify ctx s
  | .flush ctx => Sys2Proof.Machine.execFlush ctx s
  | .copy ctx => Sys2Proof.Machine.execCopy ctx s
  | .zoneShape ctx => Sys2Proof.Machine.execZoneShape ctx s
  | .peerCopy ctx => Sys2Proof.Machine.execPeerCopy ctx s
  | .zoneOpen ctx => Sys2Proof.Machine.execZoneOpen ctx s
  | .zoneClose ctx => Sys2Proof.Machine.execZoneClose ctx s
  | .zoneFinish ctx => Sys2Proof.Machine.execZoneFinish ctx s
  | .zoneReset ctx => Sys2Proof.Machine.execZoneReset ctx s
  | .zoneOffline ctx => Sys2Proof.Machine.execZoneOffline ctx s
  | .setZoneDescriptorExtension ctx => Sys2Proof.Machine.execSetZoneDescriptorExtension ctx s
  | .selectAll ctx => Sys2Proof.Machine.execSelectAll ctx s
  | .reportZones ctx => Sys2Proof.Machine.execReportZones ctx s
  | .extendedReportZones ctx => Sys2Proof.Machine.execExtendedReportZones ctx s
  | .deleteIoSubmissionQueue ctx => Sys2Proof.Machine.execDeleteIoSubmissionQueue ctx s
  | .createIoSubmissionQueue ctx => Sys2Proof.Machine.execCreateIoSubmissionQueue ctx s
  | .deleteIoCompletionQueue ctx => Sys2Proof.Machine.execDeleteIoCompletionQueue ctx s
  | .createIoCompletionQueue ctx => Sys2Proof.Machine.execCreateIoCompletionQueue ctx s
  | .identify ctx => Sys2Proof.Machine.execIdentify ctx s
  | .abortCmd ctx => Sys2Proof.Machine.execAbortCmd ctx s
  | .asynchronousEventRequest ctx => Sys2Proof.Machine.execAsynchronousEventRequest ctx s
  | .namespaceCreate ctx => Sys2Proof.Machine.execNamespaceCreate ctx s
  | .namespaceDelete ctx => Sys2Proof.Machine.execNamespaceDelete ctx s
  | .namespaceAttach ctx => Sys2Proof.Machine.execNamespaceAttach ctx s
  | .namespaceDetach ctx => Sys2Proof.Machine.execNamespaceDetach ctx s
  | .formatNvm ctx => Sys2Proof.Machine.execFormatNvm ctx s
  | .firmwareImageDownload ctx => Sys2Proof.Machine.execFirmwareImageDownload ctx s
  | .firmwareCommit ctx => Sys2Proof.Machine.execFirmwareCommit ctx s
  | .firmwareActivation ctx => Sys2Proof.Machine.execFirmwareActivation ctx s
  | .activationDrainTimeout => Sys2Proof.Machine.execActivationDrainTimeout s
  | .secondaryControllerAssign ctx => Sys2Proof.Machine.execSecondaryControllerAssign ctx s
  | .secondaryControllerOnline ctx => Sys2Proof.Machine.execSecondaryControllerOnline ctx s
  | .secondaryControllerOffline ctx => Sys2Proof.Machine.execSecondaryControllerOffline ctx s
  | .nvmeMiSend ctx => Sys2Proof.Machine.execNvmeMiSend ctx s
  | .nvmeMiReceive ctx => Sys2Proof.Machine.execNvmeMiReceive ctx s
  | .installRootTransportKey ctx => Sys2Proof.Machine.execInstallRootTransportKey ctx s
  | .loadFunctionTransportKey ctx blob => Sys2Proof.Machine.execLoadFunctionTransportKey ctx blob s
  | .loadSlot ctx blob => Sys2Proof.Machine.execLoadSlot ctx blob s
  | .eraseSlot ctx => Sys2Proof.Machine.execEraseSlot ctx s
  | .slotStatus ctx => Sys2Proof.Machine.execSlotStatus ctx s
  | .securityProtocolList ctx => Sys2Proof.Machine.execSecurityProtocolList ctx s
  | .resumeContinue ctx => Sys2Proof.Machine.execResumeContinue ctx s
  | .resumeDiscard ctx => Sys2Proof.Machine.execResumeDiscard ctx s
  | .getFeatures ctx => Sys2Proof.Machine.execGetFeatures ctx s
  | .setTenantShare ctx => Sys2Proof.Machine.execSetTenantShare ctx s
  | .setThermalGrace ctx => Sys2Proof.Machine.execSetThermalGrace ctx s
  | .setDetourPolicy ctx => Sys2Proof.Machine.execSetDetourPolicy ctx s
  | .setTicketedAppend ctx => Sys2Proof.Machine.execSetTicketedAppend ctx s
  | .setMirrorMode ctx => Sys2Proof.Machine.execSetMirrorMode ctx s
  | .setVolatileWriteCache ctx => Sys2Proof.Machine.execSetVolatileWriteCache ctx s
  | .setPowerManagement ctx => Sys2Proof.Machine.execSetPowerManagement ctx s
  | .setHostControlledThermalManagement ctx => Sys2Proof.Machine.execSetHostControlledThermalManagement ctx s
  | .setTemperatureThreshold ctx => Sys2Proof.Machine.execSetTemperatureThreshold ctx s
  | .getLogPage ctx => Sys2Proof.Machine.execGetLogPage ctx s
  | .freezeLog ctx => Sys2Proof.Machine.execFreezeLog ctx s
  | .zonePhysicalUsageLog ctx => Sys2Proof.Machine.execZonePhysicalUsageLog ctx s
  | .blockWearLog ctx => Sys2Proof.Machine.execBlockWearLog ctx s
  | .eventRecorderLog ctx => Sys2Proof.Machine.execEventRecorderLog ctx s
  | .peerRecoveryLog ctx => Sys2Proof.Machine.execPeerRecoveryLog ctx s
  | .holdUpHealthLog ctx => Sys2Proof.Machine.execHoldUpHealthLog ctx s
  | .readMarginHistogramLog ctx => Sys2Proof.Machine.execReadMarginHistogramLog ctx s
  | .flr fn => Sys2Proof.Machine.execFlr fn s
  | .vfDisable port numVfs => Sys2Proof.Machine.execVfDisable port numVfs s
  | .vfEnable port numVfs => Sys2Proof.Machine.execVfEnable port numVfs s
  | .controllerReset fn => Sys2Proof.Machine.execControllerReset fn s
  | .controllerEnable fn => Sys2Proof.Machine.execControllerEnable fn s
  | .shutdownNotification fn => Sys2Proof.Machine.execShutdownNotification fn s
  | .perstN port => Sys2Proof.Machine.execPerstN port s
  | .squashDone fn => Sys2Proof.Machine.execSquashDone fn s
  | .fallBackSquash fn bufs => Sys2Proof.Machine.execFallBackSquash fn s bufs
  | .hostPhyPllLoss port => Sys2Proof.Machine.execHostPhyPllLoss port s
  | .queueReHoming fn sqid cluster => Sys2Proof.Machine.execQueueReHoming fn sqid cluster s
  | .zeFblPush m v => Sys2Proof.Machine.execZeFblPush m v s
  | .framePacked ctx => Sys2Proof.Machine.execFramePacked ctx s
  | .granaryApply ctx => Sys2Proof.Machine.execGranaryApply ctx s
  | .granarySpaceObtained => Sys2Proof.Machine.execGranarySpaceObtained s
  | .zoneTableCheckpoint => Sys2Proof.Machine.execZoneTableCheckpoint s
  | .cipherUnitDone ctx unit => Sys2Proof.Machine.execCipherUnitDone ctx unit s
  | .shadowPendingTimeout slot => Sys2Proof.Machine.execShadowPendingTimeout slot s
  | .ciKwLoad m => Sys2Proof.Machine.execCiKwLoad m s
  | .ciKwErase m => Sys2Proof.Machine.execCiKwErase m s
  | .ciKsCtrWrite m hi => Sys2Proof.Machine.execCiKsCtrWrite m hi s
  | .ciKsCeilWrite m hi => Sys2Proof.Machine.execCiKsCeilWrite m hi s
  | .descriptorPost ch d who => Sys2Proof.Machine.execDescriptorPost ch d who s
  | .dieIssue ch die => Sys2Proof.Machine.execDieIssue ch die s
  | .tokenGrant => Sys2Proof.Machine.execTokenGrant s
  | .tokenWaitTimeout ch die => Sys2Proof.Machine.execTokenWaitTimeout ch die s
  | .statusPoll ch die shows => Sys2Proof.Machine.execStatusPoll ch die shows s
  | .operationResume ch die => Sys2Proof.Machine.execOperationResume ch die s
  | .pageReadDone ch die => Sys2Proof.Machine.execPageReadDone ch die s
  | .softReadDone ch die => Sys2Proof.Machine.execSoftReadDone ch die s
  | .calibrationReadDone ch die counts => Sys2Proof.Machine.execCalibrationReadDone ch die counts s
  | .programPassDone ch die ok => Sys2Proof.Machine.execProgramPassDone ch die ok s
  | .eraseDone ch die ok => Sys2Proof.Machine.execEraseDone ch die ok s
  | .dumpProgramDone ch die ok => Sys2Proof.Machine.execDumpProgramDone ch die s ok
  | .dieOperationDone ch die step => Sys2Proof.Machine.execDieOperationDone ch die s step
  | .dieTemperatureRead ch die temp => Sys2Proof.Machine.execDieTemperatureRead ch die temp s
  | .operationTimeout ch die => Sys2Proof.Machine.execOperationTimeout ch die s
  | .scCancel m ch tag => Sys2Proof.Machine.execScCancel m ch tag s
  | .scCtlRun m ch => Sys2Proof.Machine.execScCtlRun m ch s
  | .scUcDataWrite m ch v => Sys2Proof.Machine.execScUcDataWrite m ch v s
  | .flashDomainPowered k => Sys2Proof.Machine.execFlashDomainPowered k s
  | .channelInitDone ch dies => Sys2Proof.Machine.execChannelInitDone ch dies s
  | .initLimitExpired ch => Sys2Proof.Machine.execInitLimitExpired ch s
  | .hardDecodeDone tag errors stamp => Sys2Proof.Machine.execHardDecodeDone tag errors stamp s
  | .softDecodeDone tag ok stamp => Sys2Proof.Machine.execSoftDecodeDone tag ok stamp s
  | .stripeRebuildDone tag ok margins => Sys2Proof.Machine.execStripeRebuildDone tag ok s margins
  | .ldEwqPop m => Sys2Proof.Machine.execLdEwqPop m s
  | .detourLateTest tag cross => Sys2Proof.Machine.execDetourLateTest tag s cross
  | .detourAssembled tag stamp => Sys2Proof.Machine.execDetourAssembled tag s stamp
  | .migrationMoveDone nsid zone => Sys2Proof.Machine.execMigrationMoveDone nsid zone s
  | .termiteMoveStart nsid zone target duty => Sys2Proof.Machine.execTermiteMoveStart nsid zone target duty s
  | .termiteMoveDone nsid zone => Sys2Proof.Machine.execTermiteMoveDone nsid zone s
  | .patrol band margins => Sys2Proof.Machine.execPatrol band margins s
  | .ageRefresh nsid zone => Sys2Proof.Machine.execAgeRefresh nsid zone s
  | .lineHalfPeriod us => Sys2Proof.Machine.execLineHalfPeriod us s
  | .lineLossDetected mv us => Sys2Proof.Machine.execLineLossDetected s mv us
  | .bo1Crossed mv => Sys2Proof.Machine.execBo1Crossed mv s
  | .bo2Crossed mv => Sys2Proof.Machine.execBo2Crossed mv s
  | .huLineLow ns => Sys2Proof.Machine.execHuLineLow ns s
  | .trip sensor temp => Sys2Proof.Machine.execTrip sensor temp s
  | .dumpEnd => Sys2Proof.Machine.execDumpEnd s
  | .holdUpCompletedReset mv => Sys2Proof.Machine.execHoldUpCompletedReset mv s
  | .holdUpTestStart v0 => Sys2Proof.Machine.execHoldUpTestStart v0 s
  | .huTestStart m v0 => Sys2Proof.Machine.execHuTestStart m v0 s
  | .holdUpTestEnd v1 us => Sys2Proof.Machine.execHoldUpTestEnd v1 s us
  | .holdUpTestResult => Sys2Proof.Machine.execHoldUpTestResult s
  | .mirrorPartnerLost ms => Sys2Proof.Machine.execMirrorPartnerLost s ms
  | .mirrorPartnerRestored => Sys2Proof.Machine.execMirrorPartnerRestored s
  | .ownerLost node ms => Sys2Proof.Machine.execOwnerLost node s ms
  | .orphanPullTimeout => Sys2Proof.Machine.execOrphanPullTimeout s
  | .plCtlEn m link v => Sys2Proof.Machine.execPlCtlEn m link v s
  | .negotiationSucceeds link rate lanes peerFecOff => Sys2Proof.Machine.execNegotiationSucceeds link rate lanes peerFecOff s
  | .trainingTimeout link => Sys2Proof.Machine.execTrainingTimeout link s
  | .sessionLossTimeout link => Sys2Proof.Machine.execSessionLossTimeout link s
  | .linkLoss link us fec => Sys2Proof.Machine.execLinkLoss link s us fec
  | .retrain m link => Sys2Proof.Machine.execRetrain m link s
  | .keepaliveTimer link => Sys2Proof.Machine.execKeepaliveTimer link s
  | .replayTimer link node => Sys2Proof.Machine.execReplayTimer link node s
  | .sessionIdleClose link node => Sys2Proof.Machine.execSessionIdleClose link node s
  | .peerPhyPllLoss => Sys2Proof.Machine.execPeerPhyPllLoss s
  | .keepalive link f => Sys2Proof.Machine.execKeepalive link f s
  | .ack link f => Sys2Proof.Machine.execAck link f s
  | .nak link f => Sys2Proof.Machine.execNak link f s
  | .discover link f neighbours => Sys2Proof.Machine.execDiscover link f neighbours s
  | .discoverReply link f neighbours => Sys2Proof.Machine.execDiscoverReply link f neighbours s
  | .timeSyncInterval => Sys2Proof.Machine.execTimeSyncInterval s
  | .timeSync link f t1 => Sys2Proof.Machine.execTimeSync link f t1 s
  | .timeReply link f t1 t2 t3 => Sys2Proof.Machine.execTimeReply link f t1 t2 t3 s
  | .holdupNotice link f cause tb => Sys2Proof.Machine.execHoldupNotice link f cause s tb
  | .mirrorData link f page => Sys2Proof.Machine.execMirrorData link f page s
  | .mirrorState link f page => Sys2Proof.Machine.execMirrorState link f page s
  | .mirrorAck link f offset => Sys2Proof.Machine.execMirrorAck link f offset s
  | .mirrorRelease link f offsets => Sys2Proof.Machine.execMirrorRelease link f offsets s
  | .orphanPull link f => Sys2Proof.Machine.execOrphanPull link f s
  | .orphanData link f page => Sys2Proof.Machine.execOrphanData link f page s
  | .copyReq link f nsid slba n cancel ctx => Sys2Proof.Machine.execCopyReq link f nsid slba n cancel s ctx
  | .copyData link f ctx block => Sys2Proof.Machine.execCopyData link f ctx block s
  | .copyEnd link f ctx st => Sys2Proof.Machine.execCopyEnd link f ctx st s
  | .dramRefresh => Sys2Proof.Machine.execDramRefresh s
  | .mr4Read temps => Sys2Proof.Machine.execMr4Read temps s
  | .weevilRead sram region err => Sys2Proof.Machine.execWeevilRead sram region err s
  | .retire m => Sys2Proof.Machine.execRetire m s
  | .reinstate m => Sys2Proof.Machine.execReinstate m s
  | .dmZeroGo m => Sys2Proof.Machine.execDmZeroGo m s
  | .zeroingDone => Sys2Proof.Machine.execZeroingDone s
  | .loopbackCompare m => Sys2Proof.Machine.execLoopbackCompare m s
  | .loopbackDone stored margin => Sys2Proof.Machine.execLoopbackDone stored margin s
  | .modeRegisterWrite m v => Sys2Proof.Machine.execModeRegisterWrite m v s
  | .miErrPop m => Sys2Proof.Machine.execMiErrPop m s
  | .bufAllocate owner size p5 spill rd => Sys2Proof.Machine.execBufAllocate owner size p5 spill rd s
  | .requestWaitTimeout pool idx => Sys2Proof.Machine.execRequestWaitTimeout pool idx s
  | .lrReq m v => Sys2Proof.Machine.execLrReq m v s
  | .bufFree owner handle => Sys2Proof.Machine.execBufFree owner handle s
  | .bufHandOff owner handle dest => Sys2Proof.Machine.execBufHandOff owner handle dest s
  | .bufShare owner handle n => Sys2Proof.Machine.execBufShare owner handle n s
  | .bufAddReference owner handle n => Sys2Proof.Machine.execBufAddReference owner handle n s
  | .bufRelease owner handle n => Sys2Proof.Machine.execBufRelease owner handle n s
  | .bufReclaim m handle => Sys2Proof.Machine.execBufReclaim m handle s
  | .mbDoorbell m mb => Sys2Proof.Machine.execMbDoorbell m mb s
  | .mbAck m mb => Sys2Proof.Machine.execMbAck m mb s
  | .evSw m v => Sys2Proof.Machine.execEvSw m v s
  | .eventRecord => Sys2Proof.Machine.execEventRecord s
  | .cricketKick m w v => Sys2Proof.Machine.execCricketKick m w v s
  | .cricketStage1 w => Sys2Proof.Machine.execCricketStage1 w s
  | .cricketStage2 w => Sys2Proof.Machine.execCricketStage2 w s
  | .cricketStage3 w => Sys2Proof.Machine.execCricketStage3 w s
  | .registerWrite m addr v => Sys2Proof.Machine.execRegisterWrite m addr v s
  | .registerParityMismatch fn offset => Sys2Proof.Machine.execRegisterParityMismatch fn offset s
  | .windowCopyOutVoted offset cp value => Sys2Proof.Machine.execWindowCopyOutVoted offset cp value s
  | .clkSelWrite m d v => Sys2Proof.Machine.execClkSelWrite m d v s
  | .handoverForced d => Sys2Proof.Machine.execHandoverForced d s
  | .xaFault => Sys2Proof.Machine.execXaFault s
  | .rootPllFault => Sys2Proof.Machine.execRootPllFault s
  | .fircFault => Sys2Proof.Machine.execFircFault s
  | .sircFault => Sys2Proof.Machine.execSircFault s
  | .fircReady => Sys2Proof.Machine.execFircReady s
  | .fircRestartTimeout => Sys2Proof.Machine.execFircRestartTimeout s
  | .referenceFallbackRelock => Sys2Proof.Machine.execReferenceFallbackRelock s
  | .pllReady pll => Sys2Proof.Machine.execPllReady pll s
  | .xaReady c1 => Sys2Proof.Machine.execXaReady c1 s
  | .clkPllWrite m v => Sys2Proof.Machine.execClkPllWrite m v s
  | .ffCfgWrite m v => Sys2Proof.Machine.execFfCfgWrite m v s
  | .pwReqDoze m => Sys2Proof.Machine.execPwReqDoze m s
  | .pwReqCellar m => Sys2Proof.Machine.execPwReqCellar m s
  | .pwReqQuiesce m => Sys2Proof.Machine.execPwReqQuiesce m s
  | .pwReqHalt m => Sys2Proof.Machine.execPwReqHalt m s
  | .cellarEntryDone c0 => Sys2Proof.Machine.execCellarEntryDone c0 s
  | .dozeWake src => Sys2Proof.Machine.execDozeWake src s
  | .cellarWake src => Sys2Proof.Machine.execCellarWake src s
  | .quiesceDone => Sys2Proof.Machine.execQuiesceDone s
  | .pwSwWrite m k v => Sys2Proof.Machine.execPwSwWrite m k v s
  | .rstHoldWrite m k v => Sys2Proof.Machine.execRstHoldWrite m k v s
  | .domainStateTimeout k => Sys2Proof.Machine.execDomainStateTimeout k s
  | .ftCapLimWrite m v => Sys2Proof.Machine.execFtCapLimWrite m v s
  | .sensorSample temps => Sys2Proof.Machine.execSensorSample temps s
  | .thermalTick => Sys2Proof.Machine.execThermalTick s
  | .graceExpired => Sys2Proof.Machine.execGraceExpired s
  | .compensationUpdate => Sys2Proof.Machine.execCompensationUpdate s
  | .lockstepMismatch => Sys2Proof.Machine.execLockstepMismatch s
  | .nvmeMiRequest arrived => Sys2Proof.Machine.execNvmeMiRequest arrived s
  | .readNvmeMiDataStructure => Sys2Proof.Machine.execReadNvmeMiDataStructure s
  | .nvmSubsystemHealthStatusPoll => Sys2Proof.Machine.execNvmSubsystemHealthStatusPoll s
  | .controllerHealthStatusPoll => Sys2Proof.Machine.execControllerHealthStatusPoll s
  | .configurationSet => Sys2Proof.Machine.execConfigurationSet s
  | .configurationGet => Sys2Proof.Machine.execConfigurationGet s
  | .vpdRead => Sys2Proof.Machine.execVpdRead s
  | .vpdWrite => Sys2Proof.Machine.execVpdWrite s
  | .nvmeMiReset => Sys2Proof.Machine.execNvmeMiReset s
  | .miPause endpoint => Sys2Proof.Machine.execMiPause endpoint s
  | .miResume endpoint => Sys2Proof.Machine.execMiResume endpoint s
  | .nvmeMiAbort endpoint => Sys2Proof.Machine.execNvmeMiAbort endpoint s
  | .miGetState endpoint => Sys2Proof.Machine.execMiGetState endpoint s
  | .miReplay endpoint => Sys2Proof.Machine.execMiReplay endpoint s
  | .nvmeBasicManagementCommand => Sys2Proof.Machine.execNvmeBasicManagementCommand s
  | .tunnelledAdminCommand => Sys2Proof.Machine.execTunnelledAdminCommand s
  | .programKeyHash => Sys2Proof.Machine.execProgramKeyHash s
  | .revokeKey => Sys2Proof.Machine.execRevokeKey s
  | .requireLms => Sys2Proof.Machine.execRequireLms s
  | .lockDebug => Sys2Proof.Machine.execLockDebug s
  | .readFuses => Sys2Proof.Machine.execReadFuses s
  | .readBoardSensors => Sys2Proof.Machine.execReadBoardSensors s
  | .boardSensorPoll idx reading => Sys2Proof.Machine.execBoardSensorPoll idx reading s
  | .recoveryDownload typ off bytes last => Sys2Proof.Machine.execRecoveryDownload typ off bytes last s
  | .erWinLatch m bank => Sys2Proof.Machine.execErWinLatch m bank s
  | .erWinAdvance m bank => Sys2Proof.Machine.execErWinAdvance m bank s
  | .erCtlClear m => Sys2Proof.Machine.execErCtlClear m s
  | .standbyPowerUp => Sys2Proof.Machine.execStandbyPowerUp s
  | .secureLbistDone ok => Sys2Proof.Machine.execSecureLbistDone ok s
  | .mainPgRise straps testEn => Sys2Proof.Machine.execMainPgRise straps testEn s
  | .mainPgFall => Sys2Proof.Machine.execMainPgFall s
  | .chipWarmReset cause => Sys2Proof.Machine.execChipWarmReset cause s
  | .nvmSubsystemReset fn => Sys2Proof.Machine.execNvmSubsystemReset fn s
  | .rsReqFirmwareDomainReset m v => Sys2Proof.Machine.execRsReqFirmwareDomainReset m v s
  | .rsReqChipWarmReset m v => Sys2Proof.Machine.execRsReqChipWarmReset m v s
  | .bootVerify => Sys2Proof.Machine.execBootVerify s
  | .avsAcknowledge => Sys2Proof.Machine.execAvsAcknowledge s
  | .selftestDone failed mbistOk => Sys2Proof.Machine.execSelftestDone failed mbistOk s
  | .dataClassTestDone failed => Sys2Proof.Machine.execDataClassTestDone failed s
  | .recovery bad => Sys2Proof.Machine.execRecovery s bad
  | .deviceReady => Sys2Proof.Machine.execDeviceReady s
  | .minimumRunReached ch die => Sys2Proof.Machine.execMinimumRunReached ch die s
  | .trainingRetry link => Sys2Proof.Machine.execTrainingRetry link s
  | .xbReady => Sys2Proof.Machine.execXbReady s
  | .standbyPowerLoss => Sys2Proof.Machine.execStandbyPowerLoss s
  | .debugSessionStart => Sys2Proof.Machine.execDebugSessionStart s
  | .debugCoreHalt core halt => Sys2Proof.Machine.execDebugCoreHalt core halt s

end Sys2Proof.Machine
end

