-- ==== Sys2Proof/Machine/Idle.lean ====
section
/-! DEFINITION. What happens with no command waiting: a tick of the time base, and the duties that firmware carries out of its own accord
(01_architecture.md R23, 02_zones.md R56, R73, 06_cipher.md R177, 08_flash_integrity.md R231, R237, R239, R242, 12_memory.md R357;
notes/assumptions/4.md). -/

namespace Sys2Proof.Machine

/-- Whether firmware is at work on the zones and the flash: the device has recovered and serves, or starts. -/
def firmwareRuns (s : State) : Bool := s.gr.recovered && (inService s || s.pw.mode == mLoad) && !s.pw.waking

/-! ### Lost tables (R357) -/

/-- Indexes rebuilt from the frame headers, without the fill record where the zone table entry is lost as well, and zone table entries from the last
checkpoint and the deltas; what waited for them goes on. -/
def rebuildLost (s : State) : State :=
  let ks := s.ze.zones.filterMap (fun z => if z.2.index.lost || z.2.rebuilding then some z.1 else none)
  if ks.isEmpty then s else
  s |> forEach ks (fun k => modZone k (fun z => { z with
         index := if !z.index.lost then z.index else if z.rebuilding then rebuildBare z else rebuildIndex z, rebuilding := false })) |> runHeld

/-! ### Bands (R23, R56, R73, R239) -/

/-- Domains for whose bands commands wait. -/
def waitedDomains (s : State) : List Nat :=
  (s.ze.bandWait.filterMap (fun c => (ctxOf s c).bind (fun x => (zoneAt s x.e.nsid (eSlba x.e)).map (fun k => (shapeOf s x.e.nsid (zoneOf s k)).domain)))).eraseDups

/-- The least-worn free band of a domain that is not erased, while none of its bands is being erased. -/
def bandToErase (s : State) (d : Nat) : Option Nat :=
  let bs := bandsIn s d
  if bs.any (fun b => (bandOf s b).erasing) then none
  else leastWorn s (bs.filter (fun b => bandFree (bandOf s b) && !(bandOf s b).erased && (rowOf s (bandRow s b)).failedPos.isEmpty && !bandRead s b))

/-- The erase of a band begun: one descriptor for each of its die-blocks. -/
def eraseBand (b : Nat) (s : State) : State :=
  forEach (bandDies s b) (fun dk t =>
    postBy (dk / 64) { op := 0x20, die := dk % 64, queue := 2, block := servingBlk t dk (bandBlkIdx t b), tag := innerTag t.fl.nextTag } .firmware
      (onFl (fun f => { f with nextTag := f.nextTag + 1 }) t)) s

/-- Spares appointed to an index of a bound band or of a band being erased, or to a metadata or Garret index, erased in the failed die-block's place
(R236). -/
def eraseSpares (s : State) : State :=
  let due (k : Nat) (b : DieBlk) : Bool := !s.gr.holdup && b.st == 0 && (match b.serves with
    | none => false
    | some i => decide (i < 16) || (match bandOfBlk s (k / 4096) (k % 4096) with
      | some (n, _) => (bandOf s n).zone.isSome || (bandOf s n).erasing
      | none => false)) && !dieFailed s (k / 4096) && dieTakes s (k / 262144) (k / 4096 % 64) &&
    !s.fl.heldPosts.any (fun p => p.1 == k / 262144 && p.2.1.die == k / 4096 % 64 && p.2.1.op == 0x20 && p.2.1.block == k % 4096)
  forEach (s.fl.blks.filterMap (fun b => if due b.1 b.2 then some b.1 else none)) (fun k t =>
    postBy (k / 262144) { op := 0x20, die := k / 4096 % 64, queue := 2, block := k % 4096, tag := innerTag t.fl.nextTag } .firmware
      (onFl (fun f => { f with nextTag := f.nextTag + 1 }) t)) s

/-- Commands that wait for a band are served, and a band is erased for those that cannot be. -/
def supplyBands (s : State) : State :=
  if s.ze.bandWait.isEmpty then s else
  let s := serveBandWait s
  forEach (waitedDomains s) (fun d t => whenSome (bandToErase t d) eraseBand t) s

/-- Bands of a domain in ascending order of wear points, the lower number of equal ones first (R239). -/
def byWear (s : State) (bs : List Nat) : List Nat :=
  sortBy (fun a b => decide (bandWear s a < bandWear s b ∨ (bandWear s a = bandWear s b ∧ a ≤ b))) bs

/-- A free-band list stocked while it is below LOW_MARK or empty: the domain's erased bands that it lacks, least worn first, up to 256 in all. -/
def stockList (d : Nat) (s : State) : State :=
  let l := (domOf s d).fbl
  if !l.isEmpty && rdf s (fblRef d) 24 16 ≤ l.length then s else
  let more := byWear s ((bandsFor s d true).filter (fun b => !l.contains b))
  onlyIf (!more.isEmpty) (modDom d (fun x => { x with fbl := l ++ more.take (256 - l.length) })) s

/-! ### Moves, ceilings, thresholds -/

/-- The zones of retired bands moved, or made Read Only, as soon as that can be (R237). -/
def leaveRetired (s : State) : State :=
  forEach (s.ze.bands.filterMap (fun b => if b.2.retired && b.2.zone.isSome then some b.1 else none)) failBand s

/-- Tracked sets marked DIRTY recalibrated (R231). -/
def recalibrateDirty (s : State) : State :=
  forEach (s.fl.thr.filterMap (fun t => if t.2.dirty then some t.1 else none)) (fun k => recalibrate (k / 4096) (k % 4096)) s

/-- A zone table checkpoint at least every 60 s (10_granary.md R283). -/
def keepCkpt (s : State) : State :=
  let due := match s.gr.ckpt with
    | some c => decide (c.time + 60000000000 ≤ s.ck.tb)
    | none => false
  onlyIf due checkpoint s

/-- Firmware's duties in turn. -/
def firmwareDuties (s : State) : State :=
  let s := reinstateList s
  if !firmwareRuns s then s else
  s |> rebuildLost
    |> retireDuePages
    |> placeLate
    |> eraseSpares
    |> supplyBands
    |> (fun t => forEach (t.ze.domains.map (fun d => d.1)) stockList t)
    |> leaveRetired
    |> migrateAll
    |> (fun t => forEach (t.ci.slots.map (fun k => k.1)) keepCeil t)
    |> recalibrateDirty
    |> keepCkpt
    |> settleResumes
    |> serveChunks
    |> (fun t => forEach (chunkLive t) sendChunk t)
    |> persistAll

/-- The watchdogs that count move on by the tick (14_control.md R403, R409). -/
def dogTick (s : State) : State :=
  forEach (List.range 5) (fun w t => onlyIf (dogCounts s w) (fun t =>
    let d := dogOf t w
    setDog w { d with elapsed := Nat.min 65535 (d.elapsed + (d.ns + 20) / 1000000), ns := (d.ns + 20) % 1000000 } t) t) s

/-- A step with no command waiting: a tick, posts of issuers no longer held, and firmware's duties. -/
def idle (s : State) : State := s |> onlyIf (!s.ck.tbStopped) dogTick |> idleTick |> releaseHeld |> pressure |> firmwareDuties

end Sys2Proof.Machine
end

