-- ==== Sys2Proof/Machine/Wire.lean ====
section
/-! DEFINITION. The bytes of a Balwen frame on its link: header, message fields, payload, trailer and, in Ethernet mode, the IEEE 802.3 frame around it
(11_balwen.md R323 to R325, R333). -/

namespace Sys2Proof.Machine

/-- MSG of a frame, bytes 24 to 55: of MIRROR_DATA as R333 lays it out; of the other types, whose layout the spec does not give, the model's eight bytes
a field (DESIGN CHOICE, notes/assumptions/34.md). -/
def msgBytes (f : TxFrame) : List Byte :=
  if f.typ = tMirrorData then
    leBytes 4 (f.msg.getD 0 0) ++ leBytes 1 (f.msg.getD 1 0) ++ leBytes 3 0 ++ leBytes 8 (f.msg.getD 2 0) ++ leBytes 16 (f.msg.getD 3 0)
  else bytesAt (f.msg.flatMap (leBytes 8)) 0 32

/-- Bytes 0 to 59 of a header, and the header with HCRC (R324). -/
def headerBody (f : TxFrame) : List Byte :=
  leBytes 1 1 ++ leBytes 1 f.typ ++ leBytes 1 (f.cls % 4 + 4 * (!f.seqd).toNat) ++ leBytes 1 (f.ttl % 16) ++ leBytes 4 (f.dst % 262144) ++
  leBytes 4 (f.src % 262144) ++ leBytes 4 f.seq ++ leBytes 4 f.ack ++ leBytes 2 f.len ++ leBytes 2 (f.credit % 4096 + 4096 * (f.creditClass % 4)) ++
  msgBytes f ++ leBytes 4 0
def headerBytes (f : TxFrame) : List Byte := headerBody f ++ leBytes 4 (crc32c (headerBody f))

/-- The payload of a frame, of LEN bytes: an LBA, a page of ciphertext, or a list of nodes or offsets. -/
def payloadBytes (f : TxFrame) : List Byte :=
  bytesAt (if f.typ = tCopyData then f.block
    else if f.typ = tMirrorData || f.typ = tOrphanData then Config.gcmData f.sealed.key (sealIv f.sealed) (sealPlain f.sealed)
    else f.msg.flatMap (leBytes 4)) 0 f.len

/-- The payload padded to whole 16 bytes, and the trailer with PCRC (R325). -/
def tailBytes (f : TxFrame) : List Byte :=
  if f.len = 0 then [] else
  let p := bytesAt (payloadBytes f) 0 (16 * ceilDiv f.len 16)
  p ++ leBytes 4 (crc32c p) ++ List.replicate 12 0#8

/-- A whole Balwen frame. -/
def balwenBytes (f : TxFrame) : List Byte := headerBytes f ++ tailBytes f

/-- A number's bytes as IEEE 802.3 sends addresses: the highest first. -/
def beBytes (n v : Nat) : List Byte := (leBytes n v).reverse

/-- The FCS of IEEE 802.3: its CRC-32, which that standard defines (PRESUMED, notes/assumptions/34.md). -/
def fcsStep (c : Nat) (b : Byte) : Nat :=
  (List.range 8).foldl (fun x _ => if x % 2 = 1 then Nat.xor (x / 2) 0xEDB88320 else x / 2) (Nat.xor c b.toNat)
def fcsOf (l : List Byte) : Nat := Nat.xor (l.foldl fcsStep 0xFFFFFFFF) 0xFFFFFFFF

/-- The Ethernet frame that carries it from link `k` of this device (R323). -/
def etherBody (s : State) (k : Nat) (f : TxFrame) : List Byte :=
  beBytes 6 f.dmac ++ beBytes 6 (macOf s (ownNode s) k) ++ beBytes 2 f.etype ++ balwenBytes f
def etherBytes (s : State) (k : Nat) (f : TxFrame) : List Byte := etherBody s k f ++ leBytes 4 (fcsOf (etherBody s k f))

/-- What a link sends for a frame. -/
def wireBytes (s : State) (k : Nat) (f : TxFrame) : List Byte := if linkEth s k then etherBytes s k f else balwenBytes f

end Sys2Proof.Machine
end

