-- ==== Sys2Proof/Machine/Views.lean ====
section
/-! DEFINITION. What a read of a register returns and what it changes (00_scope.md R9, R10, R12, R13 and the register tables of the chapters):
the stored bits of its RW, RWL, RW1C and RW1S fields, and for its RO and RC fields what the device holds there. No command of the table is a
plain read, so no step uses this; the reads that the table names as commands are in Machine/Integrity.lean and Machine/Attic.lean. -/

namespace Sys2Proof.Machine

/-- A value at a bit place. -/
def at_ (lo v : Nat) : Nat := v * 2 ^ lo
def flag (lo : Nat) (b : Bool) : Nat := at_ lo b.toNat

/-! ### The command engine (03_queues.md R113, 04_tenants.md R137) -/

/-- Contexts from number `a` up to `b` that are not FREE. -/
def ctxsIn (s : State) (a b : Nat) : Nat := (s.ce.ctxs.filter (fun p => decide (a ≤ p.1 ∧ p.1 < b))).length

/-- CE_FN_STAT of the function that CE_FN_SEL names. -/
def fnStat (s : State) : Nat :=
  let fn := Nat.min 2051 (rdf s R.ceFnSel 11 0)
  let f := fnOf s fn
  f.gen % 256 + at_ 8 (s.ce.ctxs.filter (fun p => p.2.fn == fn && decide (p.1 < nCtx))).length + flag 29 f.squash.isSome +
  flag 30 (f.inForce.weight == 0) +
  flag 31 ((f.inForce.iopsCap != 0 && decide (f.cmdBucket ≤ 0)) || (f.inForce.bwCap != 0 && decide (f.byteBucket ≤ 0)))

/-- CE_FN_ARB; no weight is in force before the rounds begin (R130). -/
def fnArb (s : State) : Nat :=
  let f := fnOf s (Nat.min 2051 (rdf s R.ceFnSel 11 0))
  f.deficit % 4096 + at_ 16 (if s.gr.recovered then f.inForce.weight else 0)

/-! ### Key slots (06_cipher.md R188) -/

/-- CI_KS_STAT and CI_KS_INFL of the slot that CI_KS_SEL names. -/
def ksStat (s : State) (k : Nat) : Nat :=
  let x := slotOf s k
  flag 0 x.loaded + flag 1 x.shadow.isSome + flag 2 x.exhausted + flag 3 x.warned +
  flag 4 (s.ce.ctxs.any (fun p => p.2.waitCeil && (shapeOf s p.2.nsid (zoneOf s (zKey p.2.nsid p.2.zone))).keySlot == k))
def ksInfl (s : State) (k : Nat) : Nat :=
  let x := slotOf s k
  holders s k x.keyGen + ((x.old.filter (fun o => o.1 != x.keyGen)).map (fun o => holders s k o.1)).sum

/-! ### Flash (07_flash_channels.md R216) -/

/-- SC_STAT.STATE. -/
def scCode : ScState → Nat
  | .off => 0
  | .halted => 1
  | .init => 2
  | .running => 3
  | .parked => 4
  | .holdup => 5
  | .stopped => 6

/-- SC_Q_STAT of the die that SC_Q_SEL names. -/
def qStat (s : State) (ch : Nat) : Nat :=
  let x := dieOf s (64 * ch + rdf s (R.scQSel ch) 5 0)
  let n (q : Nat) : Nat := (x.q.filter (fun e => e.1.queue == q)).length
  n 0 + at_ 8 (n 1) + at_ 12 (n 2) + at_ 16 (n 3) + flag 24 x.susp.isSome

/-! ### Hold-up (10_granary.md R314) -/

def healthCode : Health → Nat
  | .unknown => 0
  | .good => 1
  | .degraded => 2

/-- GR_CFG: before LOAD has set the Granary's size nothing of it is in force. A G that is no multiple of 256 MiB shows rounded down (DESIGN CHOICE,
notes/assumptions/19.md). -/
def grCfgView (s : State) : Nat := s.gr.size / 256 + flag 8 (s.gr.size != 0 && writeThrough s) + flag 9 s.gr.limited

/-- HU_STAT. -/
def huStatView (s : State) : Nat :=
  flag 0 s.gr.huIn + flag 1 s.gr.holdup + at_ 4 s.gr.huCause + at_ 8 s.gr.dumpSt + at_ 12 s.gr.armed + flag 13 s.gr.armedOk

/-! ### Balwen (11_balwen.md R343) -/

def linkCode : LinkState → Nat
  | .off => 0
  | .training => 1
  | .up => 2
  | .fault => 3

/-- PL_STAT_n. -/
def plStatView (s : State) (n : Nat) : Nat :=
  let l := linkOf s n
  linkCode l.st + at_ 2 l.rate + at_ 4 l.width + flag 7 l.fec + at_ 8 (if linkEth s n then 0 else l.peer) + at_ 26 l.fault

/-! ### Memory errors (12_memory.md R368) -/

/-- MI_ERR_INFO of the head record. -/
def errInfo (s : State) : Nat := match s.dm.fifo with
  | [] => 0
  | r :: _ => flag 0 r.sram + flag 1 r.ue + flag 2 r.recur + at_ 4 r.src + at_ 8 r.ch + at_ 10 r.sub + at_ 12 r.dev + at_ 16 r.region + at_ 31 1

/-! ### Clocks and heat (15_clocks.md R430, 16_power_thermal.md R456) -/

/-- CLK_STAT. -/
def clkStatView (c : Clocks) : Nat :=
  flag 0 c.fircRdy + flag 1 c.sircRdy + flag 2 c.xaRdy + flag 3 c.xbRdy + flag 4 c.rootRdy + flag 5 c.dphyRdy + flag 6 c.pphyRdy +
  ((List.range 4).map (fun n => flag (8 + n) (c.hphyRdy.contains n))).sum + flag 16 c.refFb + flag 17 c.tbFirc

/-- Two bits for each of `n` domains. -/
def twoBits (n : Nat) (t : List (Nat × Nat)) : Nat := ((List.range n).map (fun k => at_ (2 * k) (tget 0 t k % 4))).sum

def thCode : ThState → Nat
  | .normal => 0
  | .grace => 1
  | .enforce => 2

/-- TH_VAL of the sensor that TH_SEL names. -/
def thValView (s : State) : Nat :=
  let n := rdf s R.thSel 4 0
  if 23 < n then 0 else twos 8 (s.pw.temps.getD n 0) + flag 31 (s.pw.faulted.contains n)

/-! ### The Attic (17_attic.md R484) -/

/-- FW_STAT; the Attic runs on ATT_CLK in OFF and CELLAR (R458). -/
def fwStatView (s : State) : Nat :=
  (s.att.runSlot - 1) + at_ 1 ((s.att.sel.head?.map (fun r => r.slot)).getD 0) + at_ 3 s.att.fuses.rollback + flag 10 s.att.fuses.lmsReq +
  flag 11 s.att.fuses.debugLock + flag 12 (s.pw.mode == mOff || s.pw.mode == mCellar)

/-- ER_WSEQ and ER_WIN of a bank. -/
def erWseqView (s : State) (b : Nat) : Nat := match tfind s.att.evrec.latched b with
  | some r => r.seq % 2147483648 + at_ 31 1
  | none => 0
def erWinView (s : State) (b w : Nat) : Nat := match tfind s.att.evrec.latched b with
  | some r => fieldAt (recBytes r) (4 * w) 4
  | none => 0

/-! ### All registers -/

/-- The result of a master's own bank (13_larder.md R380). -/
def bankOf (m : Master) (s : State) : LBank := tget {} s.lr.banks ((lrBank m).getD 16)

/-- The stored bits of a register's fields of some access codes. -/
def storedOf (p : Acc → Bool) (d : RegD) (v : Nat) : Nat := maskTo (d.fields.filter (fun f => p f.acc)) v

/-- What the device holds in a register's RO and RC fields, and in the RW fields that are not kept in the register file. A counter, or a
constant, is its stored value. -/
def heldBits (m : Master) (s : State) (h : Hit) : Nat :=
  let i := h.i
  match h.d.id with
  | .zeCounts => openNow s + at_ 16 (activeNow s)
  | .zeFblStat => (domOf s (rdf s R.zeFblSel 7 0)).fbl.length
  | .ceCtxFree => nCtx - ioCtx - ctxsIn s ioCtx nCtx
  | .ceAdmFree => ioCtx - ctxsIn s 0 ioCtx
  | .ceFrozen => (s.ce.sqs.filter (fun q => q.2.frozen.isSome)).length
  | .ceFnStat => fnStat s
  | .ceFnArb => fnArb s
  | .ciKsStat => ksStat s (rdf s R.ciKsSel 12 0)
  | .ciKsInfl => ksInfl s (rdf s R.ciKsSel 12 0)
  | .ciKsCtr => (slotOf s (rdf s R.ciKsSel 12 0)).ctr
  | .ciKsCeil => (slotOf s (rdf s R.ciKsSel 12 0)).ceil
  | .ciKwStat => flag 1 s.ci.kwRefused
  | .scCtl => flag 1 (wpHigh s i)
  | .scStat => scCode (chanOf s i).st + at_ 8 ((List.range 64).filter (bit (chanOf s i).usable)).length
  | .scDiePres => (chanOf s i).usable
  | .scDieFail => (chanOf s i).failed
  | .scQStat => qStat s i
  | .ftThermLim => thermLim s
  | .ftPool => poolSize s
  | .ftHeld => tokensHeld s + flag 31 s.fl.poolDump
  | .ftPeHeld => s.fl.peHeld
  | .ldEwqStat => s.fl.ewq.length
  | .ldEwqPop => (match s.fl.ewq with
    | [] => 0
    | e :: _ => e.1 + at_ 19 e.2 + at_ 31 1)
  | .dsDomCfg => domRate s (rdf s R.dsDomSel 7 0) + at_ 16 (domDepth s (rdf s R.dsDomSel 7 0))
  | .dsDomStat => domLevel s (rdf s R.dsDomSel 7 0) / 1000
  | .grCfg => grCfgView s
  | .grOcc => segCount s + at_ 16 s.gr.peak
  | .lmStat => flag 0 s.gr.lmLocked + at_ 8 (if s.gr.lmLocked then lmMean s else 0)
  | .huStat => huStatView s
  | .huTest => flag 1 s.gr.testing + at_ 2 (healthCode s.gr.health)
  | .pbFtime => ftimeOf s
  | .pbSess => s.pb.sessions.length
  | .plStat => plStatView s i
  | .dmCap => dmCapMib s
  | .dmRef => flag 0 s.dm.fast + flag 1 s.dm.hot95
  | .dmLbCtl => flag 31 s.dm.lbDone
  | .dmLbErr => tget 0 s.dm.lbErr (2 * rdf s R.dmLaneSel 1 0 + rdf s R.dmLaneSel 2 2)
  | .dmZero => zeroMark s
  | .dmZeroCtl => flag 31 s.dm.zeroDone
  | .dmRetCmd => at_ 16 s.dm.used
  | .miErrStat => s.dm.fifo.length
  | .miErrInfo => errInfo s
  | .miErrAddr => (s.dm.fifo.head?.map (fun r => r.addr)).getD 0
  | .lrPoolStat => poolFree s (rdf s R.lrPoolSel 2 0) + at_ 16 (Nat.min 32767 (tget [] s.lr.queues (rdf s R.lrPoolSel 2 0)).length)
  | .lrPoolCfg => poolCount s (rdf s R.lrPoolSel 2 0)
  | .lrResult => (bankOf m s).result
  | .lrReqStat => flag 0 (bankOf m s).valid + flag 1 (bankOf m s).none + at_ 2 (bankOf m s).reqErr
  | .lrOpStat => flag 0 (bankOf m s).done + at_ 1 (bankOf m s).opErr
  | .sysParStat => flag 1 s.ctl.parGlobal
  | .sysParAddr => s.ctl.parAddr
  | .sysAccAddr => s.ctl.accAddr
  | .sysAccInfo => s.ctl.accClass + flag 3 s.ctl.accWrite + at_ 4 s.ctl.accKind + flag 31 s.ctl.accValid
  | .evClaim => ((coreOf m).map (evClaim s)).getD 0
  | .mbCtl => flag 2 (tget {} s.ctl.boxes i : Mailbox).full
  | .ckStat => (tget {} s.ctl.dogs i : Dog).stage + at_ 16 (tget {} s.ctl.dogs i : Dog).elapsed
  | .clkStat => clkStatView s.ck
  | .clkDstat => twoBits 6 s.ck.dsrc
  | .tb => s.ck.tb
  | .tbSleep => s.ck.tbSleep
  | .clkSel => withCheck (winVal s (clkSelOff i))
  | .pwSw => withCheck (winVal s (pwSwOff i))
  | .rstHold => withCheck (winVal s (rstHoldOff i))
  | .pwMode => s.pw.mode + at_ 4 s.pw.prev + at_ 8 s.pw.cause
  | .pwDom => twoBits 13 s.pw.doms
  | .pwAvs => s.pw.avsTarget
  | .thComp => twos 8 s.pw.comp + at_ 8 (thCode s.pw.th) + at_ 12 s.pw.faulted.length
  | .thVal => thValView s
  | .pwAdmit => admitN s
  | .erStat => s.att.evrec.recs.length
  | .erNewseq => s.att.evrec.newSeq
  | .erDrop => tget 0 s.att.evrec.drops i
  | .erWseq => erWseqView s i
  | .erWin => erWinView s i h.j
  | .fwStat => fwStatView s
  | .rsCause => s.rs.last + flag 16 s.rs.undumped
  | .rsRet => flag 0 s.rs.clean + at_ 1 s.rs.verdict
  | .rsAge => s.rs.age
  | .rsFmask => s.rs.fmask.getD i 0
  | .rsBist => flag 0 s.rs.secOk + flag 1 s.rs.dataRan + flag 2 s.rs.mbistOk
  | _ => storedOf (fun a => a == .ro || a == .rc) h.d (rd s (writeRef m s h))

/-- Registers whose RW fields are not kept in the register file. -/
def heldWhole (id : RegId) : Bool :=
  match id with
  | .ciKsCtr | .ciKsCeil | .dsDomCfg | .clkSel | .pwSw | .rstHold => true
  | _ => false

/-- MB_CFG of MB_00 to MB_15: the fixed receiver and sender, and ACK_IRQ as written (R397, R408); a side that is no core reads 0. -/
def mbCfgView (s : State) (mb ack : Nat) : Nat :=
  (mbRxCore s mb).getD 0 + flag 4 (mbRxAttic s mb) + at_ 8 ((mbTxCore s mb).getD 0) + at_ 16 ack

/-- The value of a register, whatever its reader. Three of them read as the value that is used: CE_QCTX, CE_FN_SEL, and DM_LANE_DLY where no
lane is selected. -/
def regValue (m : Master) (s : State) (h : Hit) : Nat :=
  let v := rd s (writeRef m s h)
  match h.d.id with
  | .ceQctx => Nat.max 1 (bits v 12 0)
  | .ceFnSel => Nat.min 2051 (bits v 11 0)
  | .mbCfg => if h.i < 16 then mbCfgView s h.i (bits v 16 16) else v
  | .dmLaneDly => if 50 < rdf s R.dmLaneSel 13 8 then 0 else storedOf (fun a => a != .wo) h.d v
  | id => if heldWhole id then heldBits m s h
          else storedOf (fun a => a == .rw || a == .rwl || a == .rw1c || a == .rw1s) h.d v + heldBits m s h

/-- What a read returns to a master, of a register that is reached: the fields that admit its class, and zero in the others (R13). -/
def hitValue (m : Master) (s : State) (h : Hit) : Nat :=
  if h.d.blk == .window then
    (if masterCls m == MClass.secure || masterCls m == MClass.priv then regValue m s h else 0)
  else
    let v := maskTo (h.d.fields.filter (fun f => f.who.admits h.i (masterCls m))) (regValue m s h)
    if h.d.wide then (if h.hi then v / 4294967296 else v % 4294967296) else v

/-- A read with a bus error (14_control.md R394). -/
def busError : Nat := 0xFFFFFFFF

/-- The copy of a window register that an address of the diagnostic view names, unvoted (14_control.md R392). -/
def diagView (s : State) (addr : Nat) : Option Nat :=
  let off := addr % 0x4000
  let k := addr % 0x10000 / 0x4000
  if addr / 0x10000 = 0x1004 && k != 0 && isWinOff off then some (withCheck (winCopy s off (k - 1))) else none

/-- What a read of an address of the register space returns (00_scope.md R9, R12, R13, 14_control.md R386, R394): a bus error where no
block is reached, zero for HOST and ENGINE masters, for reserved addresses of a block and where no field admits the class. The diagnostic view of R392,
whose Who the spec does not give, admits PRIV and SECURE; NORMAL reads zero there (DESIGN CHOICE, notes/assumptions/29.md). -/
def regRead (m : Master) (s : State) (addr : Nat) : Nat :=
  if masterCls m == MClass.host || masterCls m == MClass.engine then 0 else
  match diagView s addr with
  | some v => if masterCls m == MClass.secure || masterCls m == MClass.priv then v else 0
  | none =>
    match findReg addr with
    | some h => if reachable s h.d.blk h.i then hitValue m s h else busError
    | none =>
      match blkAt addr with
      | some (b, ch) => if reachable s b ch then 0 else busError
      | none => busError

/-- What a read of a register does to it beyond returning its value: an RC field is cleared (R9), and a window of the recorder or of the
early-warning queue moves on. Only what the device sets after the read, or in its cycle, stays (R10). -/
def readAct (m : Master) (h : Hit) (s : State) : State :=
  match h.d.id with
  | .ciKwStat => onCi (fun c => { c with kwRefused := false }) s
  | .ldEwqPop => ewqPopAct s
  | .grOcc => onGr (fun g => { g with peak := 0 }) s
  | .lrReqStat => whenSome (lrBank m) (fun n => setBank n (fun b => { b with valid := false, none := false, reqErr := 0 })) s
  | .lrOpStat => whenSome (lrBank m) (fun n => setBank n (fun b => { b with done := false, opErr := 0 })) s
  | .sysAccInfo => onCtl (fun c => { c with accClass := 0, accWrite := false, accKind := 0, accValid := false }) s
  | .erWin => if h.j = 0 then erLatchAct h.i s else if h.j = 7 then erAdvanceAct h.i s else s
  | _ => s

/-- One read access of the register space or of a memory (R384): the value and the state after it. A refused read raises event source 461 and one that reaches no
block 462 (R13, R386, R394). No command of the table is a plain read, so no step takes it (notes/assumptions/28.md). -/
def readReg (m : Master) (addr : Nat) (s : State) : State × Nat :=
  if masterSilent s m then (s, busError) else
  if !inRegSpace addr then mapRead m addr s else
  if masterCls m == MClass.host || masterCls m == MClass.engine then (accessEvent m addr false 1 s, 0) else
  -- the diagnostic view has no Who: it is judged as the window itself is (notes/assumptions/29.md)
  if (diagView s addr).isSome then (if masterCls m == MClass.normal then (accessEvent m addr false 1 s, 0) else (s, regRead m s addr)) else
  match findReg addr with
  | some h =>
    if !reachable s h.d.blk h.i then (accessEvent m addr false 2 s, busError)
    else if h.d.blk == .window || h.d.fields.any (fun f => f.who.admits h.i (masterCls m)) then
      (if h.d.blk == .window && masterCls m == MClass.normal then (accessEvent m addr false 1 s, 0)
       else
         let t := readAct m h s
         -- word 0 of a recorder window returns the record that this read latches (17_attic.md R471)
         (t, if h.d.id == .erWin && h.j == 0 then regRead m t addr else regRead m s addr))
    else (accessEvent m addr false 1 s, 0)
  | none =>
    match blkAt addr with
    | some (b, ch) => if reachable s b ch then (s, regRead m s addr) else (accessEvent m addr false 2 s, busError)
    | none => (accessEvent m addr false 3 s, busError)

/-- STATUS[3:0]: the mode number of the mode in force (16_power_thermal.md R435), or the fault code of a start-up fault in its place
(18_bring_up.md R500). -/
def statusPins (s : State) : Nat := (s.rs.faultCode.getD s.pw.mode) % 16

end Sys2Proof.Machine
end

