-- ==== Sys2Proof/Safety.lean ====
section
/-! DEFINITION. Safe runs, and the conditions and outcomes of commands in the terms that claims use. -/

namespace Sys2Proof.Safety

open Sys2Proof.Machine

/-- A command runs: it neither faults nor is refused. -/
def Runs (c : Instr) (s : State) : Prop := ∃ t, exec c s = .next t

/-- A command entry of an opcode in a context that has started and runs under its function's present generation (R30, R78). -/
def Runnable (s : State) (c : Nat) (x : Ctx) (opc : Nat) : Prop :=
  ctxOf s c = some x ∧ x.e.opc = opc ∧ x.st = .started ∧ x.tunnel = false ∧ ctxFresh s x = true

/-- A started admin command: its context is one of an admin queue. -/
def AdminRuns (s : State) (c : Nat) (x : Ctx) (opc : Nat) : Prop := Runnable s c x opc ∧ x.sqid = 0

/-- A started Set Features of a feature, and a started Get Log Page of a page. -/
def SetRuns (s : State) (c : Nat) (x : Ctx) (fid : Nat) : Prop := AdminRuns s c x 0x09 ∧ bits x.e.cdw10 7 0 = fid
def LogRuns (s : State) (c : Nat) (x : Ctx) (lid : Nat) : Prop := AdminRuns s c x 0x02 ∧ bits x.e.cdw10 7 0 = lid

/-- A tunnelled admin command of an opcode that has started (17_attic.md R463). -/
def IsTunnelled (s : State) (c : Nat) (x : Ctx) (opc : Nat) : Prop :=
  ctxOf s c = some x ∧ x.e.opc = opc ∧ x.st = .started ∧ x.tunnel = true

/-- A started I/O command: its context is one of an I/O queue. -/
def IoRuns (s : State) (c : Nat) (x : Ctx) (opc : Nat) : Prop := Runnable s c x opc ∧ x.sqid ≠ 0

/-- A context has reached COMPLETED with a status and completion DW0 (R78). -/
def Ended (t : State) (c : Nat) (st : Status) (dw0 : Nat) : Prop :=
  ∃ y, ctxOf t c = some y ∧ y.st = .completed ∧ y.status = st ∧ y.dw0 = dw0

/-- A context has reached COMPLETED with success and the given data. -/
def Answered (t : State) (c : Nat) (data : List Byte) : Prop :=
  ∃ y, ctxOf t c = some y ∧ y.st = .completed ∧ y.status = stOk ∧ y.out = data

/-- An NVMe-MI request of an opcode is in progress at a running Attic (17_attic.md R465). -/
def MiRuns (s : State) (r : MiReq) (opcode : Nat) : Prop := s.att.miCur = some r ∧ r.opcode = opcode ∧ atticRuns s = true

/-- The Attic after the response to a request: one response more on the request's endpoint, and no request in progress. -/
def miReply (r : MiReq) (status : Nat) (data : List Byte) (a : Attic) : Attic :=
  let o : MiResp := { endpoint := r.endpoint, status := status, data := data }
  { a with miOut := a.miOut ++ [o], miLast := tset r.endpoint o a.miLast, miCur := none }

/-- A register write of a master of class PRIV or SECURE reaches a block (R385, R386). -/
def Reaches (s : State) (m : Master) (b : Blk) (i : Nat) : Prop :=
  (masterCls m = .priv ∨ masterCls m = .secure) ∧ masterSilent s m = false ∧ reachable s b i = true

/-- The keys of the stored registers rise strictly, so that each register is stored once at most and equal register files are equal
data. -/
def RegsRise (s : State) : Prop := s.rf.regs.Pairwise (fun a b => a.1 < b.1)

/-- No fuse of one fuse bank is unblown in another (R482): a key hash programmed stays, and revocations, the rollback floor and the
LMS and debug locks only grow. -/
def FusesGrow (f g : Fuses) : Prop :=
  (∀ k h, tfind f.keyHash k = some h → tfind g.keyHash k = some h) ∧
  (∀ i, bit f.revoke i = true → bit g.revoke i = true) ∧
  (f.lmsReq = true → g.lmsReq = true ∧ g.lmsHash = f.lmsHash) ∧ f.rollback ≤ g.rollback ∧ (f.debugLock = true → g.debugLock = true)

/-- The sources of a command that reads are usable: no LBA lies in an Offline zone, and the slot of every zone whose data they touch
has a key (R61, R171). -/
def SourcesUsable (s : State) (x : Ctx) : Prop :=
  (∀ l, l ∈ srcLbas x.e → (zoneOf s (lbaKey (srcNsid x.e) l)).st ≠ .offline) ∧
  (∀ k, k ∈ touched s (srcNsid x.e) (srcLbas x.e) → (captureGen s (shapeOf s (srcNsid x.e) (zoneOf s k)).keySlot).isSome = true)

/-- A Read or Verify may begin (R81, 12_memory.md R357): it has not begun, no earlier write of its queue is still to act on its LBAs, and no
table of the zones that it reads is lost. -/
def MayBegin (s : State) (c : Nat) (x : Ctx) : Prop :=
  x.started = false ∧ indexLost s x.e.nsid (srcLbas x.e) = false ∧ readHeld s c x x.e.nsid (srcLbas x.e) = false

/-- Unit `u` of a command's sources can end: it is still to be served, each source stands once in its list, every codeword of the unit has been
decoded, its band is as it was when it was looked up (R30), and `k` is the key and salt that the command captured (R171). -/
def UnitEnds (s : State) (x : Ctx) (u : Nat) (r : SrcRef) (k : Nat × Nat) : Prop :=
  u ∈ x.todo ∧ tfind x.src u = some r ∧ (x.src.map Prod.fst).Nodup ∧ unitHere x r = true ∧ staleUnit s r = false ∧ keyOf s r.slot r.gen = some k

/-- The sources of a command have been looked up as they stood in `s` (R18): an LBA below its zone's write pointer is still to be
served, from the codewords of its unit where the Granary does not hold it; one at or above it is served as zeros (R61). -/
def Sourced (s t : State) (c : Nat) (x : Ctx) : Prop :=
  ∃ y, ctxOf t c = some y ∧ y.started = true ∧ y.e = x.e ∧ ∀ i l, (srcLbas x.e)[i]? = some l →
    (lbaOff l < (zoneOf s (lbaKey (srcNsid x.e) l)).wp → ∀ g r,
      captureGen s (shapeOf s (srcNsid x.e) (zoneOf s (lbaKey (srcNsid x.e) l))).keySlot = some g →
      srcRef s (lbaKey (srcNsid x.e) l) (lbaOff l) g = some r →
      tfind y.src i = some r ∧ i ∈ y.todo ∧ ((shapeOf s (srcNsid x.e) (zoneOf s (lbaKey (srcNsid x.e) l))).keySlot, g) ∈ y.keys ∧
      ∀ p, p ∈ r.pos → (r.zone, p) ∈ y.need) ∧
    ((zoneOf s (lbaKey (srcNsid x.e) l)).wp ≤ lbaOff l → tfind y.got i = some zeroBlock ∧ i ∉ y.todo)

/-- A namespace can take one more open zone, and one more active zone, without an implicit close (R58). -/
def RoomOpen (s : State) (nsid : Nat) : Prop := openNow s < 4096 ∧ nsOpen s nsid < ((nsOf s nsid).getD {}).mor
def RoomActive (s : State) (nsid : Nat) : Prop := activeNow s < 16384 ∧ nsActive s nsid < ((nsOf s nsid).getD {}).mar

/-- A zone may leave Empty for a function (R49, R56, R58): its own shape is set or the default one is granted, resources are free, and
`b` is the band it takes. -/
def LeavesEmpty (s : State) (fn key : Nat) (fw : Bool) (b : Nat) : Prop :=
  (zoneOf s key).st = .empty ∧ RoomActive s (zNsid key) ∧
  ((zoneOf s key).shape.isSome = true ∨
    domExists s (shapeOf s (zNsid key) (zoneOf s key)).domain = true ∧
    domGranted (fnOf s fn) (shapeOf s (zNsid key) (zoneOf s key)).domain = true ∧
    slotGranted (fnOf s fn) (shapeOf s (zNsid key) (zoneOf s key)).keySlot = true) ∧
  chooseBand s (shapeOf s (zNsid key) (zoneOf s key)).domain fw = some b

/-- A zone takes writes of a function now, with the band it will have: it is open, Closed with an open resource free, or Empty and may
leave that state; and no command waits for it (R59, R62, R64). -/
def TakesWrites (s : State) (fn key : Nat) (fw : Bool) (band : Option Nat) : Prop :=
  (zoneOf s key).waiting = [] ∧ bandHeld s key = false ∧ (zoneOf s key).rebuilding = false ∧ (zoneOf s key).stopped = false ∧
  (isOpen (zoneOf s key).st = true ∧ band = none ∨
   (zoneOf s key).st = .closed ∧ RoomOpen s (zNsid key) ∧ band = none ∨
   ∃ b, LeavesEmpty s fn key fw b ∧ RoomOpen s (zNsid key) ∧ band = some b)

/-- Where a write starts in its zone (R59): where it says, or for an append at the validation pointer. -/
def startOf (s : State) (key : Nat) (e : Entry) : Nat := if e.opc = 0x7D then (zoneOf s key).vp else eSlba e % zoneLbas

/-- A write fits its zone and its key (R59 steps 5 to 7): it starts at the validation pointer, ends within the zone's capacity, its slot
has the key number `g` and its counter has enough values left. -/
def Fits (s : State) (key : Nat) (band : Option Nat) (e : Entry) (g : Nat) : Prop :=
  startOf s key e = (zoneOf s key).vp ∧
  startOf s key e + writeNlb e ≤ zcapOf s (shapeOf s (zNsid key) (zoneOf s key)) ((band.map (dataWidth s)).getD (zoneOf s key).width) ∧
  captureGen s (shapeOf s (zNsid key) (zoneOf s key)).keySlot = some g ∧
  valuesFor (shapeOf s (zNsid key) (zoneOf s key)) (writeNlb e) ≤ counterLeft (slotOf s (shapeOf s (zNsid key) (zoneOf s key)).keySlot)

/-- A write has been validated in a zone (R59): its place, its key and its counter values are its own, the zone's validation pointer has
moved past it, and no data has. -/
def Validated (s t : State) (c key g : Nat) (x : Ctx) : Prop :=
  (∃ y, ctxOf t c = some y ∧ y.validated = true ∧ y.st = .started ∧ y.nsid = zNsid key ∧ y.zone = zIdx key ∧
    y.first = (zoneOf s key).vp ∧ y.nlb = writeNlb x.e ∧ y.fua = bit x.e.cdw12 30 ∧
    ((shapeOf s (zNsid key) (zoneOf s key)).keySlot, g) ∈ y.keys ∧
    y.ctr = (slotOf s (shapeOf s (zNsid key) (zoneOf s key)).keySlot).ctr) ∧
  (zoneOf t key).vp = (zoneOf s key).vp + writeNlb x.e ∧ (zoneOf t key).wp = (zoneOf s key).wp ∧
  (zoneOf t key).queue = (zoneOf s key).queue ++ [c] ∧
  (zoneOf t key).st = (if isOpen (zoneOf s key).st then (zoneOf s key).st else .implOpen) ∧
  (slotOf t (shapeOf s (zNsid key) (zoneOf s key)).keySlot).ctr =
    (slotOf s (shapeOf s (zNsid key) (zoneOf s key)).keySlot).ctr + valuesFor (shapeOf s (zNsid key) (zoneOf s key)) (writeNlb x.e) ∧
  (∀ k, k ≠ key → zoneOf t k = zoneOf s k)

/-- The Granary takes `n` more segments of changes of the zone table and journal records: nothing waits for it, pressure is not at work and will not be, and the floor of
10_granary.md R285 is not in force (01_architecture.md R17, 10_granary.md R281, R291). -/
def GranaryFree (s : State) (n : Nat) : Prop :=
  s.gr.late = [] ∧ s.gr.unplaced = false ∧ s.gr.waiters = [] ∧ s.gr.pressing = false ∧ s.gr.limited = false ∧ n ≤ ownLeft s ∧
  (segCount s + n) * 100 < pressHigh s * s.gr.size

/-- A Zone Management Send of an action, in its turn, for one zone with no write in flight (R64, R81), where the Granary takes the change. -/
def ActsOn (s : State) (c : Nat) (x : Ctx) (act key : Nat) : Prop :=
  IoRuns s c x 0x79 ∧ zsaOf x.e = act ∧ zsaAll x.e = false ∧ effectsBefore s c x = true ∧ zoneAt s x.e.nsid (eSlba x.e) = some key ∧
  eSlba x.e % zoneLbas = 0 ∧ (zoneOf s key).queue = [] ∧ (zoneOf s key).rebuilding = false ∧ x.status = stOk ∧ GranaryFree s 4

/-- The action of a constructor on one zone (the Zone Send Actions of the Zoned Namespace Command Set). -/
def zoneActions (c : Nat) : List (Instr × Nat) :=
  [(.zoneOpen c, zsaOpen), (.zoneClose c, zsaClose), (.zoneFinish c, zsaFinish), (.zoneReset c, zsaReset), (.zoneOffline c, zsaOffline),
   (.setZoneDescriptorExtension c, zsaExt)]

/-- What an action that needs no band makes of a zone it selects (R62). -/
def selectedTo (act : Nat) (z : Zone) : ZState :=
  if act = zsaClose then (if z.wp = 0 && z.ext.isNone then .empty else .closed)
  else if act = zsaFinish then .full else if act = zsaReset then .empty else .offline

/-- A valid descriptor may be posted (R200, R201, R212, R537): its issuer is not held, its channel has power and takes such descriptors, the
fields that its issuer and the hardware give it are in range, and its die takes posts and has not failed. -/
def MayPost (s : State) (ch : Nat) (d : Desc) (who : Issuer) : Prop :=
  ch < 64 ∧ d.die < 64 ∧ agentHeld s (agentOf ch who) = false ∧ (chanOf s ch).st ≠ .off ∧ descOk s d.die (fillDesc s ch d who) = true ∧
  dieFailed s (64 * ch + d.die) = false ∧ dieTakes s ch d.die = true ∧
  (d.op = 0x10 ∨ d.op = 0x20 → (chanOf s ch).st ≠ .holdup ∧ (chanOf s ch).st ≠ .stopped)

/-- The die-block rules let a descriptor be posted, filled as its issuer and the hardware do (R53, R208, R232, R234): a program that may be posted, of a
complete stripe where its band is bound to a zone, and an erase of a die-block that may be erased and is no longer read. -/
def Postable (s : State) (dk : Nat) (d : Desc) (who : Issuer) : Prop :=
  (d.op = 0x10 ∨ d.op = 0x30 → mayProgram s dk d who = true ∧ (bandOfBlk s dk d.block).all (fun p =>
    match bandZone s p.1 with
    | some k => stripeReady s (zoneOf s k) p.1 d.wl
    | none => orphanProgram s p.1 d) = true) ∧
  (d.op = 0x20 → erasable s dk d.block = true ∧ (bandOfBlk s dk d.block).all (fun p => (bandOf s p.1).zone.isSome || !bandRead s p.1) = true)

/-- A die takes a descriptor into its queue at once: it may be posted, nothing waits to be posted to the die, and the queue has room. -/
def TakesPost (s : State) (ch : Nat) (d : Desc) (who : Issuer) : Prop :=
  MayPost s ch d who ∧ (dieOf s (64 * ch + d.die)).posts = [] ∧ (dieOf s (64 * ch + d.die)).heads = [] ∧
  hasEntry (dieOf s (64 * ch + d.die)) (fillDesc s ch d who).queue = true

/-- A die's operation can be suspended for a read now (R209, R254): it is long, runs and has run for its minimum run, on a RUNNING channel, and
no other operation is suspended on the die. -/
def Suspendable (s : State) (ch die : Nat) (o : Op) : Bool :=
  isLong o.d.op && o.phase == .running && (chanOf s ch).st == .running && (dieOf s (64 * ch + die)).susp.isNone && ranMinimum s o

/-- A descriptor stands at the end of its die's queues, as its issuer and the hardware fill it and posted now; a read suspends the operation that
it can suspend and that has suspends left; no other die has changed. -/
def Queued (s t : State) (ch : Nat) (d : Desc) (who : Issuer) : Prop :=
  (dieOf t (64 * ch + d.die)).q = (dieOf s (64 * ch + d.die)).q ++ [({ fillDesc s ch d who with posted := s.ck.tb }, who)] ∧
  (dieOf t (64 * ch + d.die)).cur = (dieOf s (64 * ch + d.die)).cur.map (fun o =>
    if (fillDesc s ch d who).queue = 0 ∧ Suspendable s ch d.die o = true ∧ o.suspends < o.d.suspMax then { o with phase := .suspending } else o) ∧
  (∀ k, k ≠ 64 * ch + d.die → dieOf t k = dieOf s k)

/-- A descriptor completes with a status: a completion of its issuer's, unless the sequencer itself issued it (R203). -/
def Completes (t : State) (ch : Nat) (d : Desc) (who : Issuer) (st : Nat) : Prop :=
  who ≠ .sequencer → ({ ch := ch, tag := d.tag, status := st, who := who } : FCpl) ∈ t.fl.cpls

/-- No request waits for tokens, and no brown-out stops a pulse (R214, 10_granary.md R295). -/
def NoRequests (s : State) : Prop := s.fl.rdReq = [] ∧ s.fl.peReq = [] ∧ s.fl.dumpReq = [] ∧ s.gr.bo2 = false

/-- An operation of an opcode is in progress on a die, past its wait for tokens. -/
def OpRuns (s : State) (ch die op : Nat) (o : Op) : Prop :=
  ch < 64 ∧ die < 64 ∧ (dieOf s (64 * ch + die)).cur = some o ∧ o.d.op = op ∧ o.phase ≠ .waitTokens ∧ (dieOf s (64 * ch + die)).resuming = false

/-- An operation has ended with a status (R203): its die is idle and its completion is with its issuer. -/
def OpEnded (t : State) (ch die st : Nat) (o : Op) : Prop :=
  (dieOf t (64 * ch + die)).cur = none ∧ Completes t ch o.d o.who st

/-- A frame of protocol version 1 is for this device on a direct link that is UP, with good CRCs, a TYPE of R327 and no reserved field set (R319, R326,
R327). -/
def ForUs (s : State) (n typ : Nat) (f : BFrame) : Prop :=
  n < 4 ∧ linkUp s n = true ∧ linkEth s n = false ∧ f.hcrcOk = true ∧ f.pcrcOk = true ∧ f.ver = 1 ∧ (f.dst = ownNode s ∨ hopMsg typ = true) ∧
  f.src ≠ ownNode s ∧ f.rsvd = 0 ∧ f.typ = none

/-- A sequenced frame is the one that its direct link's session expects next (R329). -/
def Expected (s : State) (n typ : Nat) (f : BFrame) (x : Session) : Prop :=
  ForUs s n typ f ∧ f.unseq = false ∧ sessOf s (sessKey n 0) = some x ∧ f.seq = x.rxSeq

/-- A direct link's session has a frame of a type and with these fields sent and kept for replay, or waiting for its credits (R329, R330). -/
def Sends (t : State) (n typ : Nat) (msg : List Nat) : Prop :=
  ∃ y g, sessOf t (sessKey n 0) = some y ∧ g.typ = typ ∧ g.msg = msg ∧ (g ∈ y.replay ∨ g ∈ y.queue)

/-- The messages that travel in a session's sequence, with their types (R327). -/
def sequenced (n : Nat) (f : BFrame) (nodes : List Nat) (hops : List (Nat × Nat)) (a b c : Nat) (page : MirrorPage) (block : Block) (st : Status) : List (Instr × Nat) :=
  [(.discover n f hops, tDiscover), (.discoverReply n f hops, tDiscoverReply), (.timeSync n f a, tTimeSync), (.timeReply n f a b c, tTimeReply),
   (.mirrorData n f page, tMirrorData), (.mirrorState n f page, tMirrorState), (.mirrorAck n f a, tMirrorAck), (.mirrorRelease n f nodes, tMirrorRelease),
   (.orphanPull n f, tOrphanPull), (.orphanData n f page, tOrphanData), (.copyReq n f b b c false a, tCopyReq), (.copyData n f a block, tCopyData),
   (.copyEnd n f a st, tCopyEnd)]

/-- The Larder's operations by their owners, with their codes (R376). -/
def lrOps (owner : Nat) (handle : Word) (arg : Nat) : List (Instr × Nat) :=
  [(.bufFree owner handle, 1), (.bufHandOff owner handle arg, 2), (.bufShare owner handle arg, 3), (.bufAddReference owner handle arg, 4),
   (.bufRelease owner handle arg, 5)]

/-- A handle names buffer `i` of pool `p` under its present generation (R374). -/
def Names (s : State) (handle : Word) (p i : Nat) : Prop :=
  p = handle.toNat / 536870912 ∧ i = handle.toNat / 64 % 8388608 ∧ p ≤ 5 ∧ i < poolCount s p ∧ handle.toNat % 64 = (bufOf s (bufKey p i)).gen

/-- A free buffer of pool `p` has been allocated to an owner under its next generation, and the handle given out (R374, R376). -/
def Granted (s t : State) (p owner handle : Nat) : Prop :=
  ∃ i, i < poolCount s p ∧ (bufOf s (bufKey p i)).st = 0 ∧ handle = handleOf p i ((bufOf s (bufKey p i)).gen + 1) ∧
    bufOf t (bufKey p i) = { st := 1, owner := owner, count := 0, gen := ((bufOf s (bufKey p i)).gen + 1) % 64 } ∧
    (∀ k, k ≠ bufKey p i → bufOf t k = bufOf s k)

/-- HOLDUP has been entered for a cause (10_granary.md R297 to R300): what the dump will write is frozen as it stood, under the next
identifier; from CELLAR, or with no half armed, nothing is dumped (R304, R440). -/
def HoldupEntered (s t : State) (cause : Nat) : Prop :=
  t.pw.mode = mHoldup ∧ t.gr.holdup = true ∧ t.gr.huCause = cause ∧ t.gr.testing = false ∧ t.gr.huTestN = true ∧
  (s.pw.mode ≠ mCellar → s.gr.armedOk = true → t.gr.dumpSt = 1 ∧ t.ce.fetchStop = true ∧ pending? t 359 = true ∧ t.gr.lastId = s.gr.lastId + 1 ∧
    ∃ d, tfind t.gr.halves s.gr.armed = some d ∧ d.id = s.gr.lastId + 1 ∧ d.cause = cause ∧ d.zones = s.ze.zones ∧ d.slots = s.ci.slots ∧
      d.journal = s.fl.journal ∧ d.cut = false ∧ d.ended = false) ∧
  (s.pw.mode = mCellar ∨ s.gr.armedOk = false → t.gr.dumpSt = 2 ∧ t.gr.halves = s.gr.halves)

end Sys2Proof.Safety
end

