-- ==== Sys2Proof/Certificates/Slice0/Obligations.lean ====
section
/-! DEFINITION. The statements for the provers: what a step does with the queue, what the commands of each family do and leave
unchanged, and invariants that every step keeps. Each docstring says in words what its statement says and cites the rules it rests on. -/

open Sys2Proof Sys2Proof.Machine

/-- A step runs the command at the front of the queue. For every command c and state s, a step of s with c at the front of its
queue is exec of c on s with the rest of the queue; on an empty queue the block idles for one tick and answers a next state (the
model's choice, log entry 4). (00_scope.md, opcode_table.json.) -/
def Obligations.StepRunsFrontCommand : Prop :=
  (∀ (c : Instr) (rest : List Instr) (s : State), step { s with pending := c :: rest } = exec c { s with pending := rest }) ∧
  (∀ s : State, s.pending = [] → step s = .next (idle s))

/-- Every step takes the front command and leaves the rest of the queue as it stood. For every state s, if a step answers a next
state t, then the queue of t is the queue of s without its front command: no command of the block drops, adds or reorders a
waiting command. (00_scope.md, opcode_table.json.) -/
def Obligations.StepConsumesQueueInOrder : Prop :=
  ∀ s t : State, step s = .next t → t.pending = s.pending.tail

/-- Every step keeps the stored registers in rising order, each stored at most once. For every state s whose stored registers
have strictly rising keys, if a step answers a next state t, then the stored registers of t have strictly rising keys.
(14_control.md R384, R385, R387.) -/
def Obligations.RegisterFileKeysRise : Prop :=
  ∀ s t : State, Safety.RegsRise s → step s = .next t → Safety.RegsRise t

/-- No step clears a blown fuse. For every state s, if a step answers a next state t, then every key hash programmed in s is
programmed in t, every revoked key stays revoked, the LMS key hash and its requirement stay, the anti-rollback count does not
fall and the debug lock stays blown: R482 says that each fuse bit can be blown once and is never cleared. (17_attic.md R464,
R477, R482.) -/
def Obligations.FusesAreNeverUnblown : Prop :=
  ∀ s t : State, step s = .next t → Safety.FusesGrow s.att.fuses t.att.fuses

/-- What reset leaves: BOOT, every register at its table's reset value, no context, no zone. In State.reset the device is in
BOOT; every stored register reads its reset value, and every copy of every register of the tables, its hardware-held fields
included, has the value that its table gives for reset, as a control core's view of it; ER_STAT.LOST is set; no context, queue,
namespace or zone exists; the queue of commands is empty and the stored registers have rising keys. (18_bring_up.md R486, R508;
16_power_thermal.md R456; 14_control.md R407; 17_attic.md R484.) -/
def Obligations.ResetIsTheReleaseOfPor : Prop :=
  State.reset.pw.mode = mBoot ∧ (∀ r : Ref, rd State.reset r = r.rst) ∧
  (∀ d, d ∈ allRegs → ∀ i j, i < d.n1 → j < d.n2 →
    regValue (.core 0) State.reset { d := d, i := i, j := j } = d.rstOf (if d.n1 = 1 then j else i) j) ∧
  State.reset.rs.last = 1 ∧ rdb State.reset R.erStat 16 = true ∧
  State.reset.ce.ctxs = [] ∧ State.reset.ce.sqs = [] ∧ State.reset.ze.nss = [] ∧ State.reset.ze.zones = [] ∧ State.reset.pending = [] ∧
  Safety.RegsRise State.reset

/-- Doorbells move the tail of a submission queue and the head of a completion queue, and nothing else. For a function that is
present, enabled and not being taken away: a tail doorbell within the queue's size records the tail and appends as many entries
as it has moved; a head doorbell within the queue's size records the head. Every other queue, and every part of the device but
the command engine, stays as it is. (03_queues.md R82; 04_tenants.md R121.) -/
def Obligations.DoorbellsAreRecorded : Prop :=
  (∀ (s : State) (fn q tail : Nat) (es : List Entry) (sq : Sq), sqOf s fn q = some sq → bellOn s fn = true → tail < sq.size →
    ∃ t, exec (.sqTailDoorbell fn q tail es) s = .next t ∧
      sqOf t fn q = some { sq with tail := tail, entries := sq.entries ++ padEntries ((tail + sq.size - sq.tail) % sq.size) es } ∧
      (∀ fn' q', qKey fn' q' ≠ qKey fn q → sqOf t fn' q' = sqOf s fn' q') ∧
      t = { s with ce := { s.ce with sqs := t.ce.sqs } }) ∧
  (∀ (s : State) (fn q head : Nat) (cq : Cq), cqOf s fn q = some cq → bellOn s fn = true → head < cq.size →
    ∃ t, exec (.cqHeadDoorbell fn q head) s = .next t ∧ cqOf t fn q = some { cq with head := head } ∧
      (∀ fn' q', qKey fn' q' ≠ qKey fn q → cqOf t fn' q' = cqOf s fn' q') ∧
      t = { s with ce := { s.ce with cqs := t.ce.cqs } })

/-- A round brings the shares that were set into force, and fetches into a free context. Every function that the command engine
lists has, after a round, the share in force that was set for it (R130). Where one function alone has queues, and only its admin
queue, with one entry waiting on a working controller in service, the round fetches that entry into an admin context that was
free (which one, the spec leaves open). Nothing outside the command engine, the event record and the free-value counter changes.
(04_tenants.md R122, R128 to R131.) -/
def Obligations.RoundBringsSettingsIntoForce : Prop :=
  (∀ (s : State) (fn : Nat) (f : Fn), tfind s.ce.fns fn = some f →
    ∃ t, exec .arbitrationRound s = .next t ∧ (fnOf t fn).inForce = f.share ∧
      t = { s with ce := t.ce, rf := t.rf, att := { s.att with evrec := t.att.evrec }, free := t.free }) ∧
  (∀ (s : State) (fn : Nat) (e : Entry) (q : Sq), s.ce.sqs = [(qKey fn 0, q)] → q.entries = [e] → fetching s = true →
    fetchable s q = true → fnLive (fnOf s fn) = true → s.ce.ctxs = [] → 0 < roundLimit s →
    ∃ t c, exec .arbitrationRound s = .next t ∧ c < ioCtx ∧
      ctxOf t c = some { fn := fn, sqid := 0, fgen := (fnOf s fn).gen, epoch := q.epoch, e := e } ∧
      sqOf t fn 0 = some { q with entries := [], head := (q.head + 1) % q.size, live := q.live ++ [c] })

/-- A fetched command whose checks pass starts; an admin command goes to firmware. A context that is fetched, of the present
generation, in a queue that is not frozen, that no Continue is resuming, and behind only started commands, outside a hold-up: an
admin command with no fault of R110 is STARTED in firmware; a fast-path I/O command (not run by firmware) with no fault of R111
on a namespace attached to its function, in a mode that admits it, is STARTED with nothing else of it changed. (03_queues.md
R78, R80, R110, R111; 04_tenants.md R126.) -/
def Obligations.CommandsStartInOrder : Prop :=
  (∀ (s : State) (c : Nat) (x : Ctx) (q : Sq), ctxOf s c = some x → sqOf s x.fn x.sqid = some q → x.st = .fetched → x.tunnel = false →
    ctxFresh s x = true → q.frozen = none → q.resuming = none → s.gr.holdup = false → earlierStarted s c x = true → x.sqid = 0 → adminFault s x = none →
    ∃ t y, exec (.commandStarted c) s = .next t ∧ ctxOf t c = some y ∧ y.st = .started ∧ y.inFw = true ∧ y.e = x.e) ∧
  (∀ (s : State) (c : Nat) (x : Ctx) (q : Sq), ctxOf s c = some x → sqOf s x.fn x.sqid = some q → x.st = .fetched → x.tunnel = false →
    ctxFresh s x = true → q.frozen = none → q.resuming = none → s.gr.holdup = false → earlierStarted s c x = true → x.sqid ≠ 0 →
    ioOpcodes.contains x.e.opc = true → fwRun x.e.opc = false → x.e.fuse = 0 → nsGranted s x.fn x.e.nsid = true → safeBars s x.e = false →
    sglFault x.e = none → ioFieldFault s x.e = none →
    ∃ t, exec (.commandStarted c) s = .next t ∧ ctxOf t c = some { x with st := .started } ∧
      (∀ i, i ≠ c → ctxOf t i = ctxOf s i) ∧ t = { s with ce := { s.ce with ctxs := t.ce.ctxs } })

/-- The next completed command of a queue posts its entry and frees its context. Outside a hold-up, with room in its completion
queue, the command whose entry is next (of the present generation, not a write, in a queue that is neither being deleted,
discarded nor resumed, while no Namespace Attachment or Management waits) posts an entry with its CID, status, DW0 and routing
ID, advances the tail and frees its context. A posting that waits on a full completion queue raises event source 101 and changes
nothing else. (03_queues.md R78, R82, R98.) -/
def Obligations.CompletionsPost : Prop :=
  (∀ (s : State) (fn sqid c : Nat) (q : Sq) (cq : Cq) (x : Ctx), sqOf s fn sqid = some q → cqOf s fn q.cqid = some cq →
    s.gr.holdup = false → cqRoom cq = true → nextPost s sqid q = some (c, x) → ctxFresh s x = true → isWriteOpc x.e.opc = false →
    q.deleting = none → q.discarding = none → q.resuming = none → s.ce.ctxs.all (fun p => !(p.2.e.opc == 0x15 || p.2.e.opc == 0x0D) || p.2.st != .committed) = true →
    ∃ t cq', exec (.completionPosted fn sqid) s = .next t ∧ ctxOf t c = none ∧ cqOf t fn q.cqid = some cq' ∧
      cq'.tail = (cq.tail + 1) % cq.size ∧
      cq'.posted = { sqid := sqid, sqHead := q.head, cid := x.e.cid, status := x.status, dw0 := x.dw0, dw1 := x.dw1,
                     phase := cq.phase, irq := cq.irq.isSome, rid := pcieFunction s fn } :: cq.posted ∧
      (∀ i, i ≠ c → ctxOf t i = ctxOf s i) ∧ t = { s with ce := t.ce }) ∧
  (∀ (s : State) (fn sqid : Nat) (q : Sq) (cq : Cq), sqOf s fn sqid = some q → cqOf s fn q.cqid = some cq → cqRoom cq = false →
    (nextPost s sqid q).isSome = true →
    ∃ t, exec (.completionPostingWait fn sqid) s = .next t ∧ pending? t 101 = true ∧
      t = { s with rf := t.rf, att := { s.att with evrec := t.att.evrec } })

/-- I/O queues are created empty and deleted, and a queue is re-homed under a new epoch. With admissible identifiers, sizes and
flags: Create I/O Submission Queue and Create I/O Completion Queue succeed and leave an empty queue of the given size; Delete
I/O Submission Queue of a queue with nothing live, and Delete I/O Completion Queue that no submission queue names, succeed and
remove the queue. Re-homing gives the queue its new home cluster and the next epoch; it waits while a mailbox holds a message of
an epoch before, or a cluster has taken one and not answered it. (03_queues.md R75, R105, R109, R110.) -/
def Obligations.QueuesAreCreatedAndDeleted : Prop :=
  (∀ (s : State) (c : Nat) (x : Ctx), Safety.AdminRuns s c x 0x01 → bits x.e.cdw11 31 16 ≠ 0 →
    (cqOf s x.fn (bits x.e.cdw11 31 16)).isSome = true → eQid x.e ≠ 0 → eQid x.e ≤ (fnOf s x.fn).nvq → sqOf s x.fn (eQid x.e) = none →
    eQsize x.e ≠ 0 → bit x.e.cdw11 0 = true →
    ∃ t q, exec (.createIoSubmissionQueue c) s = .next t ∧ Safety.Ended t c stOk 0 ∧ sqOf t x.fn (eQid x.e) = some q ∧
      q.cqid = bits x.e.cdw11 31 16 ∧ q.size = eQsize x.e + 1 ∧ q.head = 0 ∧ q.tail = 0 ∧ q.entries = [] ∧ q.live = [] ∧ q.frozen = none ∧
      t = { s with ce := t.ce, free := t.free }) ∧
  (∀ (s : State) (c : Nat) (x : Ctx), Safety.AdminRuns s c x 0x05 → eQid x.e ≠ 0 → eQid x.e ≤ (fnOf s x.fn).nvq →
    cqOf s x.fn (eQid x.e) = none → eQsize x.e ≠ 0 → bit x.e.cdw11 0 = true → bits x.e.cdw11 31 16 < (fnOf s x.fn).nvi →
    ∃ t q, exec (.createIoCompletionQueue c) s = .next t ∧ Safety.Ended t c stOk 0 ∧ cqOf t x.fn (eQid x.e) = some q ∧
      q.size = eQsize x.e + 1 ∧ q.head = 0 ∧ q.tail = 0 ∧ q.posted = [] ∧
      q.irq = (if bit x.e.cdw11 1 then some (bits x.e.cdw11 31 16) else none) ∧ t = { s with ce := t.ce }) ∧
  (∀ (s : State) (c : Nat) (x : Ctx) (q : Sq), Safety.AdminRuns s c x 0x00 → sqOf s x.fn (eQid x.e) = some q → eQid x.e ≠ 0 →
    q.deleting = none → q.discarding = none → q.resuming = none → q.live = [] →
    ∃ t, exec (.deleteIoSubmissionQueue c) s = .next t ∧ Safety.Ended t c stOk 0 ∧ sqOf t x.fn (eQid x.e) = none ∧ t = { s with ce := t.ce }) ∧
  (∀ (s : State) (c : Nat) (x : Ctx), Safety.AdminRuns s c x 0x04 → eQid x.e ≠ 0 → (cqOf s x.fn (eQid x.e)).isSome = true →
    s.ce.sqs.any (fun p => p.1 / 65536 == x.fn && p.2.cqid == eQid x.e) = false →
    ∃ t, exec (.deleteIoCompletionQueue c) s = .next t ∧ Safety.Ended t c stOk 0 ∧ cqOf t x.fn (eQid x.e) = none ∧ t = { s with ce := t.ce }) ∧
  (∀ (s : State) (fn q cluster : Nat) (sq : Sq), sqOf s fn q = some sq → cluster < 4 →
    (staleMail s fn q = true → ∃ t, exec (.queueReHoming fn q cluster) s = .next t ∧ sqOf t fn q = some { sq with rehomeTo := some cluster } ∧
      t = { s with ce := { s.ce with sqs := t.ce.sqs } }) ∧
    (staleMail s fn q = false → ∃ t sq', exec (.queueReHoming fn q cluster) s = .next t ∧ sqOf t fn q = some sq' ∧ sq'.home = cluster ∧
      sq'.epoch = (sq.epoch + 1) % 65536 ∧ sq'.live = sq.live ∧ sq'.entries = sq.entries))

/-- Abort ends a fetched target and says so; an event request takes the oldest waiting event. Abort of a fetched target of the
present generation (which firmware does not hold, and with no Continue in progress) ends the target with 0x0/0x07 and itself
with DW0 0; of a target that is not there, itself with DW0 1 and nothing else. An Asynchronous Event Request below the limit of
requests completes with the oldest event that waits; with none waiting it changes nothing. (03_queues.md R82, R106, R110.) -/
def Obligations.AbortAndEventRequests : Prop :=
  (∀ (s : State) (c k : Nat) (x y : Ctx) (q : Sq), Safety.AdminRuns s c x 0x08 → sqOf s x.fn (eQid x.e) = some q →
    q.live.find? (fun c' => c' != c && ((ctxOf s c').map (fun z => z.e.cid == bits x.e.cdw10 31 16)).getD false) = some k →
    ctxOf s k = some y → y.st = .fetched → y.tunnel = false → y.inFw = false → ctxFresh s y = true →
    (∀ p, p ∈ s.ce.sqs → p.2.resuming = none) →
    ∃ t, exec (.abortCmd c) s = .next t ∧ Safety.Ended t k stAborted 0 ∧ Safety.Ended t c stOk 0 ∧
      t = { s with ce := t.ce, rf := t.rf, att := { s.att with evrec := t.att.evrec } }) ∧
  (∀ (s : State) (c : Nat) (x : Ctx), Safety.AdminRuns s c x 0x08 →
    (((sqOf s x.fn (eQid x.e)).map (fun q => q.live)).getD []).all (fun c' => c' == c || (ctxOf s c').all (fun z => z.e.cid != bits x.e.cdw10 31 16)) = true →
    ∃ t, exec (.abortCmd c) s = .next t ∧ Safety.Ended t c stOk 1 ∧ (∀ i, i ≠ c → ctxOf t i = ctxOf s i) ∧ t = { s with ce := t.ce }) ∧
  (∀ (s : State) (c : Nat) (x : Ctx) (ev : Nat × Nat × Nat) (rest : List (Nat × Nat × Nat)) (q : Sq), Safety.AdminRuns s c x 0x0C →
    sqOf s x.fn 0 = some q → q.live.length ≤ 16 → c ∈ q.live → (fnOf s x.fn).asyncEvents = ev :: rest →
    ∃ t, exec (.asynchronousEventRequest c) s = .next t ∧ Safety.Ended t c stOk (asyncDw0 ev) ∧ (fnOf t x.fn).asyncEvents = rest ∧
      t = { s with ce := t.ce }) ∧
  (∀ (s : State) (c : Nat) (x : Ctx) (q : Sq), Safety.AdminRuns s c x 0x0C → sqOf s x.fn 0 = some q → q.live.length ≤ 16 → c ∈ q.live →
    (fnOf s x.fn).asyncEvents = [] → exec (.asynchronousEventRequest c) s = .next s)

/-- Resume Queue unfreezes a frozen queue; Discard ends what had not started and waits for the entries it discards. A Resume
Queue on a frozen queue whose held commands have all ended or not begun: Continue, with no held command of a freezing status,
raises event source 98 and leaves the queue unfrozen with the held commands continuing; with none held it completes at once, and
otherwise it waits until they are posted or started, as with the posting of the last one, when it completes with their number.
Discard ends the held fetched commands (here one of the same queue) with 0x7/0xC0, and with DRAIN takes the entries still in the
queue; while an entry of the freeze is not posted the queue stays frozen and the Resume Queue waits. Where none is left to post,
at once or with the posting of the last drained entry, the queue is unfrozen, event source 98 is raised and the Resume Queue
completes with the number of held commands. (03_queues.md R102 to R104.) -/
def Obligations.FrozenQueuesResume : Prop :=
  (∀ (s : State) (c : Nat) (x : Ctx) (q : Sq) (f : Freeze), Safety.AdminRuns s c x 0xC0 → bit x.e.cdw11 0 = false → bit x.e.cdw11 1 = false →
    sqOf s x.fn (eQid x.e) = some q → q.frozen = some f → q.discarding = none → q.resuming = none → (heldOf q f).any (running s) = false →
    (heldOf q f).all (fun i => ((ctxOf s i).map (fun y => !(y.st == .completed && freezing y.status))).getD true) = true →
    ∃ t y, exec (.resumeContinue c) s = .next t ∧ ctxOf t c = some y ∧ pending? t 98 = true ∧
      (heldOf q f = [] → Safety.Ended t c stOk 0 ∧ sqOf t x.fn (eQid x.e) = some { q with frozen := none, continuing := [] }) ∧
      (heldOf q f ≠ [] → y.st = .committed ∧ ∃ starts, sqOf t x.fn (eQid x.e) = some { q with frozen := none, continuing := heldOf q f, resuming := some (c, heldOf q f, starts) }) ∧
      t = { s with ce := t.ce, rf := t.rf, att := { s.att with evrec := t.att.evrec } }) ∧
  (∀ (s : State) (fn sqid c i : Nat) (x y : Ctx) (q : Sq) (cq : Cq), sqOf s fn sqid = some q → cqOf s fn q.cqid = some cq → s.gr.holdup = false → cqRoom cq = true →
    nextPost s sqid q = some (i, y) → q.live = [i] → q.frozen = none → q.discarding = none → q.deleting = none → q.resuming = some (c, [i], []) →
    ctxFresh s y = true → isWriteOpc y.e.opc = false → y.fn = fn → y.sqid = sqid → ctxOf s c = some x → c ≠ i → x.st = .committed → x.e.opc = 0xC0 → x.tunnel = false → ctxFresh s x = true →
    ∃ t p, exec (.completionPosted fn sqid) s = .next t ∧ ctxOf t i = none ∧ Safety.Ended t c stOk 1 ∧ sqOf t fn sqid = some p ∧ p.resuming = none) ∧
  (∀ (s : State) (c : Nat) (x : Ctx) (q : Sq) (f : Freeze), Safety.AdminRuns s c x 0xC0 → bit x.e.cdw11 0 = true →
    sqOf s x.fn (eQid x.e) = some q → q.frozen = some f → q.discarding = none → q.resuming = none →
    (q.live = [f.ctx] → ∃ t y, exec (.resumeDiscard c) s = .next t ∧ ctxOf t c = some y ∧ y.st = .committed ∧
      sqOf t x.fn (eQid x.e) = some { q with discarding := some (c, []), continuing := [], drain := (if bit x.e.cdw11 1 then q.entries else []), entries := (if bit x.e.cdw11 1 then [] else q.entries) } ∧
      t = { s with ce := t.ce }) ∧
    (q.live = [] → (bit x.e.cdw11 1 = false ∨ q.entries = []) → ∃ t, exec (.resumeDiscard c) s = .next t ∧ Safety.Ended t c stOk 0 ∧ pending? t 98 = true ∧
      sqOf t x.fn (eQid x.e) = some { q with frozen := none, continuing := [], drain := [] } ∧
      t = { s with ce := t.ce, rf := t.rf, att := { s.att with evrec := t.att.evrec } })) ∧
  (∀ (s : State) (c i : Nat) (x y : Ctx) (q : Sq) (f : Freeze), Safety.AdminRuns s c x 0xC0 → bit x.e.cdw11 0 = true →
    sqOf s x.fn (eQid x.e) = some q → eQid x.e ≠ 0 → q.frozen = some f → q.discarding = none → q.resuming = none → q.deleting = none → q.live = [f.ctx, i] → i ≠ c →
    i ≠ f.ctx → ctxOf s i = some y → y.st = .fetched → y.tunnel = false → ctxFresh s y = true → y.fn = x.fn → y.sqid = eQid x.e →
    ∃ t p, exec (.resumeDiscard c) s = .next t ∧ Safety.Ended t i stDiscard 0 ∧ sqOf t x.fn (eQid x.e) = some p ∧ p.discarding = some (c, [i]) ∧
      p.frozen.isSome = true) ∧
  (∀ (s : State) (fn sqid c : Nat) (x : Ctx) (e : Entry) (q : Sq) (cq : Cq) (held : List Nat), sqOf s fn sqid = some q → cqOf s fn q.cqid = some cq →
    s.gr.holdup = false → cqRoom cq = true → q.live = [] → q.drain = [e] → q.discarding = some (c, held) → q.frozen.isSome = true → ctxOf s c = some x →
    x.st = .committed → x.tunnel = false → ctxFresh s x = true →
    ∃ t r, exec (.completionPosted fn sqid) s = .next t ∧ Safety.Ended t c stOk held.length ∧ pending? t 98 = true ∧
      sqOf t fn sqid = some { q with frozen := none, discarding := none, drain := [], head := (q.head + 1) % q.size } ∧
      cqOf t fn q.cqid = some r ∧ r.posted.head?.map (fun p => (p.sqid, p.cid, p.status)) = some (sqid, e.cid, stDiscard))

/-- A function-level reset, a controller reset, PERST_N and a VF disable start a squash of the function's work. FLR, and CC.EN
cleared on an enabled controller: where the function is present and not being taken away, its generation increments by one (of
256), its squash is under way, and each of its contexts that had no internal work past its commit point is FREE. PERST_N does
the first two to the PF of every port of the link that the pin governs, and leaves those ports' links down; a pin that a joined
link does not use does nothing. A VF disable does them to each VF it takes away, and leaves the port's VF count. (04_tenants.md
R120, R134, R135; 18_bring_up.md R502; 19_package.md R529.) -/
def Obligations.FunctionsAreTakenAway : Prop :=
  (∀ (s : State) (fn : Nat), (fnOf s fn).present = true → ((fnOf s fn).online || isPf fn) = true → (fnOf s fn).squash = none →
    ∃ t, exec (.flr fn) s = .next t ∧ (fnOf t fn).gen = ((fnOf s fn).gen + 1) % 256 ∧ (fnOf t fn).squash = some .flr ∧
      (∀ c x, ctxOf s c = some x → x.fn = fn → x.tunnel = false → ctxFresh s x = true → worksOn x = false → ctxOf t c = none)) ∧
  (∀ (s : State) (fn : Nat), (fnOf s fn).present = true → (fnOf s fn).en = true → (fnOf s fn).squash = none →
    ∃ t, exec (.controllerReset fn) s = .next t ∧ (fnOf t fn).gen = ((fnOf s fn).gen + 1) % 256 ∧
      (fnOf t fn).squash = some .controllerReset ∧
      (∀ c x, ctxOf s c = some x → x.fn = fn → x.tunnel = false → ctxFresh s x = true → worksOn x = false → ctxOf t c = none)) ∧
  (∀ (s : State) (pin : Nat), pin < 4 → (linkPorts s pin = [] → exec (.perstN pin) s = .next s) ∧
    ∃ t, exec (.perstN pin) s = .next t ∧
      (∀ port, port ∈ linkPorts s pin → (fnOf s port).present = true → (fnOf s port).squash = none →
        (fnOf t port).gen = ((fnOf s port).gen + 1) % 256 ∧ (fnOf t port).squash = some .flr ∧ (portState t port).perst = true ∧
        (portState t port).linkUp = false)) ∧
  (∀ (s : State) (port n : Nat), (portState s port).vfEnable = true → n < (portState s port).numVfs →
    ∃ t, exec (.vfDisable port n) s = .next t ∧ (portState t port).numVfs = n ∧ (portState t port).vfEnable = (n != 0) ∧
      (∀ v, n < v → v ≤ (portState s port).numVfs → (fnOf s (vfFn port v)).squash = none →
        (fnOf t (vfFn port v)).squash = some .vfDisable ∧ (fnOf t (vfFn port v)).gen = ((fnOf s (vfFn port v)).gen + 1) % 256))

/-- A squash ends with the function's queues and controller at reset; VF Enable makes VFs appear. With no context of an old
generation left, the end of a squash (not of a parity fault) disables the controller and removes its queues, and a VF being
disabled is gone, unless VF Enable covers it again. The fall-back at 50 ms frees every context of an old generation. VF Enable
makes VFs 1 to the given number present. (04_tenants.md R119, R134.) -/
def Obligations.SquashesEnd : Prop :=
  (∀ (s : State) (fn : Nat) (k : SquashKind), (fnOf s fn).squash = some k → k ≠ .parity → oldCtxs s fn = [] →
    ∃ t, exec (.squashDone fn) s = .next t ∧ (fnOf t fn).squash = none ∧ (fnOf t fn).en = false ∧ (fnOf t fn).rdy = false ∧
      (fnOf t fn).present = ((fnOf s fn).present && (k != SquashKind.vfDisable || vfCovered s fn)) ∧ (∀ q, q < 65536 → sqOf t fn q = none)) ∧
  (∀ (s : State) (fn : Nat), (fnOf s fn).squash.isSome = true → oldCtxs s fn ≠ [] →
    ∃ t, exec (.fallBackSquash fn) s = .next t ∧ (∀ p, p ∈ oldCtxs s fn → ctxOf t p.1 = none)) ∧
  (∀ (s : State) (port n : Nat),
    ∃ t, exec (.vfEnable port n) s = .next t ∧ (portState t port).vfEnable = true ∧ n ≤ (portState t port).numVfs ∧
      (∀ v, 1 ≤ v → v ≤ n → (fnOf t (vfFn port v)).present = true) ∧ t = { s with ce := { s.ce with ports := t.ce.ports, fns := t.ce.fns } })

/-- CC.EN enables a controller with empty admin queues; CC.SHN on every enabled PF stops the device. Enabling a present,
disabled controller (outside HALT and QUIESCE) gives it an empty admin queue pair and reports ready where the device is ready. A
shutdown notification is recorded; when every enabled PF has given it in service, the device enters QUIESCE and fetches nothing
more. (18_bring_up.md R491; 16_power_thermal.md R441.) -/
def Obligations.ControllersStartAndStop : Prop :=
  (∀ (s : State) (fn : Nat), (fnOf s fn).present = true → (fnOf s fn).en = false → (fnOf s fn).squash = none → s.pw.mode ≠ mHalt →
    s.pw.mode ≠ mQuiesce →
    ∃ t sq cq, exec (.controllerEnable fn) s = .next t ∧ (fnOf t fn).en = true ∧ (fnOf t fn).cfs = false ∧
      (fnOf t fn).rdy = ((fnOf s fn).online && deviceIsReady s) ∧ sqOf t fn 0 = some sq ∧ sq.entries = [] ∧ sq.live = [] ∧ sq.frozen = none ∧
      cqOf t fn 0 = some cq ∧ cq.posted = [] ∧ t = { s with ce := t.ce, free := t.free }) ∧
  (∀ (s : State) (fn : Nat), (fnOf s fn).present = true → (fnOf s fn).en = true → (fnOf s fn).squash = none → isPf fn = true → inService s = true →
    ((List.range 4).filter (fun k => k != fn)).all (fun k => !(fnOf s k).en || (fnOf s k).shn) = true →
    ∃ t, exec (.shutdownNotification fn) s = .next t ∧ (fnOf t fn).shn = true ∧ t.pw.mode = mQuiesce ∧ t.pw.stop = some .shutdown ∧
      t.ce.fetchStop = true ∧ t.ce.ctxs = s.ce.ctxs ∧ t.ze = s.ze ∧ t.gr = s.gr) ∧
  (∀ (s : State) (fn : Nat), (fnOf s fn).present = true → (fnOf s fn).en = true → (fnOf s fn).squash = none → isPf fn = false →
    ∃ t, exec (.shutdownNotification fn) s = .next t ∧ (fnOf t fn).shn = true ∧ t = { s with ce := { s.ce with fns := t.ce.fns } })

/-- Virtualization Management assigns resources to an offline secondary and takes it online and offline. For a secondary of the
issuing PF: Assign on one that is absent and offline sets its VQ or VI count and moves the difference to or from the shared
pool, returning the count; Online, with both counts non-zero, and Offline, with the controller not enabled, set its state.
(04_tenants.md R117, R118.) -/
def Obligations.SecondaryControllersAreManaged : Prop :=
  (∀ (s : State) (c fn : Nat) (x : Ctx), Safety.AdminRuns s c x 0x1C → bits x.e.cdw10 3 0 = 8 → secOf x = some fn → (fnOf s fn).present = false → (fnOf s fn).online = false →
    bits x.e.cdw10 10 8 = 0 → bits x.e.cdw11 15 0 ≤ 256 → bits x.e.cdw11 15 0 ≤ s.ce.vqPool + (fnOf s fn).nvq →
    ∃ t, exec (.secondaryControllerAssign c) s = .next t ∧ Safety.Ended t c stOk (bits x.e.cdw11 15 0) ∧
      (fnOf t fn).nvq = bits x.e.cdw11 15 0 ∧ t.ce.vqPool + bits x.e.cdw11 15 0 = s.ce.vqPool + (fnOf s fn).nvq ∧
      t.ce.viPool = s.ce.viPool ∧ t = { s with ce := t.ce }) ∧
  (∀ (s : State) (c fn : Nat) (x : Ctx), Safety.AdminRuns s c x 0x1C → bits x.e.cdw10 3 0 = 8 → secOf x = some fn → (fnOf s fn).present = false → (fnOf s fn).online = false →
    bits x.e.cdw10 10 8 = 1 → bits x.e.cdw11 15 0 ≤ 257 → bits x.e.cdw11 15 0 ≤ s.ce.viPool + (fnOf s fn).nvi →
    ∃ t, exec (.secondaryControllerAssign c) s = .next t ∧ Safety.Ended t c stOk (bits x.e.cdw11 15 0) ∧
      (fnOf t fn).nvi = bits x.e.cdw11 15 0 ∧ t.ce.viPool + bits x.e.cdw11 15 0 = s.ce.viPool + (fnOf s fn).nvi ∧
      t.ce.vqPool = s.ce.vqPool ∧ t = { s with ce := t.ce }) ∧
  (∀ (s : State) (c fn : Nat) (x : Ctx), Safety.AdminRuns s c x 0x1C → bits x.e.cdw10 3 0 = 9 → secOf x = some fn → (fnOf s fn).nvq ≠ 0 →
    (fnOf s fn).nvi ≠ 0 →
    ∃ t, exec (.secondaryControllerOnline c) s = .next t ∧ Safety.Ended t c stOk 0 ∧ (fnOf t fn).online = true ∧ t = { s with ce := t.ce }) ∧
  (∀ (s : State) (c fn : Nat) (x : Ctx), Safety.AdminRuns s c x 0x1C → bits x.e.cdw10 3 0 = 7 → secOf x = some fn →
    ((fnOf s fn).present && (fnOf s fn).en) = false →
    ∃ t, exec (.secondaryControllerOffline c) s = .next t ∧ Safety.Ended t c stOk 0 ∧ (fnOf t fn).online = false ∧ t = { s with ce := t.ce })

/-- DOZE and CELLAR are entered on request under their conditions and left by their wake sources. For a PRIV or SECURE master in
RUN or CAPPED: a request for DOZE under R438's conditions enters it and remembers the mode left; a request for CELLAR under
R439's conditions begins entry, which, once done, enters CELLAR with the time base stopped and the Cellar's counter latched. A
wake source of the mode takes the device back to the mode it came from, every domain clock on FIRC, or gated while FIRC is not
READY; one of CELLAR that comes during the entry ends the entry. (16_power_thermal.md R436 to R439.) -/
def Obligations.IdleModesAreEnteredAndLeft : Prop :=
  (∀ (s : State) (m : Master), Safety.Reaches s m .power 0 → serving s = true → dozeOk s = true →
    ∃ t, exec (.pwReqDoze m) s = .next t ∧ t.pw.mode = mDoze ∧ t.pw.prev = s.pw.mode ∧ t.pw.backTo = s.pw.mode ∧
      t = { s with pw := t.pw, rf := t.rf, att := { s.att with evrec := t.att.evrec } }) ∧
  (∀ (s : State) (src : WakeSrc), s.pw.mode = mDoze → wakesDoze s src = true →
    ∃ t, exec (.dozeWake src) s = .next t ∧ t.pw.mode = s.pw.backTo ∧ t.pw.wakeHold = true ∧ t.ctl.dogs = [] ∧
      t.ck.tb = s.ck.tb ∧ (∀ d, d < 6 → clkSrc t d = (if s.ck.fircRdy then 0 else 2))) ∧
  (∀ (s : State) (m : Master), Safety.Reaches s m .power 0 → serving s = true → cellarOk s = true → s.pw.entering = false →
    exec (.pwReqCellar m) s = .next { s with pw := { s.pw with entering := true } }) ∧
  (∀ (s : State) (c0 : Nat), s.pw.entering = true → serving s = true →
    ∃ t, exec (.cellarEntryDone c0) s = .next t ∧ t.pw.mode = mCellar ∧ t.pw.backTo = s.pw.mode ∧ t.ck.tbStopped = true ∧ t.ck.c0 = c0 ∧
      t.ck.tb = s.ck.tb ∧ t.ck.rootRdy = false ∧ t.pb.sessions = [] ∧ t.ze = s.ze ∧ t.gr = s.gr) ∧
  (∀ (s : State) (src : WakeSrc), s.pw.entering = false → s.pw.mode = mCellar → wakesCellar s src = true →
    ∃ t, exec (.cellarWake src) s = .next t ∧ t.pw.mode = s.pw.backTo ∧ t.pw.waking = true ∧ t.pw.wakeHold = true ∧ (∀ d, d < 6 → clkSrc t d = (if s.ck.fircRdy then 0 else 2)) ∧ t.ctl.dogs = []) ∧
  (∀ (s : State) (src : WakeSrc), s.pw.entering = true → wakesCellar s src = true →
    exec (.cellarWake src) s = .next { s with pw := { s.pw with entering := false } })

/-- An orderly stop stops fetching, records the data-class test, and ends in service stopped, HALT or a warm reset. A request of
a PRIV or SECURE master in a mode that R436 admits enters QUIESCE and stops fetching, for PW_REQ QUIESCE and HALT. The
data-class test of a drained stop records its verdict and the clean flag. The end of the stop leaves every present controller at
SHST 0b10; a stop for HALT goes on to HALT, and one for a requested reset to BOOT by a chip warm reset with RS_CAUSE.LAST 5.
(16_power_thermal.md R436, R441, R443; 18_bring_up.md R489, R497.) -/
def Obligations.OrderlyStops : Prop :=
  (∀ (s : State) (m : Master), Safety.Reaches s m .power 0 → stopOk s = true →
    ∃ t, exec (.pwReqQuiesce m) s = .next t ∧ t.pw.mode = mQuiesce ∧ t.pw.stop = some .request ∧ t.ce.fetchStop = true ∧ t.ze = s.ze ∧ t.gr = s.gr) ∧
  (∀ (s : State) (m : Master), Safety.Reaches s m .power 0 → stopOk s = true →
    ∃ t, exec (.pwReqHalt m) s = .next t ∧ t.pw.mode = mQuiesce ∧ t.pw.stop = some .halt ∧ t.ce.fetchStop = true ∧ t.ze = s.ze ∧ t.gr = s.gr) ∧
  (∀ (s : State) (why : StopCause) (failed : List Nat), s.pw.stop = some why → why.tests = true → s.pw.mode = mQuiesce → stopDrained s = true →
    s.pw.stopTested = false →
    ∃ t, exec (.dataClassTestDone failed) s = .next t ∧ t.pw.stopTested = true ∧ t.rs.clean = true ∧ t.rs.age = 0 ∧
      t.rs.verdict = (if failed.isEmpty then 1 else 2) ∧ t.rs.fmask = fmaskOf failed) ∧
  (∀ (s : State) (why : StopCause), s.pw.stop = some why → why.tests = true → s.pw.mode = mQuiesce → stopDrained s = true → s.pw.stopDone = false →
    s.pw.stopTested = true →
    ∃ t, exec .quiesceDone s = .next t ∧ t.pw.stopDone = true ∧ t.pw.mode = mQuiesce ∧
      (∀ k, k < 2052 → (fnOf s k).present = true → (fnOf t k).shst = 2) ∧ t = { s with pw := t.pw, ce := { s.ce with fns := t.ce.fns } }) ∧
  (∀ (s : State) (why : StopCause), s.pw.stop = some why → why = .halt ∨ why = .crit ∨ why = .domain → s.pw.mode = mQuiesce →
    stopDrained s = true → s.pw.stopDone = false →
    ∃ t, exec .quiesceDone s = .next t ∧ t.pw.mode = mHalt ∧ t.ce.fetchStop = true) ∧
  (∀ (s : State), s.pw.stop = some .warmReset → s.pw.mode = mQuiesce → stopDrained s = true → s.pw.stopDone = false →
    ∃ t, exec .quiesceDone s = .next t ∧ t.pw.mode = mBoot ∧ t.rs.last = 5 ∧ t.ck.tb = s.ck.tb)

/-- Firmware switches a domain, holds it in reset, and caps the flash power; a domain that does not switch stops the device. A
write with a correct CHECK by a PRIV or SECURE master: to PW_SW_k where firmware may switch the domain sets its state (3 used as
2), and elsewhere is refused with event source 12 and changes nothing else; to RST_HOLD_k of FLASH_k or PEERIF in RUN or CAPPED
sets the window. A value written to FT_CAP_LIM takes RUN to CAPPED when it is not zero and back when it is. A domain timeout in
RUN or CAPPED leads to QUIESCE. (14_control.md R391; 16_power_thermal.md R444, R455.) -/
def Obligations.PowerSwitchesAndCap : Prop :=
  (∀ (s : State) (m : Master) (k : Nat) (v : Word), (masterCls m = .priv ∨ masterCls m = .secure) → masterSilent s m = false → k < 13 →
    checkOk v.toNat = true → pwSwOk s k (v.toNat % 65536) = true →
    ∃ t, exec (.pwSwWrite m k v) s = .next t ∧ domState t k = Nat.min 2 (v.toNat % 4) ∧ winVal t (pwSwOff k) = v.toNat % 4 ∧
      t.pw.mode = s.pw.mode) ∧
  (∀ (s : State) (m : Master) (k : Nat) (v : Word), (masterCls m = .priv ∨ masterCls m = .secure) → masterSilent s m = false → k < 13 →
    checkOk v.toNat = true → pwSwOk s k (v.toNat % 65536) = false →
    ∃ t, exec (.pwSwWrite m k v) s = .next t ∧ pending? t 12 = true ∧
      t = { s with rf := { s.rf with regs := t.rf.regs }, att := { s.att with evrec := t.att.evrec } }) ∧
  (∀ (s : State) (m : Master) (k : Nat) (v : Word), (masterCls m = .priv ∨ masterCls m = .secure) → masterSilent s m = false →
    2 ≤ k ∧ k ≤ 9 ∨ k = 12 → serving s = true → checkOk v.toNat = true →
    ∃ t, exec (.rstHoldWrite m k v) s = .next t ∧ winVal t (rstHoldOff k) = v.toNat % 2 ∧ domHeld t k = bit v.toNat 0 ∧
      t = { s with rf := { s.rf with copies := t.rf.copies } }) ∧
  (∀ (s : State) (m : Master) (v : Word), Safety.Reaches s m .flashToken 0 → s.pw.mode = mRun → bits v.toNat 16 0 ≠ 0 →
    ∃ t, exec (.ftCapLimWrite m v) s = .next t ∧ t.pw.mode = mCapped ∧ rdf t R.ftCapLim 16 0 = bits v.toNat 16 0 ∧ t.ce = s.ce ∧ t.ze = s.ze) ∧
  (∀ (s : State) (m : Master) (v : Word), Safety.Reaches s m .flashToken 0 → s.pw.mode = mCapped → bits v.toNat 16 0 = 0 →
    ∃ t, exec (.ftCapLimWrite m v) s = .next t ∧ t.pw.mode = mRun ∧ rdf t R.ftCapLim 16 0 = 0 ∧ t.ce = s.ce ∧ t.ze = s.ze) ∧
  (∀ (s : State) (k : Nat), k < 13 → serving s = true → s.pw.entering = false → s.pw.waking = false →
    ∃ t, exec (.domainStateTimeout k) s = .next t ∧ t.pw.mode = mQuiesce ∧ t.pw.stop = some .domain ∧ t.ce.fetchStop = true)

/-- Sensor samples set the composite temperature; the grace time, enforcement, CRIT and TRIP follow it. A sample of 24 readings
is kept, with the sensors that fault and the highest good reading as the composite temperature; the second sample in a row at
105 °C or more in service leads to QUIESCE for CRIT. In GRACE the grace time's end begins enforcement at B − S; each second of
enforcement at 95 °C or more lowers the limit by S to no less than F, and when cool raises it by S until it reaches B. TRIP
enters HOLDUP with cause 4. The compensation codes come from the three trim points, the user offsets and the range of the trims.
(16_power_thermal.md R447 to R454.) -/
def Obligations.HeatIsEnforced : Prop :=
  (∀ (s : State) (ts : List Int), s.rs.standby = true → ts.length = 24 →
    ∃ t, exec (.sensorSample ts) s = .next t ∧ t.pw.temps = ts ∧
      t.pw.faulted = (List.range 24).filter (fun i => sensorBad ts (ts.getD i 0)) ∧
      (∀ i, i < 24 → sensorBad ts (ts.getD i 0) = false → ts.getD i 0 ≤ t.pw.comp) ∧
      ((∃ i, i < 24 ∧ sensorBad ts (ts.getD i 0) = false) → ∃ i, i < 24 ∧ sensorBad ts (ts.getD i 0) = false ∧ t.pw.comp = ts.getD i 0)) ∧
  (∀ (s : State) (ts : List Int), s.rs.standby = true → ts.length = 24 → inService s = true → s.pw.critRow = 1 →
    (∃ i, i < 24 ∧ sensorBad ts (ts.getD i 0) = false ∧ 105 ≤ ts.getD i 0) →
    ∃ t, exec (.sensorSample ts) s = .next t ∧ t.pw.mode = mQuiesce ∧ t.pw.stop = some .crit ∧ t.ce.fetchStop = true) ∧
  (∀ s : State, s.pw.th = .grace → elapsed s s.pw.graceAt (graceNs s) = true → ∃ t, exec .graceExpired s = .next t ∧ t.pw.th = .enforce ∧ t.pw.limit = budget s - thStep s ∧
      t = { s with pw := t.pw, rf := t.rf, att := { s.att with evrec := t.att.evrec } }) ∧
  (∀ s : State, s.pw.th = .enforce → 95 ≤ s.pw.comp →
    ∃ t, exec .thermalTick s = .next t ∧ t.pw.th = .enforce ∧ t.pw.limit = Nat.max (thFloor s) (s.pw.limit - thStep s) ∧ t.ce = s.ce) ∧
  (∀ s : State, s.pw.th = .enforce → cool s = true → s.pw.comp < 95 → s.pw.limit + thStep s < budget s →
    exec .thermalTick s = .next { s with pw := { s.pw with limit := s.pw.limit + thStep s } }) ∧
  (∀ s : State, s.pw.th = .enforce → cool s = true → s.pw.comp < 95 → budget s ≤ s.pw.limit + thStep s →
    ∃ t, exec .thermalTick s = .next t ∧ t.pw.th = .normal ∧ t.pw.limit = 0 ∧ t.ce = s.ce) ∧
  (∀ (s : State) (i : Nat) (x : Int), s.pw.mode ≠ mOff → s.pw.mode ≠ mHoldup → 115 ≤ x →
    ∃ t, exec (.trip i x) s = .next t ∧ t.pw.mode = mHoldup ∧ t.pw.tripped = true ∧ t.gr.holdup = true ∧ t.gr.huCause = 4) ∧
  (∀ s : State, s.rs.standby = true →
    ∃ t, exec .compensationUpdate s = .next t ∧
      t.pw.codes = [0, 1, 2].map (fun k => max 0 (min (3850 * (Config.trimMax k : Int))
        (interpolate (s.att.fuses.trims.getD k []) (s.pw.temps.headD 0) + 3850 * cmpOfs s k))) ∧
      t = { s with pw := t.pw, rf := t.rf, att := { s.att with evrec := t.att.evrec } })

/-- A domain clock takes the source its window selects, and a source that is not READY is refused. A write to CLK_SEL_d with a
correct CHECK by a PRIV or SECURE master: with the selected source READY (and, for FLASH, DIV8 unchanged or the domain not on
the root PLL) sets the window and starts the handover, which shows 3 in CLK_DSTAT until it ends; to a source that is not READY
it raises event source 0 and changes nothing else. A forced handover takes the new source and sets CLK_FAULT.4; with ENGINE,
FLASH, FABRIC and DRAMC on the root PLL, fetching goes on after a wake. (15_clocks.md R416, R417, R429; 14_control.md R391.) -/
def Obligations.DomainClocksAreSelected : Prop :=
  (∀ (s : State) (m : Master) (d : Nat) (v : Word), (masterCls m = .priv ∨ masterCls m = .secure) → masterSilent s m = false → d < 6 →
    checkOk v.toNat = true → srcReady s.ck (v.toNat % 2) = true → d ≠ 1 ∨ clkFrom s 1 ≠ 1 ∨ bit v.toNat 1 = bit (winVal s (clkSelOff 1)) 1 →
    ∃ t, exec (.clkSelWrite m d v) s = .next t ∧
      winVal t (clkSelOff d) = clkSelBits d v.toNat ∧
      (∀ d', d' < 6 → d' ≠ d → winVal t (clkSelOff d') = winVal s (clkSelOff d') ∧ clkSrc t d' = clkSrc s d') ∧
      (if clkFrom s d = v.toNat % 2 then clkSrc t d = v.toNat % 2
       else clkSrc t d = 3 ∧ clkFrom t d = clkFrom s d % 2 ∧ tfind t.ck.handing d = some (v.toNat % 2 + 2 * (clkFrom s d % 2))) ∧
      t = { s with rf := { s.rf with copies := t.rf.copies }, ck := { s.ck with dsrc := t.ck.dsrc, handing := t.ck.handing } }) ∧
  (∀ (s : State) (m : Master) (d : Nat) (v : Word), (masterCls m = .priv ∨ masterCls m = .secure) → masterSilent s m = false → d < 6 →
    checkOk v.toNat = true → srcReady s.ck (v.toNat % 2) = false →
    ∃ t, exec (.clkSelWrite m d v) s = .next t ∧ pending? t 0 = true ∧
      t = { s with rf := { s.rf with regs := t.rf.regs }, att := { s.att with evrec := t.att.evrec } }) ∧
  (∀ (s : State) (d h : Nat), tfind s.ck.handing d = some h →
    ∃ t, exec (.handoverForced d) s = .next t ∧ clkSrc t d = h % 2 ∧ tfind t.ck.handing d = none ∧ rdb t R.clkFault 4 = true ∧
      pending? t 1 = true ∧ (∀ d', d' ≠ d → clkSrc t d' = clkSrc s d') ∧
      t.pw.wakeHold = (s.pw.wakeHold && !([1, 2, 3, 4].all (fun k => clkSrc t k == 1))) ∧
      t = { s with ck := { s.ck with dsrc := t.ck.dsrc, handing := t.ck.handing }, pw := { s.pw with wakeHold := t.pw.wakeHold }, rf := t.rf, att := { s.att with evrec := t.att.evrec } })

/-- A lost clock sets its fault bit and event, and the domains it fed run from FIRC or are gated. Where the monitors run: loss
of XA takes READY from it and its PLLs and begins reference fallback; loss of the root PLL or of XA moves every domain on it, or
handing over to it, to FIRC, with the select bit cleared, and leaves a handover from it to end; loss of FIRC gates the domains
on it (source 2) until FIRC is READY again, and the restart timeout gives a chip warm reset for a clock fault with the time base
kept. Loss of SIRC puts the Cellar on XB. After a reference fallback the enabled PLLs relock, and a powered DRAM is refreshed
once. (15_clocks.md R413, R420 to R423; 18_bring_up.md R486, R490.) -/
def Obligations.LostClocksFallBackToFirc : Prop :=
  (∀ s : State, s.ck.xaRdy = true → monitored s = true →
    ∃ t, exec .xaFault s = .next t ∧ t.ck.xaRdy = false ∧ t.ck.rootRdy = false ∧ t.ck.dphyRdy = false ∧ t.ck.pphyRdy = false ∧
      t.ck.refFb = true ∧ t.ck.relocking = true ∧ t.ck.tb = s.ck.tb ∧ rdb t R.clkFault 0 = true ∧ rdb t R.clkFault 5 = true ∧
      pending? t 2 = true ∧ (s.ck.refFb = false → pending? t 7 = true) ∧ t.ck.tbFirc = true ∧
      (∀ d, d < 6 → fallsBack s d = true → bit (winVal t (clkSelOff d)) 0 = false ∧ clkSrc t d = (if s.ck.fircRdy then 0 else 2)) ∧
      (∀ d, d < 6 → fallsBack s d = false → clkSrc t d = clkSrc s d) ∧
      t = { s with ck := t.ck, pb := { s.pb with links := t.pb.links, sessions := t.pb.sessions }, rf := t.rf, att := { s.att with evrec := t.att.evrec } }) ∧
  (∀ s : State, s.ck.rootRdy = true → monitored s = true →
    ∃ t, exec .rootPllFault s = .next t ∧ t.ck.rootRdy = false ∧ t.ck.xaRdy = s.ck.xaRdy ∧ rdb t R.clkFault 1 = true ∧ pending? t 3 = true ∧
      (∀ d, d < 6 → fallsBack s d = true → bit (winVal t (clkSelOff d)) 0 = false ∧ clkSrc t d = (if s.ck.fircRdy then 0 else 2)) ∧
      (∀ d, d < 6 → fallsBack s d = false → clkSrc t d = clkSrc s d) ∧ t = { s with ck := t.ck, rf := t.rf, att := { s.att with evrec := t.att.evrec } }) ∧
  (∀ s : State, s.ck.fircRdy = true → monitored s = true →
    ∃ t, exec .fircFault s = .next t ∧ t.ck.fircRdy = false ∧ rdb t R.clkFault 2 = true ∧ pending? t 4 = true ∧
      (∀ d, d < 6 → tfind s.ck.handing d = none → clkSrc t d = (if clkSrc s d = 0 then 2 else clkSrc s d)) ∧
      ((∃ d, d < 6 ∧ tfind s.ck.handing d = none ∧ clkSrc s d = 0) → pending? t 6 = true) ∧ t = { s with ck := t.ck, rf := t.rf, att := { s.att with evrec := t.att.evrec } }) ∧
  (∀ s : State, s.ck.sircRdy = true → s.ck.xbRdy = true →
    ∃ t, exec .sircFault s = .next t ∧ t.ck = { s.ck with cellarOnXb := true } ∧ rdb t R.clkFault 3 = true ∧
      pending? t 5 = true ∧ t = { s with ck := t.ck, rf := t.rf, att := { s.att with evrec := t.att.evrec } }) ∧
  (∀ s : State, s.ck.fircRdy = false → monitored s = true → s.pw.waking = false →
    ∃ t, exec .fircReady s = .next t ∧ t.ck.fircRdy = true ∧ (∀ d, d < 6 → clkSrc t d = (if clkSrc s d = 2 then 0 else clkSrc s d)) ∧
      t = { s with ck := t.ck }) ∧
  (∀ s : State, s.ck.fircRdy = false → monitored s = true →
    ∃ t, exec .fircRestartTimeout s = .next t ∧ t.pw.mode = mBoot ∧ t.rs.last = 4 ∧ t.rs.undumped = (segCount s != 0) ∧
      t.ck = freshClocks s.ck.tb s.ck ∧ t.ce.ctxs = [] ∧ t.ce.sqs = [] ∧ (∀ k, zoneOf t k = { zoneOf s k with move := none }) ∧ t.att.rootKey = s.att.rootKey) ∧
  (∀ s : State, s.ck.refFb = true → s.ck.relocking = true → s.ck.fircRdy = true →
    exec .referenceFallbackRelock s = .next { s with ck := { s.ck with relocking := false, rootRdy := rdb s R.clkPll 0, dphyRdy := rdb s R.clkPll 1 }, dm := { s.dm with refresh := s.dm.refresh + (if domState s 10 = 2 then 1 else 0) } })

/-- PLLs lock where they are enabled, the time base catches up after CELLAR, and unsafe clock settings are refused. An enabled
PLL with its reference (FIRC in reference fallback, else XA) becomes READY. XA READY restarts the time base on XA and, after
CELLAR, adds the catch-up of the counter (at least 20 ns, a multiple of 20 ns), with event source 9. XB is READY only where
fitted. A write to CLK_PLL stores its enables, except that ROOT_EN stays while a domain uses the root PLL and DPHY_EN while
DRAMIF is powered; a write to FF_CFG above 200 MHz is refused whole. A lost PHY PLL takes its links down. (15_clocks.md R411 to
R413, R425 to R428, R430.) -/
def Obligations.PllsAndTimeBaseFollow : Prop :=
  (∀ s : State, monitored s = true → s.pw.waking = false → (if s.ck.refFb then s.ck.fircRdy && !s.ck.relocking else s.ck.xaRdy) = true → rdb s R.clkPll 0 = true →
    exec (.pllReady .root) s = .next { s with ck := { s.ck with rootRdy := true } }) ∧
  (∀ s : State, monitored s = true → s.pw.waking = false → (if s.ck.refFb then s.ck.fircRdy && !s.ck.relocking else s.ck.xaRdy) = true → rdb s R.clkPll 1 = true →
    exec (.pllReady .dphy) s = .next { s with ck := { s.ck with dphyRdy := true } }) ∧
  (∀ s : State, monitored s = true → s.pw.waking = false → s.ck.xaRdy = true → rdb s R.clkPll 2 = true →
    exec (.pllReady .pphy) s = .next { s with ck := { s.ck with pphyRdy := true } }) ∧
  (∀ (s : State) (p : Nat), monitored s = true → s.pw.waking = false → p < 4 → p ∉ s.ck.hphyRdy →
    ∃ t, exec (.pllReady (.hphy p)) s = .next t ∧ (∀ q, q ∈ t.ck.hphyRdy ↔ q = p ∨ q ∈ s.ck.hphyRdy) ∧
      t = { s with ck := { s.ck with hphyRdy := t.ck.hphyRdy } }) ∧
  (∀ (s : State) (c1 : Nat), s.ck.xaRdy = false → monitored s = true → s.ck.tbStopped = false →
    ∃ t, exec (.xaReady c1) s = .next t ∧ t.ck = { s.ck with xaRdy := true, tbFirc := false } ∧
      t = { s with ck := t.ck, pw := { s.pw with waking := t.pw.waking } }) ∧
  (∀ (s : State) (c1 : Nat), s.ck.xaRdy = false → monitored s = true → s.ck.tbStopped = true →
    ∃ t, exec (.xaReady c1) s = .next t ∧ t.ck.xaRdy = true ∧ t.ck.tbStopped = false ∧ 20 ≤ t.ck.tbSleep ∧ t.ck.tbSleep % 20 = 0 ∧
      t.ck.tbSleep = Nat.max 20 ((c1 - s.ck.c0) * 1000000000 / 655360 * 20) ∧
      t.ck.tb = (s.ck.tb + t.ck.tbSleep) % 18446744073709551616 ∧ pending? t 9 = true ∧
      t = { s with ck := t.ck, pw := { s.pw with waking := t.pw.waking }, rf := t.rf, att := { s.att with evrec := t.att.evrec } }) ∧
  (∀ s : State, rdb s R.clkMon 0 = true → s.rs.standby = true → exec .xbReady s = .next { s with ck := { s.ck with xbRdy := true } }) ∧
  (∀ (s : State) (m : Master) (v : Word), Safety.Reaches s m .clock 0 →
    ∃ t, exec (.clkPllWrite m v) s = .next t ∧
      rdb t R.clkPll 0 = (bit v.toNat 0 || (rdb s R.clkPll 0 && (List.range 6).any (usesRoot s))) ∧
      rdb t R.clkPll 1 = (bit v.toNat 1 || (rdb s R.clkPll 1 && (domState s 10 != 0))) ∧ rdb t R.clkPll 2 = bit v.toNat 2 ∧
      t.ck = { s.ck with rootRdy := s.ck.rootRdy && rdb t R.clkPll 0, dphyRdy := s.ck.dphyRdy && rdb t R.clkPll 1,
                         pphyRdy := s.ck.pphyRdy && rdb t R.clkPll 2 } ∧
      t = { s with ck := t.ck, pb := { s.pb with links := t.pb.links, sessions := t.pb.sessions }, rf := t.rf, att := { s.att with evrec := t.att.evrec } }) ∧
  (∀ (s : State) (m : Master) (v : Word), Safety.Reaches s m .clock 0 →
    ∃ t, exec (.ffCfgWrite m v) s = .next t ∧
      (if ffNominal s (bits v.toNat 7 4) > 200000000 * (bits v.toNat 31 16 + 1) then rd t R.ffCfg = rd s R.ffCfg ∧ pending? t 8 = true
       else rdb t R.ffCfg 0 = bit v.toNat 0 ∧ rdf t R.ffCfg 7 4 = bits v.toNat 7 4 ∧ rdf t R.ffCfg 9 8 = bits v.toNat 9 8 ∧
         rdf t R.ffCfg 31 16 = bits v.toNat 31 16) ∧ t = { s with rf := t.rf, att := { s.att with evrec := t.att.evrec } }) ∧
  (∀ (s : State) (port : Nat), s.ck.hphyRdy.contains port = true →
    ∃ t, exec (.hostPhyPllLoss port) s = .next t ∧ t.ck.hphyRdy.contains port = false ∧ (portState t port).linkUp = false ∧
      t = { s with ck := { s.ck with hphyRdy := t.ck.hphyRdy }, ce := { s.ce with ports := t.ce.ports } }) ∧
  (∀ s : State, s.ck.pphyRdy = true →
    ∃ t, exec .peerPhyPllLoss s = .next t ∧ t.ck = { s.ck with pphyRdy := false } ∧
      (∀ n, n < 4 → (linkOf t n).st = (if linkUp s n then .training else (linkOf s n).st)) ∧
      t.pb.sessions.map (fun p => (p.1, { p.2 with replays := 0 })) = s.pb.sessions.map (fun p => (p.1, { p.2 with replays := 0 })) ∧
      t = { s with ck := t.ck, pb := { s.pb with links := t.pb.links, sessions := t.pb.sessions }, rf := t.rf, att := { s.att with evrec := t.att.evrec } })

/-- Rails, the Attic self-test and resets: what each leaves. The main rails' fall enters OFF and cuts a dump not ended; their
rise releases POR: BOOT, RS_CAUSE.LAST 2 (1 still where it is the first since a standby power-up, the model's choice in log
entry 26), the time base at 0, transport keys zeroed, and the straps sampled (0b11 as 0b00). Standby loss leaves the Attic
unpowered; standby power-up leaves OFF with RS_CAUSE.LAST 1. A passed SECURE self-test releases the Attic, a failed one holds
the device with fault code 12. Chip warm resets lead to BOOT with their cause and keep the time base; a requested one first
stops the device in order, and one asked while the Granary is occupied is refused with event source 11. (18_bring_up.md R486 to
R490, R496, R508; 19_package.md R519, R520, R529.) -/
def Obligations.RailsAndResets : Prop :=
  (∀ s : State, s.rs.mainPg = true → s.pw.mode ≠ mOff →
    ∃ t, exec .mainPgFall s = .next t ∧ t.pw.mode = mOff ∧ t.rs.mainPg = false ∧ (∀ k, k < 13 → domState t k = 0) ∧
      t.gr.dumpSt = (if s.gr.dumpSt = 1 then 3 else s.gr.dumpSt) ∧ t.ze = s.ze ∧ t.att.fuses = s.att.fuses ∧ t.att.images = s.att.images) ∧
  (∀ (s : State) (straps : Nat) (te : Bool), s.rs.standby = true → s.rs.mainPg = false → s.rs.faultCode ≠ some 12 →
    ∃ t, exec (.mainPgRise straps te) s = .next t ∧ t.pw.mode = mBoot ∧ t.rs.mainPg = true ∧ t.rs.last = (if s.rs.last = 1 ∧ s.pw.prev = mOff then 1 else 2) ∧ t.ck.tb = 0 ∧
      t.att.rootKey = none ∧ t.att.fnKeys = [] ∧ t.rs.testEn = te ∧ t.rs.straps = (if straps = 3 then 0 else straps % 4) ∧
      t.ce.ctxs = [] ∧ t.ce.sqs = [] ∧ t.ze.zones = s.ze.zones ∧ t.att.fuses = s.att.fuses) ∧
  (∀ s : State, s.rs.standby = true →
    ∃ t, exec .standbyPowerLoss s = .next t ∧ t.rs.standby = false ∧ t.rs.mainPg = false ∧ t.att.released = false ∧ t.att.rootKey = none ∧
      t.att.evrec = {} ∧ t.ck.sircRdy = false ∧ t.att.fuses = s.att.fuses ∧ t.att.images = s.att.images ∧ t.ze = s.ze) ∧
  (∀ s : State, s.rs.standby = false →
    ∃ t, exec .standbyPowerUp s = .next t ∧ t.rs.standby = true ∧ t.rs.mainPg = false ∧ t.rs.last = 1 ∧ t.pw.mode = mOff ∧ t.rf.regs = [] ∧
      rdb t R.erStat 16 = true ∧ t.ck = {} ∧ t.att.released = false ∧ t.att.evrec = {} ∧ t.att.fuses = s.att.fuses ∧
      t.att.images = s.att.images ∧ t.ze.zones = s.ze.zones) ∧
  (∀ s : State, s.rs.standby = true → s.att.released = false → s.rs.faultCode ≠ some 12 →
    exec (.secureLbistDone true) s = .next { s with att := { s.att with released := true }, rs := { s.rs with secOk := true } }) ∧
  (∀ s : State, s.rs.standby = true → s.att.released = false → s.rs.faultCode ≠ some 12 →
    ∃ t, exec (.secureLbistDone false) s = .next t ∧ t.rs.faultCode = some 12 ∧ t.pw.mode = mOff ∧ t.att.released = false) ∧
  (∀ (s : State) (cause : Nat), s.pw.mode ≠ mOff →
    (cause = 3 ∧ s.pw.mode = mHoldup ∧ 2 ≤ s.gr.dumpSt) ∨ cause = 4 ∨ ((cause = 5 ∨ cause = 6) ∧ segCount s = 0) →
    ∃ t, exec (.chipWarmReset cause) s = .next t ∧ t.pw.mode = mBoot ∧ t.rs.last = cause ∧ t.ck = freshClocks s.ck.tb s.ck ∧
      t.rs.undumped = (cause == 4 && segCount s != 0) ∧ t.ce.ctxs = [] ∧ t.ce.sqs = [] ∧ (∀ k, zoneOf t k = { zoneOf s k with move := none }) ∧
      t.att.rootKey = s.att.rootKey) ∧
  (∀ (s : State) (fn : Nat), isPf fn = true → (fnOf s fn).squash = none → inService s = true → starting s = false →
    ∃ t, exec (.nvmSubsystemReset fn) s = .next t ∧ t.pw.mode = mQuiesce ∧ t.pw.stop = some .warmReset ∧ t.ce.fetchStop = true) ∧
  (∀ (s : State) (m : Master) (v : Word), Safety.Reaches s m .sysctl 0 → bits v.toNat 15 8 = 0x5A →
    ∃ t, exec (.rsReqFirmwareDomainReset m v) s = .next t ∧ t.pw.mode = s.pw.mode ∧ t.ck = s.ck ∧
      (∀ ch c, tfind s.fl.chans ch = some c → c.st = .running → (tget {} t.fl.chans ch : Chan).st = .parked) ∧
      (∀ fn q sq, q < 65536 → sqOf s fn q = some sq → ∃ sq', sqOf t fn q = some sq' ∧ sq'.live = sq.live ∧
        (if staleMail (dropTaken none s) fn q then sq'.epoch = sq.epoch ∧ sq'.rehomeTo = some sq.home else sq'.epoch = (sq.epoch + 1) % 65536)) ∧
      (∀ n, n < 16 → (tget {} t.ctl.cores n : Core).running = !(tget {} s.ctl.cores n : Core).fenced) ∧ t.att.download = none) ∧
  (∀ (s : State) (m : Master) (v : Word), Safety.Reaches s m .sysctl 0 → bits v.toNat 15 8 = 0x5A → segCount s = 0 → s.pw.mode ≠ mOff →
    ∃ t, exec (.rsReqChipWarmReset m v) s = .next t ∧ t.pw.mode = mBoot ∧ t.rs.last = 6 ∧ t.ck = freshClocks s.ck.tb s.ck) ∧
  (∀ (s : State) (m : Master) (v : Word), Safety.Reaches s m .sysctl 0 → bits v.toNat 15 8 = 0x5A → segCount s ≠ 0 →
    ∃ t, exec (.rsReqChipWarmReset m v) s = .next t ∧ pending? t 11 = true ∧
      t = { s with rf := { s.rf with regs := t.rf.regs }, att := { s.att with evrec := t.att.evrec } })

/-- Start-up: a verified slot runs, the self-tests pass, VDD_CORE steps up, recovery restores, and the device reports ready.
BOOT_VERIFY in BOOT below 92 °C takes a confirmed slot that passes its checks, or else the other slot that does, to SELFTEST;
with no such slot fault code 13, with no configuration image 14. Self-tests that end without a failure record verdict 1 and,
once VDD_CORE is acknowledged, enter LOAD; failures that leave no engine of a kind enter HALT with code 15. Each VDD_CORE
request moves by at most 50 mV. RECOVERY in LOAD sizes the Granary and sets each key slot's counter to the highest ceiling
recorded for it, with a ceiling 2^24 above (a partial frame rebuilt for a zone then takes a value of its own). DEVICE_READY with
a current checkpoint and the half that was not dumped to erased arms that half, starts fetching and enters service; without that
it changes nothing. (18_bring_up.md R491 to R500; 19_package.md R521; 10_granary.md R284, R304; 06_cipher.md R177.) -/
def Obligations.StartUpReachesService : Prop :=
  (∀ s : State, s.pw.mode = mBoot → atticRuns s = true → s.rs.testEn = false → s.rs.faultCode = none → s.pw.comp < 92 →
    (selNewest s).trial = false →
    ∃ t, exec .bootVerify s = .next t ∧ t.ze = s.ze ∧ t.gr = s.gr ∧
      (if slotBoots s (selNewest s).slot then
        (if (cfgCopy s).isSome then
          t.pw.mode = mSelftest ∧ t.att.runSlot = (selNewest s).slot ∧ t.att.sel = s.att.sel ∧ t.rs.faultCode = none ∧ t.pw.avsReq = avsNext s.pw
         else t.pw.mode = mBoot ∧ t.rs.faultCode = some 14 ∧ pending? t 492 = true ∧ t = { s with rs := t.rs, rf := t.rf, att := { s.att with evrec := t.att.evrec } })
       else if slotBoots s (otherSlot (selNewest s).slot) then
        (selNewest t).slot = otherSlot (selNewest s).slot ∧ (selNewest t).trial = false ∧ pending? t 484 = true ∧
          t.pw.mode = (if (cfgCopy s).isSome then mSelftest else mBoot)
       else t.pw.mode = mBoot ∧ t.rs.faultCode = some 13 ∧ pending? t 484 = true ∧ t = { s with rs := t.rs, rf := t.rf, att := { s.att with evrec := t.att.evrec } })) ∧
  (∀ s : State, s.pw.mode = mSelftest → s.rs.stage = 0 → testSkipped s = false → s.pw.avsAcked = true →
    ∃ t, exec (.selftestDone [] true) s = .next t ∧ t.pw.mode = mLoad ∧ t.rs.verdict = 1 ∧ t.rs.clean = false ∧ t.rs.dataRan = true ∧
      t.rs.age = 0 ∧ t.rs.fmask = [0, 0, 0, 0, 0] ∧ (∀ n, n < 16 → (tget {} t.ctl.cores n : Core).running = !(tget {} s.ctl.cores n : Core).fenced)) ∧
  (∀ (s : State) (failed : List Nat) (ok : Bool), s.pw.mode = mSelftest → s.rs.stage = 0 → testSkipped s = false → failHalt failed = true →
    ∃ t, exec (.selftestDone failed ok) s = .next t ∧ t.pw.mode = mHalt ∧ t.rs.faultCode = some 15 ∧ t.ce.fetchStop = true) ∧
  (∀ s : State, s.pw.mode = mSelftest → s.pw.avsReq ≠ s.pw.avsTarget →
    ∃ t, exec .avsAcknowledge s = .next t ∧ t.pw.avsReq ≤ s.pw.avsReq + 50 ∧ s.pw.avsReq ≤ t.pw.avsReq + 50 ∧ t.pw.avsReq ≠ s.pw.avsReq ∧
      t = { s with pw := { s.pw with avsReq := t.pw.avsReq } }) ∧
  (∀ s : State, s.pw.mode = mSelftest → s.pw.avsReq = s.pw.avsTarget → s.rs.stage = 1 →
    ∃ t, exec .avsAcknowledge s = .next t ∧ t.pw.mode = mLoad ∧ t.pw.avsAcked = true ∧ t.rs.stage = 0) ∧
  (∀ (s : State) (h : Nat) (d : Dump), s.pw.mode = mLoad → s.gr.recovered = false → needsPull s = false → newestDump s = some (h, d) →
    d.journal.length ≤ journalKept s →
    ∃ t, exec .recovery s = .next t ∧ t.pw.mode = mLoad ∧ t.gr.recovered = true ∧ pending? t 362 = true ∧
      (∀ k v, k < 8192 → v = Nat.max (Nat.max (tget {} ((s.gr.ckpt.map (fun c => c.slots)).getD []) k : Slot).recorded (tget {} d.slots k : Slot).recorded) (recordedCeil (keptJournal s) k) →
        v ≤ (tget {} t.ci.slots k : Slot).ctr ∧
        (d.zones = [] → s.gr.pulled = [] → (tget {} t.ci.slots k : Slot).ctr = v ∧ (tget {} t.ci.slots k : Slot).ceil = Nat.min 18446744073709551615 (v + 16777216))) ∧
      (s.gr.size = 0 → computedMib s < 1024 → t.gr.size = 1024 ∧ t.gr.limited = true) ∧
      (s.gr.size = 0 → 1024 ≤ computedMib s → t.gr.size = computedMib s ∧ t.gr.limited = false)) ∧
  (∀ s : State, s.pw.mode = mLoad → s.gr.recovered = true → s.gr.ckpt.isSome = true → ckptCurrent s = true → s.gr.unplaced = false → s.pw.safePending = false →
    s.rs.pendWarm = none → halfErased s (nextHalf s) = true →
    ∃ t, exec .deviceReady s = .next t ∧ t.pw.mode = serviceMode s ∧ t.gr.armedOk = true ∧ t.gr.halves = [] ∧
      t.gr.armed = nextHalf s ∧ t.ce.fetchStop = false ∧
      (∀ fn f, tfind s.ce.fns fn = some f → f.en = true → f.online = true → f.present = true → (fnOf t fn).rdy = true) ∧ t.ze.zones = s.ze.zones ∧ t.ze.nss = s.ze.nss) ∧
  (∀ s : State, halfErased s (nextHalf s) = false → exec .deviceReady s = .next s)

/-- A doorbell fills an EMPTY mailbox, an ACK empties it, a FULL one refuses; the recorder stores and repeats events. A doorbell
by a PRIV or SECURE master of an EMPTY mailbox other than 4 to 7 makes it FULL; of a FULL one it sets REFUSED and raises event
source 464; a reply in 4 to 7 of TYPE 4 whose tag names the live context ends that context with the status and DW0 given. An ACK
of a FULL mailbox empties it. The recorder stores the oldest waiting event with the next sequence number, or counts a repeat of
the newest record. (14_control.md R396, R398, R399, R402; 17_attic.md R467 to R469.) -/
def Obligations.MailboxesAndRecorderTakeTheirMessages : Prop :=
  (∀ (s : State) (m : Master) (mb : Nat), Safety.Reaches s m .mailbox mb → mb < 32 → ¬(4 ≤ mb ∧ mb ≤ 7) → boxFull s mb = false →
    ∃ t, exec (.mbDoorbell m mb) s = .next t ∧ boxFull t mb = true ∧ (∀ b, b ≠ mb → boxFull t b = boxFull s b) ∧
      t = { s with ctl := { s.ctl with boxes := t.ctl.boxes } }) ∧
  (∀ (s : State) (m : Master) (mb : Nat), Safety.Reaches s m .mailbox mb → mb < 32 → boxFull s mb = true →
    ∃ t, exec (.mbDoorbell m mb) s = .next t ∧ rdb t (R.mbCtl mb) 3 = true ∧ pending? t 464 = true ∧
      t = { s with rf := { s.rf with regs := t.rf.regs }, att := { s.att with evrec := t.att.evrec } }) ∧
  (∀ (s : State) (m : Master) (mb c : Nat) (x : Ctx), Safety.Reaches s m .mailbox mb → 4 ≤ mb → mb ≤ 7 → boxFull s mb = false →
    bits (rd s (R.mbTag mb)) 16 0 = c → ctxOf s c = some x → x.tunnel = false → ctxFresh s x = true → x.inFw = true → x.st ≠ .completed →
    bits (rd s (R.mbTag mb)) 36 29 = x.fgen → bits (rd s (R.mbTag mb)) 52 37 = x.epoch → bits (rd s (R.mbTag mb)) 55 53 = 4 →
    s.ce.sqs.all (fun p => p.2.rehomeTo.isNone) = true →
    ∃ t, exec (.mbDoorbell m mb) s = .next t ∧
      Safety.Ended t c { sct := bits (rd s (R.mbData mb 2)) 10 8, sc := bits (rd s (R.mbData mb 2)) 7 0 } (rd s (R.mbData mb 0)) ∧
      (∀ i, i ≠ c → i ∉ (((sqOf s x.fn 0).map (fun q => q.live)).getD []) → ctxOf t i = ctxOf s i) ∧
      boxFull t mb = false ∧ t.ze = s.ze ∧ t.fl = s.fl) ∧
  (∀ (s : State) (m : Master) (mb : Nat), Safety.Reaches s m .mailbox mb → 4 ≤ mb → mb < 32 → boxFull s mb = true →
    ∃ t, exec (.mbAck m mb) s = .next t ∧ boxFull t mb = false ∧ (∀ b, b ≠ mb → boxFull t b = boxFull s b) ∧
      t = { s with ctl := { s.ctl with boxes := t.ctl.boxes } }) ∧
  (∀ (s : State) (m : Master) (mb : Nat), Safety.Reaches s m .mailbox mb → mb < 4 → boxFull s mb = true →
    s.ce.ctxs.all (fun p => !p.2.inFw || p.2.mbSent) = true → s.ce.notices = [] → s.ce.sqs.all (fun p => p.2.rehomeTo.isNone) = true →
    ∃ t, exec (.mbAck m mb) s = .next t ∧ boxFull t mb = false ∧ (∀ b, b ≠ mb → boxFull t b = boxFull s b) ∧
      t = { s with ctl := { s.ctl with boxes := t.ctl.boxes }, ce := { s.ce with sqs := t.ce.sqs } }) ∧
  (∀ (s : State) (e : Event) (rest : List Event), s.rs.standby = true → s.att.evrec.fifo = e :: rest → s.att.evrec.recs = [] →
    ∃ t, exec .eventRecord s = .next t ∧ t.att.evrec.fifo = rest ∧ t.att.evrec.newSeq = (s.att.evrec.newSeq + 1) % 4294967296 ∧
      t.att.evrec.recs = [{ seq := (s.att.evrec.newSeq + 1) % 4294967296, ev := e, trunc := s.att.evrec.truncNext }] ∧
      t = { s with att := { s.att with evrec := t.att.evrec } }) ∧
  (∀ (s : State) (e : Event) (rest : List Event) (old : List ERec) (x : ERec), s.rs.standby = true → s.att.evrec.fifo = e :: rest →
    s.att.evrec.recs = old ++ [x] → sameEvent e x = true → x.repeats < 65535 → x.carried = false →
    ∃ t, exec .eventRecord s = .next t ∧ t.att.evrec.fifo = rest ∧ t.att.evrec.newSeq = s.att.evrec.newSeq ∧
      t.att.evrec.recs = old ++ [{ x with repeats := x.repeats + 1, lastOfs := Nat.min 4294967295 ((e.time - x.ev.time) / 1000) }] ∧
      t = { s with att := { s.att with evrec := t.att.evrec } })

/-- EV_SW raises one of the sources 472 to 479 with the code, severity and parameters firmware chose, like any other source. A
write to EV_SW by a PRIV or SECURE master sets the pending bit of source 472 + n, n in bits 2:0, and, where that source's
configuration records it and the recorder's FIFO has room, passes it to the recorder with the code of bits 31:16, the severity
of bits 5:4 and the three parameters of EV_SW_P; no other pending bit, register or part of the device changes. (R402.) -/
def Obligations.FirmwareEventsAreTreatedLikeAny : Prop :=
  ∀ (s : State) (m : Master) (v : Word), Safety.Reaches s m .event 0 →
    ∃ t, exec (.evSw m v) s = .next t ∧ pending? t (472 + bits v.toNat 2 0) = true ∧
      (s.att.evrec.fifo.length < 64 → ∀ i, i < 512 → i ≠ 472 + bits v.toNat 2 0 → pending? t i = pending? s i) ∧
      (rdb s (R.evCfg (472 + bits v.toNat 2 0)) 0 = true → s.att.evrec.fifo.length < 64 →
        t.att.evrec = { s.att.evrec with fifo := s.att.evrec.fifo ++
          [{ src := 472 + bits v.toNat 2 0, code := some (bits v.toNat 31 16), sev := bits v.toNat 5 4, p0 := rd s (R.evSwP 0) % 4294967296,
             p1 := rd s (R.evSwP 1) % 4294967296, p2 := rd s (R.evSwP 2) % 4294967296, time := s.ck.tb }] }) ∧
      (rdb s (R.evCfg (472 + bits v.toNat 2 0)) 0 = false → t.att.evrec = s.att.evrec) ∧
      t = { s with rf := { s.rf with regs := t.rf.regs }, att := { s.att with evrec := t.att.evrec } }

/-- A kick returns a watchdog to stage 0; unkicked it warns, resets its cluster, and enters HOLDUP. A kick with 0xA5 below stage
3 returns the watchdog to stage 0; another value raises event source 466 and changes nothing else. A counting watchdog goes
through its stages with event sources 448 + w, 453 + w and 458: at stage 2 a cluster's L2 is written back, its cores restart and
its queues move to another cluster (those of which no mailbox holds a message of an earlier epoch), at stage 3 the device enters
HOLDUP with cause 5. A debug halt sets one core's halt; a debug session and a voted window copy raise their events, and the
voted value stands. (14_control.md R392, R403, R404; 17_attic.md R483; 10_granary.md R298.) -/
def Obligations.WatchdogsAdvanceThroughTheirStages : Prop :=
  (∀ (s : State) (m : Master) (w : Nat) (v : Word), Safety.Reaches s m .cricket w → w < 5 → v.toNat % 65536 = 0xA5 → (dogOf s w).stage < 3 →
    ∃ t, exec (.cricketKick m w v) s = .next t ∧ dogOf t w = {} ∧ (∀ u, u ≠ w → dogOf t u = dogOf s u) ∧
      t = { s with ctl := { s.ctl with dogs := t.ctl.dogs } }) ∧
  (∀ (s : State) (m : Master) (w : Nat) (v : Word), Safety.Reaches s m .cricket w → w < 5 → v.toNat % 65536 ≠ 0xA5 →
    ∃ t, exec (.cricketKick m w v) s = .next t ∧ pending? t 466 = true ∧
      t = { s with rf := { s.rf with regs := t.rf.regs }, att := { s.att with evrec := t.att.evrec } }) ∧
  (∀ (s : State) (w : Nat), w < 5 → dogCounts s w = true → (dogOf s w).stage = 0 →
    ∃ t, exec (.cricketStage1 w) s = .next t ∧ dogOf t w = { stage := 1, elapsed := Nat.min (dogT s w) 65535 } ∧
      (∀ u, u ≠ w → dogOf t u = dogOf s u) ∧ pending? t (448 + w) = true ∧
      t = { s with ctl := { s.ctl with dogs := t.ctl.dogs }, rf := t.rf, att := { s.att with evrec := t.att.evrec } }) ∧
  (∀ (s : State) (w : Nat), w < 4 → dogCounts s w = true → (dogOf s w).stage = 1 →
    ∃ t, exec (.cricketStage2 w) s = .next t ∧ (dogOf t w).stage = 2 ∧ pending? t (453 + w) = true ∧ t.pw = s.pw ∧ t.fl = { s.fl with thr := t.fl.thr } ∧ t.ze = s.ze ∧ tfind t.ctl.l2 w = none ∧
      (∀ n, n < 16 → (tget {} t.ctl.cores n : Core).running =
        (if n / 4 = w then !(tget {} s.ctl.cores n : Core).fenced else (tget {} s.ctl.cores n : Core).running)) ∧
      ((∀ fn q, staleMail s fn q = false) → s.ce.notices = [] → s.ce.ctxs.all (fun p => !p.2.inFw || p.2.mbSent) = true →
        ∀ fn q sq, sqOf s fn q = some sq → sq.home = w → ∃ sq', sqOf t fn q = some sq' ∧ sq'.home = otherCluster s w ∧ sq'.live = sq.live)) ∧
  (∀ s : State, dogCounts s 4 = true → (dogOf s 4).stage = 1 →
    ∃ t, exec (.cricketStage2 4) s = .next t ∧ (dogOf t 4).stage = 2 ∧ pending? t 457 = true ∧ t.pw = s.pw ∧
      (∀ n, n < 16 → (tget {} t.ctl.cores n : Core).running = !(tget {} s.ctl.cores n : Core).fenced) ∧
      ((∀ fn q, staleMail s fn q = false) → ∀ fn q sq, sqOf s fn q = some sq → ∃ sq', sqOf t fn q = some sq' ∧ sq'.epoch = (sq.epoch + 1) % 65536)) ∧
  (∀ (s : State) (w : Nat), w < 5 → dogCounts s w = true → (dogOf s w).stage = 2 → s.pw.mode ≠ mOff →
    ∃ t, exec (.cricketStage3 w) s = .next t ∧ (dogOf t w).stage = 3 ∧ pending? t 458 = true ∧ t.pw.mode = mHoldup ∧ t.gr.huCause = 5 ∧
      t.gr.holdup = true) ∧
  (∀ (s : State) (core : Nat) (h : Bool), s.att.fuses.debugLock = false → core < 16 → domState s 0 = 2 →
    ∃ t, exec (.debugCoreHalt core h) s = .next t ∧ coreHalted t core = h ∧ (∀ n, n ≠ core → coreHalted t n = coreHalted s n) ∧
      t = { s with ctl := { s.ctl with cores := t.ctl.cores } }) ∧
  (∀ s : State, s.att.fuses.debugLock = false →
    ∃ t, exec .debugSessionStart s = .next t ∧ pending? t 489 = true ∧
      t = { s with rf := { s.rf with regs := t.rf.regs }, att := { s.att with evrec := t.att.evrec } }) ∧
  (∀ (s : State) (off cp : Nat) (v : Word), isWinOff off = true → cp < 3 → v.toNat % 65536 ≠ winCopy s off cp → tfind s.rf.voted off = none →
    ∃ t, exec (.windowCopyOutVoted off cp v) s = .next t ∧ pending? t 463 = true ∧ tfind t.rf.voted off = some s.ck.tb ∧
      (∀ o, winVal t o = winVal s o) ∧ t = { s with rf := t.rf, att := { s.att with evrec := t.att.evrec } })

/-- A register write is stored where it may be, staged where it is half of 64 bits, and refused with its event where not. A
write by a host, by an engine to the register space, to a block that cannot be reached, or by the Attic to an address outside
the register space records the access with event source 461 or 462 and changes nothing else. A reachable block ignores a write
to an offset that no register has. A write to the DRAM beyond its capacity, or at or above the watermark of zeroing, is dropped
with event source 300 or 299. A LO write of a writable 64-bit register only fills the master's staging register; the HI write of
an EMPTY mailbox's tag then stores both halves. A write to EV_SW_P stores the word. A locked field keeps its value. A parity
mismatch in a function's state fails its controller and squashes its work; in any other register it leads to SAFE. (00_scope.md
R9, R11, R13; 14_control.md R384 to R386, R388 to R390, R394, R395; 12_memory.md R367.) -/
def Obligations.RegisterWritesAreJudged : Prop :=
  (∀ (s : State) (m : Master) (addr : Nat) (v : Word), (masterCls m = .host ∨ masterCls m = .engine ∧ inRegSpace addr = true) →
    ∃ t, exec (.registerWrite m addr v) s = .next t ∧ pending? t 461 = true ∧ t.ctl.accKind = 1 ∧ t.ctl.accValid = true ∧
      t.ctl.accClass = clsCode (masterCls m) ∧ t.ctl.accWrite = true ∧
      t = { s with ctl := { s.ctl with accAddr := t.ctl.accAddr, accClass := t.ctl.accClass, accWrite := true, accKind := 1, accValid := true }, rf := t.rf, att := { s.att with evrec := t.att.evrec } }) ∧
  (∀ (s : State) (m : Master) (addr : Nat) (v : Word), (masterCls m = .priv ∨ masterCls m = .secure ∨ masterCls m = .normal) →
    masterSilent s m = false → findReg addr = none →
    (∀ b ch, blkAt addr = some (b, ch) →
      (reachable s b ch = true → exec (.registerWrite m addr v) s = .next s) ∧
      (reachable s b ch = false → ∃ t, exec (.registerWrite m addr v) s = .next t ∧ pending? t 462 = true ∧
        t = { s with ctl := { s.ctl with accAddr := addr, accClass := clsCode (masterCls m), accWrite := true, accKind := 2, accValid := true }, rf := t.rf, att := { s.att with evrec := t.att.evrec } })) ∧
    (blkAt addr = none → m = .attic ∨ 0x8000000000 ≤ addr → ∃ t, exec (.registerWrite m addr v) s = .next t ∧ pending? t 462 = true ∧
      t = { s with ctl := { s.ctl with accAddr := addr, accClass := clsCode (masterCls m), accWrite := true, accKind := 3, accValid := true }, rf := t.rf, att := { s.att with evrec := t.att.evrec } })) ∧
  (∀ (s : State) (core a : Nat) (v : Word), findReg (0x4000000000 + a) = none → a < 0x4000000000 → domState s 10 = 2 → masterSilent s (.core core) = false →
    (dmUsable s ≤ a → ∃ t, exec (.registerWrite (.core core) (0x4000000000 + a) v) s = .next t ∧ pending? t 300 = true ∧ t = { s with rf := t.rf, att := { s.att with evrec := t.att.evrec } }) ∧
    (a < dmUsable s → zeroMark s ≤ a →
      ∃ t, exec (.registerWrite (.core core) (0x4000000000 + a) v) s = .next t ∧ pending? t 299 = true ∧ t = { s with rf := t.rf, att := { s.att with evrec := t.att.evrec } })) ∧
  (∀ (s : State) (m : Master) (addr : Nat) (v : Word) (h : Hit), Safety.Reaches s m h.d.blk h.i → findReg addr = some h → h.d.wide = true →
    h.hi = false → h.d.fields.any writable = true → h.d.fields.any (fun f => f.who.admits h.i (masterCls m)) = true →
    exec (.registerWrite m addr v) s = .next { s with rf := { s.rf with stage := tput 0 (masterKey m) v.toNat s.rf.stage } }) ∧
  (∀ (s : State) (m : Master) (addr : Nat) (v : Word) (h : Hit), Safety.Reaches s m .mailbox h.i → findReg addr = some h → h.d = D.mbTag →
    h.hi = true → boxFull s h.i = false → tget 0 s.rf.stage (masterKey m) < 4294967296 →
    ∃ t, exec (.registerWrite m addr v) s = .next t ∧ rd t (D.mbTag.at h.i h.j) = v.toNat * 4294967296 + tget 0 s.rf.stage (masterKey m) ∧
      (∀ r : Ref, r.addr ≠ (D.mbTag.at h.i h.j).addr → rd t r = rd s r) ∧ t = { s with rf := { s.rf with regs := t.rf.regs } }) ∧
  (∀ (s : State) (m : Master) (addr : Nat) (v : Word) (h : Hit), Safety.Reaches s m .event h.i → findReg addr = some h → h.d = D.evSwP →
    ∃ t, exec (.registerWrite m addr v) s = .next t ∧ rd t (D.evSwP.at h.i h.j) = v.toNat ∧
      (∀ r : Ref, r.addr ≠ (D.evSwP.at h.i h.j).addr → rd t r = rd s r) ∧ t = { s with rf := { s.rf with regs := t.rf.regs } }) ∧
  (∀ (s : State) (m : Master) (addr : Nat) (v : Word) (h : Hit), Safety.Reaches s m .clock h.i → findReg addr = some h → h.d = D.clkMon →
    rdb s R.clkLock 0 = true →
    ∃ t, exec (.registerWrite m addr v) s = .next t ∧ rd t (D.clkMon.at h.i h.j) = rd s (D.clkMon.at h.i h.j) ∧
      (bit v.toNat 0 ≠ rdb s (D.clkMon.at h.i h.j) 0 → pending? t 467 = true) ∧ t = { s with rf := t.rf, att := { s.att with evrec := t.att.evrec } }) ∧
  (∀ (s : State) (fn offset : Nat), (fnOf s fn).present = true → (fnOf s fn).squash = none →
    ∃ t, exec (.registerParityMismatch (some fn) offset) s = .next t ∧ (fnOf t fn).cfs = true ∧ (fnOf t fn).squash = some .parity ∧
      (fnOf t fn).gen = ((fnOf s fn).gen + 1) % 256 ∧ rdb t R.sysParStat 0 = true ∧ pending? t 459 = true ∧ t.pw = s.pw) ∧
  (∀ (s : State) (offset : Nat), parityAt offset = true → serving s = true → s.ctl.parGlobal = false →
    ∃ t, exec (.registerParityMismatch none offset) s = .next t ∧ t.pw.mode = mSafe ∧ t.pw.safeCause = 1 ∧ t.ctl.parGlobal = true ∧
      t.ctl.parAddr = offset ∧ pending? t 460 = true ∧ pending? t 16 = true)

/-- The Attic takes management requests in turn and answers each with what the spec gives. A request that arrives alone at an
open endpoint that is not paused is taken up; an unsupported opcode is answered at once with Invalid Command Opcode. Each
command of R462 in progress is answered with its data and nothing else changes but what it sets: health polls give critical
warnings and temperature, Configuration Get what was set, VPD reads and writes the 256 bytes, Reset a chip warm reset in order
(refused in HALT at 92 °C or above). Control primitives act on their endpoint at once. A tunnelled admin command becomes a
command of its controller, or is answered with the refusal of its opcode. (17_attic.md R460 to R463, R465; 18_bring_up.md R489.)
-/
def Obligations.ManagementCommandsAreAnswered : Prop :=
  (∀ (s : State) (r : MiReq), atticRuns s = true → s.att.miCur = none → s.att.miQueue = [] → endpointUp s r.endpoint = true →
    s.att.miPaused.contains r.endpoint = false → miOpcodes.contains r.opcode = true →
    exec (.nvmeMiRequest [r]) s = .next { s with att := { s.att with miCur := some r } }) ∧
  (∀ (s : State) (r : MiReq), atticRuns s = true → s.att.miCur = none → s.att.miQueue = [] → endpointUp s r.endpoint = true →
    s.att.miPaused.contains r.endpoint = false → miOpcodes.contains r.opcode = false →
    exec (.nvmeMiRequest [r]) s = .next { s with att := Safety.miReply r (Config.miStatus 2) [] s.att }) ∧
  (∀ (s : State) (r : MiReq), Safety.MiRuns s r 0x00 →
    exec .readNvmeMiDataStructure s = .next { s with att := Safety.miReply r (Config.miStatus 0) (Config.miBytes 0 r.arg) s.att }) ∧
  (∀ (s : State) (r : MiReq), Safety.MiRuns s r 0x01 →
    exec .nvmSubsystemHealthStatusPoll s = .next { s with att := Safety.miReply r (Config.miStatus 0) (bytesAt (Config.miBytes 1 0) 0 1 ++ leBytes 1 (255 - critWarn s (fnOf s 0)) ++ [compByte s] ++ bytesAt (Config.miBytes 1 1) 0 5) s.att }) ∧
  (∀ (s : State) (r : MiReq), Safety.MiRuns s r 0x02 →
    exec .controllerHealthStatusPoll s = .next { s with att := Safety.miReply r (Config.miStatus 0) (leBytes 2 (cntlidOf r.fn) ++ leBytes 2 ((fnOf s r.fn).rdy.toNat + 2 * (fnOf s r.fn).cfs.toNat + 4 * (fnOf s r.fn).shst) ++ leBytes 2 (compK s) ++ leBytes 1 (critWarn s (fnOf s r.fn)) ++ bytesAt (Config.miBytes 2 0) 0 9) s.att }) ∧
  (∀ (s : State) (r : MiReq), Safety.MiRuns s r 0x03 →
    ∃ t, exec .configurationSet s = .next t ∧ tfind t.att.miConfig (256 * r.endpoint + r.arg % 256) = some (leNat (r.data.take 4)) ∧
      t = { s with att := Safety.miReply r (Config.miStatus 0) [] { s.att with miConfig := t.att.miConfig } }) ∧
  (∀ (s : State) (r : MiReq) (v : Nat), Safety.MiRuns s r 0x04 → tfind s.att.miConfig (256 * r.endpoint + r.arg % 256) = some v →
    exec .configurationGet s = .next { s with att := Safety.miReply r (Config.miStatus 0) (leBytes 4 v) s.att }) ∧
  (∀ (s : State) (r : MiReq), Safety.MiRuns s r 0x05 →
    exec .vpdRead s = .next { s with att := if r.off + r.arg ≤ 256 then Safety.miReply r (Config.miStatus 0) (bytesAt s.att.vpd r.off r.arg) s.att else Safety.miReply r (Config.miStatus 3) [] s.att }) ∧
  (∀ (s : State) (r : MiReq), Safety.MiRuns s r 0x06 → r.off + r.data.length ≤ 256 →
    ∃ t, exec .vpdWrite s = .next t ∧ (∀ i, i < 256 → bytesAt t.att.vpd i 1 =
        (if r.off ≤ i ∧ i < r.off + r.data.length then [r.data.getD (i - r.off) 0] else bytesAt s.att.vpd i 1)) ∧
      t = { s with att := Safety.miReply r (Config.miStatus 0) [] { s.att with vpd := t.att.vpd } }) ∧
  (∀ (s : State) (r : MiReq), Safety.MiRuns s r 0x07 → inService s = true → starting s = false →
    ∃ t, exec .nvmeMiReset s = .next t ∧ t.pw.mode = mQuiesce ∧ t.pw.stop = some .warmReset ∧ t.att.miCur = none ∧ t.ce.fetchStop = true) ∧
  (∀ (s : State) (r : MiReq), Safety.MiRuns s r 0x07 → s.pw.mode = mHalt → 92 ≤ s.pw.comp →
    ∃ t, exec .nvmeMiReset s = .next t ∧ pending? t 17 = true ∧
      t = { s with rf := t.rf, att := Safety.miReply r (Config.miStatus 4) [] { s.att with evrec := t.att.evrec } }) ∧
  (∀ (s : State) (e : Nat), endpointUp s e = true →
    (∃ t, exec (.miPause e) s = .next t ∧ t.att.miPaused.contains e = true ∧ t.att.miCur = s.att.miCur ∧ t.att.miQueue = s.att.miQueue ∧
      t = { s with att := { s.att with miPaused := t.att.miPaused, miOut := t.att.miOut } }) ∧
    (∃ t, exec (.miResume e) s = .next t ∧ t.att.miPaused.contains e = false ∧
      t = { s with att := { s.att with miPaused := t.att.miPaused, miOut := t.att.miOut } }) ∧
    (∃ t, exec (.nvmeMiAbort e) s = .next t ∧ (∀ r, r ∈ t.att.miQueue ↔ r ∈ s.att.miQueue ∧ r.endpoint ≠ e) ∧
      (∀ r, t.att.miCur = some r ↔ s.att.miCur = some r ∧ r.endpoint ≠ e)) ∧
    (∃ t, exec (.miGetState e) s = .next t ∧ t.att.miOut = s.att.miOut ++ [{ endpoint := e, status := Config.miStatus 0, data := leBytes 1 ((s.att.miPaused.contains e).toNat + 2 * (s.att.miCur.any (fun r => r.endpoint == e)).toNat) }] ∧
      t = { s with att := { s.att with miOut := t.att.miOut } }) ∧
    (∀ o, tfind s.att.miLast e = some o → exec (.miReplay e) s = .next { s with att := { s.att with miOut := s.att.miOut ++ [o] } })) ∧
  (∀ s : State, atticRuns s = true →
    exec .nvmeBasicManagementCommand s = .next { s with att := { s.att with miOut := s.att.miOut ++ [{ endpoint := 0, status := Config.miStatus 0, data := bytesAt (Config.miBytes 6 0) 0 2 ++ leBytes 1 (255 - critWarn s (fnOf s 0)) ++ [compByte s] ++ bytesAt (Config.miBytes 6 1) 0 4 }] } }) ∧
  (∀ (s : State) (r : MiReq), Safety.MiRuns s r 0x100 → ctxOf s tunnelCtx = none → tunnelServed s r.cmd.opc = true →
    notTunnelled.contains r.cmd.opc = false →
    adminFault s { fn := r.fn, fgen := (fnOf s r.fn).gen, tunnel := true, st := .started, e := r.cmd } = none →
    ∃ t, exec .tunnelledAdminCommand s = .next t ∧
      ctxOf t tunnelCtx = some { fn := r.fn, fgen := (fnOf s r.fn).gen, tunnel := true, st := .started, e := r.cmd } ∧
      (∀ i, i ≠ tunnelCtx → ctxOf t i = ctxOf s i) ∧ t = { s with ce := { s.ce with ctxs := t.ce.ctxs } }) ∧
  (∀ (s : State) (r : MiReq), Safety.MiRuns s r 0x100 → ctxOf s tunnelCtx = none → tunnelServed s r.cmd.opc = true →
    notTunnelled.contains r.cmd.opc = true →
    ∃ t, exec .tunnelledAdminCommand s = .next t ∧ ctxOf t tunnelCtx = none ∧
      t.att = Safety.miReply r (Config.miStatus 0) (leBytes 4 0 ++ leBytes 4 0 ++ leBytes 4 131072) s.att)

/-- Fuses are blown by their commands and read back; sensors report limits; the recorder window follows its cursor. Program Key
Hash, Revoke Key, Require LMS and Lock Debug, where not done before and where a key is left, blow their fuse with event source
488; Read Fuses and Read Board Sensors answer with the table. A board sensor's reading is kept, event source 494 when it crosses
a limit, 493 at the third miss. A latch takes the oldest record at or after the cursor, an advance moves the cursor past it, a
clear empties the recorder. A lockstep mismatch zeroes the transport keys. A recovery download of one whole valid firmware image
commits slot A. (17_attic.md R459, R464, R466, R471, R472, R476, R479, R482; 18_bring_up.md R494, R501.) -/
def Obligations.FusesSensorsAndRecorderWindow : Prop :=
  (∀ (s : State) (r : MiReq), Safety.MiRuns s r 0xC0 → 1 ≤ r.arg → r.arg ≤ 3 → r.data.length = 48 → tfind s.att.fuses.keyHash r.arg = none →
    ∃ t, exec .programKeyHash s = .next t ∧ tfind t.att.fuses.keyHash r.arg = some r.data ∧ pending? t 488 = true ∧
      (∀ k, k ≠ r.arg → tfind t.att.fuses.keyHash k = tfind s.att.fuses.keyHash k) ∧
      t = { s with rf := t.rf, att := Safety.miReply r (Config.miStatus 0) [] { s.att with fuses := { s.att.fuses with keyHash := t.att.fuses.keyHash }, evrec := t.att.evrec } }) ∧
  (∀ (s : State) (r : MiReq), Safety.MiRuns s r 0xC1 → r.arg ≤ 3 → bit s.att.fuses.revoke r.arg = false →
    keyLeft s.att.fuses (s.att.fuses.revoke + 2 ^ r.arg) = true →
    ∃ t, exec .revokeKey s = .next t ∧ bit t.att.fuses.revoke r.arg = true ∧ (∀ k, k ≠ r.arg → bit t.att.fuses.revoke k = bit s.att.fuses.revoke k) ∧
      pending? t 488 = true ∧ t = { s with rf := t.rf, att := Safety.miReply r (Config.miStatus 0) [] { s.att with fuses := { s.att.fuses with revoke := t.att.fuses.revoke }, evrec := t.att.evrec } }) ∧
  (∀ (s : State) (r : MiReq), Safety.MiRuns s r 0xC2 → r.data.length = 32 → s.att.fuses.lmsReq = false →
    ∃ t, exec .requireLms s = .next t ∧ t.att.fuses = { s.att.fuses with lmsHash := r.data, lmsReq := true } ∧ pending? t 488 = true ∧
      t = { s with rf := t.rf, att := Safety.miReply r (Config.miStatus 0) [] { s.att with fuses := t.att.fuses, evrec := t.att.evrec } }) ∧
  (∀ (s : State) (r : MiReq), Safety.MiRuns s r 0xC3 → leNat (r.data.take 4) = 0x0D1C0DE5 → s.att.fuses.debugLock = false →
    ∃ t, exec .lockDebug s = .next t ∧ t.att.fuses = { s.att.fuses with debugLock := true } ∧ pending? t 488 = true ∧
      t = { s with rf := t.rf, att := Safety.miReply r (Config.miStatus 0) [] { s.att with fuses := t.att.fuses, evrec := t.att.evrec } }) ∧
  (∀ (s : State) (r : MiReq), Safety.MiRuns s r 0xC4 →
    exec .readFuses s = .next { s with att := Safety.miReply r (Config.miStatus 0) (fuseTable s.att.fuses) s.att }) ∧
  (∀ (s : State) (r : MiReq), Safety.MiRuns s r 0xC5 →
    exec .readBoardSensors s = .next { s with att := Safety.miReply r (Config.miStatus 0) (s.board.sensors.flatMap (fun e => leBytes 4 (twos 32 ((tget {} s.att.sensors e.1 : BSensor).reading.getD 0)) ++ leBytes 1 ((tget {} s.att.sensors e.1 : BSensor).outside.toNat + 2 * ((tget {} s.att.sensors e.1 : BSensor).unavail || (tget {} s.att.sensors e.1 : BSensor).reading.isNone).toNat))) s.att }) ∧
  (∀ (s : State) (i : Nat) (e : BoardSensor) (raw v : Int), atticRuns s = true → tfind s.board.sensors i = some e → v = sensorValue e raw →
    ∃ t, exec (.boardSensorPoll i (some raw)) s = .next t ∧
      tfind t.att.sensors i = some { reading := some v, outside := decide (v < e.lo) || decide (v > e.hi) } ∧
      ((decide (v < e.lo) || decide (v > e.hi)) ≠ (tget {} s.att.sensors i : BSensor).outside → pending? t 494 = true) ∧
      t = { s with rf := t.rf, att := { s.att with sensors := t.att.sensors, evrec := t.att.evrec } }) ∧
  (∀ (s : State) (i : Nat) (e : BoardSensor), atticRuns s = true → tfind s.board.sensors i = some e →
    (tget {} s.att.sensors i : BSensor).misses = 2 →
    ∃ t x, exec (.boardSensorPoll i none) s = .next t ∧ tfind t.att.sensors i = some x ∧ x.misses = 3 ∧ x.unavail = true ∧ pending? t 493 = true) ∧
  (∀ s : State, atticRuns s = true →
    ∃ t, exec .lockstepMismatch s = .next t ∧ t.att.rootKey = none ∧ t.att.fnKeys = [] ∧ t.att.miCur = none ∧ t.att.miQueue = [] ∧
      t.att.download = none ∧ pending? t 480 = true ∧ pending? t 481 = true ∧ t.att.fuses = s.att.fuses ∧ t.att.images = s.att.images ∧
      t.att.evrec.recs = s.att.evrec.recs ∧ t.pw = s.pw ∧ t.ze = s.ze) ∧
  (∀ (s : State) (m : Master) (b : Nat), masterSilent s m = false → b < 2 → Who.perBank.admits b (masterCls m) = true →
    ∃ t, exec (.erWinLatch m b) s = .next t ∧ tfind t.att.evrec.latched b = recAt s.att.evrec (rd s (R.erCur b)) ∧
      t = { s with att := { s.att with evrec := { s.att.evrec with latched := t.att.evrec.latched } } }) ∧
  (∀ (s : State) (m : Master) (b : Nat) (x : ERec), masterSilent s m = false → b < 2 → Who.perBank.admits b (masterCls m) = true →
    tfind s.att.evrec.latched b = some x →
    ∃ t, exec (.erWinAdvance m b) s = .next t ∧ rd t (R.erCur b) = (x.seq + 1) % 4294967296 ∧ t = { s with rf := { s.rf with regs := t.rf.regs } }) ∧
  (∀ (s : State) (m : Master), Safety.Reaches s m .attic 0 → s.att.evrec.fifo.length < 64 →
    ∃ t, exec (.erCtlClear m) s = .next t ∧ t.att.evrec.recs = [] ∧ t.att.evrec.drops = [] ∧ t.att.evrec.newSeq = s.att.evrec.newSeq ∧
      pending? t 490 = true ∧ t = { s with rf := { s.rf with regs := t.rf.regs }, att := { s.att with evrec := t.att.evrec } }) ∧
  (∀ (s : State) (b : List Byte), atticRuns s = true → s.rs.faultCode = some 13 →
    ∃ t, exec (.recoveryDownload 1 0 b true) s = .next t ∧ imageIn t 0 = b ∧ t.att.download = none ∧ pending? t 483 = true ∧
      t.att.fuses = s.att.fuses ∧ imageValid t 0 1 = (imgType b == 1 && imgWellFormed s.att.fuses b && decide (s.att.fuses.rollback ≤ imgSvn b)) ∧
      (if imageValid t 0 1 then (selNewest t).slot = 1 ∧ (selNewest t).trial = false ∧ pending? t 485 = true
       else t.att.sel = s.att.sel ∧ pending? t 484 = true)) ∧
  (∀ (s : State) (b : List Byte), atticRuns s = true → s.rs.faultCode = some 13 →
    ∃ t, exec (.recoveryDownload 1 0 b false) s = .next t ∧ imageIn t 0 = b ∧ imageValid t 0 1 = false ∧
      t = { s with att := { s.att with images := t.att.images, committed := t.att.committed, download := t.att.download } })

/-- Identify answers, and namespaces are created, attached, detached, formatted and deleted. Identify answers with the
controller, the attached namespaces, or the structure of a namespace attached to its function (0x0/0x0B for another). A Create
with valid fields and room takes a free identifier (which, the spec leaves open), returns it in DW0 and leaves the namespace
detached with the limits asked for. Attach gives it to one controller, Detach takes it back at once and, with no started I/O
command left, ends; Format empties every zone that is not Read Only or Offline; Delete removes the namespace and its zones.
(04_tenants.md R117, R118, R123 to R125; 02_zones.md R48, R64; 03_queues.md R110.) -/
def Obligations.NamespacesAreManaged : Prop :=
  (∀ (s : State) (c : Nat) (x : Ctx), Safety.AdminRuns s c x 0x06 →
    (bits x.e.cdw10 7 0 = 0x01 → ∃ t, exec (.identify c) s = .next t ∧ Safety.Answered t c (idController x.fn) ∧ t = { s with ce := { s.ce with ctxs := t.ce.ctxs } }) ∧
    (bits x.e.cdw10 7 0 = 0x02 → ∃ t, exec (.identify c) s = .next t ∧ Safety.Answered t c (idNsList (ownNss s x.fn) x.e.nsid) ∧ t = { s with ce := { s.ce with ctxs := t.ce.ctxs } }) ∧
    (∀ n, bits x.e.cdw10 7 0 = 0x00 → nsOf s x.e.nsid = some n → x.e.nsid ∈ namedNs s x →
      ∃ t, exec (.identify c) s = .next t ∧ Safety.Answered t c (idNamespace n) ∧ t = { s with ce := { s.ce with ctxs := t.ce.ctxs } }) ∧
    (bits x.e.cdw10 7 0 = 0x00 → x.e.nsid ∉ namedNs s x →
      ∃ t, exec (.identify c) s = .next t ∧ Safety.Ended t c stBadNs 0 ∧ t = { s with ce := { s.ce with ctxs := t.ce.ctxs } }) ∧
    (bits x.e.cdw10 7 0 = 0x14 → isPf x.fn = true →
      ∃ t, exec (.identify c) s = .next t ∧ Safety.Answered t c (idPrimary s x.fn) ∧ t = { s with ce := { s.ce with ctxs := t.ce.ctxs } }) ∧
    (bits x.e.cdw10 7 0 = 0x15 → isPf x.fn = true →
      ∃ t, exec (.identify c) s = .next t ∧ Safety.Answered t c (idSecondaries s x.fn (bits x.e.cdw10 31 16)) ∧ t = { s with ce := { s.ce with ctxs := t.ce.ctxs } })) ∧
  (∀ fn, fn < 2052 → (idController fn).length = 4096 ∧ fieldAt (idController fn) 77 1 = 9 ∧ fieldAt (idController fn) 78 2 = cntlidOf fn) ∧
  (∀ (s : State) (c : Nat) (x : Ctx), Safety.AdminRuns s c x 0x0D → bits x.e.cdw10 3 0 = 0 → bits x.e.cdw11 31 24 = 2 →
    fieldAt x.e.payload 26 1 = 0 → fieldAt x.e.payload 0 8 = fieldAt x.e.payload 8 8 → fieldAt x.e.payload 0 8 ≠ 0 →
    fieldAt x.e.payload 0 8 % zoneLbas = 0 → fieldAt x.e.payload 3840 4 ≤ 4095 → fieldAt x.e.payload 3844 4 ≤ 16383 →
    fieldAt x.e.payload 3840 4 ≤ fieldAt x.e.payload 3844 4 → totalZones s + fieldAt x.e.payload 0 8 / zoneLbas ≤ 819200 → s.ze.nss.length < 4096 →
    ∃ t n y, exec (.namespaceCreate c) s = .next t ∧ 1 ≤ n ∧ n ≤ 4096 ∧ nsOf s n = none ∧ Safety.Ended t c stOk n ∧ nsOf t n = some y ∧
      y.zones = fieldAt x.e.payload 0 8 / zoneLbas ∧ y.mor = fieldAt x.e.payload 3840 4 + 1 ∧ y.mar = fieldAt x.e.payload 3844 4 + 1 ∧
      y.attached = none ∧ y.dflt.density = 1 ∧ y.dflt.comp = false ∧ y.dflt.life = 1 ∧ y.hist = { since := s.ck.tb } ∧
      (∀ k, k ≠ n → nsOf t k = nsOf s k) ∧ t = { s with ze := { s.ze with nss := t.ze.nss }, ce := { s.ce with ctxs := t.ce.ctxs }, free := t.free }) ∧
  (∀ (s : State) (c fn : Nat) (x : Ctx) (n : Ns), Safety.AdminRuns s c x 0x15 → bits x.e.cdw10 3 0 = 0 → nsOf s x.e.nsid = some n →
    attachList x.e = [some fn] → n.attached = none →
    ∃ t, exec (.namespaceAttach c) s = .next t ∧ Safety.Ended t c stOk 0 ∧ nsOf t x.e.nsid = some { n with attached := some fn } ∧
      (∀ k, k ≠ x.e.nsid → nsOf t k = nsOf s k) ∧ t = { s with ze := { s.ze with nss := t.ze.nss }, ce := { s.ce with ctxs := t.ce.ctxs } }) ∧
  (∀ (s : State) (c fn : Nat) (x : Ctx) (n : Ns), Safety.AdminRuns s c x 0x15 → bits x.e.cdw10 3 0 = 1 → nsOf s x.e.nsid = some n →
    attachList x.e = [some fn] → n.attached = some fn → s.ce.ctxs = [(c, x)] → c < ioCtx → x.covered = [] →
    ∃ t, exec (.namespaceDetach c) s = .next t ∧ Safety.Ended t c stOk 0 ∧ nsOf t x.e.nsid = some { n with attached := none } ∧
      (∀ k, k ≠ x.e.nsid → nsOf t k = nsOf s k) ∧ t = { s with ze := { s.ze with nss := t.ze.nss }, ce := { s.ce with ctxs := t.ce.ctxs } }) ∧
  (∀ (s : State) (c : Nat) (x : Ctx) (n : Ns), Safety.AdminRuns s c x 0x80 → bits x.e.cdw10 11 9 = 0 → bits x.e.cdw10 3 0 = 0 →
    bits x.e.cdw10 13 12 = 0 → nsOf s x.e.nsid = some n → x.e.nsid ∈ namedNs s x → x.e.nsid ≠ 0xFFFFFFFF →
    (∀ k z, tfind s.ze.zones k = some z → zNsid k = x.e.nsid → z.queue = []) → s.gr.unplaced = false →
    ∃ t, exec (.formatNvm c) s = .next t ∧ Safety.Ended t c stOk 0 ∧ nsOf t x.e.nsid = some n ∧
      (∀ k, zNsid k = x.e.nsid → (zoneOf s k).st ≠ .readOnly → (zoneOf s k).st ≠ .offline → (zoneOf t k).st = .empty ∧ (zoneOf t k).wp = 0 ∧
        (zoneOf t k).units = [] ∧ (zoneOf t k).frames = []) ∧
      (∀ k, zNsid k ≠ x.e.nsid → zoneOf t k = zoneOf s k)) ∧
  (∀ (s : State) (c : Nat) (x : Ctx) (n : Ns), Safety.AdminRuns s c x 0x0D → bits x.e.cdw10 3 0 = 1 → nsOf s x.e.nsid = some n →
    x.e.nsid ≠ 0xFFFFFFFF → s.ce.ctxs = [(c, x)] → c < ioCtx → x.waitFlash = false → x.waitMirror = false → s.gr.unplaced = false →
    ∃ t, exec (.namespaceDelete c) s = .next t ∧ Safety.Ended t c stOk 0 ∧ nsOf t x.e.nsid = none ∧
      (∀ k, zNsid k = x.e.nsid → tfind t.ze.zones k = none) ∧ (∀ k, k ≠ x.e.nsid → nsOf t k = nsOf s k) ∧
      (∀ k, zNsid k ≠ x.e.nsid → zoneOf t k = zoneOf s k))

/-- A staged image is written and committed where its checks pass; an activation runs the new slot. With no download in progress
and the DRAM in use, a piece at offset 0 is staged for its issuer; another issuer is refused with 0x0/0x0C. A commit of action
000 to the slot that does not run writes and commits a staged image that passes its checks, with event source 485, and refuses
another with the check's status and event source 484, the boot flash unchanged. A drained activation runs the new slot, confirms
it and ends the command; a drain that times out ends it with 0x1/0x12, the old slot running. (17_attic.md R476 to R479;
18_bring_up.md R494, R495, R504, R505.) -/
def Obligations.ImagesAreStagedCommittedAndActivated : Prop :=
  (∀ (s : State) (c : Nat) (x : Ctx), Safety.AdminRuns s c x 0x11 → noDram s = false → (4 * (x.e.cdw10 + 1)) % 4096 = 0 → x.e.cdw11 = 0 →
    s.att.download = none →
    ∃ t, exec (.firmwareImageDownload c) s = .next t ∧ Safety.Ended t c stOk 0 ∧
      t.att.download = some { owner := x.fn, pieces := [(0, bytesAt x.e.payload 0 (4 * (x.e.cdw10 + 1)))] } ∧
      t = { s with rf := t.rf, ce := { s.ce with ctxs := t.ce.ctxs }, att := { s.att with download := t.att.download, evrec := t.att.evrec } }) ∧
  (∀ (s : State) (c : Nat) (x : Ctx) (d : Download), Safety.AdminRuns s c x 0x11 → noDram s = false → (4 * (x.e.cdw10 + 1)) % 4096 = 0 →
    (4 * x.e.cdw11) % 4096 = 0 → s.att.download = some d → d.direct = false → d.owner ≠ 4097 → d.owner ≠ x.fn →
    ∃ t, exec (.firmwareImageDownload c) s = .next t ∧ Safety.Ended t c stSequence 0 ∧ t = { s with ce := { s.ce with ctxs := t.ce.ctxs } }) ∧
  (∀ (s : State) (c slot : Nat) (x : Ctx) (d : Download), Safety.AdminRuns s c x 0x10 → bits x.e.cdw10 5 3 = 0 → bits x.e.cdw10 2 0 = slot →
    slot = 1 ∨ slot = 2 → slot ≠ s.att.runSlot → s.rs.activating = none → s.att.download = some d → d.direct = false → d.owner = x.fn →
    ∃ t, exec (.firmwareCommit c) s = .next t ∧ t.att.sel = s.att.sel ∧ t.att.fuses = s.att.fuses ∧
      (imgRefusal s slot (assemble d.pieces []) = none → Safety.Ended t c stOk 0 ∧ imageIn t (slot - 1) = assemble d.pieces [] ∧
        (slot - 1) ∈ t.att.committed ∧ t.att.download = none ∧ pending? t 485 = true ∧
        (∀ p, p ≠ slot - 1 → imageIn t p = imageIn s p ∧ (p ∈ t.att.committed ↔ p ∈ s.att.committed))) ∧
      (∀ check st, imgRefusal s slot (assemble d.pieces []) = some (check, st) → Safety.Ended t c st 0 ∧ t.att.images = s.att.images ∧
        t.att.committed = s.att.committed ∧ pending? t 484 = true)) ∧
  (∀ (s : State) (c : Nat) (x : Ctx), s.rs.activating = some c → drained s c = true → ctxOf s c = some x → x.st = .committed → x.tunnel = false →
    x.sqid = 0 → ctxFresh s x = true →
    ∃ t, exec (.firmwareActivation c) s = .next t ∧ Safety.Ended t c stOk 0 ∧ t.att.runSlot = s.rs.actSlot ∧ t.att.trialRun = false ∧
      (selNewest t).slot = s.rs.actSlot ∧ (selNewest t).trial = false ∧ t.rs.activating = none ∧
      t.ce.fetchStop = (s.ce.fetchStop && !inService s) ∧ pending? t 486 = true ∧ t.pw = s.pw ∧ t.gr = s.gr) ∧
  (∀ (s : State) (c : Nat) (x : Ctx), s.rs.activating = some c → drained s c = false → ctxOf s c = some x → x.st = .committed → x.tunnel = false →
    x.sqid = 0 → ctxFresh s x = true →
    ∃ t, exec .activationDrainTimeout s = .next t ∧ Safety.Ended t c stMaxTime 0 ∧ t.rs.activating = none ∧ t.att = s.att ∧
      t = { s with ce := { s.ce with ctxs := t.ce.ctxs, fetchStop := s.ce.fetchStop && !inService s }, rs := t.rs })

/-- Transport keys unwrap slot keys, slots are loaded and erased, and what is refused raises event source 266. A tunnelled
Install keeps the root transport key. A PF's Load of a function key wrapped under the root key keeps it for a function of its
port; one wrapped under another key ends with 0x7/0xC4 and event source 266. A Load of a granted slot with the function's key
gives an EMPTY slot its key and salt and raises its counter to the floor, and goes to the shadow of a slot whose key is in use.
An Erase zeroes key and salt and keeps the counter. Slot Status, the protocol list and NVMe-MI over the admin queue answer with
their data. (06_cipher.md R170, R179 to R184; 17_attic.md R462, R463.) -/
def Obligations.KeysAreLoadedThroughTheAttic : Prop :=
  (∀ (s : State) (c : Nat) (x : Ctx), Safety.IsTunnelled s c x 0x81 → bits x.e.cdw10 31 24 = 0xF2 → bits x.e.cdw10 23 21 = 1 → atticRuns s = true → eTl x.e = 32 →
    ∃ t, exec (.installRootTransportKey c) s = .next t ∧ t.att.rootKey = some (leNat (bytesAt x.e.payload 0 32)) ∧ ctxOf t c = none ∧
      t.att.fnKeys = s.att.fnKeys ∧ t.ci = s.ci) ∧
  (∀ (s : State) (c f k : Nat) (x : Ctx) (blob : Wrapped), Safety.AdminRuns s c x 0x81 → bits x.e.cdw10 31 24 = 0xF2 → bits x.e.cdw10 23 21 = 2 → atticRuns s = true → isPf x.fn = true → eTl x.e = 48 →
    fnOfCntlid (fieldAt x.e.payload 0 2) = some f → portOf f = x.fn → s.att.rootKey = some k → blob.kek = k → blob.plain.length = 32 →
    ∃ t, exec (.loadFunctionTransportKey c blob) s = .next t ∧ Safety.Ended t c stOk 0 ∧ tfind t.att.fnKeys f = some (leNat blob.plain) ∧
      (∀ g, g ≠ f → tfind t.att.fnKeys g = tfind s.att.fnKeys g) ∧ t = { s with ce := { s.ce with ctxs := t.ce.ctxs }, att := { s.att with fnKeys := t.att.fnKeys } }) ∧
  (∀ (s : State) (c f k : Nat) (x : Ctx) (blob : Wrapped), Safety.AdminRuns s c x 0x81 → bits x.e.cdw10 31 24 = 0xF2 → bits x.e.cdw10 23 21 = 2 → atticRuns s = true → isPf x.fn = true → eTl x.e = 48 →
    fnOfCntlid (fieldAt x.e.payload 0 2) = some f → portOf f = x.fn → s.att.rootKey = some k → blob.kek ≠ k →
    ∃ t, exec (.loadFunctionTransportKey c blob) s = .next t ∧ Safety.Ended t c stAuth 0 ∧ pending? t 266 = true ∧ t = { s with ce := { s.ce with ctxs := t.ce.ctxs }, rf := t.rf, att := { s.att with evrec := t.att.evrec } }) ∧
  (∀ (s : State) (c k : Nat) (x : Ctx) (blob : Wrapped), Safety.AdminRuns s c x 0x81 → bits x.e.cdw10 31 24 = 0xF2 → bits x.e.cdw10 23 21 = 3 → atticRuns s = true → eTl x.e = 56 →
    slotGranted (fnOf s x.fn) (eSecSlot x.e) = true → tfind s.att.fnKeys x.fn = some k → blob.kek = k → blob.plain.length = 48 →
    fieldAt blob.plain 44 4 = 0 → (slotOf s (eSecSlot x.e)).shadow = none → (slotOf s (eSecSlot x.e)).loaded = false →
    ∃ t, exec (.loadSlot c blob) s = .next t ∧ Safety.Ended t c stOk 0 ∧ pending? t 264 = true ∧ (slotOf t (eSecSlot x.e)).loaded = true ∧
      (slotOf t (eSecSlot x.e)).key = fieldAt blob.plain 0 32 ∧ (slotOf t (eSecSlot x.e)).salt = fieldAt blob.plain 32 4 ∧
      (slotOf t (eSecSlot x.e)).ctr = Nat.max (slotOf s (eSecSlot x.e)).ctr (fieldAt blob.plain 36 8) ∧
      (slotOf t (eSecSlot x.e)).keyGen = (slotOf s (eSecSlot x.e)).keyGen + 1 ∧ (∀ j, j ≠ eSecSlot x.e → slotOf t j = slotOf s j) ∧
      t = { s with ce := { s.ce with ctxs := t.ce.ctxs }, ci := { s.ci with slots := t.ci.slots }, rf := t.rf, att := { s.att with evrec := t.att.evrec } }) ∧
  (∀ (s : State) (c k : Nat) (x : Ctx) (blob : Wrapped), Safety.AdminRuns s c x 0x81 → bits x.e.cdw10 31 24 = 0xF2 → bits x.e.cdw10 23 21 = 3 → atticRuns s = true → eTl x.e = 56 →
    slotGranted (fnOf s x.fn) (eSecSlot x.e) = true → tfind s.att.fnKeys x.fn = some k → blob.kek = k → blob.plain.length = 48 →
    fieldAt blob.plain 44 4 = 0 → (slotOf s (eSecSlot x.e)).shadow = none → (slotOf s (eSecSlot x.e)).loaded = true →
    holders s (eSecSlot x.e) (slotOf s (eSecSlot x.e)).keyGen ≠ 0 →
    ∃ t, exec (.loadSlot c blob) s = .next t ∧ Safety.Ended t c stOk 0 ∧ pending? t 264 = true ∧
      (slotOf t (eSecSlot x.e)).shadow = some (fieldAt blob.plain 0 32, fieldAt blob.plain 32 4) ∧
      (slotOf t (eSecSlot x.e)).key = (slotOf s (eSecSlot x.e)).key ∧ (slotOf t (eSecSlot x.e)).keyGen = (slotOf s (eSecSlot x.e)).keyGen) ∧
  (∀ (s : State) (c : Nat) (x : Ctx), Safety.AdminRuns s c x 0x81 → bits x.e.cdw10 31 24 = 0xF2 → bits x.e.cdw10 23 21 = 4 → atticRuns s = true → eTl x.e = 0 → slotGranted (fnOf s x.fn) (eSecSlot x.e) = true →
    (slotOf s (eSecSlot x.e)).loaded = true → (slotOf s (eSecSlot x.e)).shadow = none →
    ∃ t, exec (.eraseSlot c) s = .next t ∧ Safety.Ended t c stOk 0 ∧ pending? t 264 = true ∧ (slotOf t (eSecSlot x.e)).loaded = false ∧
      (slotOf t (eSecSlot x.e)).key = 0 ∧ (slotOf t (eSecSlot x.e)).salt = 0 ∧ (slotOf t (eSecSlot x.e)).ctr = (slotOf s (eSecSlot x.e)).ctr ∧
      (∀ j, j ≠ eSecSlot x.e → slotOf t j = slotOf s j) ∧ t = { s with ce := { s.ce with ctxs := t.ce.ctxs }, ci := { s.ci with slots := t.ci.slots }, rf := t.rf, att := { s.att with evrec := t.att.evrec } }) ∧
  (∀ (s : State) (c : Nat) (x : Ctx), Safety.AdminRuns s c x 0x82 → bits x.e.cdw10 31 24 = 0xF2 → bits x.e.cdw10 23 21 = 1 → eTl x.e % 16 = 0 →
    16 ≤ eTl x.e → eTl x.e ≤ 65536 → eSecSlot x.e + eTl x.e / 16 ≤ 8192 →
    ∃ t, exec (.slotStatus c) s = .next t ∧
      Safety.Answered t c ((List.range (eTl x.e / 16)).flatMap (fun i => slotEntry s (fnOf s x.fn) (eSecSlot x.e + i))) ∧ t = { s with ce := { s.ce with ctxs := t.ce.ctxs } }) ∧
  (∀ (s : State) (c : Nat) (x : Ctx), Safety.AdminRuns s c x 0x82 → bits x.e.cdw10 31 24 = 0 →
    ∃ t, exec (.securityProtocolList c) s = .next t ∧ Safety.Answered t c ([0#8, 0#8, 0#8, 0#8, 0#8, 0#8, 0#8, 2#8, 0#8, 0xF2#8].take (eTl x.e)) ∧
      t = { s with ce := { s.ce with ctxs := t.ce.ctxs } }) ∧
  (∀ (s : State) (c : Nat) (x : Ctx), Safety.AdminRuns s c x 0x1D → atticRuns s = true → bits x.e.cdw11 7 0 = 3 →
    ∃ t, exec (.nvmeMiSend c) s = .next t ∧ Safety.Ended t c stOk (Config.miStatus 0) ∧
      tfind t.att.miConfig (1536 + x.e.cdw12 % 256) = some (leNat (x.e.payload.take 4)) ∧
      t = { s with ce := { s.ce with ctxs := t.ce.ctxs }, att := { s.att with miConfig := t.att.miConfig, miLast := t.att.miLast } }) ∧
  (∀ (s : State) (c : Nat) (x : Ctx), Safety.AdminRuns s c x 0x1E → atticRuns s = true → bits x.e.cdw11 7 0 = 5 →
    bits x.e.cdw12 15 0 + bits x.e.cdw13 15 0 ≤ 256 →
    ∃ t, exec (.nvmeMiReceive c) s = .next t ∧ Safety.Ended t c stOk (Config.miStatus 0) ∧
      Safety.Answered t c (bytesAt s.att.vpd (bits x.e.cdw12 15 0) (bits x.e.cdw13 15 0)) ∧
      t = { s with ce := { s.ce with ctxs := t.ce.ctxs }, att := { s.att with miLast := t.att.miLast } })

/-- Set Features puts each feature in force, and its saved value with SV; Get Features answers the current value. A valid Set of
each feature ends with success and sets exactly that feature: a tenant's share (in force from the next round), the grace time, a
read deadline or a detour budget, ticketed append, mirror mode, the power state (with its cap, and CAPPED from RUN), the thermal
management temperatures and a temperature threshold. A Set of a share that fails its checks, or of the write cache off, ends
with 0x0/0x02 and changes nothing. With SV the saveable features' saved values follow. Get Features gives the current value in
DW0 or, for a share, its structure. (03_queues.md R87, R93, R112; 04_tenants.md R130, R133; 09_tail_latency.md R263, R264;
10_granary.md R307, R308; 16_power_thermal.md R444, R448, R450, R451.) -/
def Obligations.FeaturesAreSetAndRead : Prop :=
  (∀ (s : State) (c f : Nat) (x : Ctx), Safety.SetRuns s c x 0xD0 → isPf x.fn = true → shareTarget x = some f → shareValid x.e.payload = true →
    ∃ t, exec (.setTenantShare c) s = .next t ∧ Safety.Ended t c stOk 0 ∧ fnOf t f = { fnOf s f with share := shareFrom x.e.payload } ∧
      (∀ g, g ≠ f → fnOf t g = fnOf s g) ∧ pending? t 103 = true ∧ t = { s with ce := { s.ce with ctxs := t.ce.ctxs, fns := t.ce.fns }, rf := t.rf, att := { s.att with evrec := t.att.evrec } }) ∧
  (∀ (s : State) (c f : Nat) (x : Ctx), Safety.SetRuns s c x 0xD0 → isPf x.fn = true → shareTarget x = some f → shareValid x.e.payload = false →
    ∃ t, exec (.setTenantShare c) s = .next t ∧ Safety.Ended t c stBadField 0 ∧ t = { s with ce := { s.ce with ctxs := t.ce.ctxs } }) ∧
  (∀ (s : State) (c : Nat) (x : Ctx), Safety.SetRuns s c x 0xD1 → isPf x.fn = true → x.e.cdw11 ≤ 60 → s.pw.th ≠ .grace →
    ∃ t, exec (.setThermalGrace c) s = .next t ∧ Safety.Ended t c stOk 0 ∧ rdf t R.thCfg 29 24 = x.e.cdw11 ∧
      t.board.graceSaved = (if eSv x.e then x.e.cdw11 else s.board.graceSaved) ∧
      t = { s with ce := { s.ce with ctxs := t.ce.ctxs }, rf := { s.rf with regs := t.rf.regs }, board := { s.board with graceSaved := t.board.graceSaved } }) ∧
  (∀ (s : State) (c : Nat) (x : Ctx) (n : Ns), Safety.SetRuns s c x 0xD2 → bit x.e.cdw11 31 = false → bits x.e.cdw11 30 14 = 0 →
    bits x.e.cdw11 13 0 = 0 ∨ 100 ≤ bits x.e.cdw11 13 0 ∧ bits x.e.cdw11 13 0 ≤ 10000 → nsOf s x.e.nsid = some n → x.e.nsid ∈ namedNs s x →
    x.e.nsid ≠ 0xFFFFFFFF →
    ∃ t, exec (.setDetourPolicy c) s = .next t ∧ Safety.Ended t c stOk 0 ∧ pending? t 431 = true ∧
      nsOf t x.e.nsid = some { n with deadline := bits x.e.cdw11 13 0, deadlineSaved := if eSv x.e then bits x.e.cdw11 13 0 else n.deadlineSaved } ∧
      (∀ k, k ≠ x.e.nsid → nsOf t k = nsOf s k) ∧ t = { s with ce := { s.ce with ctxs := t.ce.ctxs }, ze := { s.ze with nss := t.ze.nss }, rf := t.rf, att := { s.att with evrec := t.att.evrec } }) ∧
  (∀ (s : State) (c : Nat) (x : Ctx), Safety.SetRuns s c x 0xD2 → bit x.e.cdw11 31 = true → bits x.e.cdw11 30 8 = 0 → isPf x.fn = true →
    bits x.e.cdw12 31 16 ≠ 0 → domExists s (bits x.e.cdw11 7 0) = true → domGranted (fnOf s x.fn) (bits x.e.cdw11 7 0) = true →
    ∃ t, exec (.setDetourPolicy c) s = .next t ∧ Safety.Ended t c stOk 0 ∧ pending? t 431 = true ∧
      (domOf t (bits x.e.cdw11 7 0)).rate = rateIn s (bits x.e.cdw11 7 0) (bits x.e.cdw12 15 0) ∧ (domOf t (bits x.e.cdw11 7 0)).depth = depthIn s (bits x.e.cdw11 7 0) (bits x.e.cdw12 31 16) ∧
      domLevel t (bits x.e.cdw11 7 0) ≤ domLevel s (bits x.e.cdw11 7 0) ∧ (∀ d, d ≠ bits x.e.cdw11 7 0 → domOf t d = domOf s d) ∧
      t = { s with ce := { s.ce with ctxs := t.ce.ctxs }, ze := { s.ze with domains := t.ze.domains }, rf := t.rf, att := { s.att with evrec := t.att.evrec } }) ∧
  (∀ (s : State) (c : Nat) (x : Ctx) (n : Ns), Safety.SetRuns s c x 0xD3 → nsOf s x.e.nsid = some n → x.e.nsid ∈ namedNs s x → x.e.nsid ≠ 0xFFFFFFFF →
    ∃ t, exec (.setTicketedAppend c) s = .next t ∧ Safety.Ended t c stOk 0 ∧
      nsOf t x.e.nsid = some { n with ticketed := bit x.e.cdw11 0, ticketedSaved := if eSv x.e then bit x.e.cdw11 0 else n.ticketedSaved } ∧
      (∀ k, k ≠ x.e.nsid → nsOf t k = nsOf s k) ∧ t = { s with ce := { s.ce with ctxs := t.ce.ctxs }, ze := { s.ze with nss := t.ze.nss } }) ∧
  (∀ (s : State) (c : Nat) (x : Ctx), Safety.SetRuns s c x 0xD4 → isPf x.fn = true → x.e.cdw11 ≤ 3 → x.e.cdw12 ≤ 262143 → 1 ≤ bits x.e.cdw13 15 0 →
    bits x.e.cdw13 15 0 ≤ 1000 →
    ∃ t, exec (.setMirrorMode c) s = .next t ∧ Safety.Ended t c stOk 0 ∧ t.gr.mirEn = bit x.e.cdw11 0 ∧ t.gr.mirPolicy = bits x.e.cdw11 1 1 ∧
      t.gr.mirPartner = x.e.cdw12 ∧ t.gr.mirTmo = bits x.e.cdw13 15 0 ∧ (eSv x.e = true → t.board.mirSaved = bit x.e.cdw11 0 ∧
        t.board.mirSavedPartner = x.e.cdw12) ∧ (eSv x.e = false → t.board = s.board) ∧ (s.gr.mirLost = false → t.ze = s.ze ∧ t.fl = s.fl)) ∧
  (∀ (s : State) (c : Nat) (x : Ctx), Safety.SetRuns s c x 0x06 → eSv x.e = false ∨ bit x.e.cdw11 0 = false →
    ∃ t, exec (.setVolatileWriteCache c) s = .next t ∧ Safety.Ended t c (if bit x.e.cdw11 0 then stOk else stBadField) 0 ∧ t = { s with ce := { s.ce with ctxs := t.ce.ctxs } }) ∧
  (∀ (s : State) (c : Nat) (x : Ctx), Safety.SetRuns s c x 0x02 → eSv x.e = false → bits x.e.cdw11 4 0 ≤ 2 → s.pw.capMgmt < 131072 → s.pw.mode = mRun →
    ∃ t, exec (.setPowerManagement c) s = .next t ∧ Safety.Ended t c stOk 0 ∧ t.pw.capPs = bits x.e.cdw11 4 0 ∧
      rdf t R.ftCapLim 16 0 = lesserLimit ([0, 24000, 16000].getD (bits x.e.cdw11 4 0) 0) s.pw.capMgmt ∧
      t.pw.mode = (if lesserLimit ([0, 24000, 16000].getD (bits x.e.cdw11 4 0) 0) s.pw.capMgmt = 0 then mRun else mCapped)) ∧
  (∀ (s : State) (c : Nat) (x : Ctx), Safety.SetRuns s c x 0x10 → eSv x.e = false → tmtOk (bits x.e.cdw11 31 16) = true →
    tmtOk (bits x.e.cdw11 15 0) = true → bits x.e.cdw11 31 16 < bits x.e.cdw11 15 0 →
    ∃ t, exec (.setHostControlledThermalManagement c) s = .next t ∧ Safety.Ended t c stOk 0 ∧ t.pw.hctmT1 = bits x.e.cdw11 31 16 ∧
      t.pw.hctmT2 = bits x.e.cdw11 15 0 ∧ rdf t R.thHctm 15 0 = bits x.e.cdw11 31 16 ∧ rdf t R.thHctm 31 16 = bits x.e.cdw11 15 0 ∧
      t = { s with ce := { s.ce with ctxs := t.ce.ctxs }, rf := { s.rf with regs := t.rf.regs }, pw := t.pw }) ∧
  (∀ (s : State) (c : Nat) (x : Ctx), Safety.SetRuns s c x 0x04 → eSv x.e = false → bits x.e.cdw11 21 16 = 0 →
    ∃ t, exec (.setTemperatureThreshold c) s = .next t ∧ Safety.Ended t c stOk 0 ∧ (fnOf t x.fn).tempThreshold = bits x.e.cdw11 15 0 ∧
      t = { s with ce := t.ce }) ∧
  (∀ (s : State) (c : Nat) (x : Ctx), Safety.AdminRuns s c x 0x0A → bits x.e.cdw10 10 8 = 0 →
    (∀ v, (bits x.e.cdw10 7 0, v) ∈ [(0x02, s.pw.capPs), (0x04, (fnOf s x.fn).tempThreshold), (0x06, 1), (0x10, s.pw.hctmT1 * 65536 + s.pw.hctmT2),
        (0xD1, rdf s R.thCfg 29 24), (0xD4, s.gr.mirEn.toNat + 2 * s.gr.mirPolicy)] →
      ∃ t, exec (.getFeatures c) s = .next t ∧ Safety.Ended t c stOk v ∧ t = { s with ce := { s.ce with ctxs := t.ce.ctxs } }) ∧
    (bits x.e.cdw10 7 0 = 0xD0 → isPf x.fn = false → x.tunnel = false →
      ∃ t, exec (.getFeatures c) s = .next t ∧ Safety.Answered t c (shareBytes (fnOf s x.fn).share) ∧ t = { s with ce := { s.ce with ctxs := t.ce.ctxs } }))

/-- Get Log Page answers each page with its contents, and its side effects are the page's own. Each page in its scope is
answered, cut at the offset and length asked for: the standard pages, the Freeze Log (which unmasks the freeze event without
RAE), physical usage of a namespace, block wear, the event recorder from a snapshot taken at offset 0 (cleared with LSP bit 0,
event source 490), peer recovery (with LSP bit 0 a PF discards a lost owner, event source 401), hold-up health, and a
namespace's read margin histogram (reset with LSP bit 0). A page that only reads changes nothing but its command. (03_queues.md
R98 to R100; 02_zones.md R69 to R72; 08_flash_integrity.md R240; 09_tail_latency.md R274, R275; 10_granary.md R313; 11_balwen.md
R337; 17_attic.md R472, R473.) -/
def Obligations.LogPagesAnswer : Prop :=
  (∀ (s : State) (c : Nat) (x : Ctx),
    (Safety.LogRuns s c x 0x01 → ∃ t, exec (.getLogPage c) s = .next t ∧ Safety.Answered t c (logPart x (bytesAt (Config.miBytes 9 x.fn) 0 64)) ∧ t = { s with ce := { s.ce with ctxs := t.ce.ctxs } }) ∧
    (Safety.LogRuns s c x 0x02 → ∃ t, exec (.getLogPage c) s = .next t ∧ Safety.Answered t c (logPart x (smartLog s x.fn)) ∧ t = { s with ce := { s.ce with ctxs := t.ce.ctxs } }) ∧
    (Safety.LogRuns s c x 0x03 → ∃ t, exec (.getLogPage c) s = .next t ∧ Safety.Answered t c (logPart x (slotLog s)) ∧ t = { s with ce := { s.ce with ctxs := t.ce.ctxs } }) ∧
    (Safety.LogRuns s c x 0x05 → ∃ t, exec (.getLogPage c) s = .next t ∧ Safety.Answered t c (logPart x (bytesAt (Config.miBytes 10 0) 0 4096)) ∧ t = { s with ce := { s.ce with ctxs := t.ce.ctxs } }) ∧
    (Safety.LogRuns s c x 0xC0 → x.e.nsid = 0 → ∃ t, exec (.freezeLog c) s = .next t ∧ Safety.Answered t c (logPart x (freezeLog s x.fn)) ∧
      (fnOf t x.fn).freezeMasked = ((fnOf s x.fn).freezeMasked && eRae x.e) ∧ t = { s with ce := { s.ce with ctxs := t.ce.ctxs, fns := t.ce.fns } }) ∧
    (Safety.LogRuns s c x 0xC1 → nsGranted s x.fn x.e.nsid = true → ∃ t, exec (.zonePhysicalUsageLog c) s = .next t ∧
      Safety.Answered t c (logPart x (usageLog s x.fn x.e.nsid)) ∧ t = { s with ce := { s.ce with ctxs := t.ce.ctxs } }) ∧
    (Safety.LogRuns s c x 0xC2 → x.e.nsid = 0 → eLsp0 x.e = false → ∃ t, exec (.blockWearLog c) s = .next t ∧
      Safety.Answered t c (logPart x (wearLog s (grantedRows s x.fn) ((grantedRows s x.fn).map (wearSummary s)))) ∧ t = { s with ce := { s.ce with ctxs := t.ce.ctxs } }) ∧
    (Safety.LogRuns s c x 0xC2 → x.e.nsid = 0 → eLsp0 x.e = true → (grantedRows s x.fn).contains (eLsi x.e) = false →
      ∃ t, exec (.blockWearLog c) s = .next t ∧ Safety.Ended t c stBadField 0 ∧ t = { s with ce := { s.ce with ctxs := t.ce.ctxs } }) ∧
    (Safety.LogRuns s c x 0xC3 → isPf x.fn = true → eLpo x.e = 0 → eLsp0 x.e = false → ∃ t, exec (.eventRecorderLog c) s = .next t ∧
      Safety.Answered t c (logPart x (recorderLog { s.att.evrec with snapshot := s.att.evrec.recs, snapDrops := s.att.evrec.drops })) ∧
      t = { s with ce := { s.ce with ctxs := t.ce.ctxs }, att := { s.att with evrec := { s.att.evrec with snapshot := s.att.evrec.recs, snapDrops := s.att.evrec.drops } } }) ∧
    (Safety.LogRuns s c x 0xC3 → isPf x.fn = true → eLpo x.e = 0 → eLsp0 x.e = true → ∃ t, exec (.eventRecorderLog c) s = .next t ∧
      t.att.evrec.snapshot = s.att.evrec.recs ∧ t.att.evrec.recs = [] ∧ pending? t 490 = true) ∧
    (Safety.LogRuns s c x 0xC4 → x.e.nsid = 0 → eLsp0 x.e = false → ∃ t, exec (.peerRecoveryLog c) s = .next t ∧
      Safety.Answered t c (logPart x (peerLog s (isPf x.fn || x.tunnel))) ∧ t = { s with ce := { s.ce with ctxs := t.ce.ctxs } }) ∧
    (∀ node o, Safety.LogRuns s c x 0xC4 → x.e.nsid = 0 → eLsp0 x.e = true → isPf x.fn = true → s.pb.owners[eLsi x.e]? = some (node, o) → tfind s.pb.owners node = some o → o.state = 1 ∨ o.state = 3 →
      ∃ t, exec (.peerRecoveryLog c) s = .next t ∧ Safety.Answered t c (logPart x (peerLog s true)) ∧ tfind t.pb.owners node = none ∧
        pending? t 401 = true ∧ (∀ b, b ∈ o.bands → (bandOf t b).zone = none)) ∧
    (Safety.LogRuns s c x 0xC5 → x.e.nsid = 0 → ∃ t, exec (.holdUpHealthLog c) s = .next t ∧ Safety.Answered t c (logPart x (holdupLog s)) ∧ t = { s with ce := { s.ce with ctxs := t.ce.ctxs } }) ∧
    (∀ n, Safety.LogRuns s c x 0xC6 → nsOf s x.e.nsid = some n → s.ze.nss = [(x.e.nsid, n)] → x.e.nsid ∈ namedNs s x → x.e.nsid ≠ 0xFFFFFFFF →
      ∃ t, exec (.readMarginHistogramLog c) s = .next t ∧ Safety.Answered t c (logPart x (histLog (histSum [n.hist]))) ∧
        nsOf t x.e.nsid = some { n with hist := if eLsp0 x.e then { since := s.ck.tb } else n.hist } ∧
        t = { s with ce := { s.ce with ctxs := t.ce.ctxs }, ze := { s.ze with nss := t.ze.nss } }))

/-- A Read or Verify looks its sources up as they stand, serves and checks each unit once, and completes when all are served. A
Read or Verify that has not begun, whose sources are usable and known and on which no earlier write of its queue is still to
act, begins: each LBA below its zone's write pointer is still to be decrypted, from the codewords of its unit where the Granary
does not hold it, and each other LBA is zeros; one in an Offline zone ends it with 0x1/0xBB. A Verify that touches no data ends
with success. The end of a cipher unit of a Read, all of whose codewords are there and whose band has not been erased since,
serves the LBA: the data where the unit authenticates and keeps R145 and R146, zeros with the tag failure noted and event source
261 where it does not authenticate; a unit that authenticates but fails a check ends the Read with 0x2/0x81 and event source
258. The last unit of a Verify ends it. READ_DATA_TRANSFERRED, once all is served, ends the Read with its data: success, or
0x7/0xC4 after a tag failure; before that it changes nothing. (01_architecture.md R18; 02_zones.md R61; 03_queues.md R78, R81,
R89, R90; 05_transforms.md R146, R157; 06_cipher.md R168, R171.) -/
def Obligations.ReadsAndVerifiesAreServed : Prop :=
  (∀ (s : State) (c : Nat) (x : Ctx), Safety.IoRuns s c x 0x02 → Safety.MayBegin s c x → Safety.SourcesUsable s x →
    ∃ t, exec (.read c) s = .next t ∧ Safety.Sourced s t c x ∧ (∀ d, d ≠ c → ctxOf t d = ctxOf s d) ∧
      t = { s with ce := { s.ce with ctxs := t.ce.ctxs }, ze := { s.ze with nss := t.ze.nss } }) ∧
  (∀ (s : State) (c : Nat) (x : Ctx), Safety.IoRuns s c x 0x0C → Safety.MayBegin s c x → Safety.SourcesUsable s x →
    touched s x.e.nsid (srcLbas x.e) ≠ [] → (∀ l, l ∈ srcLbas x.e → lbaOff l < (zoneOf s (lbaKey x.e.nsid l)).wp →
      ∀ g, (srcRef s (lbaKey x.e.nsid l) (lbaOff l) g).isSome = true) →
    ∃ t, exec (.verify c) s = .next t ∧ Safety.Sourced s t c x ∧ (∀ d, d ≠ c → ctxOf t d = ctxOf s d) ∧
      t = { s with ce := { s.ce with ctxs := t.ce.ctxs }, ze := { s.ze with nss := t.ze.nss } }) ∧
  (∀ (s : State) (c : Nat) (x : Ctx) (i : Instr) (opc : Nat), (i, opc) ∈ [(Instr.read c, 0x02), (Instr.verify c, 0x0C)] → Safety.IoRuns s c x opc →
    Safety.MayBegin s c x → (∃ l, l ∈ srcLbas x.e ∧ (zoneOf s (lbaKey x.e.nsid l)).st = .offline) →
    ∃ t, exec i s = .next t ∧ Safety.Ended t c stOffline (dw0With x x.margin) ∧ t.ze = s.ze ∧ t.gr = s.gr) ∧
  (∀ (s : State) (c : Nat) (x : Ctx), Safety.IoRuns s c x 0x0C → Safety.MayBegin s c x → x.badTag = false →
    Safety.SourcesUsable s x → touched s x.e.nsid (srcLbas x.e) = [] →
    ∃ t, exec (.verify c) s = .next t ∧ Safety.Ended t c stOk (readDw0 { x with reloc := false }) ∧ t.ze.zones = s.ze.zones ∧ t.gr = s.gr) ∧
  (∀ (s : State) (c u : Nat) (x : Ctx) (r : SrcRef) (k : Nat × Nat) (data : List Block), Safety.IoRuns s c x 0x02 → Safety.UnitEnds s x u r k →
    r.extra = false → opens k r.aad r.sealed = true → r.check = 0 →
    unitBlocks ((sameUnit x r).map (fun q => q.2.place)).max? r.sealed = some data →
    ∃ t, exec (.cipherUnitDone c u) s = .next t ∧
      (∃ y, ctxOf t c = some y ∧ u ∉ y.todo ∧ y.st = .started ∧ y.badTag = x.badTag ∧ tfind y.got u = some (data.getD r.place zeroBlock)) ∧
      t = { s with ce := { s.ce with ctxs := t.ce.ctxs }, ci := t.ci, rf := { s.rf with regs := t.rf.regs } }) ∧
  (∀ (s : State) (c u : Nat) (x : Ctx) (r : SrcRef) (k : Nat × Nat), Safety.IoRuns s c x 0x02 → Safety.UnitEnds s x u r k →
    r.extra = false → opens k r.aad r.sealed = false →
    ∃ t, exec (.cipherUnitDone c u) s = .next t ∧ pending? t 261 = true ∧
      (∃ y, ctxOf t c = some y ∧ u ∉ y.todo ∧ y.st = .started ∧ y.badTag = true ∧ tfind y.got u = some zeroBlock) ∧
      t = { s with ce := { s.ce with ctxs := t.ce.ctxs }, ci := t.ci, rf := t.rf, att := { s.att with evrec := t.att.evrec } }) ∧
  (∀ (s : State) (c u : Nat) (x : Ctx) (r : SrcRef) (k : Nat × Nat), Safety.IoRuns s c x 0x02 → Safety.UnitEnds s x u r k →
    opens k r.aad r.sealed = true → r.check ≠ 0 ∨ unitBlocks ((sameUnit x r).map (fun q => q.2.place)).max? r.sealed = none →
    ∃ t, exec (.cipherUnitDone c u) s = .next t ∧ Safety.Ended t c stUnrecovered (dw0With x 0) ∧ pending? t 258 = true ∧ t.ze = s.ze ∧ t.gr = s.gr) ∧
  (∀ (s : State) (c u : Nat) (x : Ctx) (r : SrcRef) (k : Nat × Nat), Safety.IoRuns s c x 0x0C → x.todo = [u] → Safety.UnitEnds s x u r k →
    opens k r.aad r.sealed = false ∨ r.check = 0 ∧ (unitBlocks none r.sealed).isSome = true →
    ∃ t, exec (.cipherUnitDone c u) s = .next t ∧
      Safety.Ended t c (if x.badTag || !opens k r.aad r.sealed then stAuth else stOk) (readDw0 x) ∧ t.ze = s.ze ∧ t.gr = s.gr) ∧
  (∀ (s : State) (c : Nat) (x : Ctx), Safety.IoRuns s c x 0x02 → x.started = true → x.todo = [] →
    ∃ t, exec (.readDataTransferred c) s = .next t ∧ Safety.Ended t c (if x.badTag then stAuth else stOk) (readDw0 x) ∧
      (∃ y, ctxOf t c = some y ∧ y.out = x.got.flatMap (fun b => b.2)) ∧ t.ze = s.ze ∧ t.gr = s.gr ∧
      (x.badTag = false → t = { s with ce := { s.ce with ctxs := t.ce.ctxs }, fl := t.fl, ci := t.ci, rf := t.rf, att := { s.att with evrec := t.att.evrec } })) ∧
  (∀ (s : State) (c : Nat) (x : Ctx), Safety.IoRuns s c x 0x02 → x.started = false ∨ x.todo ≠ [] → exec (.readDataTransferred c) s = .next s)

/-- A Write, Zone Append or Write Zeroes is validated: it takes its place at the validation pointer, or fails at the first check
that fails. In its turn, a write to a zone that takes writes and that fits is validated: the validation pointer moves past it
and the write pointer does not, it joins the zone's queue, the zone becomes Implicitly Opened unless it is open, a zone leaving
Empty binds the chosen band with its shape, and its key, counter values and (for an append) its LBA are its own. One to a zone
that is Full, Read Only or Offline, or that crosses the capacity, does not start at the validation pointer, has no key, or lacks
counter values ends with 0x1/0xB9, 0xBA, 0xBB, 0xB8, 0xBC, 0x7/0xC3 or 0xC2, the first that applies, and no zone changes. A
ticketed append that the ticket set has applied ends with 0x7/0xC7 and the original's LBA, and nothing else. (02_zones.md R58,
R59, R62; 03_queues.md R81, R94, R95; 06_cipher.md R171, R174, R175.) -/
def Obligations.WritesAreValidated : Prop :=
  (∀ (s : State) (c : Nat) (x : Ctx) (i : Instr) (opc key g : Nat) (band : Option Nat), (i, opc) ∈ [(Instr.write c, 0x01), (Instr.zoneAppend c, 0x7D), (Instr.writeZeroes c, 0x08)] → Safety.IoRuns s c x opc → x.validated = false → mayValidate s c x = true → zoneAt s x.e.nsid (eSlba x.e) = some key → ticketOf s x = 0 →
    Safety.TakesWrites s x.fn key false band → Safety.Fits s key band x.e g →
    ∃ t, exec i s = .next t ∧ Safety.Validated s t c key g x ∧ (∃ y, ctxOf t c = some y ∧ y.arrived = y.nlb) ∧
      (∀ b, band = some b → (zoneOf t key).band = some b ∧ (zoneOf t key).shape = some (shapeOf s (zNsid key) (zoneOf s key)) ∧
        (bandOf t b).zone = some (zNsid key, zIdx key)) ∧ ((zoneOf s key).deltas = true → s.gr.limited = false → t.lr = s.lr) ∧ t.dm = s.dm ∧ t.ce.sqs = s.ce.sqs) ∧
  (∀ (s : State) (c : Nat) (x : Ctx) (i : Instr) (opc key : Nat), (i, opc) ∈ [(Instr.write c, 0x01), (Instr.zoneAppend c, 0x7D), (Instr.writeZeroes c, 0x08)] → Safety.IoRuns s c x opc → x.validated = false → mayValidate s c x = true → zoneAt s x.e.nsid (eSlba x.e) = some key → ticketOf s x = 0 → (zoneOf s key).waiting = [] → bandHeld s key = false → (zoneOf s key).rebuilding = false →
    ∀ st, ((zoneOf s key).st, st) ∈ [(ZState.full, stFull), (ZState.readOnly, stReadOnly), (ZState.offline, stOffline)] →
    ∃ t, exec i s = .next t ∧ Safety.Ended t c st 0 ∧ t.ze = s.ze ∧ t.gr = s.gr) ∧
  (∀ (s : State) (c : Nat) (x : Ctx) (i : Instr) (opc key : Nat) (band : Option Nat), (i, opc) ∈ [(Instr.write c, 0x01), (Instr.zoneAppend c, 0x7D), (Instr.writeZeroes c, 0x08)] → Safety.IoRuns s c x opc → x.validated = false → mayValidate s c x = true → zoneAt s x.e.nsid (eSlba x.e) = some key → ticketOf s x = 0 →
    Safety.TakesWrites s x.fn key false band → (∀ g, ¬ Safety.Fits s key band x.e g) →
    ∃ t, exec i s = .next t ∧ t.ze = s.ze ∧ t.gr = s.gr ∧
      Safety.Ended t c (if zcapOf s (shapeOf s (zNsid key) (zoneOf s key)) ((band.map (dataWidth s)).getD (zoneOf s key).width) <
          Safety.startOf s key x.e + writeNlb x.e then stBoundary
        else if Safety.startOf s key x.e ≠ (zoneOf s key).vp then stInvalidWrite
        else if captureGen s (shapeOf s (zNsid key) (zoneOf s key)).keySlot = none then stKeyUnavailable else stKeyExhausted) 0) ∧
  (∀ (s : State) (c : Nat) (x : Ctx) (key : Nat) (k : Ticket), Safety.IoRuns s c x 0x7D → x.validated = false → mayValidate s c x = true →
    zoneAt s x.e.nsid (eSlba x.e) = some key → replayed s key x = some k → inFlight s k = false → k.nlb = eNlb x.e →
    ∃ t, exec (.zoneAppend c) s = .next t ∧ Safety.Ended t c stReplayed ((zIdx key * zoneLbas + k.lba) % 4294967296) ∧
      t = { s with ce := { s.ce with ctxs := t.ce.ctxs } }) ∧
  (∀ (s : State) (c : Nat) (x : Ctx) (i : Instr) (opc : Nat),
    (i, opc) ∈ [(Instr.write c, 0x01), (Instr.zoneAppend c, 0x7D), (Instr.writeZeroes c, 0x08)] → Safety.IoRuns s c x opc →
    mayValidate s c x = false ∨ x.validated = true → exec i s = .next s)

/-- A validated write's data is encrypted unit by unit, packed where the zone is compressed, and applied to the Granary in LBA
order. The end of a cipher unit of a write notes the unit as sealed under the captured key, and the last ends the captures.
GRANARY_APPLY of the write at the head of its zone and its queue applies the LBAs that are ready: each gets the next codeword of
the band and a Granary page with its sealed data, and the write pointer moves past them; the last completes the write where it
need not wait for flash or mirror. FRAME_PACKED packs a compressed write's frames at the stream's end and applies its first LBA;
frames that do not fit end it with 0x7/0xC1 and the zone goes Full, finished by the controller. Without Granary space the write
waits; GRANARY_SPACE_OBTAINED lets the write that has waited longest go on. (01_architecture.md R14 to R17; 02_zones.md R53,
R54; 03_queues.md R79; 05_transforms.md R139 to R151; 06_cipher.md R165 to R168, R171; 10_granary.md R281, R290.) -/
def Obligations.WriteDataIsSealedPackedAndApplied : Prop :=
  (∀ (s : State) (c u : Nat) (x : Ctx) (k : Nat × Nat), ctxOf s c = some x → x.sqid ≠ 0 → x.tunnel = false → x.st = .started ∨ x.st = .committed →
    isWriteOpc x.e.opc = true → u ∉ x.todo → writeKey s x = some k → x.validated = true → x.waitCeil = false → u ∉ x.unitsDone →
    u < writeUnits s x → unitReady s (zKey x.nsid x.zone) c x u = true →
    (∀ f, f ∈ partsOf s (zKey x.nsid x.zone) x u → opens k (placeAad s (zKey x.nsid x.zone) (16 * f.slot + f.first)) f.sealed = true) →
    ∃ t, exec (.cipherUnitDone c u) s = .next t ∧
      (∃ y, ctxOf t c = some y ∧ y.unitsDone = x.unitsDone ++ [u] ∧ y.encKey = some k ∧
        y.keys = (if x.unitsDone.length + 1 = writeUnits s x then [] else x.keys)) ∧ t = { s with ce := { s.ce with ctxs := t.ce.ctxs }, ci := t.ci, rf := t.rf, att := { s.att with evrec := t.att.evrec } }) ∧
  (∀ (s : State) (c b : Nat) (x : Ctx), ctxOf s c = some x → ctxFresh s x = true → atHead s c (zKey x.nsid x.zone) x = true → x.waitSpace = false →
    zoneComp (zoneOf s (zKey x.nsid x.zone)) = false → (zoneOf s (zKey x.nsid x.zone)).band = some b →
    (zoneOf s (zKey x.nsid x.zone)).waiting = [] → 0 < readyLbas s x → s.gr.mirEn = false → s.gr.waiters = [] →
    (zoneOf s (zKey x.nsid x.zone)).nextPos + (x.nlb - x.applied) ≤ bandCws s.board (zoneDens (zoneOf s (zKey x.nsid x.zone))) (dataWidth s b) →
    (hasRoom s (zKey x.nsid x.zone) (List.replicate (readyLbas s x) 4096) [] ((zoneOf s (zKey x.nsid x.zone)).nextPos + readyLbas s x) = false →
      exec (.granaryApply c) s = .next (waitSpace c s)) ∧
    (hasRoom s (zKey x.nsid x.zone) (List.replicate (readyLbas s x) 4096) [] ((zoneOf s (zKey x.nsid x.zone)).nextPos + readyLbas s x) = true →
      ∃ t, exec (.granaryApply c) s = .next t ∧ (zoneOf t (zKey x.nsid x.zone)).wp = (zoneOf s (zKey x.nsid x.zone)).wp + readyLbas s x ∧
        (∀ i, i < readyLbas s x → ∃ g, tfind (zoneOf t (zKey x.nsid x.zone)).units (x.first + x.applied + i) =
          some { pos := (zoneOf s (zKey x.nsid x.zone)).nextPos + i, sealed := mkUnit s (zKey x.nsid x.zone) x (x.applied + i), seg := some g }) ∧
        (x.applied + readyLbas s x < x.nlb → (∃ y, ctxOf t c = some y ∧ y.st = .committed ∧ y.applied = x.applied + readyLbas s x) ∧
          (∀ d, d ≠ c → ctxOf t d = ctxOf s d) ∧ (∀ k, k ≠ zKey x.nsid x.zone → (zoneOf t k).wp = (zoneOf s k).wp) ∧ t.ci = s.ci) ∧
        (x.applied + readyLbas s x = x.nlb → x.fua = false → writeThrough s = false → x.tunnel = false → x.sqid ≠ 0 →
          Safety.Ended t c stOk (writeDws x).1))) ∧
  (∀ (s : State) (c b : Nat) (x : Ctx), ctxOf s c = some x → ctxFresh s x = true → canPack s c (zKey x.nsid x.zone) x = true → x.waitSpace = false →
    (zoneOf s (zKey x.nsid x.zone)).band = some b → s.gr.mirEn = false → s.gr.waiters = [] → x.applied + 1 < x.nlb →
    (∀ (fs : List Frame) (cap need : Int),
      fs = (List.range ((pieceOf x).2 - (pieceOf x).1)).map (fun i => mkFrame s (zKey x.nsid x.zone) x ((pieceOf x).1 + i)) →
      cap = (bandCapacity s (shapeOf s x.nsid (zoneOf s (zKey x.nsid x.zone))) b / 16 : Nat) →
      need = ((zoneOf s (zKey x.nsid x.zone)).fill : Int) + addedFill (zoneOf s (zKey x.nsid x.zone)) fs →
      (need + (fillUnits (zoneOf s (zKey x.nsid x.zone)) : Int) ≤ cap →
        hasRoom s (zKey x.nsid x.zone) (frameSizes (fs.filter (fun f => !f.part))) (frameSizes (fs.filter (fun f => f.part)))
          (appendUnits ((fs.filter (fun f => !f.part)).map frameLen).sum (zoneOf s (zKey x.nsid x.zone))).nextPos = true →
        ∃ t, exec (.framePacked c) s = .next t ∧ (zoneOf t (zKey x.nsid x.zone)).wp = (zoneOf s (zKey x.nsid x.zone)).wp + 1 ∧
          (∃ y, ctxOf t c = some y ∧ y.st = .committed ∧ y.packed = frameEnd x ((pieceOf x).2 - 1) ∧ y.applied = x.applied + 1) ∧
          (∀ f, f ∈ fs → ∃ h, h ∈ (zoneOf t (zKey x.nsid x.zone)).frames ∧ h.slot = f.slot ∧ h.sealed = f.sealed ∧ h.part = f.part ∧ h.raw = f.raw ∧
            h.payBytes = f.payBytes ∧ h.seg.isSome = true ∧ (f.part = false → h.off.isSome = true)) ∧
          (∀ k, k ≠ zKey x.nsid x.zone → (zoneOf t k).wp = (zoneOf s k).wp)) ∧
      (need + (fillUnits (zoneOf s (zKey x.nsid x.zone)) : Int) ≤ cap →
        hasRoom s (zKey x.nsid x.zone) (frameSizes (fs.filter (fun f => !f.part))) (frameSizes (fs.filter (fun f => f.part)))
          (appendUnits ((fs.filter (fun f => !f.part)).map frameLen).sum (zoneOf s (zKey x.nsid x.zone))).nextPos = false → exec (.framePacked c) s = .next (waitSpace c s)) ∧
      (cap < need + (fillUnits (zoneOf s (zKey x.nsid x.zone)) : Int) → x.tunnel = false → (zoneOf s (zKey x.nsid x.zone)).waiting = [] →
        ∃ t, exec (.framePacked c) s = .next t ∧ Safety.Ended t c stCapacity 0 ∧ (zoneOf t (zKey x.nsid x.zone)).st = .full ∧
          (zoneOf t (zKey x.nsid x.zone)).zfc = true ∧ (zoneOf t (zKey x.nsid x.zone)).wp = (zoneOf s (zKey x.nsid x.zone)).wp ∧ pending? t 419 = true))) ∧
  (∀ (s : State) (c : Nat) (x : Ctx), ctxOf s c = some x → ctxFresh s x = true → atHead s c (zKey x.nsid x.zone) x = true → x.waitSpace = false →
    zoneComp (zoneOf s (zKey x.nsid x.zone)) = true → (zoneOf s (zKey x.nsid x.zone)).waiting = [] → x.applied < x.packed →
    ∃ t, exec (.granaryApply c) s = .next t ∧ (zoneOf t (zKey x.nsid x.zone)).wp = (zoneOf s (zKey x.nsid x.zone)).wp + (x.packed - x.applied) ∧
      (x.packed < x.nlb → ∃ y, ctxOf t c = some y ∧ y.st = .committed ∧ y.applied = x.packed) ∧
      (x.packed = x.nlb → x.fua = false → writeThrough s = false → s.gr.mirEn = false → x.tunnel = false → x.sqid ≠ 0 →
        Safety.Ended t c stOk (writeDws x).1)) ∧
  (∀ (s : State) (c b : Nat) (x : Ctx), s.gr.waiters.head? = some c → ctxOf s c = some x → ctxFresh s x = true →
    atHead s c (zKey x.nsid x.zone) x = true → zoneComp (zoneOf s (zKey x.nsid x.zone)) = false → (zoneOf s (zKey x.nsid x.zone)).band = some b →
    0 < readyLbas s x → x.applied + readyLbas s x < x.nlb → s.gr.mirEn = false → hasRoom s (zKey x.nsid x.zone) (List.replicate (readyLbas s x) 4096) [] ((zoneOf s (zKey x.nsid x.zone)).nextPos + readyLbas s x) = true →
    (zoneOf s (zKey x.nsid x.zone)).nextPos + (x.nlb - x.applied) ≤ bandCws s.board (zoneDens (zoneOf s (zKey x.nsid x.zone))) (dataWidth s b) →
    ∃ t, exec .granarySpaceObtained s = .next t ∧ (zoneOf t (zKey x.nsid x.zone)).wp = (zoneOf s (zKey x.nsid x.zone)).wp + readyLbas s x ∧
      t.gr.waiters = s.gr.waiters.filter (fun i => i != c) ∧
      (∃ y, ctxOf t c = some y ∧ y.st = .committed ∧ y.applied = x.applied + readyLbas s x ∧ y.waitSpace = false)) ∧
  (∀ s : State, s.gr.waiters = [] → exec .granarySpaceObtained s = .next s)

/-- Each Zone Management Send action takes its zones to the states of R62, waits for validated writes, and otherwise fails with
0x1/0xBF. In its turn, on a zone with no write in flight, Open makes an Implicitly Opened, Closed or Empty zone Explicitly
Opened (an Empty one with the chosen band and its shape bound), Close makes an open zone Closed, or Empty with its band freed
where nothing is written and no extension is set, Finish makes a zone Full, Reset makes it Empty with nothing left and its band
freed, Offline makes a Read Only zone Offline, and Set Zone Descriptor Extension makes an Empty zone Closed with its extension.
No other zone changes. From another state the command ends with 0x1/0xBF and no zone changes. While validated writes are in
flight the command waits at the zone. Select All does this for every zone of the namespace that the action selects. (02_zones.md
R62, R64, R65, R68; 03_queues.md R81; 18_bring_up.md R535; 08_flash_integrity.md R288.) -/
def Obligations.ZoneActionsChangeTheZone : Prop :=
  (∀ (s : State) (c : Nat) (x : Ctx) (key : Nat), Safety.ActsOn s c x zsaOpen key →
    (zoneOf s key).st = .implOpen ∨ (zoneOf s key).st = .closed ∧ Safety.RoomOpen s (zNsid key) →
    ∃ t, exec (.zoneOpen c) s = .next t ∧ Safety.Ended t c stOk 0 ∧ zoneOf t key = { zoneOf s key with st := .explOpen, deltas := true } ∧
      (∀ k, k ≠ key → zoneOf t k = zoneOf s k) ∧ t.ze.bands = s.ze.bands ∧ t.fl = s.fl) ∧
  (∀ (s : State) (c : Nat) (x : Ctx) (key b : Nat), Safety.ActsOn s c x zsaOpen key → Safety.LeavesEmpty s x.fn key true b → Safety.RoomOpen s (zNsid key) →
    ∃ t, exec (.zoneOpen c) s = .next t ∧ Safety.Ended t c stOk 0 ∧ (bandOf t b).zone = some (zNsid key, zIdx key) ∧
      zoneOf t key = { zoneOf s key with st := .explOpen, band := some b, shape := some (shapeOf s (zNsid key) (zoneOf s key)), width := dataWidth s b, deltas := true } ∧
      (∀ k, k ≠ key → zoneOf t k = zoneOf s k)) ∧
  (∀ (s : State) (c : Nat) (x : Ctx) (key : Nat), Safety.ActsOn s c x zsaClose key → isOpen (zoneOf s key).st = true →
    (∃ t, exec (.zoneClose c) s = .next t ∧ (zoneOf t key).st = Safety.selectedTo zsaClose (zoneOf s key) ∧ (zoneOf t key).wp = (zoneOf s key).wp ∧
      (∀ k, k ≠ key → (zoneOf t k).st = (zoneOf s k).st ∧ (zoneOf t k).wp = (zoneOf s k).wp)) ∧
    ((∀ f, f ∈ (zoneOf s key).frames → pendingPart f = false) → ∃ t, exec (.zoneClose c) s = .next t ∧ Safety.Ended t c stOk 0 ∧ (∀ k, k ≠ key → zoneOf t k = zoneOf s k) ∧
      (if (zoneOf s key).wp = 0 ∧ (zoneOf s key).ext = none then
        zoneOf t key = { zoneOf s key with st := .empty, band := none, width := 15, deltas := true } ∧ ∀ b, (zoneOf s key).band = some b → (bandOf t b).zone = none
      else (zoneOf t key).st = .closed ∧ (zoneOf t key).wp = (zoneOf s key).wp ∧ (zoneOf t key).band = (zoneOf s key).band))) ∧
  (∀ (s : State) (c : Nat) (x : Ctx) (key : Nat), Safety.ActsOn s c x zsaClose key → (zoneOf s key).st = .closed →
    ∃ t, exec (.zoneClose c) s = .next t ∧ Safety.Ended t c stOk 0 ∧ t = { s with ce := { s.ce with ctxs := t.ce.ctxs } }) ∧
  (∀ (s : State) (c : Nat) (x : Ctx) (key : Nat), Safety.ActsOn s c x zsaFinish key → (zoneOf s key).st = .empty →
    ∃ t, exec (.zoneFinish c) s = .next t ∧ Safety.Ended t c stOk 0 ∧
      zoneOf t key = { zoneOf s key with st := .full, deltas := true } ∧ (∀ k, k ≠ key → zoneOf t k = zoneOf s k)) ∧
  (∀ (s : State) (c : Nat) (x : Ctx) (key : Nat), Safety.ActsOn s c x zsaFinish key → isActive (zoneOf s key).st = true ∨ (zoneOf s key).st = .full →
    (∃ t, exec (.zoneFinish c) s = .next t ∧ (zoneOf t key).st = .full ∧ (zoneOf t key).wp = (zoneOf s key).wp ∧
      (zoneOf t key).band = (zoneOf s key).band ∧ (zoneOf t key).units = (zoneOf s key).units ∧
      (∀ k, k ≠ key → (zoneOf t k).st = (zoneOf s k).st ∧ (zoneOf t k).wp = (zoneOf s k).wp)) ∧
    ((∀ f, f ∈ (zoneOf s key).frames → pendingPart f = false) → ∃ t, exec (.zoneFinish c) s = .next t ∧ Safety.Ended t c stOk 0 ∧ (∀ k, k ≠ key → zoneOf t k = zoneOf s k))) ∧
  (∀ (s : State) (c : Nat) (x : Ctx) (key : Nat), Safety.ActsOn s c x zsaReset key → (zoneOf s key).st ≠ .readOnly → (zoneOf s key).st ≠ .offline →
    ∃ t, exec (.zoneReset c) s = .next t ∧ Safety.Ended t c stOk 0 ∧
      zoneOf t key = { relGen := (zoneOf t key).relGen, lastWrite := (zoneOf s key).lastWrite, waiting := (zoneOf s key).waiting, deltas := true } ∧
      (∀ b, (zoneOf s key).band = some b → (bandOf t b).zone = none) ∧ (∀ k, k ≠ key → zoneOf t k = zoneOf s k)) ∧
  (∀ (s : State) (c : Nat) (x : Ctx) (key : Nat), Safety.ActsOn s c x zsaOffline key → (zoneOf s key).st = .readOnly →
    ∃ t, exec (.zoneOffline c) s = .next t ∧ Safety.Ended t c stOk 0 ∧ (zoneOf t key).st = .offline ∧ (zoneOf t key).band = none ∧
      (∀ k, k ≠ key → zoneOf t k = zoneOf s k)) ∧
  (∀ (s : State) (c : Nat) (x : Ctx) (key b : Nat), Safety.ActsOn s c x zsaExt key → Safety.LeavesEmpty s x.fn key true b →
    ∃ t, exec (.setZoneDescriptorExtension c) s = .next t ∧ Safety.Ended t c stOk 0 ∧ (bandOf t b).zone = some (zNsid key, zIdx key) ∧
      zoneOf t key = { zoneOf s key with st := .closed, band := some b, shape := some (shapeOf s (zNsid key) (zoneOf s key)), width := dataWidth s b, ext := some (bytesAt x.e.payload 0 64), deltas := true } ∧
      (∀ k, k ≠ key → zoneOf t k = zoneOf s k)) ∧
  (∀ (s : State) (c : Nat) (x : Ctx) (key : Nat) (i : Instr) (act : Nat), (i, act) ∈ Safety.zoneActions c → Safety.ActsOn s c x act key →
    (act, (zoneOf s key).st) ∈ [(zsaOpen, ZState.explOpen), (zsaOpen, .full), (zsaOpen, .readOnly), (zsaOpen, .offline), (zsaClose, .empty),
      (zsaClose, .full), (zsaClose, .readOnly), (zsaClose, .offline), (zsaFinish, .readOnly), (zsaFinish, .offline), (zsaReset, .readOnly), (zsaReset, .offline),
      (zsaOffline, .empty), (zsaOffline, .implOpen), (zsaOffline, .explOpen), (zsaOffline, .closed), (zsaOffline, .full), (zsaOffline, .offline),
      (zsaExt, .implOpen), (zsaExt, .explOpen), (zsaExt, .closed), (zsaExt, .full), (zsaExt, .readOnly), (zsaExt, .offline)] →
    ∃ t, exec i s = .next t ∧ Safety.Ended t c stTransition 0 ∧ t.ze = s.ze ∧ t.gr = s.gr) ∧
  (∀ (s : State) (c : Nat) (x : Ctx) (key : Nat) (i : Instr) (act : Nat), (i, act) ∈ Safety.zoneActions c → Safety.IoRuns s c x 0x79 → zsaOf x.e = act →
    zsaAll x.e = false → effectsBefore s c x = true → zoneAt s x.e.nsid (eSlba x.e) = some key → eSlba x.e % zoneLbas = 0 → (zoneOf s key).queue ≠ [] →
    ∃ t, exec i s = .next t ∧ c ∈ (zoneOf t key).waiting ∧ t = { s with ze := { s.ze with zones := t.ze.zones } } ∧
      zoneOf t key = { zoneOf s key with waiting := (zoneOf t key).waiting } ∧ (∀ k, k ≠ key → zoneOf t k = zoneOf s k)) ∧
  (∀ (s : State) (c : Nat) (x : Ctx), Safety.IoRuns s c x 0x79 → zsaOf x.e ∈ [zsaClose, zsaFinish, zsaReset, zsaOffline] → zsaAll x.e = true →
    effectsBefore s c x = true → x.asked = 0 → x.status = stOk → Safety.GranaryFree s (3 * s.ze.zones.length) → (∀ p, p ∈ s.ze.zones → zNsid p.1 = x.e.nsid → (zoneOf s p.1).queue = [] ∧ (zoneOf s p.1).rebuilding = false ∧
      ∀ f, f ∈ (zoneOf s p.1).frames → pendingPart f = false) →
    ∃ t, exec (.selectAll c) s = .next t ∧ Safety.Ended t c stOk 0 ∧
      (∀ k, zNsid k = x.e.nsid → selects (zsaOf x.e) (zoneOf s k).st = true → (zoneOf t k).st = Safety.selectedTo (zsaOf x.e) (zoneOf s k)) ∧
      (∀ k, zNsid k ≠ x.e.nsid ∨ selects (zsaOf x.e) (zoneOf s k).st = false → zoneOf t k = zoneOf s k))

/-- Zone Shape sets a namespace default or an Empty zone's shape; reports, free-band pushes and checkpoints act as their rules
say. A valid Zone Shape, its domain and slot granted, sets the namespace default, or the shape of an Empty zone; one for a zone
in another state ends with 0x1/0xBF, one that is not valid with 0x0/0x02, and one whose domain or slot is not granted, or, when
it starts, whose namespace is not attached, with 0x7/0xC5 and event source 102. Zone Management Receive answers with the report
of its action and changes nothing. A push of a fit band puts it at the end of the selected domain's free-band list; any other
push only raises event source 420. A checkpoint takes in every zone table delta: none is left in the Granary. (02_zones.md R43
to R48, R66 to R68, R73, R74; 10_granary.md R281, R283, R285; 08_flash_integrity.md R248; 12_memory.md R362.) -/
def Obligations.ZonesAreShapedReportedAndCheckpointed : Prop :=
  (∀ (s : State) (c : Nat) (x : Ctx), Safety.IoRuns s c x 0x81 → effectsBefore s c x = true → Safety.GranaryFree s 1 →
    shapeValid s x.e = true → domExists s (shapeFrom x.e.payload).domain = true → domGranted (fnOf s x.fn) (shapeFrom x.e.payload).domain = true →
    slotGranted (fnOf s x.fn) (shapeFrom x.e.payload).keySlot = true →
    (bit x.e.cdw12 0 = true → ∀ n, nsOf s x.e.nsid = some n → ∃ t, exec (.zoneShape c) s = .next t ∧ Safety.Ended t c stOk 0 ∧
      nsOf t x.e.nsid = some { n with dflt := shapeFrom x.e.payload } ∧ (∀ k, k ≠ x.e.nsid → nsOf t k = nsOf s k) ∧
      t = { s with ce := { s.ce with ctxs := t.ce.ctxs }, ze := { s.ze with nss := t.ze.nss } }) ∧
    (bit x.e.cdw12 0 = false → ∀ key, zoneAt s x.e.nsid (eSlba x.e) = some key → eSlba x.e % zoneLbas = 0 →
      ((zoneOf s key).st = .empty → ∃ t, exec (.zoneShape c) s = .next t ∧ Safety.Ended t c stOk 0 ∧
        zoneOf t key = { zoneOf s key with shape := some (shapeFrom x.e.payload), shaped := true, deltas := true } ∧
        (∀ k, k ≠ key → zoneOf t k = zoneOf s k) ∧ t.ze.nss = s.ze.nss ∧ t.ze.bands = s.ze.bands) ∧
      ((zoneOf s key).st ≠ .empty → ∃ t, exec (.zoneShape c) s = .next t ∧ Safety.Ended t c stTransition 0 ∧ t.ze = s.ze))) ∧
  (∀ (s : State) (c : Nat) (x : Ctx), Safety.IoRuns s c x 0x81 → effectsBefore s c x = true →
    (shapeValid s x.e = false →
      ∃ t, exec (.zoneShape c) s = .next t ∧ Safety.Ended t c stBadField 0 ∧ t.ze = s.ze) ∧
    (shapeValid s x.e = true → bit x.e.cdw12 0 = true →
      domExists s (shapeFrom x.e.payload).domain = false ∨ domGranted (fnOf s x.fn) (shapeFrom x.e.payload).domain = false ∨
        slotGranted (fnOf s x.fn) (shapeFrom x.e.payload).keySlot = false →
      ∃ t, exec (.zoneShape c) s = .next t ∧ Safety.Ended t c stGrant 0 ∧ pending? t 102 = true ∧ t.ze = s.ze)) ∧
  (∀ (s : State) (c : Nat) (x : Ctx) (q : Sq), ctxOf s c = some x → sqOf s x.fn x.sqid = some q → x.st = .fetched → x.tunnel = false → ctxFresh s x = true →
    q.frozen = none → s.gr.holdup = false → earlierStarted s c x = true → x.sqid ≠ 0 → x.e.opc = 0x81 → x.e.fuse = 0 → nsGranted s x.fn x.e.nsid = false →
    ∃ t, exec (.commandStarted c) s = .next t ∧ Safety.Ended t c stGrant 0 ∧ pending? t 102 = true ∧ t.ze = s.ze) ∧
  (∀ (s : State) (c : Nat) (x : Ctx) (i : Instr) (act : Nat), (i, act) ∈ [(Instr.reportZones c, 0), (.extendedReportZones c, 1)] → Safety.IoRuns s c x 0x7A →
    bits x.e.cdw13 7 0 = act → ∃ t, exec i s = .next t ∧ Safety.Answered t c (zoneReport s x.e (act == 1)) ∧ t = { s with ce := { s.ce with ctxs := t.ce.ctxs } }) ∧
  (∀ (s : State) (m : Master) (v : Word), Safety.Reaches s m .zoneEngine 0 → s.ze.bandWait = [] →
    (pushReason s (rdf s R.zeFblSel 7 0) (bits v.toNat 18 0) = 0 → ∃ t, exec (.zeFblPush m v) s = .next t ∧
      (domOf t (rdf s R.zeFblSel 7 0)).fbl = (domOf s (rdf s R.zeFblSel 7 0)).fbl ++ [bits v.toNat 18 0] ∧
      (∀ d, d ≠ rdf s R.zeFblSel 7 0 → domOf t d = domOf s d) ∧ t = { s with ze := { s.ze with domains := t.ze.domains } }) ∧
    (pushReason s (rdf s R.zeFblSel 7 0) (bits v.toNat 18 0) ≠ 0 → ∃ t, exec (.zeFblPush m v) s = .next t ∧ pending? t 420 = true ∧
      t = { s with rf := t.rf, att := { s.att with evrec := t.att.evrec } })) ∧
  (∀ s : State, active s = true → s.gr.recovered = true → (ckptWrite (((s.gr.ckpt.map (fun c => c.num)).getD 0) + 1) (ckptWls s) s).isSome = true →
    ∃ t, exec .zoneTableCheckpoint s = .next t ∧ (∀ k, zoneOf t k = { zoneOf s k with deltas := false }) ∧ (∀ p, p ∈ t.gr.segs → p.2.kind ≠ 3) ∧
      (∃ k, t.gr.ckpt = some k ∧ k.num = ((s.gr.ckpt.map (fun c => c.num)).getD 0) + 1 ∧ k.zones = t.ze.zones ∧ k.retired = s.dm.remap ∧
        k.slots = s.ci.slots ∧ t.fl.metaWls.length = s.fl.metaWls.length + 2 * ckptWls s ∧
        (∀ w, w ∈ t.fl.metaWls → w ∈ s.fl.metaWls ∨ w.ckpt = k.num)) ∧ t.ze.bands = s.ze.bands) ∧
  (∀ s : State, active s = false ∨ s.gr.recovered = false ∨ (ckptWrite (((s.gr.ckpt.map (fun c => c.num)).getD 0) + 1) (ckptWls s) s).isSome = false → exec .zoneTableCheckpoint s = .next s)

/-- Flush waits for what is not on flash; Copy and Peer Copy take their sources and validate their destination as a write. A
Flush, once the earlier writes of its queue have acted, covers what was accepted before its fetch and what those writes have
applied; it completes at once where all of that is on flash, and otherwise keeps what is not and waits. A Copy looks its sources
up as they stand and validates its destination; a source in an Offline zone ends it with 0x1/0xBB. A Peer Copy without a PEER
entry for its source ends with 0x7/0xC5 and CAUSE 4. One whose source is this device reads it as a Copy does, where the source's
tenant lets this node read it; one from another node validates its destination and asks for the first chunks of up to 256 LBAs,
four at most outstanding. (03_queues.md R88, R92, R111; 02_zones.md R59 to R61; 11_balwen.md R340 to R342; 04_tenants.md R126.)
-/
def Obligations.FlushCopyAndPeerCopyRun : Prop :=
  (∀ (s : State) (c : Nat) (x : Ctx), Safety.IoRuns s c x 0x00 → x.validated = false → effectsBefore s c x = true →
    ((∀ p, p ∈ (x.cover ++ (earlier s c x).filterMap (fun i => (ctxOf s i).bind (writeCover s x))) → rangeOnFlash s p.1 p.2.1 (p.2.2 - p.2.1) = true) →
      ∃ t, exec (.flush c) s = .next t ∧ Safety.Ended t c stOk 0 ∧ (∀ d, d ≠ c → ctxOf t d = ctxOf s d) ∧ t = { s with ce := { s.ce with ctxs := t.ce.ctxs } }) ∧
    (∃ t y, exec (.flush c) s = .next t ∧ ctxOf t c = some y ∧ y.validated = true ∧
      (∀ p, p ∈ y.cover → p ∈ (x.cover ++ (earlier s c x).filterMap (fun i => (ctxOf s i).bind (writeCover s x))) ∧ rangeOnFlash t p.1 p.2.1 (p.2.2 - p.2.1) = false) ∧
      (y.cover = [] → Safety.Ended t c stOk 0) ∧ (y.cover ≠ [] → y.st = .started))) ∧
  (∀ (s : State) (c key g : Nat) (x : Ctx) (band : Option Nat), Safety.IoRuns s c x 0x19 → mayValidate s c x = true → indexLost s x.e.nsid (srcLbas x.e) = false → readHeld s c x x.e.nsid (srcLbas x.e) = false → x.started = false → x.validated = false → Safety.SourcesUsable s x → zoneAt s x.e.nsid (eSlba x.e) = some key → Safety.TakesWrites s x.fn key (s.ze.bandWait.contains c) band → Safety.Fits s key band x.e g →
    ∃ t, exec (.copy c) s = .next t ∧ Safety.Sourced s t c x ∧ Safety.Validated s t c key g x ∧ t.ce.sqs = s.ce.sqs) ∧
  (∀ (s : State) (c : Nat) (x : Ctx), Safety.IoRuns s c x 0x19 → mayValidate s c x = true → indexLost s x.e.nsid (srcLbas x.e) = false → readHeld s c x x.e.nsid (srcLbas x.e) = false → x.started = false → x.validated = false → (∃ l, l ∈ srcLbas x.e ∧ (zoneOf s (lbaKey x.e.nsid l)).st = .offline) →
    ∃ t, exec (.copy c) s = .next t ∧ Safety.Ended t c stOffline 0 ∧ t.ze = s.ze) ∧
  (∀ (s : State) (c : Nat) (x : Ctx), Safety.IoRuns s c x 0x85 → mayValidate s c x = true → x.started = false → x.validated = false → peerOk (fnOf s x.fn) (pcNode x.e) (pcNsid x.e) = false →
    ∃ t, exec (.peerCopy c) s = .next t ∧ Safety.Ended t c stGrant 0 ∧ (∃ y, ctxOf t c = some y ∧ y.cause = 4) ∧ pending? t 102 = true ∧ t.ze = s.ze ∧ t.pb = s.pb) ∧
  (∀ (s : State) (c key g : Nat) (x : Ctx) (band : Option Nat), Safety.IoRuns s c x 0x85 → mayValidate s c x = true → x.started = false → x.validated = false → peerOk (fnOf s x.fn) (pcNode x.e) (pcNsid x.e) = true → peerCopies s < 64 →
    pcNode x.e = ownNode s →
    (sourceLets s (pcNsid x.e) (pcNode x.e) = false → ∃ t, exec (.peerCopy c) s = .next t ∧ Safety.Ended t c stGrant 0 ∧ pending? t 402 = true ∧ t.ze = s.ze) ∧
    (sourceLets s (pcNsid x.e) (pcNode x.e) = true → pcSlba x.e + eNlb x.e ≤ ((nsOf s (pcNsid x.e)).map (fun n => n.zones * zoneLbas)).getD 0 →
      indexLost s (pcNsid x.e) (srcLbas x.e) = false → readHeld s c x (pcNsid x.e) (srcLbas x.e) = false → Safety.SourcesUsable s x → zoneAt s x.e.nsid (eSlba x.e) = some key → Safety.TakesWrites s x.fn key (s.ze.bandWait.contains c) band → Safety.Fits s key band x.e g →
      ∃ t, exec (.peerCopy c) s = .next t ∧ Safety.Sourced s t c x ∧ Safety.Validated s t c key g x ∧ (s.gr.mirEn = false → t.pb = s.pb))) ∧
  (∀ (s : State) (c key g n : Nat) (x : Ctx) (band : Option Nat), Safety.IoRuns s c x 0x85 → mayValidate s c x = true → x.started = false → x.validated = false → peerOk (fnOf s x.fn) (pcNode x.e) (pcNsid x.e) = true → peerCopies s < 64 →
    pcNode x.e ≠ ownNode s → zoneAt s x.e.nsid (eSlba x.e) = some key → Safety.TakesWrites s x.fn key (s.ze.bandWait.contains c) band → Safety.Fits s key band x.e g →
    s.gr.mirEn = false → linkTo s (pcNode x.e) = some n → linkEth s n = false → (sessOf s (sessKey n 0)).isSome = true → x.asked = 0 → x.chunks = 0 →
    ∃ t, exec (.peerCopy c) s = .next t ∧ Safety.Validated s t c key g x ∧ (∃ y, ctxOf t c = some y ∧ y.started = true ∧
      y.asked = Nat.min (eNlb x.e) 1024 ∧ y.chunks = ceilDiv (Nat.min (eNlb x.e) 1024) 256)) ∧
  (∀ (s : State) (c : Nat) (x : Ctx), Safety.IoRuns s c x 0x85 → mayValidate s c x = true → x.started = false → x.validated = false → peerOk (fnOf s x.fn) (pcNode x.e) (pcNsid x.e) = true → 64 ≤ peerCopies s → exec (.peerCopy c) s = .next s)

/-- Load, Erase and the counter and ceiling registers change the selected key slot, and every CI_KW_CMD clears the staging
registers. A Load takes the staged key, salt and floor into the selected slot: at once where nothing holds the old key, into the
shadow where something does, and not at all (REFUSED) where a shadow is pending. An Erase zeroes the slot's key, salt and
shadow, and leaves its counter. Both zero the staging registers and leave every other slot. A committed write of CI_KS_CTR
raises the counter or is refused with event source 267; one of CI_KS_CEIL journals and sets the ceiling, but never down. A
shadow still pending at its timeout raises event source 265. (06_cipher.md R170 to R177, R188.) -/
def Obligations.KeySlotsAreLoadedErasedAndCounted : Prop :=
  (∀ (s : State) (m : Master), masterCls m = .secure → Safety.Reaches s m .cipher 0 →
    (∀ k, k = rdf s R.ciKwSel 12 0 → (slotOf s k).shadow = none → (slotOf s k).loaded = false ∨ holders s k (slotOf s k).keyGen = 0 →
      ∃ t, exec (.ciKwLoad m) s = .next t ∧ (slotOf t k).loaded = true ∧ (slotOf t k).key = stagedKey s.ci ∧ (slotOf t k).salt = s.ci.kwSalt ∧
        (slotOf t k).keyGen = (slotOf s k).keyGen + 1 ∧ (slotOf t k).ctr = Nat.max (slotOf s k).ctr s.ci.kwFloor ∧ pending? t 264 = true ∧
        (∀ j, j ≠ k → slotOf t j = slotOf s j) ∧ t.ci.kwKey = [] ∧ t.ci.kwSalt = 0 ∧ t.ci.kwFloor = 0 ∧ t.ci.kwRefused = false ∧ t = { s with ci := t.ci, rf := t.rf, att := { s.att with evrec := t.att.evrec } }) ∧
    (∀ k, k = rdf s R.ciKwSel 12 0 → (slotOf s k).shadow = none → (slotOf s k).loaded = true → holders s k (slotOf s k).keyGen ≠ 0 →
      ∃ t, exec (.ciKwLoad m) s = .next t ∧ (slotOf t k).shadow = some (stagedKey s.ci, s.ci.kwSalt) ∧ (slotOf t k).key = (slotOf s k).key ∧
        (slotOf t k).keyGen = (slotOf s k).keyGen ∧ (∀ j, j ≠ k → slotOf t j = slotOf s j) ∧ t.ci.kwKey = [] ∧ t.ci.kwRefused = false ∧
        t = { s with ci := t.ci, rf := t.rf, att := { s.att with evrec := t.att.evrec } }) ∧
    (∀ k, k = rdf s R.ciKwSel 12 0 → (slotOf s k).shadow.isSome = true →
      exec (.ciKwLoad m) s = .next { s with ci := { s.ci with kwKey := [], kwSalt := 0, kwFloor := 0, kwRefused := true } }) ∧
    (∀ k, k = rdf s R.ciKwSel 12 0 → (slotOf s k).shadow = none →
      ∃ t, exec (.ciKwErase m) s = .next t ∧ (slotOf t k).loaded = false ∧ ((slotOf s k).loaded = true → (slotOf t k).key = 0 ∧ (slotOf t k).salt = 0) ∧
        (slotOf t k).ctr = (slotOf s k).ctr ∧ (slotOf t k).ceil = (slotOf s k).ceil ∧ (∀ j, j ≠ k → slotOf t j = slotOf s j) ∧
        t.ci.kwKey = [] ∧ t.ci.kwSalt = 0 ∧ t.ci.kwFloor = 0 ∧ t = { s with ci := t.ci, rf := t.rf, att := { s.att with evrec := t.att.evrec } })) ∧
  (∀ (s : State) (m : Master) (hi : Word), Safety.Reaches s m .cipher 0 →
    ∀ k v, k = rdf s R.ciKsSel 12 0 → v = bits (hi.toNat * 4294967296 + tget 0 s.rf.stage (masterKey m)) 63 0 →
    ((slotOf s k).ctr < v → ∃ t, exec (.ciKsCtrWrite m hi) s = .next t ∧ (slotOf t k).ctr = v ∧ (slotOf t k).key = (slotOf s k).key ∧
      (slotOf t k).ceil = (slotOf s k).ceil ∧ (∀ j, j ≠ k → slotOf t j = slotOf s j) ∧ t = { s with ci := t.ci, rf := t.rf, att := { s.att with evrec := t.att.evrec } }) ∧
    (v ≤ (slotOf s k).ctr → ∃ t, exec (.ciKsCtrWrite m hi) s = .next t ∧ pending? t 267 = true ∧ t = { s with rf := t.rf, att := { s.att with evrec := t.att.evrec } }) ∧
    (v < (slotOf s k).ceil → ∃ t, exec (.ciKsCeilWrite m hi) s = .next t ∧ pending? t 267 = true ∧ t = { s with rf := t.rf, att := { s.att with evrec := t.att.evrec } }) ∧
    ((slotOf s k).ceil ≤ v → ∃ t, exec (.ciKsCeilWrite m hi) s = .next t ∧ (slotOf t k).ceil = v ∧ (slotOf t k).recorded = Nat.max (slotOf s k).recorded v ∧
      (slotOf t k).ctr = (slotOf s k).ctr ∧ (∀ j, j ≠ k → slotOf t j = slotOf s j) ∧ t.ze = s.ze ∧ t.ce.sqs = s.ce.sqs ∧
      t.fl = { s.fl with journal := s.fl.journal ++ [ceilRec k v] })) ∧
  (∀ (s : State) (k : Nat), ((slotOf s k).shadow.isSome = true → ∃ t, exec (.shadowPendingTimeout k) s = .next t ∧ pending? t 265 = true ∧ t = { s with rf := t.rf, att := { s.att with evrec := t.att.evrec } }) ∧
    ((slotOf s k).shadow = none → exec (.shadowPendingTimeout k) s = .next s))

/-- A posted descriptor enters its die's queue, completes at once with its error, or is held back by the die-block rules. A
descriptor is judged and queued as its issuer and the hardware fill it. One whose die takes it stands at the end of its queue
with the instant of its post; a read suspends the operation it can suspend, or records the refusal at SUSP_MAX. One without room
waits for it, and one of an issuer that is held waits for its issuer. One with a field out of range completes with status 8 and
the channel's odd event source, one for a failed or unusable die with status 4 (a read's job goes on with the rebuild). A
program of a stripe that is not complete, or that nobody may post, is not posted. A page read whose codewords serve something
gets its read job. An erase is journalled and marks its die-block first; of a die-block that may not be erased nothing is
posted, and one whose life is over is retired instead. SC_CANCEL completes the descriptors of a tag that have not been issued
with status 5. (07_flash_channels.md R200, R201, R203, R208, R212, R537; 08_flash_integrity.md R232 to R238; 02_zones.md R53;
09_tail_latency.md R252, R254, R256, R257, R259.) -/
def Obligations.DescriptorsArePosted : Prop :=
  (∀ (s : State) (ch : Nat) (d : Desc) (who : Issuer), Safety.TakesPost s ch d who → d.op ≠ 1 → d.op ≠ 0x20 → Safety.Postable s (64 * ch + d.die) (fillDesc s ch d who) who →
    ∃ t, exec (.descriptorPost ch d who) s = .next t ∧ Safety.Queued s t ch d who ∧ t = { s with fl := { s.fl with dies := t.fl.dies }, rf := t.rf, att := { s.att with evrec := t.att.evrec } } ∧
      (∀ o, (dieOf s (64 * ch + d.die)).cur = some o → (fillDesc s ch d who).queue = 0 → Safety.Suspendable s ch d.die o = true → o.d.suspMax ≤ o.suspends → pending? t (evOdd ch) = true)) ∧
  (∀ (s : State) (ch : Nat) (d : Desc) (who : Issuer), Safety.MayPost s ch d who → (dieOf s (64 * ch + d.die)).posts = [] → (dieOf s (64 * ch + d.die)).heads = [] → hasEntry (dieOf s (64 * ch + d.die)) (fillDesc s ch d who).queue = false →
    d.op ∈ [3, 0x40, 0x41, 0x42, 0x48] →
    ∃ t, exec (.descriptorPost ch d who) s = .next t ∧ (dieOf t (64 * ch + d.die)).posts = [({ (fillDesc s ch d who) with posted := s.ck.tb }, who)] ∧ (dieOf t (64 * ch + d.die)).q = (dieOf s (64 * ch + d.die)).q ∧
      (dieOf t (64 * ch + d.die)).cur = (dieOf s (64 * ch + d.die)).cur ∧ (∀ k, k ≠ (64 * ch + d.die) → dieOf t k = dieOf s k) ∧ t = { s with fl := { s.fl with dies := t.fl.dies } }) ∧
  (∀ (s : State) (ch : Nat) (d : Desc) (who : Issuer), agentHeld s (agentOf ch who) = true →
    exec (.descriptorPost ch d who) s = .next { s with fl := { s.fl with heldPosts := s.fl.heldPosts ++ [(ch, (d, who))] } }) ∧
  (∀ (s : State) (ch : Nat) (d : Desc) (who : Issuer), agentHeld s (agentOf ch who) = false → d.op = 0x10 ∨ d.op = 0x30 → descOk s d.die (fillDesc s ch d who) = true → ¬ Safety.Postable s (64 * ch + d.die) (fillDesc s ch d who) who → exec (.descriptorPost ch d who) s = .next s) ∧
  (∀ (s : State) (ch : Nat) (d : Desc) (who : Issuer), agentHeld s (agentOf ch who) = false → (chanOf s ch).st ≠ .off → descOk s d.die (fillDesc s ch d who) = false →
    ∃ t, exec (.descriptorPost ch d who) s = .next t ∧ Safety.Completes t ch d who 8 ∧ pending? t (evOdd ch) = true ∧
      t = { s with fl := { s.fl with cpls := t.fl.cpls }, rf := t.rf, att := { s.att with evrec := t.att.evrec } }) ∧
  (∀ (s : State) (ch : Nat) (d : Desc) (who : Issuer), agentHeld s (agentOf ch who) = false → (chanOf s ch).st ≠ .off → Safety.Postable s (64 * ch + d.die) (fillDesc s ch d who) who → descOk s d.die (fillDesc s ch d who) = true → ch < 64 → d.die < 64 →
    dieFailed s (64 * ch + d.die) = true ∨ dieTakes s ch d.die = false →
    ∃ t, exec (.descriptorPost ch d who) s = .next t ∧ Safety.Completes t ch d who 4 ∧
      (d.op ≤ 3 → ∀ j, jobOf t d.tag = some j → j.step = 5 ∧ j.ready = false) ∧ t = { s with fl := { s.fl with cpls := t.fl.cpls, jobs := t.fl.jobs } }) ∧
  (∀ (s : State) (ch : Nat) (d : Desc) (who : Issuer), Safety.TakesPost s ch d who → d.op = 1 → issuerCtx who = none ∨ rdb s R.dsCtl 0 = false →
    ∃ t, exec (.descriptorPost ch d who) s = .next t ∧ Safety.Queued s t ch d who ∧
      (∀ j, newJob s ch d.die (fillDesc s ch d who) who = some j → jobOf t d.tag = some j) ∧ (newJob s ch d.die (fillDesc s ch d who) who = none → t.fl.jobs = s.fl.jobs) ∧
      t = { s with fl := { s.fl with dies := t.fl.dies, jobs := t.fl.jobs }, rf := t.rf, att := { s.att with evrec := t.att.evrec } }) ∧
  (∀ (s : State) (ch : Nat) (d : Desc) (who : Issuer), Safety.TakesPost s ch d who → d.op = 0x20 → Safety.Postable s (64 * ch + d.die) (fillDesc s ch d who) who → lifeOver s (64 * ch + d.die) d.block = false →
    ∃ t, exec (.descriptorPost ch d who) s = .next t ∧ Safety.Queued s t ch d who ∧
      (blkOf t (64 * ch + d.die) d.block).st = (if (blkOf s (64 * ch + d.die) d.block).st = 7 then 7 else 1) ∧
      (blkOf t (64 * ch + d.die) d.block).erases = satBits 32 ((blkOf s (64 * ch + d.die) d.block).erases + 1) ∧
      (∃ r, t.fl.journal = s.fl.journal ++ [r] ∧ r.typ = 1 ∧ r.ch = ch ∧ r.die = d.die ∧ r.block = d.block) ∧ t.ze.zones = s.ze.zones ∧ t.ce = s.ce) ∧
  (∀ (s : State) (ch : Nat) (d : Desc) (who : Issuer), agentHeld s (agentOf ch who) = false → d.op = 0x20 → descOk s d.die (fillDesc s ch d who) = true → ¬ Safety.Postable s (64 * ch + d.die) (fillDesc s ch d who) who →
    exec (.descriptorPost ch d who) s = .next s) ∧
  (∀ (s : State) (ch : Nat) (d : Desc) (who : Issuer), agentHeld s (agentOf ch who) = false → ch < 64 → d.die < 64 → d.op = 0x20 → descOk s d.die (fillDesc s ch d who) = true →
    Safety.Postable s (64 * ch + d.die) (fillDesc s ch d who) who → dieFailed s (64 * ch + d.die) = false → dieTakes s ch d.die = true → lifeOver s (64 * ch + d.die) d.block = true →
    ∃ t, exec (.descriptorPost ch d who) s = .next t ∧ (blkOf t (64 * ch + d.die) d.block).st = 4 ∧ pending? t 421 = true ∧ t.fl.dies = s.fl.dies) ∧
  (∀ (s : State) (m : Master) (ch : Nat) (tag : Word), ch < 64 → Safety.Reaches s m .flCh ch → s.fl.heldPosts = [] →
    ∃ t, exec (.scCancel m ch tag) s = .next t ∧ t.ze = s.ze ∧ t.ce = s.ce ∧ t.rf = s.rf ∧
      (∀ die, die < 64 →
        (∀ e, e ∈ unissued (dieOf t (64 * ch + die)) ↔ e ∈ unissued (dieOf s (64 * ch + die)) ∧ e.1.tag ≠ tag.toNat) ∧
        (∀ e, e ∈ unissued (dieOf s (64 * ch + die)) → e.1.tag = tag.toNat → Safety.Completes t ch e.1 e.2 5) ∧ (dieOf t (64 * ch + die)).susp = (dieOf s (64 * ch + die)).susp ∧
        ((∀ o, (dieOf s (64 * ch + die)).cur = some o → o.phase = .waitTokens → o.d.tag ≠ tag.toNat) → (dieOf t (64 * ch + die)).cur = (dieOf s (64 * ch + die)).cur)) ∧
      (∀ k, k / 64 ≠ ch → dieOf t k = dieOf s k))

/-- A die issues its chosen descriptor with tokens, is suspended at the minimum run for reads, and resumes when tokens allow. An
idle die that has a descriptor to issue chooses it; where the pool has room for its tokens it leaves its queue and starts now,
at the sets that stand now, and otherwise it waits for them. A program pass out of order completes with status 7. A die that is
to be reset issues its own Reset LUN. The head request that fits is granted and starts its operation; one that waits too long
raises the odd event source once. A long operation that reads wait for is set to suspend once it has run its minimum run, or at
SUSP_MAX raises the odd source. A poll that shows it suspended returns its tokens, counts the suspend and opens the read window;
in HOLDUP it ends with status 6 and the die is to be reset; one that shows it complete, or failed, ends it with that status. A
resume, once no read waits or the window is over, takes its tokens again. (Statements about what a command of a die leaves to be
posted take states in which no issuer is held.) (07_flash_channels.md R192, R200, R205, R207, R209, R210, R212 to R215;
09_tail_latency.md R253 to R255; 10_granary.md R295.) -/
def Obligations.DiesIssueSuspendAndResume : Prop :=
  (∀ (s : State) (ch die : Nat) (d : Desc) (who : Issuer), ch < 64 → die < 64 → s.fl.heldPosts = [] → (dieOf s (64 * ch + die)).cur = none → (dieOf s (64 * ch + die)).resuming = false → dieFailed s (64 * ch + die) = false → (dieOf s (64 * ch + die)).resetLun = false →
    chooseDesc s ch (dieOf s (64 * ch + die)) = some (d, who) → Safety.NoRequests s → (s.fl.poolDump = true → opClass s d.op who = 2) →
    (d.op = 0x10 ∨ d.op = 0x30 → passInOrder s d (progress s (64 * ch + die) d.block).1 (progress s (64 * ch + die) d.block).2 = true) →
    ∃ t, exec (.dieIssue ch die) s = .next t ∧ (∀ k, k ≠ (64 * ch + die) → dieOf t k = dieOf s k) ∧ (dieOf t (64 * ch + die)).susp = (dieOf s (64 * ch + die)).susp ∧
      (tokensHeld s + tokenCost s d ≤ poolSize s → tokensHeld t = tokensHeld s + tokenCost s d ∧
        ((dieOf s (64 * ch + die)).posts = [] → (dieOf s (64 * ch + die)).heads = [] → (dieOf t (64 * ch + die)).q = (dieOf s (64 * ch + die)).q.erase (d, who)) ∧ (dieOf t (64 * ch + die)).cur =
        some { d := d, who := who, phase := .running, tokens := tokenCost s d, cls := opClass s d.op who, issued := s.ck.tb, since := s.ck.tb, sets := opSets s (64 * ch + die) d }) ∧
      (poolSize s < tokensHeld s + tokenCost s d → tokensHeld t = tokensHeld s ∧ (dieOf t (64 * ch + die)).q = (dieOf s (64 * ch + die)).q ∧
        (dieOf t (64 * ch + die)).cur = some { d := d, who := who, phase := .waitTokens }) ∧ t.ze.zones = s.ze.zones ∧ t.ce = s.ce ∧ t.fl.cpls = s.fl.cpls) ∧
  (∀ (s : State) (ch die : Nat) (d : Desc) (who : Issuer), ch < 64 → die < 64 → s.fl.heldPosts = [] → (dieOf s (64 * ch + die)).cur = none → (dieOf s (64 * ch + die)).resuming = false → dieFailed s (64 * ch + die) = false → (dieOf s (64 * ch + die)).resetLun = false →
    chooseDesc s ch (dieOf s (64 * ch + die)) = some (d, who) → s.gr.bo2 = false → d.op = 0x10 ∨ d.op = 0x30 →
    passInOrder s d (progress s (64 * ch + die) d.block).1 (progress s (64 * ch + die) d.block).2 = false →
    ∃ t, exec (.dieIssue ch die) s = .next t ∧ (dieOf t (64 * ch + die)).cur = none ∧ Safety.Completes t ch d who 7 ∧
      ((dieOf s (64 * ch + die)).posts = [] → (dieOf s (64 * ch + die)).heads = [] → (dieOf t (64 * ch + die)).q = (dieOf s (64 * ch + die)).q.erase (d, who)) ∧
      t = { s with fl := { s.fl with dies := t.fl.dies, cpls := t.fl.cpls } }) ∧
  (∀ (s : State) (ch die : Nat), ch < 64 → die < 64 → s.fl.heldPosts = [] → (dieOf s (64 * ch + die)).cur = none → (dieOf s (64 * ch + die)).resuming = false → dieFailed s (64 * ch + die) = false → (dieOf s (64 * ch + die)).resetLun = true → (chanOf s ch).st = .running ∨ (chanOf s ch).st = .holdup → Safety.NoRequests s →
    tokensHeld s + 1 ≤ poolSize s →
    ∃ t, exec (.dieIssue ch die) s = .next t ∧ tokensHeld t = tokensHeld s + 1 ∧ (∀ k, k ≠ (64 * ch + die) → dieOf t k = dieOf s k) ∧
      (dieOf t (64 * ch + die)).cur = some { d := resetLunDesc die, who := .sequencer, phase := .running, tokens := 1, cls := if s.fl.poolDump then 2 else 0, issued := s.ck.tb, since := s.ck.tb } ∧ t.ze.zones = s.ze.zones ∧ t.ce = s.ce) ∧
  (∀ (s : State) (ch die : Nat), s.fl.heldPosts = [] → (dieOf s (64 * ch + die)).cur.isSome = true ∨ (dieOf s (64 * ch + die)).resuming = true ∨ dieFailed s (64 * ch + die) = true ∨
    ((chanOf s ch).st ≠ .running ∧ (chanOf s ch).st ≠ .holdup) → exec (.dieIssue ch die) s = .next s) ∧
  (∀ s : State, s.fl.heldPosts = [] → arbHead s = none ∨ (∃ cls r, arbHead s = some (cls, r) ∧ poolSize s < tokensHeld s + r.cost) → exec .tokenGrant s = .next s) ∧
  (∀ (s : State) (r : TokReq) (o : Op), s.fl.heldPosts = [] → s.fl.rdReq = [r] → s.fl.peReq = [] → s.fl.dumpReq = [] → s.fl.poolDump = false → s.gr.bo2 = false →
    tokensHeld s + r.cost ≤ poolSize s → (dieOf s r.die).cur = some o → (dieOf s r.die).resuming = false → o.d.op ≤ 3 →
    ∃ t, exec .tokenGrant s = .next t ∧ t.fl.rdReq = [] ∧ t.fl.rdHeld = s.fl.rdHeld + r.cost ∧
      (dieOf t r.die).cur = some { o with phase := .running, tokens := r.cost, cls := 0, issued := s.ck.tb, since := s.ck.tb, sets := opSets s r.die o.d } ∧
      (∀ k, k ≠ r.die → dieOf t k = dieOf s k) ∧ t.ze = s.ze ∧ t.ce = s.ce) ∧
  (∀ (s : State) (ch die : Nat), ch < 64 → die < 64 → s.fl.poolDump = false →
    ((∃ r, r ∈ s.fl.rdReq ++ s.fl.peReq ++ s.fl.dumpReq ∧ r.die = (64 * ch + die) ∧ r.warned = false) →
      ∃ t, exec (.tokenWaitTimeout ch die) s = .next t ∧ pending? t (evOdd ch) = true ∧
        (∀ r, r ∈ t.fl.rdReq ++ t.fl.peReq ++ t.fl.dumpReq → r.die = (64 * ch + die) → r.warned = true) ∧
        t = { s with fl := { s.fl with rdReq := t.fl.rdReq, peReq := t.fl.peReq, dumpReq := t.fl.dumpReq }, rf := t.rf, att := { s.att with evrec := t.att.evrec } }) ∧
    ((∀ r, r ∈ s.fl.rdReq ++ s.fl.peReq ++ s.fl.dumpReq → r.die = (64 * ch + die) → r.warned = true) → exec (.tokenWaitTimeout ch die) s = .next s)) ∧
  (∀ (s : State) (ch die : Nat) (o : Op), (dieOf s (64 * ch + die)).cur = some o → (headOf (dieOf s (64 * ch + die)) 0).isSome = true →
    (Safety.Suspendable s ch die o = true → o.suspends < o.d.suspMax →
      ∃ t, exec (.minimumRunReached ch die) s = .next t ∧ dieOf t (64 * ch + die) = { dieOf s (64 * ch + die) with cur := some { o with phase := .suspending } } ∧
        (∀ k, k ≠ (64 * ch + die) → dieOf t k = dieOf s k) ∧ t = { s with fl := { s.fl with dies := t.fl.dies } }) ∧
    (Safety.Suspendable s ch die o = true → o.d.suspMax ≤ o.suspends →
      ∃ t, exec (.minimumRunReached ch die) s = .next t ∧ pending? t (evOdd ch) = true ∧ t = { s with rf := t.rf, att := { s.att with evrec := t.att.evrec } }) ∧
    (Safety.Suspendable s ch die o = false → exec (.minimumRunReached ch die) s = .next s)) ∧
  (∀ (s : State) (ch die : Nat) (o : Op), ch < 64 → die < 64 → s.fl.heldPosts = [] → (dieOf s (64 * ch + die)).cur = some o → o.phase = .suspending → (dieOf s (64 * ch + die)).resuming = false →
    exec (.statusPoll ch die .busy) s = .next s ∧
    (∀ i st, (i, st) ∈ [(DieStatus.complete, 0), (.failed, if o.d.op = 0x10 then 1 else 2)] → o.d.op = 0x10 ∨ o.d.op = 0x20 →
      ∃ t, exec (.statusPoll ch die i) s = .next t ∧ Safety.OpEnded t ch die st o) ∧
    (s.gr.holdup = false → ∃ t, exec (.statusPoll ch die .suspended) s = .next t ∧ (dieOf t (64 * ch + die)).cur = none ∧ (dieOf t (64 * ch + die)).winReads = 0 ∧ (dieOf t (64 * ch + die)).winStart = s.ck.tb ∧
      (dieOf t (64 * ch + die)).susp = some { o with phase := .suspended, tokens := 0, suspends := o.suspends + 1, since := s.ck.tb } ∧ t.ce = s.ce ∧ t.ze.zones = s.ze.zones) ∧
    (s.gr.holdup = true → ∃ t, exec (.statusPoll ch die .suspended) s = .next t ∧ (dieOf t (64 * ch + die)).cur = none ∧ (dieOf t (64 * ch + die)).resetLun = true ∧
      (dieOf t (64 * ch + die)).susp = (dieOf s (64 * ch + die)).susp ∧ Safety.Completes t ch o.d o.who 6 ∧ t.ce = s.ce ∧ t.ze.zones = s.ze.zones)) ∧
  (∀ (s : State) (ch die : Nat) (o : Op), ch < 64 → die < 64 → s.fl.heldPosts = [] → (dieOf s (64 * ch + die)).cur = none → (dieOf s (64 * ch + die)).susp = some o → (dieOf s (64 * ch + die)).resuming = false →
    (chanOf s ch).st = .running → s.fl.poolDump = false → Safety.NoRequests s →
    (headOf (dieOf s (64 * ch + die)) 0 = none ∨ windowOpen s (dieOf s (64 * ch + die)) = false →
      ∃ t, exec (.operationResume ch die) s = .next t ∧ (∀ k, k ≠ (64 * ch + die) → dieOf t k = dieOf s k) ∧ t.ce = s.ce ∧ t.ze = s.ze ∧
        (tokensHeld s + tokenCost s o.d ≤ poolSize s → (dieOf t (64 * ch + die)).susp = none ∧ (dieOf t (64 * ch + die)).resuming = false ∧ (dieOf t (64 * ch + die)).cur = some { o with
          phase := .running, tokens := tokenCost s o.d, cls := opClass s o.d.op o.who, since := s.ck.tb, spent := o.spent + (s.ck.tb - o.since) }) ∧
        (poolSize s < tokensHeld s + tokenCost s o.d → (dieOf t (64 * ch + die)).susp = some o ∧ (dieOf t (64 * ch + die)).resuming = true ∧ (dieOf t (64 * ch + die)).cur = none)) ∧
    ((headOf (dieOf s (64 * ch + die)) 0).isSome = true → windowOpen s (dieOf s (64 * ch + die)) = true → exec (.operationResume ch die) s = .next s))

/-- Each end of a die operation leaves the die idle, returns its completion, and does what that operation is for. An end of an
operation takes effect in a state in which no issuer's post is held. When a page or soft read ends, its job is ready for the
decoder. A calibration read returns its bit counts; one of step 3 of the ladder is followed by a page read at the thresholds
found, written as an explicit set, and any other stores the tracked set less its compensation. A program pass that ends well
counts in its band, and pages that are now on flash leave the Granary; one that fails, and an erase that fails, raise the
channel's even source and retire the die-block. An erase that ends well is journalled and makes its die-block ERASED (a metadata
or Garret one stays SYSTEM), and a band all of whose die-blocks are erased may be bound. A dump wordline adds its codewords to
the dump, and one whose program fails adds none, with the even source of its channel. A temperature read posts a Get Features,
at whose end the die has that temperature. An initialisation step done is noted with its result. A timeout completes with status
3 and has the die reset; the third in a row, or that of a Reset LUN, marks the die failed. (07_flash_channels.md R203 to R208,
R211, R212; 08_flash_integrity.md R227, R231 to R236, R241; 10_granary.md R286, R287, R299.) -/
def Obligations.DieOperationsEnd : Prop :=
  (∀ (s : State) (ch die : Nat) (o : Op) (i : Instr) (op : Nat), (i, op) ∈ [(Instr.pageReadDone ch die, 1), (.softReadDone ch die, 2)] → Safety.OpRuns s ch die op o → s.fl.heldPosts = [] →
    ∃ t, exec i s = .next t ∧ Safety.OpEnded t ch die 0 o ∧ (∀ j, jobOf s o.d.tag = some j → jobOf t o.d.tag = some { j with ready := true }) ∧
      (∀ g, g ≠ o.d.tag → jobOf t g = jobOf s g) ∧ t.ze.zones = s.ze.zones ∧ t.ce = s.ce ∧ t.gr = s.gr) ∧
  (∀ (s : State) (ch die : Nat) (o : Op) (counts : List Nat) (ofs : List Int), Safety.OpRuns s ch die 3 o → s.fl.heldPosts = [] →
    ofs = Config.calibrate o.d.dens (o.sets.headD []) counts →
    ((∀ j, jobOf s o.d.tag = some j → j.step ≠ 3) → ∃ t, exec (.calibrationReadDone ch die counts) s = .next t ∧ (dieOf t (64 * ch + die)).cur = none ∧
      (o.who ≠ .sequencer → ({ ch := ch, tag := o.d.tag, status := 0, who := o.who, counts := counts } : FCpl) ∈ t.fl.cpls) ∧
      tget {} t.fl.thr (thrKey (64 * ch + die) o.d.block) = thrNorm
        { off := (ofs.take 31).mapIdx (fun j v => clamp8 (v - compAt s o.d.dens (tempDiff s (64 * ch + die) o.d.block o.d.wl) j)), valid := true, dirty := false } ∧
      (∀ k, k ≠ thrKey (64 * ch + die) o.d.block → tget {} t.fl.thr k = tget {} s.fl.thr k) ∧ t.fl.jobs = s.fl.jobs ∧ t.ze.zones = s.ze.zones ∧ t.ce = s.ce) ∧
    (∀ j, jobOf s o.d.tag = some j → j.step = 3 → dieFailed s (64 * ch + die) = false → dieTakes s ch die = true →
      ∃ t, exec (.calibrationReadDone ch die counts) s = .next t ∧ (dieOf t (64 * ch + die)).cur = none ∧
        (o.who ≠ .sequencer → ({ ch := ch, tag := o.d.tag, status := 0, who := o.who, counts := counts } : FCpl) ∈ t.fl.cpls) ∧
        tfind (dieOf t (64 * ch + die)).explicit (o.d.tag % 16) = some ofs ∧
        jobOf t o.d.tag = some { j with offs := ofs, desc := { j.desc with op := 1, queue := jobQueue j, thr := explicitThr o.d.tag }, ready := false } ∧
        t.fl.thr = s.fl.thr ∧ t.ze.zones = s.ze.zones ∧ t.ce = s.ce)) ∧
  (∀ (s : State) (ch die b pos : Nat) (o : Op), Safety.OpRuns s ch die 0x10 o → bandOfBlk s (64 * ch + die) o.d.block = some (b, pos) → s.fl.heldPosts = [] →
    (∀ p, p ∈ s.ce.ctxs → p.2.waitTicket = false) →
    ∃ t, exec (.programPassDone ch die true) s = .next t ∧ Safety.OpEnded t ch die 0 o ∧
      tget (0, 0) (bandOf t b).prog pos = passDone o.d (tget (0, 0) (bandOf s b).prog pos) ∧ (bandOf t b).dens = some o.d.dens ∧
      (∀ k, bandZone s b = some k → (zoneOf t k).wp = (zoneOf s k).wp ∧
        ∀ u, u ∈ (zoneOf t k).units → u.2.seg.isSome = true → cwOnFlash t (zoneDens (zoneOf t k)) b u.2.pos = false)) ∧
  (∀ (s : State) (ch die : Nat) (o : Op) (i : Instr) (op st : Nat), (i, op, st) ∈ [(Instr.programPassDone ch die false, 0x10, 1), (.eraseDone ch die false, 0x20, 2)] →
    Safety.OpRuns s ch die op o → s.fl.heldPosts = [] →
    ∃ t, exec i s = .next t ∧ Safety.Completes t ch o.d o.who st ∧ (blkOf t (64 * ch + die) o.d.block).st = 4 ∧
      pending? t (evEven ch) = true ∧ pending? t 421 = true) ∧
  (∀ (s : State) (ch die : Nat) (o : Op), Safety.OpRuns s ch die 0x20 o → s.fl.heldPosts = [] → s.ze.bandWait = [] → (∀ p, p ∈ s.ze.rows → p.2.migrating = false) →
    s.pb.owners = [] → (blkOf s (64 * ch + die) o.d.block).st = 1 →
    ∃ t, exec (.eraseDone ch die true) s = .next t ∧ Safety.OpEnded t ch die 0 o ∧ (blkOf t (64 * ch + die) o.d.block).st = (if (blkOf s (64 * ch + die) o.d.block).serves.getD o.d.block < 16 then 7 else 2) ∧ (blkOf t (64 * ch + die) o.d.block).startOpen = false ∧
      (∃ r, t.fl.journal = s.fl.journal ++ [r] ∧ r.typ = 2 ∧ r.ch = ch ∧ r.die = die ∧ r.block = o.d.block) ∧ t.ze.zones = s.ze.zones ∧ t.ce = s.ce ∧
      (∀ b p, bandOfBlk s (64 * ch + die) o.d.block = some (b, p) → (bandOf s b).erasing = true →
        (∀ k, k ∈ bandDies s b → k ≠ (64 * ch + die) → (blkOf s k (servingBlk s k (bandBlkIdx s b))).st = 2) →
        (bandOf t b).erased = true ∧ (bandOf t b).erasing = false ∧ (bandOf t b).prog = [])) ∧
  (∀ (s : State) (ch die : Nat) (o : Op) (d : Dump), Safety.OpRuns s ch die 0x30 o → tfind s.gr.halves s.gr.armed = some d → s.fl.heldPosts = [] →
    (∃ t, exec (.dumpProgramDone ch die) s = .next t ∧ Safety.OpEnded t ch die 0 o ∧ (blkOf t (64 * ch + die) o.d.block).prog = o.d.wl + 1 ∧
      (∀ j, dumpWl s d (64 * ch + die) o.d.block o.d.wl = some j → tfind t.gr.halves s.gr.armed = some { d with tried := d.tried ++ [j], cws := d.cws ++
        (((List.range (slcCws s)).map (fun i => slcCws s * j + i)).filter (fun n => decide (n < dumpTotal d))).map (fun n => (n, dumpAddr d n)) }) ∧
      (dumpWl s d (64 * ch + die) o.d.block o.d.wl = none → t.gr = s.gr) ∧ t.ze.zones = s.ze.zones ∧ t.ce = s.ce) ∧
    (∃ t, exec (.dumpProgramDone ch die false) s = .next t ∧ Safety.OpEnded t ch die 1 o ∧ pending? t (evEven ch) = true ∧
      (∀ j, dumpWl s d (64 * ch + die) o.d.block o.d.wl = some j → tfind t.gr.halves s.gr.armed = some { d with tried := d.tried ++ [j] }) ∧
      t.ze.zones = s.ze.zones ∧ t.ce = s.ce)) ∧
  (∀ (s : State) (ch die step : Nat) (o : Op), Safety.OpRuns s ch die o.d.op o → 0x40 ≤ o.d.op → (chanOf s ch).st ≠ .init → s.fl.heldPosts = [] →
    ∃ t, exec (.dieOperationDone ch die step) s = .next t ∧ Safety.OpEnded t ch die 0 o ∧
      (dieOf t (64 * ch + die)).resetLun = ((dieOf s (64 * ch + die)).resetLun && o.d.op != 0x48) ∧
      (∀ v, o.d.op = 0x42 → o.who = .sequencer → (dieOf s (64 * ch + die)).reading = some v → (dieOf t (64 * ch + die)).temp = some v ∧ (dieOf t (64 * ch + die)).reading = none) ∧
      t.ze.zones = s.ze.zones ∧ t.ce = s.ce) ∧
  (∀ (s : State) (ch die step : Nat), (chanOf s ch).st = .init → s.fl.heldPosts = [] →
    ∃ t, exec (.dieOperationDone ch die step) s = .next t ∧
      ((∀ p, p ∈ (chanOf s ch).initDone → p.1 ≠ die) → (chanOf t ch).initDone = (chanOf s ch).initDone ++ [(die, Nat.min 6 step)]) ∧
      ((∃ p, p ∈ (chanOf s ch).initDone ∧ p.1 = die) → (chanOf t ch).initDone = (chanOf s ch).initDone) ∧ t = { s with fl := { s.fl with chans := t.fl.chans } }) ∧
  (∀ (s : State) (ch die : Nat) (v : Int), ch < 64 → die < 64 →
    ((chanOf s ch).st = .running → dieUsable s (64 * ch + die) = true → (dieOf s (64 * ch + die)).reading = none → Safety.TakesPost s ch (tempDesc die) .sequencer →
      ∃ t, exec (.dieTemperatureRead ch die v) s = .next t ∧ Safety.Queued s t ch (tempDesc die) .sequencer ∧ (dieOf t (64 * ch + die)).reading = some v ∧
        (dieOf t (64 * ch + die)).temp = (dieOf s (64 * ch + die)).temp ∧ t = { s with fl := { s.fl with dies := t.fl.dies } }) ∧
    ((chanOf s ch).st = .running → dieUsable s (64 * ch + die) = true → (dieOf s (64 * ch + die)).reading.isSome = true →
      ∃ t, exec (.dieTemperatureRead ch die v) s = .next t ∧ dieOf t (64 * ch + die) = { dieOf s (64 * ch + die) with reading := some v } ∧ (∀ k, k ≠ (64 * ch + die) → dieOf t k = dieOf s k) ∧ t = { s with fl := { s.fl with dies := t.fl.dies } }) ∧
    ((chanOf s ch).st ≠ .running ∨ dieUsable s (64 * ch + die) = false → exec (.dieTemperatureRead ch die v) s = .next s)) ∧
  (∀ (s : State) (ch die : Nat) (o : Op), Safety.OpRuns s ch die o.d.op o → s.fl.heldPosts = [] →
    ∃ t, exec (.operationTimeout ch die) s = .next t ∧ Safety.Completes t ch o.d o.who 3 ∧
      pending? t (evEven ch) = true ∧
      (if o.d.op = 0x48 ∨ 3 ≤ (dieOf s (64 * ch + die)).tmoRow + 1 then dieFailed t (64 * ch + die) = true
       else (dieOf t (64 * ch + die)).resetLun = true ∧ (dieOf t (64 * ch + die)).cur = none ∧ (dieOf t (64 * ch + die)).tmoRow = (dieOf s (64 * ch + die)).tmoRow + 1)) ∧
  (∀ (s : State) (ch die : Nat) (i : Instr), i ∈ [Instr.pageReadDone ch die, .softReadDone ch die, .programPassDone ch die true, .eraseDone ch die true,
      .dumpProgramDone ch die] → (dieOf s (64 * ch + die)).cur = none → s.fl.heldPosts = [] → exec i s = .next s)

/-- A channel goes from OFF to HALTED with power, takes microcode while halted, and from RUN through INIT to RUNNING with its
usable dies. When FLASH_k has power, its eight sequencers that were OFF are HALTED with empty queues. SC_UC_DATA stores a word
of microcode at the address of SC_UC_ADDR, which advances, while RUN is 0; with RUN set it only raises the odd source. RUN
starts the initialisation of a halted channel that has microcode, and lets a parked one go on. At the end of the initialisation
the channel runs (in HOLDUP it serves the dump, or stops where the dump has ended), the dies that passed every step are its
usable dies, their volumes are appointed and their threshold sets loaded, and each other one raises the odd source with its
step; WP_N is then high, outside CELLAR, where a usable die has not failed; a usable die identified for the first time has its
die-blocks with a factory bad-block mark made BAD; at the limit the dies that have finished are as they were found, and the
other fitted ones have failed at step 6. (07_flash_channels.md R195, R199, R200, R211, R216; 08_flash_integrity.md R232, R236;
16_power_thermal.md R433.) -/
def Obligations.ChannelsStartAndFindTheirDies : Prop :=
  (∀ (s : State) (k : Nat), k < 8 → domState s (k + 2) ≠ 0 →
    ∃ t, exec (.flashDomainPowered k) s = .next t ∧ (∀ i, i < 8 → (chanOf s (8 * k + i)).st = .off →
        (chanOf t (8 * k + i)).st = .halted ∧ wpHigh t (8 * k + i) = false ∧ ∀ die, die < 64 → dieOf t (64 * (8 * k + i) + die) = {}) ∧
      (∀ ch, ch / 8 ≠ k ∨ (chanOf s ch).st ≠ .off → chanOf t ch = chanOf s ch) ∧
      t = { s with fl := { s.fl with chans := t.fl.chans, dies := t.fl.dies } }) ∧
  (∀ (s : State) (k : Nat), 8 ≤ k ∨ domState s (k + 2) = 0 → exec (.flashDomainPowered k) s = .next s) ∧
  (∀ (s : State) (m : Master) (ch : Nat) (v : Word), ch < 64 → Safety.Reaches s m .flCh ch →
    (rdb s (R.scCtl ch) 0 = true → ∃ t, exec (.scUcDataWrite m ch v) s = .next t ∧ pending? t (evOdd ch) = true ∧ t = { s with rf := t.rf, att := { s.att with evrec := t.att.evrec } }) ∧
    (rdb s (R.scCtl ch) 0 = false → rdf s (R.scUcAddr ch) 16 2 < 24576 → ∃ t, exec (.scUcDataWrite m ch v) s = .next t ∧
      tfind (chanOf t ch).uc (rdf s (R.scUcAddr ch) 16 2) = some v.toNat ∧ (chanOf t ch).st = (chanOf s ch).st ∧
      rdf t (R.scUcAddr ch) 16 2 = rdf s (R.scUcAddr ch) 16 2 + 1 ∧ (∀ c, c ≠ ch → chanOf t c = chanOf s c) ∧
      t = { s with rf := { s.rf with regs := t.rf.regs }, fl := { s.fl with chans := t.fl.chans } })) ∧
  (∀ (s : State) (m : Master) (ch : Nat), ch < 64 → Safety.Reaches s m .flCh ch →
    ∃ t, exec (.scCtlRun m ch) s = .next t ∧ rdb t (R.scCtl ch) 0 = true ∧
      (chanOf t ch).st = (if (chanOf s ch).st = .halted ∧ (chanOf s ch).uc ≠ [] then .init else if (chanOf s ch).st = .parked then .running else (chanOf s ch).st) ∧
      (∀ c, c ≠ ch → chanOf t c = chanOf s c) ∧ t = { s with rf := { s.rf with regs := t.rf.regs }, fl := { s.fl with chans := t.fl.chans } }) ∧
  (∀ (s : State) (ch : Nat) (dies : List (Nat × Nat)) (i : Instr), (chanOf s ch).st = .init →
    (i = .channelInitDone ch dies ∨ i = .initLimitExpired ch ∧ dies = (chanOf s ch).initDone ++
      ((fittedDies s.board).filter (fun d => !(chanOf s ch).initDone.any (fun x => x.1 == d))).map (fun d => (d, 6))) →
    ∃ t, exec i s = .next t ∧ (chanOf t ch).st = (if s.gr.holdup = false then .running else if 2 ≤ s.gr.dumpSt then .stopped else .holdup) ∧
      (∀ d, bit (chanOf t ch).usable d = decide (d < 64 ∧ (d, 0) ∈ dies)) ∧ (chanOf t ch).vol = none ∧ (chanOf t ch).initDone = [] ∧
      (∀ v, v ∈ (chanOf t ch).volumes ↔ ∃ d, d ∈ dies ∧ v = d.1 / 4) ∧
      (∀ d, d < 64 → (d, 0) ∈ dies → bit (chanOf s ch).failed d = false → s.pw.mode ≠ 7 → s.gr.holdup = false → wpHigh t ch = true) ∧
      (∀ d, d ∈ dies → d.2 ≠ 0 → pending? t (evOdd ch) = true) ∧ (∀ c, c ≠ ch → chanOf t c = chanOf s c) ∧
      (∀ d b, d < 64 → (d, 0) ∈ dies → 64 * ch + d ∈ t.fl.known ∧ (dieOf t (64 * ch + d)).tracked = (List.range 16).map (fun i => 16 + i) ∧
        (dieOf t (64 * ch + d)).explicit = [] ∧
        (64 * ch + d ∉ s.fl.known → b ∈ badMarks s (64 * ch + d) → (blkOf t (64 * ch + d) b).st = 6)) ∧
      t = { s with free := t.free, fl := t.fl, ze := t.ze, gr := t.gr, pb := t.pb, rf := t.rf, att := { s.att with evrec := t.att.evrec } } ∧
      ((∀ d, badMarks s (64 * ch + d) = []) →
        t = { s with fl := { s.fl with chans := t.fl.chans, known := t.fl.known, dies := t.fl.dies }, rf := t.rf, att := { s.att with evrec := t.att.evrec } })) ∧
  (∀ (s : State) (ch : Nat) (dies : List (Nat × Nat)), (chanOf s ch).st ≠ .init →
    exec (.channelInitDone ch dies) s = .next s ∧ exec (.initLimitExpired ch) s = .next s)

/-- A decoded codeword is served with its margin; a failed one climbs the recovery ladder; a rebuild or a detour stands in for
the read. A codeword that a hard or soft decoder corrects and whose STAMP is the expected one is served to its command with its
margin (of step 1, and 0 from step 2 on), and its job goes on with the next one or ends. A STAMP that does not match raises
event source 271 and goes up the ladder, as a failed decode does. A stripe rebuild serves the codeword, with RECON set where it
stands for a failed die; where it fails, event source 270 is raised, a move of the zone is abandoned and the Read ends with
0x2/0x81 and margin 0. An assembled detour serves all its codewords with DETOUR set; one whose STAMP does not match raises event
source 271 and goes up the ladder. A result that raced a move or an erase is discarded. The late test is made once, from the
deadline less its own time on, and a detour it chooses takes one unit of the domain's budget and cancels the direct read. An
early-warning entry popped queues its zone for a refresh. (08_flash_integrity.md R221 to R226; 09_tail_latency.md R258 to R263,
R274; 03_queues.md R89, R90; 01_architecture.md R30.) -/
def Obligations.ReadsAreDecodedRecoveredAndDetoured : Prop :=
  (∀ (s : State) (tag c z l e : Nat) (j : ReadJob) (x : Ctx) (st : Stamp), s.fl.heldPosts = [] → jobOf s tag = some j → j.who = .hostRead c z l → jobStale s j = false → ctxOf s c = some x → j.ready = true → j.desc.op = 1 → stampOk s j st = true →
    ∃ t, exec (.hardDecodeDone tag (some e) st) s = .next t ∧ (∃ y, ctxOf t c = some y ∧ y.need = x.need.filter (fun n => n != (j.zone, j.index)) ∧
        y.margin = Nat.min x.margin (if j.step = 1 then marginOf s e else 0) ∧ y.st = x.st) ∧ (∀ d, d ≠ c → ctxOf t d = ctxOf s d) ∧
      (j.left.tail = [] → jobOf t tag = none) ∧ (∀ i r, j.left.tail = i :: r → ∃ k, jobOf t tag = some k ∧ k.index = i ∧ k.left = i :: r ∧ k.step = 1 ∧ k.ready = true) ∧
      t.ze.zones = s.ze.zones ∧ t.gr = s.gr ∧ t.ci = s.ci) ∧
  (∀ (s : State) (tag c z l : Nat) (j : ReadJob) (x : Ctx) (st : Stamp), s.fl.heldPosts = [] → jobOf s tag = some j → j.who = .hostRead c z l → jobStale s j = false → ctxOf s c = some x → j.ready = true → j.desc.op = 2 → stampOk s j st = true →
    ∃ t, exec (.softDecodeDone tag true st) s = .next t ∧ (∃ y, ctxOf t c = some y ∧ y.need = x.need.filter (fun n => n != (j.zone, j.index)) ∧
        y.margin = 0 ∧ y.st = x.st) ∧ (j.left.tail = [] → jobOf t tag = none) ∧ t.ze.zones = s.ze.zones ∧ t.gr = s.gr) ∧
  (∀ (s : State) (tag : Nat) (j : ReadJob) (st : Stamp), jobOf s tag = some j → s.fl.heldPosts = [] → issuerCtx j.who ≠ none → j.ready = true → j.desc.op = 1 → stampOk s j st = false →
    ∀ e, ∃ t, exec (.hardDecodeDone tag (some e) st) s = .next t ∧ pending? t 271 = true ∧ (∃ k, jobOf t tag = some k ∧ k.ready = false ∧ 3 ≤ k.step) ∧
      t.ce = s.ce ∧ t.ze = s.ze) ∧
  (∀ (s : State) (tag : Nat) (j : ReadJob) (st : Stamp), jobOf s tag = some j → s.fl.heldPosts = [] → issuerCtx j.who ≠ none → j.ready = true →
    (j.desc.op = 1 → dieFailed s (64 * j.ch + j.die) = false → dieTakes s j.ch j.die = true →
      ∃ t, exec (.hardDecodeDone tag none st) s = .next t ∧ (∃ k, jobOf t tag = some k ∧ k.step = (if j.step = 3 then 3 else 2) ∧ k.ready = false ∧ k.desc.op = 2 ∧ k.margin = 0) ∧
        t.ce = s.ce ∧ t.ze = s.ze) ∧
    (j.desc.op = 2 → 4 ≤ j.step → ∃ t, exec (.softDecodeDone tag false st) s = .next t ∧
      (∃ k, jobOf t tag = some k ∧ k.step = 5 ∧ k.ready = false ∧ k.margin = 0) ∧ t.ce = s.ce ∧ t.ze = s.ze)) ∧
  (∀ (s : State) (tag c z l : Nat) (ms : List Nat) (j : ReadJob) (x : Ctx), s.fl.heldPosts = [] → jobOf s tag = some j → j.who = .hostRead c z l → jobStale s j = false → ctxOf s c = some x → j.step = 5 → j.detour = false →
    ∃ t, exec (.stripeRebuildDone tag true ms) s = .next t ∧ (∃ y, ctxOf t c = some y ∧ y.need = x.need.filter (fun n => n != (j.zone, j.index)) ∧
      y.recon = (x.recon || dieFailed s (64 * j.ch + j.die)) ∧ y.margin = Nat.min x.margin (if j.margin = 0 then 0 else (ms.min?).getD 0)) ∧
      (j.left.tail = [] → jobOf t tag = none) ∧ t.ze.zones = s.ze.zones ∧ t.gr = s.gr) ∧
  (∀ (s : State) (tag c z l : Nat) (ms : List Nat) (j : ReadJob) (x : Ctx), s.fl.heldPosts = [] → jobOf s tag = some j → j.who = .hostRead c z l → jobStale s j = false → ctxOf s c = some x → Safety.IoRuns s c x 0x02 → j.step = 5 → j.detour = false →
    ∃ t, exec (.stripeRebuildDone tag false ms) s = .next t ∧ Safety.Ended t c stUnrecovered (dw0With x 0) ∧ pending? t 270 = true ∧ jobOf t tag = none ∧
      ((zoneOf s j.zone).move = none → t.ze = s.ze ∧ t.gr = s.gr) ∧
      ((zoneOf s j.zone).move.isSome = true → (zoneOf s j.zone).band = some j.band → (zoneOf t j.zone).move = none ∧ pending? t 426 = true)) ∧
  (∀ (s : State) (tag c z l : Nat) (ms : List Nat) (j : ReadJob), s.fl.heldPosts = [] → jobOf s tag = some j → j.who = .hostRead c z l → jobStale s j = true → j.step = 5 → j.detour = false →
    ∃ t, exec (.stripeRebuildDone tag false ms) s = .next t ∧ jobOf t tag = none ∧ (∀ x, ctxOf s c = some x → ∃ y, ctxOf t c = some y ∧ y.st = x.st) ∧
      t = { s with ce := { s.ce with ctxs := t.ce.ctxs }, fl := { s.fl with jobs := t.fl.jobs } }) ∧
  (∀ (s : State) (tag c z l : Nat) (j : ReadJob) (x : Ctx), s.fl.heldPosts = [] → jobOf s tag = some j → j.who = .hostRead c z l → jobStale s j = false → ctxOf s c = some x → j.detour = true → j.parts = [] →
    ∃ t, exec (.detourAssembled tag) s = .next t ∧ jobOf t tag = none ∧ (∃ y, ctxOf t c = some y ∧ y.detour = true ∧ y.margin = Nat.min x.margin j.margin ∧
      y.need = x.need.filter (fun n => !(n.1 == j.zone && j.left.contains n.2))) ∧ t.ze.zones = s.ze.zones ∧ t.gr = s.gr ∧ t.rf = s.rf) ∧
  (∀ (s : State) (tag c z l : Nat) (j : ReadJob), jobOf s tag = some j → j.who = .hostRead c z l → j.relGen ≠ (zoneOf s j.zone).relGen →
    (zoneOf s j.zone).band = some j.band → (bandOf s j.band).gen = j.bgen → j.detour = true → j.parts = [] →
    ∃ t, exec (.detourAssembled tag) s = .next t ∧ jobOf t tag = none ∧ t = { s with fl := { s.fl with jobs := t.fl.jobs } }) ∧
  (∀ (s : State) (tag : Nat) (j : ReadJob) (st : Stamp), jobOf s tag = some j → s.fl.heldPosts = [] → j.detour = true → j.parts = [] → issuerCtx j.who ≠ none →
    stampOk s j st = false → ∃ t, exec (.detourAssembled tag (some st)) s = .next t ∧ pending? t 271 = true ∧
      (∃ k, jobOf t tag = some k ∧ k.detour = false ∧ 3 ≤ k.step) ∧ t.ce = s.ce ∧ t.ze = s.ze) ∧
  (∀ (s : State) (tag c z l direct e : Nat) (j : ReadJob), tag < 2147483648 → s.fl.heldPosts = [] → jobOf s tag = some j → j.who = .hostRead c z l → j.tested = false →
    (unissued (dieOf s (64 * j.ch + j.die))).any (fun d => d.1.tag == tag && d.1.op == 1) = true →
    (s.ck.tb + readNs s j.dens (cwBits j.desc).length < j.deadline → exec (.detourLateTest tag) s = .next s) ∧
    (j.deadline ≤ s.ck.tb + readNs s j.dens (cwBits j.desc).length →
    (rdb s R.dsCtl 0 = false → ∃ t, exec (.detourLateTest tag) s = .next t ∧ jobOf t tag = some { j with tested := true } ∧
      t = { s with fl := { s.fl with jobs := t.fl.jobs } }) ∧
    (rdb s R.dsCtl 0 = true → j.detour = false → j.step = 1 → j.ready = false → j.desc.op = 1 → j.deadline ≠ j.posted → dieFailed s (64 * j.ch + j.die) = false →
      (∀ k, k ∈ otherDies s j.band (64 * j.ch + j.die) → dieFailed s k = false ∧ hasEntry (dieOf s k) 0 = true ∧ (chanOf s (k / 64)).st ≠ .holdup) →
      assemblerOut s = false → estimate s (64 * j.ch + j.die) j.dens (cwBits j.desc).length (some tag) = some direct → j.deadline < direct →
      detourEstimate s (otherDies s j.band (64 * j.ch + j.die)) j.dens (cwBits j.desc).length = some e → e + 1000 * rdf s R.dsCtl 15 8 ≤ direct →
      tokensHeld s + (otherDies s j.band (64 * j.ch + j.die)).length * rdf s (R.ftCost j.dens) 7 0 ≤ poolSize s →
      1000 ≤ domLevel s ((bandDom s j.band).getD 0) →
      ∃ t, exec (.detourLateTest tag) s = .next t ∧ (∃ k, jobOf t tag = some k ∧ k.detour = true ∧ k.tested = true) ∧
        (domOf t ((bandDom s j.band).getD 0)).level = some (domLevel s ((bandDom s j.band).getD 0) - 1000) ∧
        (∀ d, d ∈ unissued (dieOf t (64 * j.ch + j.die)) → ¬ (d.1.tag = tag ∧ d.1.op = 1 ∧ d.2 = j.who)) ∧ t.ce = s.ce ∧ t.ze.zones = s.ze.zones))) ∧
  (∀ (s : State) (m : Master), Safety.Reaches s m .readIntegrity 0 →
    (s.fl.ewq = [] → exec (.ldEwqPop m) s = .next s) ∧
    (∀ b v r, s.fl.ewq = (b, v) :: r → ∃ t, exec (.ldEwqPop m) s = .next t ∧ t.fl.ewq = r ∧ (∀ k, bandZone s b = some k → (zoneOf t k).refresh = true) ∧
      t = { s with fl := { s.fl with ewq := r }, ze := { s.ze with zones := t.ze.zones } }))

/-- A move takes a target band and counter values when it starts, switches the map at its end, and patrol and age queue
refreshes. A Termite move that one of its duties makes, of a Full zone to a free band that can hold it, takes the band, a new
relocation generation and counter values for what is live; where a condition fails nothing changes. At the end of a Termite or
die-failure move (a Termite move not before the copy rate allows it) whose generation is unchanged and whose data all
authenticates at its place, the zone is on the target band with its data sealed afresh, and the source band is free; where a
unit does not authenticate, the zone stays on its band and event sources 261 and 426 are raised. A patrol that is due, with a
margin for each of its reads, notes the life time and queues the band where a margin is below the early-warning threshold; a
Full zone whose powered age has reached its limit is queued for a refresh. (08_flash_integrity.md R225, R226, R242, R245, R247,
R248; 06_cipher.md R169, R174; 05_transforms.md R158.) -/
def Obligations.ZonesMovePatrolAndAge : Prop :=
  (∀ (s : State) (nsid zone target duty key : Nat) (z : Zone), zone < 1048576 → key = zKey nsid zone → z = zoneOf s key → z.st = .full →
    z.band.isSome = true → z.move = none → z.queue = [] → bandReady s target = true → bandHolds s z target = true →
    bandDom s target = z.shape.map (fun h => h.domain) → (slotOf s (shapeOf s nsid z).keySlot).loaded = true →
    liveUnits z ≤ counterLeft (slotOf s (shapeOf s nsid z).keySlot) → termiteMoves s < s.board.moves → dutyMoves s z target duty = true → s.gr.holdup = false →
    ∃ t, exec (.termiteMoveStart nsid zone target duty) s = .next t ∧ (zoneOf t key).move = some { target := target, gen := (z.relGen + 1) % 65536, duty := duty, ctr := (slotOf s (shapeOf s nsid z).keySlot).ctr, due := Nat.max s.ck.tb s.fl.copyBusy + moveNs s z, keys := ((captureGen s (shapeOf s nsid z).keySlot).map (fun g => ((shapeOf s nsid z).keySlot, g))).toList } ∧ (zoneOf t key).relGen = (z.relGen + 1) % 65536 ∧ (zoneOf t key).band = z.band ∧
      (bandOf t target).zone = some (nsid, zone) ∧ (slotOf t (shapeOf s nsid z).keySlot).ctr = (slotOf s (shapeOf s nsid z).keySlot).ctr + liveUnits z ∧
      (∀ k, k ≠ key → zoneOf t k = zoneOf s k)) ∧
  (∀ (s : State) (nsid zone target duty : Nat), (zoneOf s (zKey nsid zone)).st ≠ .full ∨ (zoneOf s (zKey nsid zone)).move.isSome = true ∨
      bandReady s target = false ∨ s.board.moves ≤ termiteMoves s ∨ dutyMoves s (zoneOf s (zKey nsid zone)) target duty = false ∨ s.gr.holdup = true → exec (.termiteMoveStart nsid zone target duty) s = .next s) ∧
  (∀ (s : State) (nsid zone key b : Nat) (z : Zone) (m : Move) (i : Instr), key = zKey nsid zone → z = zoneOf s key → z.move = some m → z.band = some b → b ≠ m.target → m.gen = z.relGen → (slotOf s (shapeOf s (zNsid key) z).keySlot).loaded = true → (slotOf s (shapeOf s (zNsid key) z).keySlot).shadow = none → m.ctr + liveUnits z ≤ (slotOf s (shapeOf s (zNsid key) z).keySlot).ceil → s.fl.heldPosts = [] → (∀ p, p ∈ (moveUnits z).mapIdx (fun i u => (i, u)) → opens ((fun i => if i = 0 then (firstKey s m (shapeOf s (zNsid key) z).keySlot).getD (0, 0) else ((slotOf s (shapeOf s (zNsid key) z).keySlot).key, (slotOf s (shapeOf s (zNsid key) z).keySlot).salt)) p.1) (placeAad s key p.2.1) p.2.2.1 = true) → (m.duty ≠ 0 → m.due ≤ s.ck.tb) → (∀ p, p ∈ s.ce.ctxs → p.2.waitTicket = false) →
    (i = .termiteMoveDone nsid zone ∧ m.duty ≠ 0 ∨ i = .migrationMoveDone nsid zone ∧ m.duty = 0) →
    ∃ t, exec i s = .next t ∧ (zoneOf t key).band = some m.target ∧ (zoneOf t key).wp = z.wp ∧ (m.duty ≠ 0 → (zoneOf t key).move = none ∧ pending? t 425 = true ∧
        (bandOf t b).zone = none) ∧
      (zoneComp z = false → (zoneOf t key).units = movedUnits key z (fun i => if i = 0 then (firstKey s m (shapeOf s (zNsid key) z).keySlot).getD (0, 0) else ((slotOf s (shapeOf s (zNsid key) z).keySlot).key, (slotOf s (shapeOf s (zNsid key) z).keySlot).salt)) m.ctr (bandOf s m.target).gen)) ∧
  (∀ (s : State) (nsid zone key b : Nat) (z : Zone) (m : Move), key = zKey nsid zone → z = zoneOf s key → z.move = some m → z.band = some b → b ≠ m.target → m.gen = z.relGen → (slotOf s (shapeOf s (zNsid key) z).keySlot).loaded = true → (slotOf s (shapeOf s (zNsid key) z).keySlot).shadow = none → m.ctr + liveUnits z ≤ (slotOf s (shapeOf s (zNsid key) z).keySlot).ceil → s.fl.heldPosts = [] → m.duty ≠ 0 → m.due ≤ s.ck.tb → ¬ (∀ p, p ∈ (moveUnits z).mapIdx (fun i u => (i, u)) → opens ((fun i => if i = 0 then (firstKey s m (shapeOf s (zNsid key) z).keySlot).getD (0, 0) else ((slotOf s (shapeOf s (zNsid key) z).keySlot).key, (slotOf s (shapeOf s (zNsid key) z).keySlot).salt)) p.1) (placeAad s key p.2.1) p.2.2.1 = true) →
    ∃ t, exec (.termiteMoveDone nsid zone) s = .next t ∧ (zoneOf t key).band = some b ∧ (zoneOf t key).move = none ∧ (zoneOf t key).units = z.units ∧
      pending? t 261 = true ∧ pending? t 426 = true) ∧
  (∀ (s : State) (nsid zone : Nat) (m : Move), (zoneOf s (zKey nsid zone)).move = some m → m.duty = 0 ∨ s.ck.tb < m.due →
    exec (.termiteMoveDone nsid zone) s = .next s) ∧
  (∀ (s : State) (b : Nat) (ms : List Nat), patrolReads s b = [] ∨ ms.length ≠ (patrolReads s b).length ∨ patrolDue s b = false → exec (.patrol b ms) s = .next s) ∧
  (∀ (s : State) (b : Nat) (ms : List Nat), patrolReads s b ≠ [] → ms.length = (patrolReads s b).length → patrolDue s b = true →
    ∃ t, exec (.patrol b ms) s = .next t ∧ (bandOf t b).patrolled = some (lifeTime s) ∧
      ((∀ v, v ∈ ms → ewOf s ((bandOf s b).dens.getD 0) ≤ v) → t.fl.ewq = s.fl.ewq) ∧
      ((∃ v, v ∈ ms ∧ v < ewOf s ((bandOf s b).dens.getD 0)) → s.fl.ewq.length < 1024 → ∃ e, e ∈ t.fl.ewq ∧ e.1 = b) ∧
      t.ze.zones = s.ze.zones ∧ t.ce = s.ce) ∧
  (∀ (s : State) (nsid zone key : Nat), key = zKey nsid zone → (zoneOf s key).st = .full →
    (∀ b, (zoneOf s key).band = some b → ageDays s (shapeOf s nsid (zoneOf s key)).life (shapeOf s nsid (zoneOf s key)).density ≠ 0 →
      ageDays s (shapeOf s nsid (zoneOf s key)).life (shapeOf s nsid (zoneOf s key)).density * 86400000000000 ≤ poweredAge s b →
      ∃ t, exec (.ageRefresh nsid zone) s = .next t ∧ zoneOf t key = { zoneOf s key with refresh := true } ∧ (∀ k, k ≠ key → zoneOf t k = zoneOf s k) ∧
        t = { s with ze := { s.ze with zones := t.ze.zones } }) ∧
    (∀ b, (zoneOf s key).band = some b → ageDays s (shapeOf s nsid (zoneOf s key)).life (shapeOf s nsid (zoneOf s key)).density = 0 ∨
      poweredAge s b < ageDays s (shapeOf s nsid (zoneOf s key)).life (shapeOf s nsid (zoneOf s key)).density * 86400000000000 →
      exec (.ageRefresh nsid zone) s = .next s))

/-- PL_CTL starts, ends and retrains a link; negotiation brings it UP with a session; loss, replay and idleness take sessions
away. Setting EN takes a link that is OFF to TRAINING; clearing it loses its sessions and takes it OFF; RETRAIN and a loss (1 ms
without a valid frame, or more than 16 uncorrectable FEC codewords in 1 ms) take an UP link to TRAINING with its sessions kept.
An outcome of negotiation that the link can go on brings it UP at that rate and width, and on a direct link DISCOVER is sent in
its session. After a timeout the link waits a second and then negotiates again; a second out of UP its sessions are lost. The
replay timer sends every unacknowledged frame again, and after eight times without progress a direct link retrains and an
Ethernet session fails. An idle UP link sends KEEPALIVE for each session, and an idle Ethernet session that mirroring does not
keep is closed. (11_balwen.md R316 to R322, R328, R329, R331.) -/
def Obligations.LinksTrainGoUpAndFail : Prop :=
  (∀ (s : State) (m : Master) (n : Nat) (v : Word), n < 4 → Safety.Reaches s m .balwen n →
    ((linkOf s n).st = .off → bit v.toNat 0 = true → ∃ t, exec (.plCtlEn m n v) s = .next t ∧ linkOf t n = { st := .training } ∧ rdb t (R.plCtl n) 0 = true ∧
      (∀ k, k ≠ n → linkOf t k = linkOf s k) ∧ t.pb.sessions = s.pb.sessions ∧ t.ce = s.ce) ∧
    ((linkOf s n).st ≠ .off → bit v.toNat 0 = false → s.gr.mirEn = false → ∃ t, exec (.plCtlEn m n v) s = .next t ∧ linkOf t n = {} ∧
      sessionsOf t n = [] ∧ (∀ k, k ≠ n → linkOf t k = linkOf s k) ∧ rdb t (R.plCtl n) 0 = false) ∧
    (linkUp s n = true → rdb s (R.plCtl n) 0 = true → ∃ t, exec (.retrain m n) s = .next t ∧ (linkOf t n).st = .training ∧ pending? t (388 + n) = true ∧
      (∀ k, k ≠ n → linkOf t k = linkOf s k) ∧ t.pb.sessions = tmap (fun k x => if k / 262144 = n then { x with replays := 0 } else x) s.pb.sessions ∧ t.ce = s.ce)) ∧
  (∀ (s : State) (n rate lanes : Nat) (fo : Bool), n < 4 → (linkOf s n).st = .training → (linkOf s n).retryWait = false → linkGoes s n rate lanes = true →
    ∃ t, exec (.negotiationSucceeds n rate lanes fo) s = .next t ∧ linkUp t n = true ∧ (linkOf t n).rate = rate ∧ (linkOf t n).width = widthOf lanes ∧
      pending? t (384 + n) = true ∧ (∀ k, k ≠ n → linkOf t k = linkOf s k) ∧ t.ce = s.ce ∧ t.ze = s.ze ∧ t.gr = s.gr ∧
      (linkEth s n = true → ∀ k, (sessOf t k).isSome = (sessOf s k).isSome) ∧
      (linkEth s n = false → ∃ y, sessOf t (sessKey n 0) = some y ∧ ∃ g, g ∈ y.replay ++ y.queue ∧ g.typ = tDiscover)) ∧
  (∀ (s : State) (n rate lanes : Nat) (fo : Bool), (linkOf s n).st ≠ .training ∨ linkGoes s n rate lanes = false →
    exec (.negotiationSucceeds n rate lanes fo) s = .next s) ∧
  (∀ (s : State) (n : Nat), n < 4 → (linkOf s n).st = .training →
    (∃ t, exec (.trainingTimeout n) s = .next t ∧ linkOf t n = { linkOf s n with retryWait := true } ∧ t = { s with pb := { s.pb with links := t.pb.links } }) ∧
    ((linkOf s n).retryWait = true → ∃ t, exec (.trainingRetry n) s = .next t ∧ linkOf t n = { linkOf s n with retryWait := false } ∧
      pending? t (388 + n) = true ∧ t = { s with pb := { s.pb with links := t.pb.links }, rf := t.rf, att := { s.att with evrec := t.att.evrec } }) ∧
    (s.gr.mirEn = false → ∃ t, exec (.sessionLossTimeout n) s = .next t ∧ sessionsOf t n = [] ∧ t.pb.links = s.pb.links ∧
      (sessionsOf s n ≠ [] → pending? t 396 = true))) ∧
  (∀ (s : State) (n us fec : Nat), n < 4 → (linkUp s n = true → 1000 ≤ us ∨ 16 < fec → ∃ t, exec (.linkLoss n us fec) s = .next t ∧
      linkOf t n = { linkOf s n with st := .training, retryWait := false } ∧ pending? t (388 + n) = true ∧ t = { s with pb := { s.pb with links := t.pb.links, sessions := tmap (fun k x => if k / 262144 = n then { x with replays := 0 } else x) s.pb.sessions }, rf := t.rf, att := { s.att with evrec := t.att.evrec } }) ∧
    (linkUp s n = true → us < 1000 → fec ≤ 16 → ∃ t, exec (.linkLoss n us fec) s = .next t ∧ t = { s with rf := { s.rf with regs := t.rf.regs } }) ∧
    (linkUp s n = false → exec (.linkLoss n us fec) s = .next s)) ∧
  (∀ (s : State) (n node : Nat) (x : Session), n < 4 → sessOf s (sessKey n (sessNode s n node)) = some x → x.replay ≠ [] → linkUp s n = true →
    (x.replays < 8 → ∃ t, exec (.replayTimer n node) s = .next t ∧ t.pb.sent = x.replay.reverse.map (fun f => (n, f)) ++ s.pb.sent ∧
      sessOf t (sessKey n (sessNode s n node)) = some { x with replays := x.replays + 1 } ∧
      t = { s with rf := { s.rf with regs := t.rf.regs }, pb := { s.pb with sent := t.pb.sent, sessions := t.pb.sessions } }) ∧
    (8 ≤ x.replays → linkEth s n = false → ∃ t, exec (.replayTimer n node) s = .next t ∧ (linkOf t n).st = .training ∧ pending? t (388 + n) = true ∧
      t = { s with pb := { s.pb with links := t.pb.links, sessions := tmap (fun k x => if k / 262144 = n then { x with replays := 0 } else x) s.pb.sessions }, rf := t.rf, att := { s.att with evrec := t.att.evrec } }) ∧
    (8 ≤ x.replays → linkEth s n = true → node < 262144 → s.gr.mirEn = false → ∃ t, exec (.replayTimer n node) s = .next t ∧
      sessOf t (sessKey n node) = none ∧ pending? t 396 = true)) ∧
  (∀ (s : State) (n : Nat), n < 4 → (linkUp s n = false → exec (.keepaliveTimer n) s = .next s) ∧
    (linkUp s n = true → ∃ t, exec (.keepaliveTimer n) s = .next t ∧ (∀ node x, node ∈ sessionsOf s n → sessOf s (sessKey n node) = some x →
        ∃ g, (n, g) ∈ t.pb.sent ∧ g.typ = tKeepalive ∧ g.seqd = false ∧ g.ack = x.rxSeq ∧ g.dst = (if linkEth s n then node else (linkOf s n).peer)) ∧
      t = { s with rf := { s.rf with regs := t.rf.regs }, pb := { s.pb with sent := t.pb.sent } })) ∧
  (∀ (s : State) (n node : Nat), linkEth s n = true → (s.gr.mirEn && s.gr.mirPartner == node) = false → tfind s.pb.owners node = none →
    (idleSess s n).any (fun p => p.1 == sessKey n node && elapsed s p.2.lastUse 10000000000) = true →
    ∃ t, exec (.sessionIdleClose n node) s = .next t ∧ sessOf t (sessKey n node) = none ∧ (∀ k, k ≠ sessKey n node → sessOf t k = sessOf s k) ∧
      t = { s with pb := { s.pb with sessions := t.pb.sessions } }) ∧
  (∀ (s : State) (n node : Nat), linkEth s n = false ∨ (s.gr.mirEn && s.gr.mirPartner == node) = true ∨ (tfind s.pb.owners node).isSome = true ∨
      (idleSess s n).any (fun p => p.1 == sessKey n node && elapsed s p.2.lastUse 10000000000) = false →
    exec (.sessionIdleClose n node) s = .next s)

/-- A sequenced frame is taken once and in order and acknowledged; ACK and NAK work the replay buffer; discovery and time
follow. Every sequenced frame that its direct link's session expects raises the number expected and is acknowledged, with its
credits, which of a mirror copy that is held go back only with its release; one out of order is answered with NAK or ACK, and
one with a bad payload CRC with NAK, and neither does anything else; one on a link that is not UP, or with a bad header CRC, is
ignored, and one of another version takes a direct link to FAULT. ACK and KEEPALIVE clear the frames they cover and return
credits; NAK also has the rest sent again. DISCOVER and its reply tell the neighbour, and DISCOVER is answered; one with this
device's own node takes the link to FAULT. TIME_SYNC is answered; TIME_REPLY of the reference sets the offset. A hold-up notice
of an owner is its loss, and of the partner the partner's loss. (11_balwen.md R319, R322, R324 to R330, R338, R339.) -/
def Obligations.FramesAreAcceptedInSequence : Prop :=
  (∀ (s : State) (n a b c typ : Nat) (f : BFrame) (nodes : List Nat) (hops : List (Nat × Nat)) (page : MirrorPage) (block : Block) (st : Status) (i : Instr), (i, typ) ∈ Safety.sequenced n f nodes hops a b c page block st → ∀ x, Safety.Expected s n typ f x →
    ∃ t, exec i s = .next t ∧ (∃ y, sessOf t (sessKey n 0) = some y ∧ y.rxSeq = (x.rxSeq + 1) % 4294967296) ∧
      (∃ g, (n, g) ∈ t.pb.sent ∧ g.typ = tAck ∧ g.ack = (x.rxSeq + 1) % 4294967296 ∧ g.credit = (if msgClass typ = 1 ∧ copyRoom s page.bytes = true then 0 else frameUnits f.len))) ∧
  (∀ (s : State) (n a b c typ : Nat) (f : BFrame) (nodes : List Nat) (hops : List (Nat × Nat)) (page : MirrorPage) (block : Block) (st : Status) (i : Instr), (i, typ) ∈ Safety.sequenced n f nodes hops a b c page block st → ∀ x, Safety.ForUs s n typ f → f.unseq = false → sessOf s (sessKey n 0) = some x → f.seq ≠ x.rxSeq →
    ∃ t, exec i s = .next t ∧ (∃ y, sessOf t (sessKey n 0) = some y ∧ y.rxSeq = x.rxSeq) ∧
      (∃ g, (n, g) ∈ t.pb.sent ∧ g.typ = (if seqBefore x.rxSeq f.seq then tNak else tAck) ∧ g.ack = x.rxSeq) ∧
      t = { s with rf := { s.rf with regs := t.rf.regs }, pb := { s.pb with sessions := t.pb.sessions, sent := t.pb.sent } }) ∧
  (∀ (s : State) (n a b c typ : Nat) (f : BFrame) (nodes : List Nat) (hops : List (Nat × Nat)) (page : MirrorPage) (block : Block) (st : Status) (i : Instr), (i, typ) ∈ Safety.sequenced n f nodes hops a b c page block st → ∀ x, n < 4 → linkUp s n = true → linkEth s n = false → f.hcrcOk = true → f.ver = 1 → f.src ≠ ownNode s → f.unseq = false →
    sessOf s (sessKey n 0) = some x → f.len ≠ 0 → f.pcrcOk = false →
    ∃ t, exec i s = .next t ∧ (∃ y, sessOf t (sessKey n 0) = some y ∧ y.rxSeq = x.rxSeq) ∧ (∃ g, (n, g) ∈ t.pb.sent ∧ g.typ = tNak ∧ g.ack = x.rxSeq) ∧
      t = { s with rf := { s.rf with regs := t.rf.regs }, pb := { s.pb with sessions := t.pb.sessions, sent := t.pb.sent } }) ∧
  (∀ (s : State) (n a b c typ : Nat) (f : BFrame) (nodes : List Nat) (hops : List (Nat × Nat)) (page : MirrorPage) (block : Block) (st : Status) (i : Instr), (i, typ) ∈ Safety.sequenced n f nodes hops a b c page block st → linkUp s n = false ∨ f.hcrcOk = false → exec i s = .next s) ∧
  (∀ (s : State) (n a b c typ : Nat) (f : BFrame) (nodes : List Nat) (hops : List (Nat × Nat)) (page : MirrorPage) (block : Block) (st : Status) (i : Instr), (i, typ) ∈ Safety.sequenced n f nodes hops a b c page block st → n < 4 → linkUp s n = true → linkEth s n = false → f.hcrcOk = true → f.ver ≠ 1 →
    ∃ t, exec i s = .next t ∧ (linkOf t n).st = .fault ∧ (linkOf t n).fault = 2 ∧ pending? t (392 + n) = true) ∧
  (∀ (s : State) (n typ : Nat) (f : BFrame) (x : Session) (i : Instr), (i, typ) ∈ [(Instr.keepalive n f, tKeepalive), (.ack n f, tAck)] → Safety.ForUs s n typ f →
    sessOf s (sessKey n 0) = some x → x.queue = [] →
    ∃ t, exec i s = .next t ∧ t = { s with rf := { s.rf with regs := t.rf.regs }, pb := { s.pb with sessions := t.pb.sessions } } ∧
      (∃ y, sessOf t (sessKey n 0) = some y ∧ y.replay = x.replay.filter (fun g => !seqBefore g.seq f.ack) ∧ y.rxSeq = x.rxSeq ∧ y.txSeq = x.txSeq ∧
        (f.credit ≠ 0 → credOf y f.creditClass = credOf x f.creditClass + f.credit))) ∧
  (∀ (s : State) (n : Nat) (f : BFrame) (x : Session), Safety.ForUs s n tNak f → sessOf s (sessKey n 0) = some x → x.queue = [] → x.replays < 8 →
    ∃ t, exec (.nak n f) s = .next t ∧ t.pb.sent = (x.replay.filter (fun g => !seqBefore g.seq f.ack)).reverse.map (fun g => (n, g)) ++ s.pb.sent ∧
      (∃ y, sessOf t (sessKey n 0) = some y ∧ y.replay = x.replay.filter (fun g => !seqBefore g.seq f.ack)) ∧ t.ce = s.ce ∧ t.gr = s.gr) ∧
  (∀ (s : State) (n : Nat) (f : BFrame) (x : Session) (nodes : List (Nat × Nat)),
    (Safety.Expected s n tDiscover f x → ∃ t, exec (.discover n f nodes) s = .next t ∧ (linkOf t n).peer = f.src ∧ (linkOf t n).known = true ∧
      ∃ msg, Safety.Sends t n tDiscoverReply msg ∧ msg.head? = some (ownNode s)) ∧
    (Safety.Expected s n tDiscoverReply f x → ∃ t, exec (.discoverReply n f nodes) s = .next t ∧ (linkOf t n).peer = f.src ∧ (linkOf t n).known = true)) ∧
  (∀ (s : State) (n : Nat) (f : BFrame) (nodes : List (Nat × Nat)), n < 4 → linkUp s n = true → linkEth s n = false → f.hcrcOk = true → f.ver = 1 → f.src = ownNode s →
    ∃ t, exec (.discover n f nodes) s = .next t ∧ (linkOf t n).st = .fault ∧ (linkOf t n).fault = 1 ∧ pending? t (392 + n) = true) ∧
  (∀ (s : State) (n a : Nat) (f : BFrame) (x : Session), Safety.Expected s n tTimeSync f x → linkTo s f.src = some n →
    ∃ t, exec (.timeSync n f a) s = .next t ∧ Safety.Sends t n tTimeReply [a, s.ck.tb, s.ck.tb]) ∧
  (∀ (s : State) (n a b c : Nat) (f : BFrame) (x : Session), Safety.Expected s n tTimeReply f x →
    (rdb s R.pbTime 31 = true → f.src = rdf s R.pbTime 17 0 → ∃ t, exec (.timeReply n f a b c) s = .next t ∧
      t.pb.offset = (((b : Int) - a) + ((c : Int) - s.ck.tb)) / 2 ∧ t.pb.syncFails = 0 ∧ t.pb.syncOut = false ∧ t.pb.slewAt = s.ck.tb) ∧
    (rdb s R.pbTime 31 = false ∨ f.src ≠ rdf s R.pbTime 17 0 → ∃ t, exec (.timeReply n f a b c) s = .next t ∧ t.pb.offset = s.pb.offset ∧
      t.pb.syncOut = s.pb.syncOut)) ∧
  (∀ s : State, (rdb s R.pbTime 31 = false → exec .timeSyncInterval s = .next s) ∧
    (rdb s R.pbTime 31 = true → ∃ t, exec .timeSyncInterval s = .next t ∧ t.pb.syncOut = true ∧
      t.pb.syncFails = (if s.pb.syncOut then s.pb.syncFails + 1 else s.pb.syncFails) ∧ (s.pb.syncOut = true → s.pb.syncFails = 9 → pending? t 404 = true) ∧
      (∀ n, linkTo s (rdf s R.pbTime 17 0) = some n → linkEth s n = false → (sessOf s (sessKey n 0)).isSome = true → Safety.Sends t n tTimeSync [s.ck.tb]))) ∧
  (∀ (s : State) (n cause : Nat) (f : BFrame), Safety.ForUs s n 0x30 f →
    ∃ t, exec (.holdupNotice n f cause) s = .next t ∧ pending? t 398 = true ∧
      (∀ o, tfind s.pb.owners f.src = some o → o.state = 0 → ∃ p, tfind t.pb.owners f.src = some p ∧ p.notice = true ∧ p.state ≠ 0 ∧ pending? t 399 = true) ∧
      (s.gr.mirEn = true → s.gr.mirLost = false → s.gr.mirPartner = f.src → t.gr.mirLost = true ∧ pending? t 366 = true))

/-- The partner holds, frees and gives back copies; the owner takes acknowledgements and orphans; Peer Copy messages serve and
end chunks. MIRROR_DATA and MIRROR_STATE for which the reserved half has room are held for their owner in order, and MIRROR_DATA
is acknowledged; MIRROR_ACK takes the copy off those awaited, and completes a write that waited for nothing else; MIRROR_RELEASE
frees the copies it names (stated where no owner is being persisted), or all of an owner's. ORPHAN_PULL marks the owner as
recovering; ORPHAN_DATA of the partner is kept for RECOVERY while LOAD waits for it. COPY_REQ is refused with 0x7/0xC5 and event
source 402 where no tenant lets the node read, and with 0x0/0x80 past the namespace; otherwise its chunk waits behind 64 that
are served, or is read as a Read would read it in a context of its own, and COPY_END follows its last LBA or its first failure;
a cancel takes the chunks of its context away. COPY_DATA brings the next LBA of its Peer Copy, and COPY_END ends a chunk, or the
command with its status. (11_balwen.md R333 to R337, R340 to R342; 10_granary.md R307 to R309.) -/
def Obligations.MirrorAndCopyMessagesAct : Prop :=
  (∀ (s : State) (n : Nat) (f : BFrame) (page : MirrorPage) (x : Session), Safety.Expected s n tMirrorData f x →
    (copyRoom s page.bytes = true → linkTo s f.src = some n → ∃ t, exec (.mirrorData n f page) s = .next t ∧ Safety.Sends t n tMirrorAck [page.offset] ∧
      (∃ g, (tget {} t.pb.owners f.src).pages = (tget {} s.pb.owners f.src).pages ++ [(g, { page with state := false })]) ∧ t.ze = s.ze ∧ t.ce = s.ce) ∧
    (copyRoom s page.bytes = false → ∃ t, exec (.mirrorData n f page) s = .next t ∧ t.pb.owners = s.pb.owners ∧ t.gr = s.gr ∧ t.ce = s.ce)) ∧
  (∀ (s : State) (n : Nat) (f : BFrame) (page : MirrorPage) (x : Session), Safety.Expected s n tMirrorState f x → copyRoom s page.bytes = true →
    ∃ t, exec (.mirrorState n f page) s = .next t ∧
      (∃ g, (tget {} t.pb.owners f.src).pages = (tget {} s.pb.owners f.src).pages ++ [(g, { page with state := true })]) ∧ t.ze = s.ze ∧ t.ce = s.ce) ∧
  (∀ (s : State) (n a : Nat) (f : BFrame) (x : Session), Safety.Expected s n tMirrorAck f x →
    (s.gr.mirEn = true → f.src = s.gr.mirPartner → ∃ t, exec (.mirrorAck n f a) s = .next t ∧ t.gr.mirOut = s.gr.mirOut.filter (fun o => o.1 != a) ∧
      (∀ c w, s.gr.mirOut = [(a, c)] → ctxOf s c = some w → w.st = .committed → w.nlb ≠ 0 → w.applied = w.nlb → w.fua = false → writeThrough s = false →
        w.tunnel = false → ctxFresh s w = true → Safety.Ended t c stOk (writeDws w).1)) ∧
    (s.gr.mirEn = false ∨ f.src ≠ s.gr.mirPartner → ∃ t, exec (.mirrorAck n f a) s = .next t ∧ t.gr = s.gr ∧ t.ce = s.ce)) ∧
  (∀ (s : State) (n : Nat) (f : BFrame) (offs : List Nat) (x : Session) (o : Owner), Safety.Expected s n tMirrorRelease f x → tfind s.pb.owners f.src = some o →
    (offs = [] → ∃ t, exec (.mirrorRelease n f offs) s = .next t ∧ tfind t.pb.owners f.src = none ∧ pending? t 401 = true ∧ t.ce = s.ce) ∧
    (offs ≠ [] → s.gr.unplaced = false → (∀ p, p ∈ s.pb.owners → p.2.state = 0 ∧ p.2.jobBands = []) → ∃ t, exec (.mirrorRelease n f offs) s = .next t ∧
      tfind t.pb.owners f.src = some { o with pages := o.pages.filter (fun q => !offs.contains q.2.offset), saved := o.saved.filter (fun m => !offs.contains m.offset), job := ((o.pages.take o.job).filter (fun q => !offs.contains q.2.offset)).length } ∧ t.ze = s.ze ∧ t.ce = s.ce)) ∧
  (∀ (s : State) (n : Nat) (f : BFrame) (x : Session), Safety.Expected s n tOrphanPull f x →
    (∀ o, tfind s.pb.owners f.src = some o → ∃ t, exec (.orphanPull n f) s = .next t ∧ tfind t.pb.owners f.src = some { o with state := 4 } ∧
      t.ze = s.ze ∧ t.ce = s.ce) ∧
    (tfind s.pb.owners f.src = none → ∃ t, exec (.orphanPull n f) s = .next t ∧ t.pb.owners = s.pb.owners ∧ t.gr = s.gr)) ∧
  (∀ (s : State) (n : Nat) (f : BFrame) (page : MirrorPage) (x : Session), Safety.Expected s n tOrphanData f x →
    (starting s = true → s.gr.pullSent = true → s.gr.recovered = false → s.gr.pullDone = false → f.src = s.gr.mirPartner →
      ∃ t, exec (.orphanData n f page) s = .next t ∧ t.gr = { s.gr with pulled := s.gr.pulled ++ [page] } ∧ t.ce = s.ce) ∧
    (starting s = false ∨ s.gr.pullSent = false ∨ s.gr.recovered = true ∨ s.gr.pullDone = true ∨ f.src ≠ s.gr.mirPartner →
      ∃ t, exec (.orphanData n f page) s = .next t ∧ t.gr = s.gr ∧ t.ce = s.ce)) ∧
  (∀ (s : State) (n ctx nsid slba cnt : Nat) (f : BFrame) (x : Session) (q : ChunkReq), Safety.Expected s n tCopyReq f x → linkTo s f.src = some n →
    q = { node := f.src, ctx := ctx, nsid := nsid, slba := slba, n := cnt, via := sessKey n 0 } →
    (sourceLets s nsid f.src = false → ∃ t, exec (.copyReq n f nsid slba cnt false ctx) s = .next t ∧ pending? t 402 = true ∧
      Safety.Sends t n tCopyEnd [ctx, stGrant.sct, stGrant.sc]) ∧
    (sourceLets s nsid f.src = true → ((nsOf s nsid).map (fun w => w.zones * zoneLbas)).getD 0 < slba + cnt →
      ∃ t, exec (.copyReq n f nsid slba cnt false ctx) s = .next t ∧ Safety.Sends t n tCopyEnd [ctx, stLbaRange.sct, stLbaRange.sc] ∧ t.ce = s.ce) ∧
    (sourceLets s nsid f.src = true → slba + cnt ≤ ((nsOf s nsid).map (fun w => w.zones * zoneLbas)).getD 0 → 0 < cnt → 64 ≤ (chunkLive s).length → ∃ t, exec (.copyReq n f nsid slba cnt false ctx) s = .next t ∧ t.pb.chunks = s.pb.chunks ++ [q] ∧ t.ce = s.ce) ∧
    (sourceLets s nsid f.src = true → slba + cnt ≤ ((nsOf s nsid).map (fun w => w.zones * zoneLbas)).getD 0 → 0 < cnt → s.pb.chunks = [] → (chunkLive s).length < 64 → ctxOf s chunkCtx = none → indexLost s nsid ((List.range cnt).map (fun i => slba + i)) = false → eSlba (chunkEntry q) = slba → eNlb (chunkEntry q) = cnt → (∀ l, l ∈ ((List.range cnt).map (fun i => slba + i)) → (zoneOf s (lbaKey nsid l)).st ≠ .offline) → touched s nsid ((List.range cnt).map (fun i => slba + i)) ≠ [] →
      (∀ k, k ∈ touched s nsid ((List.range cnt).map (fun i => slba + i)) → (captureGen s (shapeOf s nsid (zoneOf s k)).keySlot).isSome = true) →
      (∀ l, l ∈ ((List.range cnt).map (fun i => slba + i)) → lbaOff l < (zoneOf s (lbaKey nsid l)).wp → ∀ g, (srcRef s (lbaKey nsid l) (lbaOff l) g).isSome = true) →
      ∃ t, exec (.copyReq n f nsid slba cnt false ctx) s = .next t ∧ t.pb.chunks = [] ∧
        ∃ y, ctxOf t chunkCtx = some y ∧ y.e = chunkEntry q ∧ y.st = .started ∧ y.started = true ∧ y.todo ≠ []) ∧
    (sourceLets s nsid f.src = true → slba + cnt ≤ ((nsOf s nsid).map (fun w => w.zones * zoneLbas)).getD 0 → 0 < cnt → s.pb.chunks = [] → (chunkLive s).length < 64 → ctxOf s chunkCtx = none → indexLost s nsid ((List.range cnt).map (fun i => slba + i)) = false → eSlba (chunkEntry q) = slba → eNlb (chunkEntry q) = cnt → (∃ l, l ∈ ((List.range cnt).map (fun i => slba + i)) ∧ (zoneOf s (lbaKey nsid l)).st = .offline) →
      ∃ t, exec (.copyReq n f nsid slba cnt false ctx) s = .next t ∧ Safety.Sends t n tCopyEnd [ctx, stOffline.sct, stOffline.sc] ∧ ctxOf t chunkCtx = none) ∧
    (sourceLets s nsid f.src = true → slba + cnt ≤ ((nsOf s nsid).map (fun w => w.zones * zoneLbas)).getD 0 → 0 < cnt → s.pb.chunks = [] → (chunkLive s).length < 64 → ctxOf s chunkCtx = none → indexLost s nsid ((List.range cnt).map (fun i => slba + i)) = false → eSlba (chunkEntry q) = slba → eNlb (chunkEntry q) = cnt → (∀ l, l ∈ ((List.range cnt).map (fun i => slba + i)) → (zoneOf s (lbaKey nsid l)).st ≠ .offline) → touched s nsid ((List.range cnt).map (fun i => slba + i)) = [] →
      ∃ t, exec (.copyReq n f nsid slba cnt false ctx) s = .next t ∧ Safety.Sends t n tCopyEnd [ctx, 0, 0] ∧ ctxOf t chunkCtx = none) ∧
    (∃ t, exec (.copyReq n f nsid slba cnt true ctx) s = .next t ∧ (∀ p, p ∈ t.pb.chunks → p ∈ s.pb.chunks ∧ ¬ (p.node = f.src ∧ p.ctx = ctx)))) ∧
  (∀ (s : State) (n c : Nat) (f : BFrame) (block : Block) (x : Ctx) (w : Session), Safety.Expected s n tCopyData f w → ctxOf s c = some x → x.e.opc = 0x85 → ioCtx ≤ c → x.started = true → x.st = .started ∨ x.st = .committed → x.chunks ≠ 0 → pcNode x.e = f.src →
    (x.got.length < x.asked → ∃ t, exec (.copyData n f c block) s = .next t ∧ (∃ y, ctxOf t c = some y ∧ tfind y.got x.got.length = some (bytesAt block 0 4096) ∧
      (ctxFresh s x = true → y.arrived = gotPrefix y)) ∧ (∀ d, d ≠ c → ctxOf t d = ctxOf s d) ∧ t.ze = s.ze ∧ t.gr = s.gr) ∧
    (x.asked ≤ x.got.length → ∃ t, exec (.copyData n f c block) s = .next t ∧ t.ce = s.ce ∧ t.ze = s.ze)) ∧
  (∀ (s : State) (n c : Nat) (f : BFrame) (x : Ctx) (w : Session), Safety.Expected s n tCopyEnd f w → ctxOf s c = some x → x.e.opc = 0x85 → ioCtx ≤ c → x.started = true → x.st = .started ∨ x.st = .committed → x.chunks ≠ 0 → pcNode x.e = f.src →
    (eNlb x.e ≤ x.asked → ∃ t, exec (.copyEnd n f c stOk) s = .next t ∧ (∃ y, ctxOf t c = some y ∧ y.chunks = x.chunks - 1 ∧ y.st = x.st) ∧
      (∀ d, d ≠ c → ctxOf t d = ctxOf s d) ∧ t.ze = s.ze) ∧
    (∀ st, st ≠ stOk → ctxFresh s x = true → x.tunnel = false → ∃ t, exec (.copyEnd n f c st) s = .next t ∧ Safety.Ended t c st 0))

/-- The Larder grants free buffers, queues what it cannot grant, applies each owner's operations, and refuses with the first
error that applies. An engine's request takes a free buffer of its pool, or of the next SRAM pool where it may spill, under its
next generation; where none may be granted it waits in its pool's queue, and one without a pool is refused with event source
320. A request that has waited too long raises event source 321 once. LR_REQ with GO grants at once, ends with NONE, or is
refused. Free, Hand-off, Share, Add reference and Release change a buffer as R376 says where they may, and otherwise leave every
buffer as it is with event source 320 and the first error of R377 that applies. A buffer that becomes free goes to the request
that has waited longest. Reclaim frees a buffer in any state, with event source 322, and on a free one does nothing.
(13_larder.md R371 to R380.) -/
def Obligations.BuffersAreGrantedAndReturned : Prop :=
  (∀ (s : State) (owner size p : Nat) (p5 spill rd : Bool), ownerValid owner = true → reachable s .larder 0 = true → s.gr.size ≤ 8388608 →
    (if p5 then some 5 else poolFor size) = some p →
    (∀ q, grantPool s p spill rd = some q → ∃ t h, exec (.bufAllocate owner size p5 spill rd) s = .next t ∧ Safety.Granted s t q owner h ∧
      t.lr.grants = (owner, h) :: s.lr.grants ∧
      t = { s with rf := t.rf, att := { s.att with evrec := t.att.evrec }, lr := { s.lr with bufs := t.lr.bufs, grants := t.lr.grants }, free := t.free }) ∧
    (grantPool s p spill rd = none → ∃ t, exec (.bufAllocate owner size p5 spill rd) s = .next t ∧
      tget [] t.lr.queues p = tget [] s.lr.queues p ++ [{ owner := owner, rd := rd }] ∧
      (∀ q, q ≠ p → tget [] t.lr.queues q = tget [] s.lr.queues q) ∧
      t = { s with rf := { s.rf with regs := t.rf.regs }, lr := { s.lr with queues := t.lr.queues } })) ∧
  (∀ (s : State) (owner size : Nat) (spill rd : Bool), ownerValid owner = true → reachable s .larder 0 = true → size = 0 ∨ 327680 < size →
    ∃ t, exec (.bufAllocate owner size false spill rd) s = .next t ∧ pending? t 320 = true ∧
      t = { s with rf := t.rf, att := { s.att with evrec := t.att.evrec }, lr := { s.lr with refused := (owner, 0, 5) :: s.lr.refused } }) ∧
  (∀ (s : State) (p i : Nat) (w : LWait), (tget [] s.lr.queues p)[i]? = some w →
    (w.warned = false → ∃ t, exec (.requestWaitTimeout p i) s = .next t ∧ pending? t 321 = true ∧
      tget [] t.lr.queues p = (tget [] s.lr.queues p).set i { w with warned := true } ∧ t = { s with rf := t.rf, att := { s.att with evrec := t.att.evrec }, lr := { s.lr with queues := t.lr.queues } }) ∧
    (w.warned = true → exec (.requestWaitTimeout p i) s = .next s)) ∧
  (∀ (s : State) (n : Nat) (v : Word), Safety.Reaches s (.core n) .larder 0 → s.gr.size ≤ 8388608 →
    (bit v.toNat 31 = false → exec (.lrReq (.core n) v) s = .next s) ∧
    (bit v.toNat 31 = true → ∀ p, (if bit v.toNat 26 then some 5 else poolFor (bits v.toNat 18 0)) = some p →
      (∀ q, grantPool s p (bit v.toNat 24) (bit v.toNat 25) = some q → ∃ t h, exec (.lrReq (.core n) v) s = .next t ∧ Safety.Granted s t q (0xE0 + n) h ∧
        tget {} t.lr.banks n = { tget {} s.lr.banks n with result := h, valid := true, none := false, reqErr := 0 } ∧
        t = { s with rf := t.rf, att := { s.att with evrec := t.att.evrec }, lr := { s.lr with bufs := t.lr.bufs, grants := t.lr.grants, banks := t.lr.banks }, free := t.free }) ∧
      (grantPool s p (bit v.toNat 24) (bit v.toNat 25) = none → ∃ t, exec (.lrReq (.core n) v) s = .next t ∧
        tget {} t.lr.banks n = { tget {} s.lr.banks n with valid := false, none := true, reqErr := 0 } ∧
        t = { s with lr := { s.lr with banks := t.lr.banks } })) ∧
    (bit v.toNat 31 = true → (if bit v.toNat 26 then some 5 else poolFor (bits v.toNat 18 0)) = none → ∃ t, exec (.lrReq (.core n) v) s = .next t ∧ pending? t 320 = true ∧
      tget {} t.lr.banks n = { tget {} s.lr.banks n with valid := false, none := false, reqErr := 5 } ∧
      t = { s with rf := t.rf, att := { s.att with evrec := t.att.evrec }, lr := { s.lr with banks := t.lr.banks, refused := t.lr.refused } })) ∧
  (∀ (s : State) (o p i n : Nat) (h : Word) (b : Buf), ownerValid o = true → reachable s .larder 0 = true → Safety.Names s h p i → b = bufOf s (bufKey p i) →
    tget [] s.lr.queues p = [] →
    (b.st = 1 → b.owner = o → ∃ t, exec (.bufFree o h) s = .next t ∧ bufOf t (bufKey p i) = { gen := b.gen } ∧
      (∀ k, k ≠ bufKey p i → bufOf t k = bufOf s k) ∧ t = { s with lr := { s.lr with bufs := t.lr.bufs, grants := t.lr.grants, banks := t.lr.banks } } ∧ t.lr.grants = s.lr.grants) ∧
    (b.st = 1 → b.owner = o → ownerValid (n % 256) = true → ∃ t, exec (.bufHandOff o h n) s = .next t ∧ bufOf t (bufKey p i) = { b with owner := n % 256 } ∧
      (∀ k, k ≠ bufKey p i → bufOf t k = bufOf s k) ∧ t = { s with lr := { s.lr with bufs := t.lr.bufs, grants := t.lr.grants, banks := t.lr.banks } } ∧ t.lr.grants = s.lr.grants) ∧
    (b.st = 1 → b.owner = o → ownerPriv o = true → n % 256 ≠ 0 → ∃ t, exec (.bufShare o h n) s = .next t ∧
      bufOf t (bufKey p i) = { st := 2, owner := 0, count := n % 256, gen := b.gen } ∧
      (∀ k, k ≠ bufKey p i → bufOf t k = bufOf s k) ∧ t = { s with lr := { s.lr with bufs := t.lr.bufs, grants := t.lr.grants, banks := t.lr.banks } } ∧ t.lr.grants = s.lr.grants) ∧
    (b.st = 2 → ownerPriv o = true → n % 256 ≠ 0 → b.count + n % 256 ≤ 255 → ∃ t, exec (.bufAddReference o h n) s = .next t ∧
      bufOf t (bufKey p i) = { b with count := b.count + n % 256 } ∧
      (∀ k, k ≠ bufKey p i → bufOf t k = bufOf s k) ∧ t = { s with lr := { s.lr with bufs := t.lr.bufs, grants := t.lr.grants, banks := t.lr.banks } } ∧ t.lr.grants = s.lr.grants) ∧
    (b.st = 2 → ownerPriv o = true → n % 256 ≠ 0 → n % 256 ≤ b.count → ∃ t, exec (.bufRelease o h n) s = .next t ∧
      bufOf t (bufKey p i) = (if b.count = n % 256 then { gen := b.gen } else { b with count := b.count - n % 256 }) ∧
      (∀ k, k ≠ bufKey p i → bufOf t k = bufOf s k) ∧ t = { s with lr := { s.lr with bufs := t.lr.bufs, grants := t.lr.grants, banks := t.lr.banks } } ∧ t.lr.grants = s.lr.grants)) ∧
  (∀ (s : State) (o n p i op : Nat) (h : Word) (b : Buf) (c : Instr), (c, op) ∈ Safety.lrOps o h n → ownerValid o = true → reachable s .larder 0 = true →
    p = h.toNat / 536870912 → i = h.toNat / 64 % 8388608 → b = bufOf s (bufKey p i) →
    (p > 5 ∨ poolCount s p ≤ i ∨ (3 ≤ op ∧ n % 256 = 0) ∨ (op = 2 ∧ ownerValid (n % 256) = false) → lrError s op o h.toNat (n % 256) = 5) ∧
    (p ≤ 5 → i < poolCount s p → (3 ≤ op → n % 256 ≠ 0) → (op = 2 → ownerValid (n % 256) = true) →
      (h.toNat % 64 ≠ b.gen → lrError s op o h.toNat (n % 256) = 3) ∧
      (h.toNat % 64 = b.gen → b.st = 0 → lrError s op o h.toNat (n % 256) = 1) ∧
      (h.toNat % 64 = b.gen → (b.st = 1 ∧ (b.owner ≠ o ∨ op = 3 ∧ ownerPriv o = false)) ∨ (b.st = 2 ∧ ownerPriv o = false) →
        lrError s op o h.toNat (n % 256) = 2) ∧
      (h.toNat % 64 = b.gen → (b.st = 2 ∧ ownerPriv o = true ∧ op ≤ 3) ∨ (b.st = 1 ∧ b.owner = o ∧ 4 ≤ op) → lrError s op o h.toNat (n % 256) = 6) ∧
      (h.toNat % 64 = b.gen → b.st = 2 → ownerPriv o = true → op = 5 → b.count < n % 256 → lrError s op o h.toNat (n % 256) = 4) ∧
      (h.toNat % 64 = b.gen → b.st = 2 → ownerPriv o = true → op = 4 → 255 < b.count + n % 256 → lrError s op o h.toNat (n % 256) = 7)) ∧
    (lrError s op o h.toNat (n % 256) ≠ 0 → ∃ t, exec c s = .next t ∧ pending? t 320 = true ∧ t.lr.refused = (o, h.toNat, lrError s op o h.toNat (n % 256)) :: s.lr.refused ∧
      t = { s with rf := t.rf, att := { s.att with evrec := t.att.evrec }, lr := { s.lr with banks := t.lr.banks, refused := t.lr.refused } } ∧
      (0xE0 ≤ o → o ≤ 0xEF → (tget {} t.lr.banks (o - 0xE0)).done = true ∧ (tget {} t.lr.banks (o - 0xE0)).opErr = lrError s op o h.toNat (n % 256)))) ∧
  (∀ (s : State) (o p i : Nat) (h : Word) (w : LWait) (r : List LWait), ownerValid o = true → reachable s .larder 0 = true → s.gr.size ≤ 8388608 →
    Safety.Names s h p i → (bufOf s (bufKey p i)).st = 1 → (bufOf s (bufKey p i)).owner = o → tget [] s.lr.queues p = w :: r → poolRsv s p = 0 → (poolBusy s p).length ≤ poolCount s p →
    ∃ t j g, exec (.bufFree o h) s = .next t ∧ j < poolCount s p ∧ tget [] t.lr.queues p = r ∧ t.lr.grants = (w.owner, handleOf p j g) :: s.lr.grants ∧
      bufOf t (bufKey p j) = { st := 1, owner := w.owner, count := 0, gen := g }) ∧
  (∀ (s : State) (n p i : Nat) (h : Word) (b : Buf), n < 16 → Safety.Reaches s (.core n) .larder 0 → Safety.Names s h p i → b = bufOf s (bufKey p i) →
    tget [] s.lr.queues p = [] →
    ∃ t, exec (.bufReclaim (.core n) h) s = .next t ∧ bufOf t (bufKey p i) = { gen := b.gen, owner := if b.st = 0 then b.owner else 0, count := if b.st = 0 then b.count else 0 } ∧
      (∀ k, k ≠ bufKey p i → bufOf t k = bufOf s k) ∧ (b.st ≠ 0 → pending? t 322 = true) ∧ tget {} t.lr.banks n = { tget {} s.lr.banks n with done := true, opErr := 0 } ∧
      t = { s with rf := t.rf, att := { s.att with evrec := t.att.evrec }, lr := { s.lr with bufs := t.lr.bufs, grants := t.lr.grants, banks := t.lr.banks } })

/-- DRAM refresh follows the temperatures, loopback decides the start, pages are retired and reinstated, zeroing runs once, and
error records are popped. A refresh is counted while the DRAM is powered. A report above 85 C makes refresh fast with event
source 295, and two consecutive reads without one end that; a report above 95 C sets HOT95 with event source 296. DM_MRW with GO
writes a mode register of one subchannel or all while the block is unlocked. The loopback compare reports the failing lanes; a
margin failure raises event source 293, one at the stored codes, with PASSES, event source 294 and, at the start, HALT with
fault code 15. OP 1 remaps a page to the next spare, also when it was remapped before, and records the errors that the copy
finds with SRC 2; the last entry, or a full table, raises event source 292; OP 2 reinstates only before zeroing. Zeroing starts
once and ends with all of the DRAM valid. MI_ERR_POP drops the oldest record. (12_memory.md R348, R349, R351, R352, R358, R361,
R362, R367, R368; 18_bring_up.md R500.) -/
def Obligations.DramIsRefreshedCheckedAndZeroed : Prop :=
  (∀ s : State, (refreshes s = true → exec .dramRefresh s = .next { s with dm := { s.dm with refresh := s.dm.refresh + 1 } }) ∧
    (refreshes s = false → exec .dramRefresh s = .next s ∧ ∀ temps, exec (.mr4Read temps) s = .next s)) ∧
  (∀ (s : State) (temps : List Nat), refreshes s = true → ∃ t, exec (.mr4Read temps) s = .next t ∧
    ((∃ d, d ∈ temps ∧ 95 < d) → t.dm.hot95 = true ∧ pending? t 296 = true) ∧
    ((∀ d, d ∈ temps → d ≤ 95) → t.dm.hot95 = s.dm.hot95) ∧
    ((∃ d, d ∈ temps ∧ 85 < d) → t.dm.fast = true ∧ t.dm.coolReads = 0 ∧ (s.dm.fast = false → pending? t 295 = true)) ∧
    ((∀ d, d ∈ temps → d ≤ 85) → s.dm.fast = true → 1 ≤ s.dm.coolReads → t.dm.fast = false ∧ pending? t 295 = true) ∧
    ((∀ d, d ∈ temps → d ≤ 85) → s.dm.fast = true → s.dm.coolReads = 0 → t.dm.fast = true ∧ t.dm.coolReads = 1) ∧
    ((∀ d, d ∈ temps → d ≤ 85) → s.dm.fast = false → t.dm.fast = false) ∧
    t = { s with rf := t.rf, att := { s.att with evrec := t.att.evrec }, dm := { s.dm with hot95 := t.dm.hot95, fast := t.dm.fast, coolReads := t.dm.coolReads } }) ∧
  (∀ (s : State) (m : Master) (v : Word), Safety.Reaches s m .memory 0 →
    (rdb s R.dmLock 0 = true → exec (.modeRegisterWrite m v) s = .next s) ∧
    (rdb s R.dmLock 0 = false → ∃ t, exec (.modeRegisterWrite m v) s = .next t ∧ t = { s with dm := { s.dm with mrs := t.dm.mrs } } ∧
      (∀ k, k ∈ (if bit v.toNat 16 then subchannels s else [2 * rdf s R.dmLaneSel 1 0 + rdf s R.dmLaneSel 2 2]) →
        tfind t.dm.mrs (256 * k + bits v.toNat 7 0) = some (bits v.toNat 15 8)) ∧
      (∀ a, a % 256 ≠ bits v.toNat 7 0 → tfind t.dm.mrs a = tfind s.dm.mrs a))) ∧
  (∀ (s : State) (m : Master), Safety.Reaches s m .memory 0 →
    exec (.loopbackCompare m) s = .next { s with dm := { s.dm with lbRun := true, lbDone := false, lbErr := [] } } ∧
    exec (.miErrPop m) s = .next { s with dm := { s.dm with fifo := s.dm.fifo.tail } } ∧
    (s.dm.zeroing = false → s.dm.zeroDone = false → ∃ t, exec (.dmZeroGo m) s = .next t ∧ t.dm.zeroing = true ∧ t.dm.zeroAt = s.ck.tb ∧ zeroMark t = 0 ∧
      (∀ x, x ∈ t.dm.bad ↔ x ∈ s.dm.bad ∧ x % 2 = 1) ∧ (starting s = false → t.dm.remap = s.dm.remap ∧ t.dm.used = s.dm.used) ∧ t = { s with dm := t.dm }) ∧
    (s.dm.zeroing = true ∨ s.dm.zeroDone = true → exec (.dmZeroGo m) s = .next s)) ∧
  (∀ (s : State) (stored margin : List Nat), (s.dm.lbRun = false → exec (.loopbackDone stored margin) s = .next s) ∧
    (s.dm.lbRun = true → ∃ t, exec (.loopbackDone stored margin) s = .next t ∧ t.dm.lbRun = false ∧ t.dm.lbDone = true ∧
      (∀ k, k < 2 * dmChannels s →
        tget 0 t.dm.lbErr k = Nat.lor (stored.getD k 0) (if rdb s R.dmLbCtl 16 then margin.getD k 0 else 0) % 2 ^ 40 ∧
        (stored.getD k 0 % 2 ^ 40 ≠ 0 → rdb s R.dmLbCtl 16 = true → pending? t 294 = true ∧ (starting s = true → t.pw.mode = mHalt ∧ t.rs.faultCode = some 15)) ∧
        (stored.getD k 0 % 2 ^ 40 = 0 → rdb s R.dmLbCtl 16 = true → margin.getD k 0 % 2 ^ 40 ≠ 0 → pending? t 293 = true)) ∧
      ((∀ k, k < 2 * dmChannels s → stored.getD k 0 % 2 ^ 40 = 0) ∨ rdb s R.dmLbCtl 16 = false → t = { s with rf := t.rf, att := { s.att with evrec := t.att.evrec }, dm := { s.dm with lbRun := false, lbDone := true, lbErr := t.dm.lbErr } }))) ∧
  (∀ (s : State) (m : Master) (page : Nat), Safety.Reaches s m .memory 0 → page = rd s R.dmRetAddr / 4096 → page < dmUsable s / 4096 →
    (s.dm.used < 8192 → ∃ t, exec (.retire m) s = .next t ∧ pending? t 291 = true ∧ t.dm.used = s.dm.used + 1 ∧
      (∀ a, dramPhys t a = if a / 4096 = page then dmUsable s + 4096 * s.dm.used + a % 4096 else dramPhys s a) ∧
      (s.dm.used = 8191 → pending? t 292 = true ∧ t.dm.degraded = true) ∧
      (pageErrors s.dm page = [] → injArmed s false (rd s R.miInjTgt / 64 * 64) = false → t = { s with rf := t.rf, att := { s.att with evrec := t.att.evrec }, dm := { s.dm with remap := t.dm.remap, used := t.dm.used, degraded := t.dm.degraded, recurs := t.dm.recurs, injected := t.dm.injected } }) ∧
      (∀ x, x ∈ s.dm.bad → x ∈ t.dm.bad) ∧ (injArmed s false (rd s R.miInjTgt / 64 * 64) = false → ∀ p, p ∈ t.dm.injected → p.1 % 2 = 0 → p.1 / 2 / 4096 ≠ page) ∧
      (∀ a l, pageErrors s.dm page = a :: l → s.dm.fifo = [] → ∃ r, t.dm.fifo.head? = some r ∧ r.addr = a ∧ r.src = 2) ∧
      t = { s with rf := t.rf, att := { s.att with evrec := t.att.evrec }, free := t.free, dm := t.dm }) ∧
    (8192 ≤ s.dm.used → ∃ t, exec (.retire m) s = .next t ∧ pending? t 292 = true ∧ t.dm.degraded = true ∧
      t = { s with rf := t.rf, att := { s.att with evrec := t.att.evrec }, dm := { s.dm with degraded := true, recurs := t.dm.recurs } }) ∧
    (s.dm.zeroing = false → s.dm.zeroDone = false → s.dm.used < 8192 → ∃ t, exec (.reinstate m) s = .next t ∧ t.dm.used = s.dm.used + 1 ∧
      (∀ a, dramPhys t a = if a / 4096 = page then dmUsable s + 4096 * s.dm.used + a % 4096 else dramPhys s a) ∧
      t = { s with dm := { s.dm with remap := t.dm.remap, used := t.dm.used } }) ∧
    (s.dm.zeroing = true ∨ s.dm.zeroDone = true → exec (.reinstate m) s = .next s)) ∧
  (∀ s : State, (s.dm.zeroing = false → exec .zeroingDone s = .next s) ∧
    (s.dm.zeroing = true → ∃ t, exec .zeroingDone s = .next t ∧ t.dm.zeroing = false ∧ t.dm.zeroDone = true ∧ zeroMark t = dmUsable s ∧
      t.dm.remap = s.dm.remap ∧ t.dm.used = s.dm.used ∧ (s.dm.injPast = true ∨ injArmed s false (rd s R.miInjTgt / 64 * 64) = false → t = { s with dm := { s.dm with zeroing := false, zeroDone := true } })))

/-- The Weevil reads the next access or word in ascending order, corrects and records what it finds, and ends a pass with event
source 303. While the Weevil runs, a read takes the next 64-byte DRAM access or the next SRAM word and moves on; the read that
ends both memories ends the pass with event source 303 and starts the next. A corrected error is counted, recorded while the
error FIFO has room, with RECUR where the DRAM access is among the 256 remembered, and raises event source 288 or 297. An access
above the watermark of zeroing is skipped. An uncorrectable error is recorded, raises event source 289 or 298, stays until the
place is written, and does to its consumer what R357 says: Granary data is lost for good, a zone table entry and an index are to
be rebuilt, a threshold block is estimated anew, firmware restarts, and lost Granary state leads to SAFE. While it does not run,
nothing changes. (12_memory.md R356 to R360, R363 to R366.) -/
def Obligations.WeevilReadsEveryMemory : Prop :=
  (∀ (s : State) (sram : Bool) (region : MemRegion) (err : MemErr), weevilReads s sram = false ∨ regionFits sram region = false →
    exec (.weevilRead sram region err) s = .next s) ∧
  (∀ (s : State) (sram : Bool) (region : MemRegion) (err : MemErr), weevilReads s sram = true → regionFits sram region = true →
    errFound s sram (weevilAddr s sram) err = .none ∨ (sram = false ∧ zeroMark s ≤ weevilAddr s sram) →
    ∃ t, exec (.weevilRead sram region err) s = .next t ∧
      ((if sram then s.dm.weevil < dmUsable s ∨ s.dm.weevilSram + 8 < sramBytes else s.dm.weevil + 64 < dmUsable s ∨ s.dm.weevilSram < sramBytes) →
        t = { s with dm := { s.dm with weevil := if sram then s.dm.weevil else s.dm.weevil + 64, weevilSram := if sram then s.dm.weevilSram + 8 else s.dm.weevilSram } }) ∧
      ((if sram then dmUsable s ≤ s.dm.weevil ∧ sramBytes ≤ s.dm.weevilSram + 8 else dmUsable s ≤ s.dm.weevil + 64 ∧ sramBytes ≤ s.dm.weevilSram) →
        pending? t 303 = true ∧ t = { s with rf := t.rf, att := { s.att with evrec := t.att.evrec }, dm := { s.dm with weevil := 0, weevilSram := 0, passCorr := 0 } })) ∧
  (∀ (s : State) (sram : Bool) (region : MemRegion) (dev a : Nat), weevilReads s sram = true → regionFits sram region = true →
    a = weevilAddr s sram → sram = true ∨ a < zeroMark s → errFound s sram a (.corrected dev) = .corrected dev →
    ∃ t, exec (.weevilRead sram region (.corrected dev)) s = .next t ∧ pending? t (if sram then 297 else 288) = true ∧
      (s.dm.fifo.length < 64 → ∃ r, t.dm.fifo = s.dm.fifo ++ [r] ∧ r.addr = a ∧ r.ue = false ∧ r.sram = sram ∧
        (r.recur = true ↔ sram = false ∧ a / 64 ∈ s.dm.recent)) ∧
      (64 ≤ s.dm.fifo.length → t.dm.fifo = s.dm.fifo ∧ pending? t 301 = true) ∧
      (sram = false → t.dm.recent = (a / 64 :: s.dm.recent).take 256 ∧ (a / 64 ∈ s.dm.recent → pending? t 290 = true)) ∧
      (sram = true → t.dm.recent = s.dm.recent) ∧ t = { s with rf := t.rf, att := { s.att with evrec := t.att.evrec }, dm := t.dm }) ∧
  (∀ (s : State) (sram : Bool) (region : MemRegion) (err : MemErr) (a : Nat), weevilReads s sram = true → regionFits sram region = true →
    a = weevilAddr s sram → sram = true ∨ a < zeroMark s → errFound s sram a err = .uncorrectable →
    ∃ t, exec (.weevilRead sram region err) s = .next t ∧ pending? t (if sram then 298 else 289) = true ∧ (2 * a + sram.toNat) ∈ t.dm.bad ∧
      (∀ key off, region = .granData key off → t.dm.degraded = true ∧
        (∀ z u, tfind s.ze.zones key = some z → tfind z.units off = some u → u.seg.isSome = true →
          ∃ y v, tfind t.ze.zones key = some y ∧ tfind y.units off = some v ∧ v.sealed.poison = true ∧ v.pos = u.pos)) ∧
      (∀ blk, region = .threshold blk → (tget {} t.fl.thr blk).valid = false ∧ (tget {} t.fl.thr blk).dirty = true) ∧
      (region = .granState ∨ region = .scarab ∨ region = .contexts → serving s = true → t.pw.mode = mSafe ∧ pending? t 16 = true) ∧
      (∀ key, region = .zoneTable key → (tfind s.ze.zones key).isSome = true → zoneOf t key = { zoneOf s key with rebuilding := true }) ∧
      (∀ b key, region = .index b → bandZone s b = some key → (zoneOf t key).index.lost = zoneComp (zoneOf s key)) ∧
      (region = .other → t = { s with rf := t.rf, att := { s.att with evrec := t.att.evrec }, dm := t.dm }))

/-- Line loss, a crossed brown-out level and a low HU_LINE enter HOLDUP; the dump is frozen, ends or is cut, and the supply's
return restarts the device. In modes 1 and 2 of the line monitor eight half-periods in range in a row lock it and one out of
range unlocks it, with event source 354; in other modes none counts. The line is lost when, locked, mode 1 sees its peak below
LM_LEVEL.PEAK for 2 ms past the tracked half-period or mode 2 no crossing for 1 ms past it, or mode 3 sees the level below
LM_LEVEL.DC for 100 µs: event source 355 and HOLDUP with CAUSE 1. BO_SENSE below BO1 gives event source 356 and CAUSE 2, and
HU_LINE low for 200 ns event source 358 and CAUSE 3, unless HOLDUP has been entered. BO_SENSE below BO2 raises event source 357,
lets no new pulse start and cuts a dump that has not ended. The end of the dump is recorded with event source 360 and stops the
sequencers. 100 ms after it, with BO_SENSE above BO1, the device restarts with cause 3 and keeps its dump. (10_granary.md R293
to R302, R304, R313; 16_power_thermal.md R440.) -/
def Obligations.SupplyLossEntersHoldup : Prop :=
  (∀ (s : State) (us : Nat), s.pw.mode ≠ mOff →
    (lmMode s ≠ 1 → lmMode s ≠ 2 → exec (.lineHalfPeriod us) s = .next s) ∧
    (lmMode s = 1 ∨ lmMode s = 2 →
      (7580 ≤ us → us ≤ 11110 → ∃ t, exec (.lineHalfPeriod us) s = .next t ∧
        t.gr.lmRun = (s.gr.lmRun ++ [us]).drop (s.gr.lmRun.length + 1 - 8) ∧ t.gr.lmLocked = (s.gr.lmLocked || decide (7 ≤ s.gr.lmRun.length)) ∧
        (s.gr.lmLocked = false → 7 ≤ s.gr.lmRun.length → pending? t 354 = true) ∧
        t = { s with rf := t.rf, att := { s.att with evrec := t.att.evrec }, gr := { s.gr with lmRun := t.gr.lmRun, lmLocked := t.gr.lmLocked } }) ∧
      (us < 7580 ∨ 11110 < us → ∃ t, exec (.lineHalfPeriod us) s = .next t ∧ t.gr.lmRun = [] ∧ t.gr.lmLocked = false ∧
        (s.gr.lmLocked = true → pending? t 354 = true) ∧
        t = { s with rf := t.rf, att := { s.att with evrec := t.att.evrec }, gr := { s.gr with lmRun := [], lmLocked := false } }))) ∧
  (∀ (s : State) (mv us : Nat), s.pw.mode ≠ mOff → s.pw.mode ≠ mHoldup →
    (lineLost s mv us = true → ∃ t, exec (.lineLossDetected mv us) s = .next t ∧ pending? t 355 = true ∧
      rdb t R.lmStat 31 = true ∧ Safety.HoldupEntered s t 1) ∧
    (lineLost s mv us = false → exec (.lineLossDetected mv us) s = .next s) ∧
    (lineLost s mv us = true ↔ (lmMode s = 1 ∧ s.gr.lmLocked = true ∧ mv < rdf s R.lmLevel 11 0 ∧ lmMean s + 2000 ≤ us) ∨
      (lmMode s = 2 ∧ s.gr.lmLocked = true ∧ lmMean s + 1000 ≤ us) ∨ (lmMode s = 3 ∧ mv < rdf s R.lmLevel 27 16 ∧ 100 ≤ us))) ∧
  (∀ (s : State) (mv : Nat), s.pw.mode ≠ mOff →
    (bo1Level s ≤ (mv : Int) → exec (.bo1Crossed mv) s = .next s) ∧
    ((mv : Int) < bo1Level s → s.pw.mode ≠ mHoldup → ∃ t, exec (.bo1Crossed mv) s = .next t ∧ pending? t 356 = true ∧ Safety.HoldupEntered s t 2) ∧
    ((mv : Int) < bo1Level s → s.pw.mode = mHoldup → ∃ t, exec (.bo1Crossed mv) s = .next t ∧ pending? t 356 = true ∧ t = { s with rf := t.rf, att := { s.att with evrec := t.att.evrec } }) ∧
    (bo2Level s ≤ (mv : Int) → exec (.bo2Crossed mv) s = .next s) ∧
    ((mv : Int) < bo2Level s → ∃ t, exec (.bo2Crossed mv) s = .next t ∧ pending? t 357 = true ∧ t.gr.bo2 = true ∧
      (s.gr.dumpSt = 1 → t.gr.dumpSt = 3 ∧ t.gr.endTime = s.ck.tb ∧ (∀ d, tfind s.gr.halves s.gr.armed = some d → tfind t.gr.halves s.gr.armed = some { d with cut := true })) ∧
      (s.gr.dumpSt ≠ 1 → t.gr.dumpSt = s.gr.dumpSt ∧ t.gr.halves = s.gr.halves) ∧
      t = { s with rf := t.rf, att := { s.att with evrec := t.att.evrec }, gr := { s.gr with bo2 := true, dumpSt := t.gr.dumpSt, endTime := t.gr.endTime, halves := t.gr.halves, lastDumpUs := t.gr.lastDumpUs, lastDumpMib := t.gr.lastDumpMib, lastDumpCause := t.gr.lastDumpCause }, fl := { s.fl with chans := t.fl.chans, dies := t.fl.dies, rdReq := t.fl.rdReq, peReq := t.fl.peReq, dumpReq := t.fl.dumpReq } })) ∧
  (∀ (s : State) (ns : Nat), s.pw.mode ≠ mOff → (ns < 200 → exec (.huLineLow ns) s = .next s) ∧
    (200 ≤ ns → s.pw.mode ≠ mHoldup → ∃ t, exec (.huLineLow ns) s = .next t ∧ pending? t 358 = true ∧ t.gr.huIn = false ∧ Safety.HoldupEntered s t 3) ∧
    (200 ≤ ns → s.pw.mode = mHoldup → exec (.huLineLow ns) s = .next { s with gr := { s.gr with huIn := false } })) ∧
  (∀ s : State, (s.gr.dumpSt ≠ 1 → exec .dumpEnd s = .next s) ∧
    (∀ d, tfind s.gr.halves s.gr.armed = some d → dumpTried s d = false → exec .dumpEnd s = .next s) ∧
    (∀ d, s.gr.dumpSt = 1 → tfind s.gr.halves s.gr.armed = some d → dumpTried s d = true → ∃ t, exec .dumpEnd s = .next t ∧ pending? t 360 = true ∧ t.gr.dumpSt = 2 ∧
      t.gr.endTime = s.ck.tb ∧ t.gr.lastDumpCause = d.cause ∧ t.gr.lastDumpMib = dumpTotal d / 256 ∧
      tfind t.gr.halves s.gr.armed = some { d with cws := d.cws ++ [(dumpTotal d, 0xFFFFFFFF)] ++ (if s.gr.bo2 then [] else (List.range 32).map (fun i => (dumpTotal d + 1 + i, 0xFFFFFFFE))), ended := true, recs := Nat.min 4096 s.att.evrec.recs.length } ∧
      (s.gr.bo2 = true → t.att.evrec.garret = s.att.evrec.garret) ∧
      (s.gr.bo2 = false → t.att.evrec.garret = s.att.evrec.recs.drop (s.att.evrec.recs.length - 4096)) ∧
      (∀ n c, (n, c) ∈ t.fl.chans → c.st ≠ .holdup) ∧ t.ze = s.ze ∧ t.ce = s.ce ∧ t.pw = s.pw)) ∧
  (∀ (s : State) (mv : Nat), (s.pw.mode ≠ mHoldup ∨ s.gr.dumpSt < 2 ∨ elapsed s s.gr.endTime 100000000 = false ∨ (mv : Int) ≤ bo1Level s → exec (.holdUpCompletedReset mv) s = .next s) ∧
    (s.pw.mode = mHoldup → 2 ≤ s.gr.dumpSt → elapsed s s.gr.endTime 100000000 = true → bo1Level s < (mv : Int) → ∃ t, exec (.holdUpCompletedReset mv) s = .next t ∧
      t.pw.mode = mBoot ∧ t.rs.last = 3 ∧ t.gr.holdup = false ∧ t.gr.dumpSt = 0 ∧ t.gr.halves = s.gr.halves ∧ t.ce.ctxs = [] ∧ t.ck.tb = s.ck.tb))

/-- The hold-up test runs from its start to its result; a mirror partner is lost and restored; an owner's loss persists its
copies once. The Attic's test or HU_TEST.START from a SECURE master samples V0, forces write-through and drives HU_TEST_N low; a
PRIV master cannot. Its end, at its length or at a crossing before it, samples V1 and releases the pin, a V1 not above BOT being
a crossing; its result, 2 s after its end, is good, with event source 365 and the forced write-through lifted, or degraded with
event source 364. A partner that leaves a copy unacknowledged for TMO is lost with event source 366; its return has every page
not yet released copied to it, with event source 367. An owner silent for PB_ORPH.TMO is lost, with event source 399, has its
copies persisted where the domain has bands; another loss of it changes nothing. A pull that brought nothing is given up.
(10_granary.md R309 to R314; 11_balwen.md R335, R336.) -/
def Obligations.HoldUpTestsAndPartnersAreJudged : Prop :=
  (∀ (s : State) (v0 : Nat), s.rs.standby = true → s.att.released = true → active s = true → s.pw.mode ≠ mLoad →
    (s.gr.testing = false → ∃ t, exec (.holdUpTestStart v0) s = .next t ∧ t.gr.testing = true ∧ t.gr.wtForced = true ∧
      t.gr.testV0 = v0 ∧ t.gr.huTestN = false ∧ t.gr.botCrossed = false ∧ t.pw = s.pw) ∧
    (s.gr.testing = true → exec (.holdUpTestStart v0) s = .next s)) ∧
  (∀ (s : State) (m : Master) (v0 : Nat), masterSilent s m = false →
    (masterCls m = .secure → s.pw.mode ≠ mHoldup → s.pw.mode ≠ mOff → s.gr.testing = false →
      ∃ t, exec (.huTestStart m v0) s = .next t ∧ t.gr.testing = true ∧ t.gr.wtForced = true ∧ t.gr.testV0 = v0 ∧ t.gr.huTestN = false ∧ t.pw = s.pw) ∧
    (masterCls m = .secure → s.gr.testing = true ∨ s.pw.mode = mHoldup → exec (.huTestStart m v0) s = .next s) ∧
    (masterCls m = .priv → ∃ t, exec (.huTestStart m v0) s = .next t ∧ pending? t 461 = true ∧ t = { s with rf := t.rf, att := { s.att with evrec := t.att.evrec }, ctl := t.ctl })) ∧
  (∀ (s : State) (v1 us : Nat), (s.gr.testing = false ∨ (us < testUs s.board ∧ rdf s R.huTest 27 16 < v1) → exec (.holdUpTestEnd v1 us) s = .next s) ∧
    (s.gr.testing = true → testUs s.board ≤ us ∨ v1 ≤ rdf s R.huTest 27 16 → ∃ t, exec (.holdUpTestEnd v1 us) s = .next t ∧ t.gr.testing = false ∧ t.gr.testEnded = true ∧ t.gr.testV1 = v1 ∧
      t.gr.huTestN = true ∧ (t.gr.botCrossed = true ↔ v1 ≤ rdf s R.huTest 27 16) ∧ (t.gr.testGood = true ↔ s.gr.testV0 - v1 ≤ s.board.dvMax ∧ rdf s R.huTest 27 16 < v1) ∧ t.gr.dv = s.gr.testV0 - v1 ∧ t.gr.lastTest = s.ck.tb ∧
      t.gr.wtForced = s.gr.wtForced ∧ t = { s with gr := t.gr })) ∧
  (∀ s : State, (s.gr.testEnded = false ∨ elapsed s s.gr.lastTest 2000000000 = false → exec .holdUpTestResult s = .next s) ∧
    (s.gr.testEnded = true → elapsed s s.gr.lastTest 2000000000 = true → s.gr.testGood = true → ∃ t, exec .holdUpTestResult s = .next t ∧
      t.gr.health = .good ∧ t.gr.recorded = some true ∧ t.gr.wtForced = s.gr.testing ∧ t.gr.testEnded = false ∧ t.gr.testsFailed = s.gr.testsFailed ∧
      pending? t 365 = true ∧ t.pw = s.pw) ∧
    (s.gr.testEnded = true → elapsed s s.gr.lastTest 2000000000 = true → s.gr.testGood = false → ∃ t, exec .holdUpTestResult s = .next t ∧
      t.gr.health = .degraded ∧ t.gr.recorded = some false ∧ t.gr.wtForced = s.gr.testing ∧ t.gr.testEnded = false ∧ writeThrough t = true ∧
      pending? t 364 = true ∧ t.pw = s.pw)) ∧
  (∀ (s : State) (ms : Nat), (s.gr.mirEn = true → s.gr.mirLost = false → s.gr.mirOut ≠ [] → s.gr.mirTmo ≤ ms → ∃ t, exec (.mirrorPartnerLost ms) s = .next t ∧ t.gr.mirLost = true ∧
      pending? t 366 = true ∧ t.gr.mirPartner = s.gr.mirPartner) ∧
    (s.gr.mirEn = false ∨ s.gr.mirLost = true ∨ s.gr.mirOut = [] ∨ ms < s.gr.mirTmo → exec (.mirrorPartnerLost ms) s = .next s) ∧
    (s.gr.mirEn = true → s.gr.mirLost = true → ∃ t, exec .mirrorPartnerRestored s = .next t ∧ t.gr.mirLost = false ∧ pending? t 367 = true ∧
      (s.gr.mirPolicy = 0 → ∀ key z off u g, (key, z) ∈ s.ze.zones → (off, u) ∈ z.units → u.seg = some g → (tfind t.gr.mirLbas (pageOf s g key off)).isSome = true)) ∧
    (s.gr.mirEn = false ∨ s.gr.mirLost = false → exec .mirrorPartnerRestored s = .next s)) ∧
  (∀ (s : State) (node ms : Nat) (o : Owner), tfind s.pb.owners node = some o →
    (o.state = 0 ∨ o.state = 4 → Nat.max 1 (rdf s R.pbOrph 25 16) ≤ ms → ∃ t, exec (.ownerLost node ms) s = .next t ∧ pending? t 399 = true ∧ (∀ k, k ≠ node → tfind t.pb.owners k = tfind s.pb.owners k) ∧ t.ce = s.ce ∧ t.gr = s.gr ∧
      (o.jobBands ≠ [] → tfind t.pb.owners node = some { o with state := 2, lostTime := s.ck.tb } ∧ t.ze = s.ze) ∧
      (o.jobBands = [] → o.pages = [] → tfind t.pb.owners node = some { o with state := 3, lostTime := s.ck.tb } ∧ t.ze = s.ze) ∧
      (o.jobBands = [] → o.pages ≠ [] → ∀ bs, takeBands s (readyBands s (rdf s R.pbOrph 7 0)) o.pages.length = some bs →
        tfind t.pb.owners node = some { o with state := 2, lostTime := s.ck.tb, domFull := false, bands := o.bands ++ bs, job := o.pages.length, jobBands := bs }) ∧
      (o.jobBands = [] → o.pages ≠ [] → takeBands s (readyBands s (rdf s R.pbOrph 7 0)) o.pages.length = none →
        tfind t.pb.owners node = some { o with state := 1, lostTime := s.ck.tb, domFull := true } ∧ t.ze = s.ze)) ∧
    (o.state ≠ 0 ∧ o.state ≠ 4 ∨ ms < Nat.max 1 (rdf s R.pbOrph 25 16) → exec (.ownerLost node ms) s = .next s)) ∧
  (∀ s : State, (starting s = true → s.gr.recovered = false → s.board.mirSaved = true → s.gr.pulled = [] → exec .orphanPullTimeout s = .next { s with gr := { s.gr with pullDone := true } }) ∧
    (starting s = false ∨ s.gr.recovered = true ∨ s.board.mirSaved = false ∨ s.gr.pulled ≠ [] → exec .orphanPullTimeout s = .next s))

/-- Every status but success, 0x0/0x07 and 0x7/0xC7 freezes the I/O submission queue of its command, and none freezes an admin
queue. When a command's status is fixed, an I/O submission queue that is neither frozen nor being deleted is frozen exactly when
the status is not Success, 0x0/0x07 Command Abort Requested or 0x7/0xC7 Append Replayed; the command of an admin queue leaves
every submission queue as it is, whatever its status. (R97.) -/
def Obligations.FreezingStatuses : Prop :=
  (∀ (s : State) (c dw0 dw1 : Nat) (x : Ctx) (st : Status) (q : Sq), ctxOf s c = some x → x.tunnel = false → ctxFresh s x = true → x.st ≠ .completed →
    x.sqid ≠ 0 → sqOf s x.fn x.sqid = some q → q.deleting = none → q.frozen = none →
    ∃ r, sqOf (complete c st dw0 dw1 s) x.fn x.sqid = some r ∧
      (r.frozen.isSome = true ↔ st ≠ { sct := 0, sc := 0 } ∧ st ≠ { sct := 0, sc := 0x07 } ∧ st ≠ { sct := 7, sc := 0xC7 }) ∧
      (∀ k, k ≠ 65536 * x.fn + x.sqid → tfind (complete c st dw0 dw1 s).ce.sqs k = tfind s.ce.sqs k)) ∧
  (∀ (s : State) (c dw0 dw1 : Nat) (x : Ctx) (st : Status), ctxOf s c = some x → x.tunnel = false → ctxFresh s x = true → x.sqid = 0 →
    (complete c st dw0 dw1 s).ce.sqs = s.ce.sqs)

/-- The last 256 corrected DRAM accesses are remembered; an error in one of them has RECUR in its record; a chip reset clears
the list. A corrected DRAM access is put at the front of the list of remembered addresses, which keeps its newest 256; its
record, while the error FIFO has room, has RECUR exactly where its address was remembered already. POR and a chip warm reset
empty the list. (R359.) -/
def Obligations.CorrectedAddressesAreRemembered : Prop :=
  (∀ (s : State) (region : MemRegion) (a dev src : Nat),
    (memCorrected false region a dev src s).dm.recent = (a / 64 :: s.dm.recent).take 256 ∧
    (s.dm.fifo.length < 64 → ∃ r, (memCorrected false region a dev src s).dm.fifo = s.dm.fifo ++ [r] ∧ r.addr = a ∧ (r.recur = true ↔ a / 64 ∈ s.dm.recent))) ∧
  (∀ s : State, (por s).dm.recent = [] ∧ ∀ last, s.pw.mode ≠ mOff → (warmReset last s).dm.recent = [])

/-- Every command of the table has an effect in every state: none faults and none is refused. In every state every command of
the table answers a next state: this model stops on no command. (00_scope.md R1 to R13; 14_control.md R384 to R394.) -/
def Obligations.EveryCommandRuns : Prop :=
  ∀ (c : Instr) (s : State), Safety.Runs c s
end

