-- ==== Sys2Proof/Laws/State.lean ====
section
/-! SUPPORT. What each change of one part of the state leaves and gives, field by field. -/

namespace Sys2Proof.Machine

/-! ### onRf -/

@[simp] theorem onRf_pending (f : RegFile → RegFile) (s : State) : (onRf f s).pending = s.pending := rfl
@[simp] theorem onRf_free (f : RegFile → RegFile) (s : State) : (onRf f s).free = s.free := rfl
@[simp] theorem onRf_rf (f : RegFile → RegFile) (s : State) : (onRf f s).rf = f s.rf := rfl
@[simp] theorem onRf_ce (f : RegFile → RegFile) (s : State) : (onRf f s).ce = s.ce := rfl
@[simp] theorem onRf_ze (f : RegFile → RegFile) (s : State) : (onRf f s).ze = s.ze := rfl
@[simp] theorem onRf_ci (f : RegFile → RegFile) (s : State) : (onRf f s).ci = s.ci := rfl
@[simp] theorem onRf_fl (f : RegFile → RegFile) (s : State) : (onRf f s).fl = s.fl := rfl
@[simp] theorem onRf_gr (f : RegFile → RegFile) (s : State) : (onRf f s).gr = s.gr := rfl
@[simp] theorem onRf_pb (f : RegFile → RegFile) (s : State) : (onRf f s).pb = s.pb := rfl
@[simp] theorem onRf_dm (f : RegFile → RegFile) (s : State) : (onRf f s).dm = s.dm := rfl
@[simp] theorem onRf_lr (f : RegFile → RegFile) (s : State) : (onRf f s).lr = s.lr := rfl
@[simp] theorem onRf_ctl (f : RegFile → RegFile) (s : State) : (onRf f s).ctl = s.ctl := rfl
@[simp] theorem onRf_ck (f : RegFile → RegFile) (s : State) : (onRf f s).ck = s.ck := rfl
@[simp] theorem onRf_pw (f : RegFile → RegFile) (s : State) : (onRf f s).pw = s.pw := rfl
@[simp] theorem onRf_att (f : RegFile → RegFile) (s : State) : (onRf f s).att = s.att := rfl
@[simp] theorem onRf_rs (f : RegFile → RegFile) (s : State) : (onRf f s).rs = s.rs := rfl
@[simp] theorem onRf_board (f : RegFile → RegFile) (s : State) : (onRf f s).board = s.board := rfl

/-! ### onCe -/

@[simp] theorem onCe_pending (f : Engine → Engine) (s : State) : (onCe f s).pending = s.pending := rfl
@[simp] theorem onCe_free (f : Engine → Engine) (s : State) : (onCe f s).free = s.free := rfl
@[simp] theorem onCe_rf (f : Engine → Engine) (s : State) : (onCe f s).rf = s.rf := rfl
@[simp] theorem onCe_ce (f : Engine → Engine) (s : State) : (onCe f s).ce = f s.ce := rfl
@[simp] theorem onCe_ze (f : Engine → Engine) (s : State) : (onCe f s).ze = s.ze := rfl
@[simp] theorem onCe_ci (f : Engine → Engine) (s : State) : (onCe f s).ci = s.ci := rfl
@[simp] theorem onCe_fl (f : Engine → Engine) (s : State) : (onCe f s).fl = s.fl := rfl
@[simp] theorem onCe_gr (f : Engine → Engine) (s : State) : (onCe f s).gr = s.gr := rfl
@[simp] theorem onCe_pb (f : Engine → Engine) (s : State) : (onCe f s).pb = s.pb := rfl
@[simp] theorem onCe_dm (f : Engine → Engine) (s : State) : (onCe f s).dm = s.dm := rfl
@[simp] theorem onCe_lr (f : Engine → Engine) (s : State) : (onCe f s).lr = s.lr := rfl
@[simp] theorem onCe_ctl (f : Engine → Engine) (s : State) : (onCe f s).ctl = s.ctl := rfl
@[simp] theorem onCe_ck (f : Engine → Engine) (s : State) : (onCe f s).ck = s.ck := rfl
@[simp] theorem onCe_pw (f : Engine → Engine) (s : State) : (onCe f s).pw = s.pw := rfl
@[simp] theorem onCe_att (f : Engine → Engine) (s : State) : (onCe f s).att = s.att := rfl
@[simp] theorem onCe_rs (f : Engine → Engine) (s : State) : (onCe f s).rs = s.rs := rfl
@[simp] theorem onCe_board (f : Engine → Engine) (s : State) : (onCe f s).board = s.board := rfl

/-! ### onZe -/

@[simp] theorem onZe_pending (f : ZoneEngine → ZoneEngine) (s : State) : (onZe f s).pending = s.pending := rfl
@[simp] theorem onZe_free (f : ZoneEngine → ZoneEngine) (s : State) : (onZe f s).free = s.free := rfl
@[simp] theorem onZe_rf (f : ZoneEngine → ZoneEngine) (s : State) : (onZe f s).rf = s.rf := rfl
@[simp] theorem onZe_ce (f : ZoneEngine → ZoneEngine) (s : State) : (onZe f s).ce = s.ce := rfl
@[simp] theorem onZe_ze (f : ZoneEngine → ZoneEngine) (s : State) : (onZe f s).ze = f s.ze := rfl
@[simp] theorem onZe_ci (f : ZoneEngine → ZoneEngine) (s : State) : (onZe f s).ci = s.ci := rfl
@[simp] theorem onZe_fl (f : ZoneEngine → ZoneEngine) (s : State) : (onZe f s).fl = s.fl := rfl
@[simp] theorem onZe_gr (f : ZoneEngine → ZoneEngine) (s : State) : (onZe f s).gr = s.gr := rfl
@[simp] theorem onZe_pb (f : ZoneEngine → ZoneEngine) (s : State) : (onZe f s).pb = s.pb := rfl
@[simp] theorem onZe_dm (f : ZoneEngine → ZoneEngine) (s : State) : (onZe f s).dm = s.dm := rfl
@[simp] theorem onZe_lr (f : ZoneEngine → ZoneEngine) (s : State) : (onZe f s).lr = s.lr := rfl
@[simp] theorem onZe_ctl (f : ZoneEngine → ZoneEngine) (s : State) : (onZe f s).ctl = s.ctl := rfl
@[simp] theorem onZe_ck (f : ZoneEngine → ZoneEngine) (s : State) : (onZe f s).ck = s.ck := rfl
@[simp] theorem onZe_pw (f : ZoneEngine → ZoneEngine) (s : State) : (onZe f s).pw = s.pw := rfl
@[simp] theorem onZe_att (f : ZoneEngine → ZoneEngine) (s : State) : (onZe f s).att = s.att := rfl
@[simp] theorem onZe_rs (f : ZoneEngine → ZoneEngine) (s : State) : (onZe f s).rs = s.rs := rfl
@[simp] theorem onZe_board (f : ZoneEngine → ZoneEngine) (s : State) : (onZe f s).board = s.board := rfl

/-! ### onCi -/

@[simp] theorem onCi_pending (f : Cipher → Cipher) (s : State) : (onCi f s).pending = s.pending := rfl
@[simp] theorem onCi_free (f : Cipher → Cipher) (s : State) : (onCi f s).free = s.free := rfl
@[simp] theorem onCi_rf (f : Cipher → Cipher) (s : State) : (onCi f s).rf = s.rf := rfl
@[simp] theorem onCi_ce (f : Cipher → Cipher) (s : State) : (onCi f s).ce = s.ce := rfl
@[simp] theorem onCi_ze (f : Cipher → Cipher) (s : State) : (onCi f s).ze = s.ze := rfl
@[simp] theorem onCi_ci (f : Cipher → Cipher) (s : State) : (onCi f s).ci = f s.ci := rfl
@[simp] theorem onCi_fl (f : Cipher → Cipher) (s : State) : (onCi f s).fl = s.fl := rfl
@[simp] theorem onCi_gr (f : Cipher → Cipher) (s : State) : (onCi f s).gr = s.gr := rfl
@[simp] theorem onCi_pb (f : Cipher → Cipher) (s : State) : (onCi f s).pb = s.pb := rfl
@[simp] theorem onCi_dm (f : Cipher → Cipher) (s : State) : (onCi f s).dm = s.dm := rfl
@[simp] theorem onCi_lr (f : Cipher → Cipher) (s : State) : (onCi f s).lr = s.lr := rfl
@[simp] theorem onCi_ctl (f : Cipher → Cipher) (s : State) : (onCi f s).ctl = s.ctl := rfl
@[simp] theorem onCi_ck (f : Cipher → Cipher) (s : State) : (onCi f s).ck = s.ck := rfl
@[simp] theorem onCi_pw (f : Cipher → Cipher) (s : State) : (onCi f s).pw = s.pw := rfl
@[simp] theorem onCi_att (f : Cipher → Cipher) (s : State) : (onCi f s).att = s.att := rfl
@[simp] theorem onCi_rs (f : Cipher → Cipher) (s : State) : (onCi f s).rs = s.rs := rfl
@[simp] theorem onCi_board (f : Cipher → Cipher) (s : State) : (onCi f s).board = s.board := rfl

/-! ### onFl -/

@[simp] theorem onFl_pending (f : Flash → Flash) (s : State) : (onFl f s).pending = s.pending := rfl
@[simp] theorem onFl_free (f : Flash → Flash) (s : State) : (onFl f s).free = s.free := rfl
@[simp] theorem onFl_rf (f : Flash → Flash) (s : State) : (onFl f s).rf = s.rf := rfl
@[simp] theorem onFl_ce (f : Flash → Flash) (s : State) : (onFl f s).ce = s.ce := rfl
@[simp] theorem onFl_ze (f : Flash → Flash) (s : State) : (onFl f s).ze = s.ze := rfl
@[simp] theorem onFl_ci (f : Flash → Flash) (s : State) : (onFl f s).ci = s.ci := rfl
@[simp] theorem onFl_fl (f : Flash → Flash) (s : State) : (onFl f s).fl = f s.fl := rfl
@[simp] theorem onFl_gr (f : Flash → Flash) (s : State) : (onFl f s).gr = s.gr := rfl
@[simp] theorem onFl_pb (f : Flash → Flash) (s : State) : (onFl f s).pb = s.pb := rfl
@[simp] theorem onFl_dm (f : Flash → Flash) (s : State) : (onFl f s).dm = s.dm := rfl
@[simp] theorem onFl_lr (f : Flash → Flash) (s : State) : (onFl f s).lr = s.lr := rfl
@[simp] theorem onFl_ctl (f : Flash → Flash) (s : State) : (onFl f s).ctl = s.ctl := rfl
@[simp] theorem onFl_ck (f : Flash → Flash) (s : State) : (onFl f s).ck = s.ck := rfl
@[simp] theorem onFl_pw (f : Flash → Flash) (s : State) : (onFl f s).pw = s.pw := rfl
@[simp] theorem onFl_att (f : Flash → Flash) (s : State) : (onFl f s).att = s.att := rfl
@[simp] theorem onFl_rs (f : Flash → Flash) (s : State) : (onFl f s).rs = s.rs := rfl
@[simp] theorem onFl_board (f : Flash → Flash) (s : State) : (onFl f s).board = s.board := rfl

/-! ### onGr -/

@[simp] theorem onGr_pending (f : Granary → Granary) (s : State) : (onGr f s).pending = s.pending := rfl
@[simp] theorem onGr_free (f : Granary → Granary) (s : State) : (onGr f s).free = s.free := rfl
@[simp] theorem onGr_rf (f : Granary → Granary) (s : State) : (onGr f s).rf = s.rf := rfl
@[simp] theorem onGr_ce (f : Granary → Granary) (s : State) : (onGr f s).ce = s.ce := rfl
@[simp] theorem onGr_ze (f : Granary → Granary) (s : State) : (onGr f s).ze = s.ze := rfl
@[simp] theorem onGr_ci (f : Granary → Granary) (s : State) : (onGr f s).ci = s.ci := rfl
@[simp] theorem onGr_fl (f : Granary → Granary) (s : State) : (onGr f s).fl = s.fl := rfl
@[simp] theorem onGr_gr (f : Granary → Granary) (s : State) : (onGr f s).gr = f s.gr := rfl
@[simp] theorem onGr_pb (f : Granary → Granary) (s : State) : (onGr f s).pb = s.pb := rfl
@[simp] theorem onGr_dm (f : Granary → Granary) (s : State) : (onGr f s).dm = s.dm := rfl
@[simp] theorem onGr_lr (f : Granary → Granary) (s : State) : (onGr f s).lr = s.lr := rfl
@[simp] theorem onGr_ctl (f : Granary → Granary) (s : State) : (onGr f s).ctl = s.ctl := rfl
@[simp] theorem onGr_ck (f : Granary → Granary) (s : State) : (onGr f s).ck = s.ck := rfl
@[simp] theorem onGr_pw (f : Granary → Granary) (s : State) : (onGr f s).pw = s.pw := rfl
@[simp] theorem onGr_att (f : Granary → Granary) (s : State) : (onGr f s).att = s.att := rfl
@[simp] theorem onGr_rs (f : Granary → Granary) (s : State) : (onGr f s).rs = s.rs := rfl
@[simp] theorem onGr_board (f : Granary → Granary) (s : State) : (onGr f s).board = s.board := rfl

/-! ### onPb -/

@[simp] theorem onPb_pending (f : Balwen → Balwen) (s : State) : (onPb f s).pending = s.pending := rfl
@[simp] theorem onPb_free (f : Balwen → Balwen) (s : State) : (onPb f s).free = s.free := rfl
@[simp] theorem onPb_rf (f : Balwen → Balwen) (s : State) : (onPb f s).rf = s.rf := rfl
@[simp] theorem onPb_ce (f : Balwen → Balwen) (s : State) : (onPb f s).ce = s.ce := rfl
@[simp] theorem onPb_ze (f : Balwen → Balwen) (s : State) : (onPb f s).ze = s.ze := rfl
@[simp] theorem onPb_ci (f : Balwen → Balwen) (s : State) : (onPb f s).ci = s.ci := rfl
@[simp] theorem onPb_fl (f : Balwen → Balwen) (s : State) : (onPb f s).fl = s.fl := rfl
@[simp] theorem onPb_gr (f : Balwen → Balwen) (s : State) : (onPb f s).gr = s.gr := rfl
@[simp] theorem onPb_pb (f : Balwen → Balwen) (s : State) : (onPb f s).pb = f s.pb := rfl
@[simp] theorem onPb_dm (f : Balwen → Balwen) (s : State) : (onPb f s).dm = s.dm := rfl
@[simp] theorem onPb_lr (f : Balwen → Balwen) (s : State) : (onPb f s).lr = s.lr := rfl
@[simp] theorem onPb_ctl (f : Balwen → Balwen) (s : State) : (onPb f s).ctl = s.ctl := rfl
@[simp] theorem onPb_ck (f : Balwen → Balwen) (s : State) : (onPb f s).ck = s.ck := rfl
@[simp] theorem onPb_pw (f : Balwen → Balwen) (s : State) : (onPb f s).pw = s.pw := rfl
@[simp] theorem onPb_att (f : Balwen → Balwen) (s : State) : (onPb f s).att = s.att := rfl
@[simp] theorem onPb_rs (f : Balwen → Balwen) (s : State) : (onPb f s).rs = s.rs := rfl
@[simp] theorem onPb_board (f : Balwen → Balwen) (s : State) : (onPb f s).board = s.board := rfl

/-! ### onDm -/

@[simp] theorem onDm_pending (f : Memory → Memory) (s : State) : (onDm f s).pending = s.pending := rfl
@[simp] theorem onDm_free (f : Memory → Memory) (s : State) : (onDm f s).free = s.free := rfl
@[simp] theorem onDm_rf (f : Memory → Memory) (s : State) : (onDm f s).rf = s.rf := rfl
@[simp] theorem onDm_ce (f : Memory → Memory) (s : State) : (onDm f s).ce = s.ce := rfl
@[simp] theorem onDm_ze (f : Memory → Memory) (s : State) : (onDm f s).ze = s.ze := rfl
@[simp] theorem onDm_ci (f : Memory → Memory) (s : State) : (onDm f s).ci = s.ci := rfl
@[simp] theorem onDm_fl (f : Memory → Memory) (s : State) : (onDm f s).fl = s.fl := rfl
@[simp] theorem onDm_gr (f : Memory → Memory) (s : State) : (onDm f s).gr = s.gr := rfl
@[simp] theorem onDm_pb (f : Memory → Memory) (s : State) : (onDm f s).pb = s.pb := rfl
@[simp] theorem onDm_dm (f : Memory → Memory) (s : State) : (onDm f s).dm = f s.dm := rfl
@[simp] theorem onDm_lr (f : Memory → Memory) (s : State) : (onDm f s).lr = s.lr := rfl
@[simp] theorem onDm_ctl (f : Memory → Memory) (s : State) : (onDm f s).ctl = s.ctl := rfl
@[simp] theorem onDm_ck (f : Memory → Memory) (s : State) : (onDm f s).ck = s.ck := rfl
@[simp] theorem onDm_pw (f : Memory → Memory) (s : State) : (onDm f s).pw = s.pw := rfl
@[simp] theorem onDm_att (f : Memory → Memory) (s : State) : (onDm f s).att = s.att := rfl
@[simp] theorem onDm_rs (f : Memory → Memory) (s : State) : (onDm f s).rs = s.rs := rfl
@[simp] theorem onDm_board (f : Memory → Memory) (s : State) : (onDm f s).board = s.board := rfl

/-! ### onLr -/

@[simp] theorem onLr_pending (f : Larder → Larder) (s : State) : (onLr f s).pending = s.pending := rfl
@[simp] theorem onLr_free (f : Larder → Larder) (s : State) : (onLr f s).free = s.free := rfl
@[simp] theorem onLr_rf (f : Larder → Larder) (s : State) : (onLr f s).rf = s.rf := rfl
@[simp] theorem onLr_ce (f : Larder → Larder) (s : State) : (onLr f s).ce = s.ce := rfl
@[simp] theorem onLr_ze (f : Larder → Larder) (s : State) : (onLr f s).ze = s.ze := rfl
@[simp] theorem onLr_ci (f : Larder → Larder) (s : State) : (onLr f s).ci = s.ci := rfl
@[simp] theorem onLr_fl (f : Larder → Larder) (s : State) : (onLr f s).fl = s.fl := rfl
@[simp] theorem onLr_gr (f : Larder → Larder) (s : State) : (onLr f s).gr = s.gr := rfl
@[simp] theorem onLr_pb (f : Larder → Larder) (s : State) : (onLr f s).pb = s.pb := rfl
@[simp] theorem onLr_dm (f : Larder → Larder) (s : State) : (onLr f s).dm = s.dm := rfl
@[simp] theorem onLr_lr (f : Larder → Larder) (s : State) : (onLr f s).lr = f s.lr := rfl
@[simp] theorem onLr_ctl (f : Larder → Larder) (s : State) : (onLr f s).ctl = s.ctl := rfl
@[simp] theorem onLr_ck (f : Larder → Larder) (s : State) : (onLr f s).ck = s.ck := rfl
@[simp] theorem onLr_pw (f : Larder → Larder) (s : State) : (onLr f s).pw = s.pw := rfl
@[simp] theorem onLr_att (f : Larder → Larder) (s : State) : (onLr f s).att = s.att := rfl
@[simp] theorem onLr_rs (f : Larder → Larder) (s : State) : (onLr f s).rs = s.rs := rfl
@[simp] theorem onLr_board (f : Larder → Larder) (s : State) : (onLr f s).board = s.board := rfl

/-! ### onCtl -/

@[simp] theorem onCtl_pending (f : Control → Control) (s : State) : (onCtl f s).pending = s.pending := rfl
@[simp] theorem onCtl_free (f : Control → Control) (s : State) : (onCtl f s).free = s.free := rfl
@[simp] theorem onCtl_rf (f : Control → Control) (s : State) : (onCtl f s).rf = s.rf := rfl
@[simp] theorem onCtl_ce (f : Control → Control) (s : State) : (onCtl f s).ce = s.ce := rfl
@[simp] theorem onCtl_ze (f : Control → Control) (s : State) : (onCtl f s).ze = s.ze := rfl
@[simp] theorem onCtl_ci (f : Control → Control) (s : State) : (onCtl f s).ci = s.ci := rfl
@[simp] theorem onCtl_fl (f : Control → Control) (s : State) : (onCtl f s).fl = s.fl := rfl
@[simp] theorem onCtl_gr (f : Control → Control) (s : State) : (onCtl f s).gr = s.gr := rfl
@[simp] theorem onCtl_pb (f : Control → Control) (s : State) : (onCtl f s).pb = s.pb := rfl
@[simp] theorem onCtl_dm (f : Control → Control) (s : State) : (onCtl f s).dm = s.dm := rfl
@[simp] theorem onCtl_lr (f : Control → Control) (s : State) : (onCtl f s).lr = s.lr := rfl
@[simp] theorem onCtl_ctl (f : Control → Control) (s : State) : (onCtl f s).ctl = f s.ctl := rfl
@[simp] theorem onCtl_ck (f : Control → Control) (s : State) : (onCtl f s).ck = s.ck := rfl
@[simp] theorem onCtl_pw (f : Control → Control) (s : State) : (onCtl f s).pw = s.pw := rfl
@[simp] theorem onCtl_att (f : Control → Control) (s : State) : (onCtl f s).att = s.att := rfl
@[simp] theorem onCtl_rs (f : Control → Control) (s : State) : (onCtl f s).rs = s.rs := rfl
@[simp] theorem onCtl_board (f : Control → Control) (s : State) : (onCtl f s).board = s.board := rfl

/-! ### onCk -/

@[simp] theorem onCk_pending (f : Clocks → Clocks) (s : State) : (onCk f s).pending = s.pending := rfl
@[simp] theorem onCk_free (f : Clocks → Clocks) (s : State) : (onCk f s).free = s.free := rfl
@[simp] theorem onCk_rf (f : Clocks → Clocks) (s : State) : (onCk f s).rf = s.rf := rfl
@[simp] theorem onCk_ce (f : Clocks → Clocks) (s : State) : (onCk f s).ce = s.ce := rfl
@[simp] theorem onCk_ze (f : Clocks → Clocks) (s : State) : (onCk f s).ze = s.ze := rfl
@[simp] theorem onCk_ci (f : Clocks → Clocks) (s : State) : (onCk f s).ci = s.ci := rfl
@[simp] theorem onCk_fl (f : Clocks → Clocks) (s : State) : (onCk f s).fl = s.fl := rfl
@[simp] theorem onCk_gr (f : Clocks → Clocks) (s : State) : (onCk f s).gr = s.gr := rfl
@[simp] theorem onCk_pb (f : Clocks → Clocks) (s : State) : (onCk f s).pb = s.pb := rfl
@[simp] theorem onCk_dm (f : Clocks → Clocks) (s : State) : (onCk f s).dm = s.dm := rfl
@[simp] theorem onCk_lr (f : Clocks → Clocks) (s : State) : (onCk f s).lr = s.lr := rfl
@[simp] theorem onCk_ctl (f : Clocks → Clocks) (s : State) : (onCk f s).ctl = s.ctl := rfl
@[simp] theorem onCk_ck (f : Clocks → Clocks) (s : State) : (onCk f s).ck = f s.ck := rfl
@[simp] theorem onCk_pw (f : Clocks → Clocks) (s : State) : (onCk f s).pw = s.pw := rfl
@[simp] theorem onCk_att (f : Clocks → Clocks) (s : State) : (onCk f s).att = s.att := rfl
@[simp] theorem onCk_rs (f : Clocks → Clocks) (s : State) : (onCk f s).rs = s.rs := rfl
@[simp] theorem onCk_board (f : Clocks → Clocks) (s : State) : (onCk f s).board = s.board := rfl

/-! ### onPw -/

@[simp] theorem onPw_pending (f : Power → Power) (s : State) : (onPw f s).pending = s.pending := rfl
@[simp] theorem onPw_free (f : Power → Power) (s : State) : (onPw f s).free = s.free := rfl
@[simp] theorem onPw_rf (f : Power → Power) (s : State) : (onPw f s).rf = s.rf := rfl
@[simp] theorem onPw_ce (f : Power → Power) (s : State) : (onPw f s).ce = s.ce := rfl
@[simp] theorem onPw_ze (f : Power → Power) (s : State) : (onPw f s).ze = s.ze := rfl
@[simp] theorem onPw_ci (f : Power → Power) (s : State) : (onPw f s).ci = s.ci := rfl
@[simp] theorem onPw_fl (f : Power → Power) (s : State) : (onPw f s).fl = s.fl := rfl
@[simp] theorem onPw_gr (f : Power → Power) (s : State) : (onPw f s).gr = s.gr := rfl
@[simp] theorem onPw_pb (f : Power → Power) (s : State) : (onPw f s).pb = s.pb := rfl
@[simp] theorem onPw_dm (f : Power → Power) (s : State) : (onPw f s).dm = s.dm := rfl
@[simp] theorem onPw_lr (f : Power → Power) (s : State) : (onPw f s).lr = s.lr := rfl
@[simp] theorem onPw_ctl (f : Power → Power) (s : State) : (onPw f s).ctl = s.ctl := rfl
@[simp] theorem onPw_ck (f : Power → Power) (s : State) : (onPw f s).ck = s.ck := rfl
@[simp] theorem onPw_pw (f : Power → Power) (s : State) : (onPw f s).pw = f s.pw := rfl
@[simp] theorem onPw_att (f : Power → Power) (s : State) : (onPw f s).att = s.att := rfl
@[simp] theorem onPw_rs (f : Power → Power) (s : State) : (onPw f s).rs = s.rs := rfl
@[simp] theorem onPw_board (f : Power → Power) (s : State) : (onPw f s).board = s.board := rfl

/-! ### onAtt -/

@[simp] theorem onAtt_pending (f : Attic → Attic) (s : State) : (onAtt f s).pending = s.pending := rfl
@[simp] theorem onAtt_free (f : Attic → Attic) (s : State) : (onAtt f s).free = s.free := rfl
@[simp] theorem onAtt_rf (f : Attic → Attic) (s : State) : (onAtt f s).rf = s.rf := rfl
@[simp] theorem onAtt_ce (f : Attic → Attic) (s : State) : (onAtt f s).ce = s.ce := rfl
@[simp] theorem onAtt_ze (f : Attic → Attic) (s : State) : (onAtt f s).ze = s.ze := rfl
@[simp] theorem onAtt_ci (f : Attic → Attic) (s : State) : (onAtt f s).ci = s.ci := rfl
@[simp] theorem onAtt_fl (f : Attic → Attic) (s : State) : (onAtt f s).fl = s.fl := rfl
@[simp] theorem onAtt_gr (f : Attic → Attic) (s : State) : (onAtt f s).gr = s.gr := rfl
@[simp] theorem onAtt_pb (f : Attic → Attic) (s : State) : (onAtt f s).pb = s.pb := rfl
@[simp] theorem onAtt_dm (f : Attic → Attic) (s : State) : (onAtt f s).dm = s.dm := rfl
@[simp] theorem onAtt_lr (f : Attic → Attic) (s : State) : (onAtt f s).lr = s.lr := rfl
@[simp] theorem onAtt_ctl (f : Attic → Attic) (s : State) : (onAtt f s).ctl = s.ctl := rfl
@[simp] theorem onAtt_ck (f : Attic → Attic) (s : State) : (onAtt f s).ck = s.ck := rfl
@[simp] theorem onAtt_pw (f : Attic → Attic) (s : State) : (onAtt f s).pw = s.pw := rfl
@[simp] theorem onAtt_att (f : Attic → Attic) (s : State) : (onAtt f s).att = f s.att := rfl
@[simp] theorem onAtt_rs (f : Attic → Attic) (s : State) : (onAtt f s).rs = s.rs := rfl
@[simp] theorem onAtt_board (f : Attic → Attic) (s : State) : (onAtt f s).board = s.board := rfl

/-! ### onRs -/

@[simp] theorem onRs_pending (f : Resets → Resets) (s : State) : (onRs f s).pending = s.pending := rfl
@[simp] theorem onRs_free (f : Resets → Resets) (s : State) : (onRs f s).free = s.free := rfl
@[simp] theorem onRs_rf (f : Resets → Resets) (s : State) : (onRs f s).rf = s.rf := rfl
@[simp] theorem onRs_ce (f : Resets → Resets) (s : State) : (onRs f s).ce = s.ce := rfl
@[simp] theorem onRs_ze (f : Resets → Resets) (s : State) : (onRs f s).ze = s.ze := rfl
@[simp] theorem onRs_ci (f : Resets → Resets) (s : State) : (onRs f s).ci = s.ci := rfl
@[simp] theorem onRs_fl (f : Resets → Resets) (s : State) : (onRs f s).fl = s.fl := rfl
@[simp] theorem onRs_gr (f : Resets → Resets) (s : State) : (onRs f s).gr = s.gr := rfl
@[simp] theorem onRs_pb (f : Resets → Resets) (s : State) : (onRs f s).pb = s.pb := rfl
@[simp] theorem onRs_dm (f : Resets → Resets) (s : State) : (onRs f s).dm = s.dm := rfl
@[simp] theorem onRs_lr (f : Resets → Resets) (s : State) : (onRs f s).lr = s.lr := rfl
@[simp] theorem onRs_ctl (f : Resets → Resets) (s : State) : (onRs f s).ctl = s.ctl := rfl
@[simp] theorem onRs_ck (f : Resets → Resets) (s : State) : (onRs f s).ck = s.ck := rfl
@[simp] theorem onRs_pw (f : Resets → Resets) (s : State) : (onRs f s).pw = s.pw := rfl
@[simp] theorem onRs_att (f : Resets → Resets) (s : State) : (onRs f s).att = s.att := rfl
@[simp] theorem onRs_rs (f : Resets → Resets) (s : State) : (onRs f s).rs = f s.rs := rfl
@[simp] theorem onRs_board (f : Resets → Resets) (s : State) : (onRs f s).board = s.board := rfl

/-! ### onBoard -/

@[simp] theorem onBoard_pending (f : Board → Board) (s : State) : (onBoard f s).pending = s.pending := rfl
@[simp] theorem onBoard_free (f : Board → Board) (s : State) : (onBoard f s).free = s.free := rfl
@[simp] theorem onBoard_rf (f : Board → Board) (s : State) : (onBoard f s).rf = s.rf := rfl
@[simp] theorem onBoard_ce (f : Board → Board) (s : State) : (onBoard f s).ce = s.ce := rfl
@[simp] theorem onBoard_ze (f : Board → Board) (s : State) : (onBoard f s).ze = s.ze := rfl
@[simp] theorem onBoard_ci (f : Board → Board) (s : State) : (onBoard f s).ci = s.ci := rfl
@[simp] theorem onBoard_fl (f : Board → Board) (s : State) : (onBoard f s).fl = s.fl := rfl
@[simp] theorem onBoard_gr (f : Board → Board) (s : State) : (onBoard f s).gr = s.gr := rfl
@[simp] theorem onBoard_pb (f : Board → Board) (s : State) : (onBoard f s).pb = s.pb := rfl
@[simp] theorem onBoard_dm (f : Board → Board) (s : State) : (onBoard f s).dm = s.dm := rfl
@[simp] theorem onBoard_lr (f : Board → Board) (s : State) : (onBoard f s).lr = s.lr := rfl
@[simp] theorem onBoard_ctl (f : Board → Board) (s : State) : (onBoard f s).ctl = s.ctl := rfl
@[simp] theorem onBoard_ck (f : Board → Board) (s : State) : (onBoard f s).ck = s.ck := rfl
@[simp] theorem onBoard_pw (f : Board → Board) (s : State) : (onBoard f s).pw = s.pw := rfl
@[simp] theorem onBoard_att (f : Board → Board) (s : State) : (onBoard f s).att = s.att := rfl
@[simp] theorem onBoard_rs (f : Board → Board) (s : State) : (onBoard f s).rs = s.rs := rfl
@[simp] theorem onBoard_board (f : Board → Board) (s : State) : (onBoard f s).board = f s.board := rfl

/-! ### Free values -/

@[simp] theorem tookFree_pending (s : State) : (tookFree s).pending = s.pending := rfl
@[simp] theorem tookFree_free (s : State) : (tookFree s).free = s.free + 1 := rfl
@[simp] theorem tookFree_rf (s : State) : (tookFree s).rf = s.rf := rfl
@[simp] theorem tookFree_ce (s : State) : (tookFree s).ce = s.ce := rfl
@[simp] theorem tookFree_ze (s : State) : (tookFree s).ze = s.ze := rfl
@[simp] theorem tookFree_ci (s : State) : (tookFree s).ci = s.ci := rfl
@[simp] theorem tookFree_fl (s : State) : (tookFree s).fl = s.fl := rfl
@[simp] theorem tookFree_gr (s : State) : (tookFree s).gr = s.gr := rfl
@[simp] theorem tookFree_pb (s : State) : (tookFree s).pb = s.pb := rfl
@[simp] theorem tookFree_dm (s : State) : (tookFree s).dm = s.dm := rfl
@[simp] theorem tookFree_lr (s : State) : (tookFree s).lr = s.lr := rfl
@[simp] theorem tookFree_ctl (s : State) : (tookFree s).ctl = s.ctl := rfl
@[simp] theorem tookFree_ck (s : State) : (tookFree s).ck = s.ck := rfl
@[simp] theorem tookFree_pw (s : State) : (tookFree s).pw = s.pw := rfl
@[simp] theorem tookFree_att (s : State) : (tookFree s).att = s.att := rfl
@[simp] theorem tookFree_rs (s : State) : (tookFree s).rs = s.rs := rfl
@[simp] theorem tookFree_board (s : State) : (tookFree s).board = s.board := rfl

/-! ### Conditional and repeated changes -/

@[simp] theorem onlyIf_true (f : State → State) (s : State) : onlyIf true f s = f s := rfl
@[simp] theorem onlyIf_false (f : State → State) (s : State) : onlyIf false f s = s := rfl
@[simp] theorem forEach_nil {α : Type} (f : α → State → State) (s : State) : forEach [] f s = s := rfl
@[simp] theorem forEach_cons {α : Type} (a : α) (l : List α) (f : α → State → State) (s : State) :
    forEach (a :: l) f s = forEach l f (f a s) := rfl
@[simp] theorem whenSome_none {α : Type} (f : α → State → State) (s : State) : whenSome none f s = s := rfl
@[simp] theorem whenSome_some {α : Type} (a : α) (f : α → State → State) (s : State) : whenSome (some a) f s = f a s := rfl

/-- What every change in a condition keeps, the conditional change keeps. -/
theorem onlyIf_keeps {β : Type} (g : State → β) (b : Bool) (f : State → State) (s : State) (h : ∀ t, g (f t) = g t) :
    g (onlyIf b f s) = g s := by
  cases b
  · rfl
  · exact h s

/-- What a change made for every element keeps each time, the repeated change keeps. -/
theorem forEach_keeps {α β : Type} (g : State → β) (f : α → State → State) (h : ∀ a t, g (f a t) = g t) (l : List α) :
    ∀ s, g (forEach l f s) = g s := by
  induction l with
  | nil => intro s; rfl
  | cons a l ih => intro s; rw [forEach_cons, ih, h]

/-- What a change made for a present value keeps, the change by an option keeps. -/
theorem whenSome_keeps {α β : Type} (g : State → β) (f : α → State → State) (h : ∀ a t, g (f a t) = g t) (o : Option α)
    (s : State) : g (whenSome o f s) = g s := by
  cases o
  · rfl
  · exact h _ s

end Sys2Proof.Machine
end

