-- ==== Sys2Proof/Laws/Table.lean ====
section
/-! SUPPORT. Reads after changes of the sparse tables, and the order of their keys. -/

namespace Sys2Proof.Machine

variable {α : Type}

@[simp] theorem tfind_nil (k : Nat) : tfind ([] : List (Nat × α)) k = none := rfl

theorem tfind_tdel_same (k : Nat) (t : List (Nat × α)) : tfind (tdel k t) k = none := by
  induction t with
  | nil => rfl
  | cons p r ih =>
    obtain ⟨j, v⟩ := p
    by_cases h : j = k
    · simpa [tdel, h] using ih
    · simpa [tdel, h, tfind] using ih

theorem tfind_tdel_other {j k : Nat} (h : j ≠ k) (t : List (Nat × α)) : tfind (tdel k t) j = tfind t j := by
  induction t with
  | nil => rfl
  | cons p r ih =>
    obtain ⟨i, v⟩ := p
    by_cases hi : i = k
    · subst hi
      have : tfind ((i, v) :: r) j = tfind r j := by simp [tfind, Ne.symm h]
      rw [this, ← ih]
      simp [tdel]
    · by_cases hj : i = j
      · subst hj
        simp [tdel, hi, tfind]
      · simpa [tdel, hi, tfind, hj] using ih

theorem tfind_tins_same (k : Nat) (v : α) (t : List (Nat × α)) (h : tfind t k = none) : tfind (tins k v t) k = some v := by
  induction t with
  | nil => simp [tins, tfind]
  | cons p r ih =>
    obtain ⟨j, w⟩ := p
    have hj : j ≠ k := by
      intro e; simp [tfind, e] at h
    have hr : tfind r k = none := by simpa [tfind, hj] using h
    by_cases hl : j < k
    · simp [tins, hl, tfind, hj, ih hr]
    · simp [tins, hl, tfind]

theorem tfind_tins_other {j k : Nat} (h : j ≠ k) (v : α) (t : List (Nat × α)) : tfind (tins k v t) j = tfind t j := by
  induction t with
  | nil => simp [tins, tfind, Ne.symm h]
  | cons p r ih =>
    obtain ⟨i, w⟩ := p
    by_cases hl : i < k
    · by_cases hi : i = j
      · subst hi
        simp [tins, hl, tfind]
      · simp [tins, hl, tfind, hi, ih]
    · simp [tins, hl, tfind, Ne.symm h]

/-- A set entry is found. -/
@[simp] theorem tfind_tset_same (k : Nat) (v : α) (t : List (Nat × α)) : tfind (tset k v t) k = some v :=
  tfind_tins_same k v _ (tfind_tdel_same k t)

/-- Setting one entry leaves the others. -/
theorem tfind_tset_other {j k : Nat} (h : j ≠ k) (v : α) (t : List (Nat × α)) : tfind (tset k v t) j = tfind t j := by
  rw [tset, tfind_tins_other h, tfind_tdel_other h]

/-- A value put is read. -/
@[simp] theorem tget_tput_same [DecidableEq α] (d : α) (k : Nat) (v : α) (t : List (Nat × α)) : tget d (tput d k v t) k = v := by
  unfold tput tget
  split
  · next h => rw [tfind_tdel_same]; exact h.symm
  · simp

/-- Putting one value leaves the others. -/
theorem tget_tput_other [DecidableEq α] {j k : Nat} (h : j ≠ k) (d v : α) (t : List (Nat × α)) :
    tget d (tput d k v t) j = tget d t j := by
  unfold tput tget
  split
  · rw [tfind_tdel_other h]
  · rw [tfind_tset_other h]

@[simp] theorem tget_tmod_same [DecidableEq α] (d : α) (k : Nat) (f : α → α) (t : List (Nat × α)) :
    tget d (tmod d k f t) k = f (tget d t k) := by simp [tmod]

theorem tget_tmod_other [DecidableEq α] {j k : Nat} (h : j ≠ k) (d : α) (f : α → α) (t : List (Nat × α)) :
    tget d (tmod d k f t) j = tget d t j := tget_tput_other h d _ t

/-- An altered entry, where one is listed. -/
theorem tfind_talter_same (k : Nat) (f : α → α) (t : List (Nat × α)) : tfind (talter k f t) k = (tfind t k).map f := by
  unfold talter
  split
  · next h => simp [h]
  · next v h => simp [h]

theorem tfind_talter_other {j k : Nat} (h : j ≠ k) (f : α → α) (t : List (Nat × α)) : tfind (talter k f t) j = tfind t j := by
  unfold talter
  split
  · rfl
  · exact tfind_tset_other h _ t

/-- Where a table lists a key, its entry is found in the mapped table changed. -/
theorem tfind_tmap (f : Nat → α → α) (t : List (Nat × α)) (k : Nat) : tfind (tmap f t) k = (tfind t k).map (f k) := by
  induction t with
  | nil => rfl
  | cons p r ih =>
    obtain ⟨j, v⟩ := p
    by_cases h : j = k
    · simp [tmap, tfind, h]
    · simpa [tmap, tfind, h] using ih

/-! ### Order of keys -/

/-- The keys of a table rise strictly. -/
def trise (t : List (Nat × α)) : Prop := t.Pairwise (fun a b => a.1 < b.1)

theorem trise_tdel (k : Nat) (t : List (Nat × α)) (h : trise t) : trise (tdel k t) := h.filter _

theorem mem_tins {k : Nat} {v : α} {t : List (Nat × α)} {p : Nat × α} (h : p ∈ tins k v t) : p = (k, v) ∨ p ∈ t := by
  induction t with
  | nil => simpa [tins] using h
  | cons q r ih =>
    obtain ⟨j, w⟩ := q
    by_cases hl : j < k
    · simp only [tins, hl, if_true, List.mem_cons] at h
      rcases h with h | h
      · exact .inr (by simp [h])
      · rcases ih h with h | h
        · exact .inl h
        · exact .inr (by simp [h])
    · simpa [tins, hl] using h

theorem trise_tins (k : Nat) (v : α) (t : List (Nat × α)) (h : trise t) (hk : ∀ p ∈ t, p.1 ≠ k) : trise (tins k v t) := by
  induction t with
  | nil => simp [tins, trise]
  | cons q r ih =>
    obtain ⟨j, w⟩ := q
    have h' := List.pairwise_cons.1 h
    have hr : trise (tins k v r) := ih h'.2 (fun p hp => hk p (by simp [hp]))
    by_cases hl : j < k
    · simp only [tins, hl, if_true]
      refine List.pairwise_cons.2 ⟨?_, hr⟩
      intro p hp
      rcases mem_tins hp with e | e
      · simp [e, hl]
      · exact h'.1 p e
    · simp only [tins, hl, if_false]
      refine List.pairwise_cons.2 ⟨?_, h⟩
      intro p hp
      have hjk : j ≠ k := hk (j, w) (by simp)
      simp only [List.mem_cons] at hp
      rcases hp with e | e
      · simp only [e]; omega
      · have := h'.1 p e; simp only at this ⊢; omega

/-- Setting an entry keeps the keys rising. -/
theorem trise_tset (k : Nat) (v : α) (t : List (Nat × α)) (h : trise t) : trise (tset k v t) := by
  refine trise_tins k v _ (trise_tdel k t h) ?_
  intro p hp
  simp only [tdel, List.mem_filter] at hp
  simpa using hp.2

/-- Putting a value keeps the keys rising. -/
theorem trise_tput [DecidableEq α] (d : α) (k : Nat) (v : α) (t : List (Nat × α)) (h : trise t) : trise (tput d k v t) := by
  unfold tput
  split
  · exact trise_tdel k t h
  · exact trise_tset k v t h

end Sys2Proof.Machine
end

