-- ==== Sys2Proof/Laws/Ops.lean ====
section
/-! SUPPORT. What the shared operations do: register values stored and read, counters, events, and accesses to registers. -/

namespace Sys2Proof.Machine

/-! ### Bits -/

/-- A field stored is read, cut to its width. -/
theorem bits_setBits_same (v hi lo x : Nat) : bits (setBits v hi lo x) hi lo = x % 2 ^ (hi + 1 - lo) := by
  unfold bits setBits bits
  set n := hi + 1 - lo
  have hp : 0 < 2 ^ lo := Nat.two_pow_pos lo
  have hn : 0 < 2 ^ n := Nat.two_pow_pos n
  have hle : v / 2 ^ lo % 2 ^ n * 2 ^ lo ≤ v :=
    le_trans (Nat.mul_le_mul_right _ (Nat.mod_le _ _)) (Nat.div_mul_le_self v (2 ^ lo))
  have hq : v - v / 2 ^ lo % 2 ^ n * 2 ^ lo = v % 2 ^ lo + (v / 2 ^ lo / 2 ^ n * 2 ^ n) * 2 ^ lo := by
    have h1 := Nat.div_add_mod v (2 ^ lo)
    have h2 := Nat.div_add_mod (v / 2 ^ lo) (2 ^ n)
    have h3 : v = v % 2 ^ lo + (v / 2 ^ lo / 2 ^ n * 2 ^ n) * 2 ^ lo + v / 2 ^ lo % 2 ^ n * 2 ^ lo := by
      calc v = 2 ^ lo * (v / 2 ^ lo) + v % 2 ^ lo := h1.symm
        _ = 2 ^ lo * (2 ^ n * (v / 2 ^ lo / 2 ^ n) + v / 2 ^ lo % 2 ^ n) + v % 2 ^ lo := by rw [h2]
        _ = _ := by ring
    omega
  rw [hq, add_assoc, ← add_mul, Nat.add_mul_div_right _ _ hp, Nat.div_eq_of_lt (Nat.mod_lt _ hp), zero_add,
    Nat.add_comm, Nat.add_mul_mod_self_right, Nat.mod_mod]

/-! ### Stored values -/

@[simp] theorem rd_wr_same (r : Ref) (v : Nat) (s : State) : rd (wr r v s) r = v := by simp [rd, wr]

/-- A register stored leaves those at other addresses. -/
theorem rd_wr_other {r q : Ref} (h : q.addr ≠ r.addr) (v : Nat) (s : State) : rd (wr r v s) q = rd s q := by
  simp only [rd, wr, onRf_rf]
  unfold tput tget
  split
  · rw [tfind_tdel_other h]
  · rw [tfind_tset_other h]

theorem rdf_wrf_same (r : Ref) (hi lo x : Nat) (s : State) : rdf (wrf r hi lo x s) r hi lo = x % 2 ^ (hi + 1 - lo) := by
  simp [rdf, wrf, bits_setBits_same]

/-- A stored register changes nothing outside the register file's stored values. -/
theorem wr_eq (r : Ref) (v : Nat) (s : State) : wr r v s = { s with rf := { s.rf with regs := tput r.rst r.addr v s.rf.regs } } := rfl

theorem wrb_eq (r : Ref) (i : Nat) (b : Bool) (s : State) : wrb r i b s = wr r (setBits (rd s r) i i b.toNat) s := rfl

/-! ### Counters (R405) -/

/-- A counter advanced changes the register file's stored values only. -/
theorem count_only_regs (cnt ovf : Ref) (i n : Nat) (s : State) : ∃ regs, count cnt ovf i n s = { s with rf := { s.rf with regs := regs } } := by
  simp only [count]
  split
  · exact ⟨_, rfl⟩
  · exact ⟨_, rfl⟩

/-- Below its limit a counter goes up by what it counts. -/
theorem rd_count (cnt ovf : Ref) (i n : Nat) (s : State) (h : rd s cnt + n < 18446744073709551616) :
    rd (count cnt ovf i n s) cnt = rd s cnt + n := by simp [count, h]

/-! ### Events (R401, R467) -/

/-- All that an event can do: stored register values and the recorder. -/
theorem raiseCode_only (src : Nat) (code : Option Nat) (sev : Nat) (ps : List Nat) (s : State) :
    ∃ regs rec', raiseCode src code sev ps s = { s with rf := { s.rf with regs := regs }, att := { s.att with evrec := rec' } } := by
  simp only [raiseCode]
  split
  · exact ⟨s.rf.regs, s.att.evrec, rfl⟩
  split
  · split
    · split
      · exact ⟨_, _, rfl⟩
      · exact ⟨_, _, rfl⟩
    · exact ⟨_, _, rfl⟩
  · exact ⟨_, s.att.evrec, rfl⟩

theorem raise_only (src sev : Nat) (ps : List Nat) (s : State) :
    ∃ regs rec', raise src sev ps s = { s with rf := { s.rf with regs := regs }, att := { s.att with evrec := rec' } } :=
  raiseCode_only src none sev ps s

/-! ### Accesses (R13, R386, R394) -/

/-- All that a refused or failed access can do. -/
theorem accessEvent_only (m : Master) (addr : Nat) (write : Bool) (kind : Nat) (s : State) :
    ∃ regs rec', accessEvent m addr write kind s =
      { s with rf := { s.rf with regs := regs }, att := { s.att with evrec := rec' },
               ctl := { s.ctl with accAddr := addr, accClass := clsCode (masterCls m), accWrite := write, accKind := kind,
                                   accValid := true } } := by
  obtain ⟨regs, r, h⟩ := raise_only (if kind = 1 then 461 else 462) sevWarning (words64 addr ++ [clsCode (masterCls m), write.toNat])
    (onCtl (fun c => { c with accAddr := addr, accClass := clsCode (masterCls m), accWrite := write, accKind := kind, accValid := true }) s)
  exact ⟨regs, r, h⟩

/-- A write by a host or an engine is refused whole, whatever it carries (R386). -/
theorem accessReg_refused (m : Master) (d : RegD) (i j : Nat) (hi : Bool) (ref : Ref) (v : Nat) (act : Nat → State → State) (s : State)
    (h : masterCls m = .host ∨ masterCls m = .engine) (hs : masterSilent s m = false) :
    accessReg m d i j hi ref v act s = accessEvent m ((d.at i j).addr + (if hi then 4 else 0)) true 1 s := by
  rcases h with h | h <;> simp [accessReg, h, hs]

end Sys2Proof.Machine
end

