-- ==== Sys2Proof/Laws/Frames.lean ====
section
/-! SUPPORT. What stored registers, counters and events leave unchanged, field by field. -/

namespace Sys2Proof.Machine

/-! ### wr -/

@[simp] theorem wr_pending (r : Ref) (v : Nat) (s : State) : (wr r v s).pending = s.pending := rfl
@[simp] theorem wr_free (r : Ref) (v : Nat) (s : State) : (wr r v s).free = s.free := rfl
@[simp] theorem wr_ce (r : Ref) (v : Nat) (s : State) : (wr r v s).ce = s.ce := rfl
@[simp] theorem wr_ze (r : Ref) (v : Nat) (s : State) : (wr r v s).ze = s.ze := rfl
@[simp] theorem wr_ci (r : Ref) (v : Nat) (s : State) : (wr r v s).ci = s.ci := rfl
@[simp] theorem wr_fl (r : Ref) (v : Nat) (s : State) : (wr r v s).fl = s.fl := rfl
@[simp] theorem wr_gr (r : Ref) (v : Nat) (s : State) : (wr r v s).gr = s.gr := rfl
@[simp] theorem wr_pb (r : Ref) (v : Nat) (s : State) : (wr r v s).pb = s.pb := rfl
@[simp] theorem wr_dm (r : Ref) (v : Nat) (s : State) : (wr r v s).dm = s.dm := rfl
@[simp] theorem wr_lr (r : Ref) (v : Nat) (s : State) : (wr r v s).lr = s.lr := rfl
@[simp] theorem wr_ctl (r : Ref) (v : Nat) (s : State) : (wr r v s).ctl = s.ctl := rfl
@[simp] theorem wr_ck (r : Ref) (v : Nat) (s : State) : (wr r v s).ck = s.ck := rfl
@[simp] theorem wr_pw (r : Ref) (v : Nat) (s : State) : (wr r v s).pw = s.pw := rfl
@[simp] theorem wr_att (r : Ref) (v : Nat) (s : State) : (wr r v s).att = s.att := rfl
@[simp] theorem wr_rs (r : Ref) (v : Nat) (s : State) : (wr r v s).rs = s.rs := rfl
@[simp] theorem wr_board (r : Ref) (v : Nat) (s : State) : (wr r v s).board = s.board := rfl
@[simp] theorem wr_rf_stage (r : Ref) (v : Nat) (s : State) : (wr r v s).rf.stage = s.rf.stage := rfl
@[simp] theorem wr_rf_copies (r : Ref) (v : Nat) (s : State) : (wr r v s).rf.copies = s.rf.copies := rfl
@[simp] theorem wr_rf_voted (r : Ref) (v : Nat) (s : State) : (wr r v s).rf.voted = s.rf.voted := rfl

/-! ### wrf -/

@[simp] theorem wrf_pending (r : Ref) (hi lo x : Nat) (s : State) : (wrf r hi lo x s).pending = s.pending := rfl
@[simp] theorem wrf_free (r : Ref) (hi lo x : Nat) (s : State) : (wrf r hi lo x s).free = s.free := rfl
@[simp] theorem wrf_ce (r : Ref) (hi lo x : Nat) (s : State) : (wrf r hi lo x s).ce = s.ce := rfl
@[simp] theorem wrf_ze (r : Ref) (hi lo x : Nat) (s : State) : (wrf r hi lo x s).ze = s.ze := rfl
@[simp] theorem wrf_ci (r : Ref) (hi lo x : Nat) (s : State) : (wrf r hi lo x s).ci = s.ci := rfl
@[simp] theorem wrf_fl (r : Ref) (hi lo x : Nat) (s : State) : (wrf r hi lo x s).fl = s.fl := rfl
@[simp] theorem wrf_gr (r : Ref) (hi lo x : Nat) (s : State) : (wrf r hi lo x s).gr = s.gr := rfl
@[simp] theorem wrf_pb (r : Ref) (hi lo x : Nat) (s : State) : (wrf r hi lo x s).pb = s.pb := rfl
@[simp] theorem wrf_dm (r : Ref) (hi lo x : Nat) (s : State) : (wrf r hi lo x s).dm = s.dm := rfl
@[simp] theorem wrf_lr (r : Ref) (hi lo x : Nat) (s : State) : (wrf r hi lo x s).lr = s.lr := rfl
@[simp] theorem wrf_ctl (r : Ref) (hi lo x : Nat) (s : State) : (wrf r hi lo x s).ctl = s.ctl := rfl
@[simp] theorem wrf_ck (r : Ref) (hi lo x : Nat) (s : State) : (wrf r hi lo x s).ck = s.ck := rfl
@[simp] theorem wrf_pw (r : Ref) (hi lo x : Nat) (s : State) : (wrf r hi lo x s).pw = s.pw := rfl
@[simp] theorem wrf_att (r : Ref) (hi lo x : Nat) (s : State) : (wrf r hi lo x s).att = s.att := rfl
@[simp] theorem wrf_rs (r : Ref) (hi lo x : Nat) (s : State) : (wrf r hi lo x s).rs = s.rs := rfl
@[simp] theorem wrf_board (r : Ref) (hi lo x : Nat) (s : State) : (wrf r hi lo x s).board = s.board := rfl
@[simp] theorem wrf_rf_stage (r : Ref) (hi lo x : Nat) (s : State) : (wrf r hi lo x s).rf.stage = s.rf.stage := rfl
@[simp] theorem wrf_rf_copies (r : Ref) (hi lo x : Nat) (s : State) : (wrf r hi lo x s).rf.copies = s.rf.copies := rfl
@[simp] theorem wrf_rf_voted (r : Ref) (hi lo x : Nat) (s : State) : (wrf r hi lo x s).rf.voted = s.rf.voted := rfl

/-! ### wrb -/

@[simp] theorem wrb_pending (r : Ref) (i : Nat) (b : Bool) (s : State) : (wrb r i b s).pending = s.pending := rfl
@[simp] theorem wrb_free (r : Ref) (i : Nat) (b : Bool) (s : State) : (wrb r i b s).free = s.free := rfl
@[simp] theorem wrb_ce (r : Ref) (i : Nat) (b : Bool) (s : State) : (wrb r i b s).ce = s.ce := rfl
@[simp] theorem wrb_ze (r : Ref) (i : Nat) (b : Bool) (s : State) : (wrb r i b s).ze = s.ze := rfl
@[simp] theorem wrb_ci (r : Ref) (i : Nat) (b : Bool) (s : State) : (wrb r i b s).ci = s.ci := rfl
@[simp] theorem wrb_fl (r : Ref) (i : Nat) (b : Bool) (s : State) : (wrb r i b s).fl = s.fl := rfl
@[simp] theorem wrb_gr (r : Ref) (i : Nat) (b : Bool) (s : State) : (wrb r i b s).gr = s.gr := rfl
@[simp] theorem wrb_pb (r : Ref) (i : Nat) (b : Bool) (s : State) : (wrb r i b s).pb = s.pb := rfl
@[simp] theorem wrb_dm (r : Ref) (i : Nat) (b : Bool) (s : State) : (wrb r i b s).dm = s.dm := rfl
@[simp] theorem wrb_lr (r : Ref) (i : Nat) (b : Bool) (s : State) : (wrb r i b s).lr = s.lr := rfl
@[simp] theorem wrb_ctl (r : Ref) (i : Nat) (b : Bool) (s : State) : (wrb r i b s).ctl = s.ctl := rfl
@[simp] theorem wrb_ck (r : Ref) (i : Nat) (b : Bool) (s : State) : (wrb r i b s).ck = s.ck := rfl
@[simp] theorem wrb_pw (r : Ref) (i : Nat) (b : Bool) (s : State) : (wrb r i b s).pw = s.pw := rfl
@[simp] theorem wrb_att (r : Ref) (i : Nat) (b : Bool) (s : State) : (wrb r i b s).att = s.att := rfl
@[simp] theorem wrb_rs (r : Ref) (i : Nat) (b : Bool) (s : State) : (wrb r i b s).rs = s.rs := rfl
@[simp] theorem wrb_board (r : Ref) (i : Nat) (b : Bool) (s : State) : (wrb r i b s).board = s.board := rfl
@[simp] theorem wrb_rf_stage (r : Ref) (i : Nat) (b : Bool) (s : State) : (wrb r i b s).rf.stage = s.rf.stage := rfl
@[simp] theorem wrb_rf_copies (r : Ref) (i : Nat) (b : Bool) (s : State) : (wrb r i b s).rf.copies = s.rf.copies := rfl
@[simp] theorem wrb_rf_voted (r : Ref) (i : Nat) (b : Bool) (s : State) : (wrb r i b s).rf.voted = s.rf.voted := rfl

/-! ### count -/

@[simp] theorem count_pending (cnt ovf : Ref) (i n : Nat) (s : State) : (count cnt ovf i n s).pending = s.pending := by
  obtain ⟨_, h⟩ := count_only_regs cnt ovf i n s; rw [h]
@[simp] theorem count_free (cnt ovf : Ref) (i n : Nat) (s : State) : (count cnt ovf i n s).free = s.free := by
  obtain ⟨_, h⟩ := count_only_regs cnt ovf i n s; rw [h]
@[simp] theorem count_ce (cnt ovf : Ref) (i n : Nat) (s : State) : (count cnt ovf i n s).ce = s.ce := by
  obtain ⟨_, h⟩ := count_only_regs cnt ovf i n s; rw [h]
@[simp] theorem count_ze (cnt ovf : Ref) (i n : Nat) (s : State) : (count cnt ovf i n s).ze = s.ze := by
  obtain ⟨_, h⟩ := count_only_regs cnt ovf i n s; rw [h]
@[simp] theorem count_ci (cnt ovf : Ref) (i n : Nat) (s : State) : (count cnt ovf i n s).ci = s.ci := by
  obtain ⟨_, h⟩ := count_only_regs cnt ovf i n s; rw [h]
@[simp] theorem count_fl (cnt ovf : Ref) (i n : Nat) (s : State) : (count cnt ovf i n s).fl = s.fl := by
  obtain ⟨_, h⟩ := count_only_regs cnt ovf i n s; rw [h]
@[simp] theorem count_gr (cnt ovf : Ref) (i n : Nat) (s : State) : (count cnt ovf i n s).gr = s.gr := by
  obtain ⟨_, h⟩ := count_only_regs cnt ovf i n s; rw [h]
@[simp] theorem count_pb (cnt ovf : Ref) (i n : Nat) (s : State) : (count cnt ovf i n s).pb = s.pb := by
  obtain ⟨_, h⟩ := count_only_regs cnt ovf i n s; rw [h]
@[simp] theorem count_dm (cnt ovf : Ref) (i n : Nat) (s : State) : (count cnt ovf i n s).dm = s.dm := by
  obtain ⟨_, h⟩ := count_only_regs cnt ovf i n s; rw [h]
@[simp] theorem count_lr (cnt ovf : Ref) (i n : Nat) (s : State) : (count cnt ovf i n s).lr = s.lr := by
  obtain ⟨_, h⟩ := count_only_regs cnt ovf i n s; rw [h]
@[simp] theorem count_ctl (cnt ovf : Ref) (i n : Nat) (s : State) : (count cnt ovf i n s).ctl = s.ctl := by
  obtain ⟨_, h⟩ := count_only_regs cnt ovf i n s; rw [h]
@[simp] theorem count_ck (cnt ovf : Ref) (i n : Nat) (s : State) : (count cnt ovf i n s).ck = s.ck := by
  obtain ⟨_, h⟩ := count_only_regs cnt ovf i n s; rw [h]
@[simp] theorem count_pw (cnt ovf : Ref) (i n : Nat) (s : State) : (count cnt ovf i n s).pw = s.pw := by
  obtain ⟨_, h⟩ := count_only_regs cnt ovf i n s; rw [h]
@[simp] theorem count_att (cnt ovf : Ref) (i n : Nat) (s : State) : (count cnt ovf i n s).att = s.att := by
  obtain ⟨_, h⟩ := count_only_regs cnt ovf i n s; rw [h]
@[simp] theorem count_rs (cnt ovf : Ref) (i n : Nat) (s : State) : (count cnt ovf i n s).rs = s.rs := by
  obtain ⟨_, h⟩ := count_only_regs cnt ovf i n s; rw [h]
@[simp] theorem count_board (cnt ovf : Ref) (i n : Nat) (s : State) : (count cnt ovf i n s).board = s.board := by
  obtain ⟨_, h⟩ := count_only_regs cnt ovf i n s; rw [h]
@[simp] theorem count_rf_stage (cnt ovf : Ref) (i n : Nat) (s : State) : (count cnt ovf i n s).rf.stage = s.rf.stage := by
  obtain ⟨_, h⟩ := count_only_regs cnt ovf i n s; rw [h]
@[simp] theorem count_rf_copies (cnt ovf : Ref) (i n : Nat) (s : State) : (count cnt ovf i n s).rf.copies = s.rf.copies := by
  obtain ⟨_, h⟩ := count_only_regs cnt ovf i n s; rw [h]
@[simp] theorem count_rf_voted (cnt ovf : Ref) (i n : Nat) (s : State) : (count cnt ovf i n s).rf.voted = s.rf.voted := by
  obtain ⟨_, h⟩ := count_only_regs cnt ovf i n s; rw [h]

/-! ### raiseCode -/

@[simp] theorem raiseCode_pending (src : Nat) (code : Option Nat) (sev : Nat) (ps : List Nat) (s : State) : (raiseCode src code sev ps s).pending = s.pending := by
  obtain ⟨_, _, h⟩ := raiseCode_only src code sev ps s; rw [h]
@[simp] theorem raiseCode_free (src : Nat) (code : Option Nat) (sev : Nat) (ps : List Nat) (s : State) : (raiseCode src code sev ps s).free = s.free := by
  obtain ⟨_, _, h⟩ := raiseCode_only src code sev ps s; rw [h]
@[simp] theorem raiseCode_ce (src : Nat) (code : Option Nat) (sev : Nat) (ps : List Nat) (s : State) : (raiseCode src code sev ps s).ce = s.ce := by
  obtain ⟨_, _, h⟩ := raiseCode_only src code sev ps s; rw [h]
@[simp] theorem raiseCode_ze (src : Nat) (code : Option Nat) (sev : Nat) (ps : List Nat) (s : State) : (raiseCode src code sev ps s).ze = s.ze := by
  obtain ⟨_, _, h⟩ := raiseCode_only src code sev ps s; rw [h]
@[simp] theorem raiseCode_ci (src : Nat) (code : Option Nat) (sev : Nat) (ps : List Nat) (s : State) : (raiseCode src code sev ps s).ci = s.ci := by
  obtain ⟨_, _, h⟩ := raiseCode_only src code sev ps s; rw [h]
@[simp] theorem raiseCode_fl (src : Nat) (code : Option Nat) (sev : Nat) (ps : List Nat) (s : State) : (raiseCode src code sev ps s).fl = s.fl := by
  obtain ⟨_, _, h⟩ := raiseCode_only src code sev ps s; rw [h]
@[simp] theorem raiseCode_gr (src : Nat) (code : Option Nat) (sev : Nat) (ps : List Nat) (s : State) : (raiseCode src code sev ps s).gr = s.gr := by
  obtain ⟨_, _, h⟩ := raiseCode_only src code sev ps s; rw [h]
@[simp] theorem raiseCode_pb (src : Nat) (code : Option Nat) (sev : Nat) (ps : List Nat) (s : State) : (raiseCode src code sev ps s).pb = s.pb := by
  obtain ⟨_, _, h⟩ := raiseCode_only src code sev ps s; rw [h]
@[simp] theorem raiseCode_dm (src : Nat) (code : Option Nat) (sev : Nat) (ps : List Nat) (s : State) : (raiseCode src code sev ps s).dm = s.dm := by
  obtain ⟨_, _, h⟩ := raiseCode_only src code sev ps s; rw [h]
@[simp] theorem raiseCode_lr (src : Nat) (code : Option Nat) (sev : Nat) (ps : List Nat) (s : State) : (raiseCode src code sev ps s).lr = s.lr := by
  obtain ⟨_, _, h⟩ := raiseCode_only src code sev ps s; rw [h]
@[simp] theorem raiseCode_ctl (src : Nat) (code : Option Nat) (sev : Nat) (ps : List Nat) (s : State) : (raiseCode src code sev ps s).ctl = s.ctl := by
  obtain ⟨_, _, h⟩ := raiseCode_only src code sev ps s; rw [h]
@[simp] theorem raiseCode_ck (src : Nat) (code : Option Nat) (sev : Nat) (ps : List Nat) (s : State) : (raiseCode src code sev ps s).ck = s.ck := by
  obtain ⟨_, _, h⟩ := raiseCode_only src code sev ps s; rw [h]
@[simp] theorem raiseCode_pw (src : Nat) (code : Option Nat) (sev : Nat) (ps : List Nat) (s : State) : (raiseCode src code sev ps s).pw = s.pw := by
  obtain ⟨_, _, h⟩ := raiseCode_only src code sev ps s; rw [h]
@[simp] theorem raiseCode_rs (src : Nat) (code : Option Nat) (sev : Nat) (ps : List Nat) (s : State) : (raiseCode src code sev ps s).rs = s.rs := by
  obtain ⟨_, _, h⟩ := raiseCode_only src code sev ps s; rw [h]
@[simp] theorem raiseCode_board (src : Nat) (code : Option Nat) (sev : Nat) (ps : List Nat) (s : State) : (raiseCode src code sev ps s).board = s.board := by
  obtain ⟨_, _, h⟩ := raiseCode_only src code sev ps s; rw [h]
@[simp] theorem raiseCode_rf_stage (src : Nat) (code : Option Nat) (sev : Nat) (ps : List Nat) (s : State) : (raiseCode src code sev ps s).rf.stage = s.rf.stage := by
  obtain ⟨_, _, h⟩ := raiseCode_only src code sev ps s; rw [h]
@[simp] theorem raiseCode_rf_copies (src : Nat) (code : Option Nat) (sev : Nat) (ps : List Nat) (s : State) : (raiseCode src code sev ps s).rf.copies = s.rf.copies := by
  obtain ⟨_, _, h⟩ := raiseCode_only src code sev ps s; rw [h]
@[simp] theorem raiseCode_rf_voted (src : Nat) (code : Option Nat) (sev : Nat) (ps : List Nat) (s : State) : (raiseCode src code sev ps s).rf.voted = s.rf.voted := by
  obtain ⟨_, _, h⟩ := raiseCode_only src code sev ps s; rw [h]
@[simp] theorem raiseCode_att_released (src : Nat) (code : Option Nat) (sev : Nat) (ps : List Nat) (s : State) : (raiseCode src code sev ps s).att.released = s.att.released := by
  obtain ⟨_, _, h⟩ := raiseCode_only src code sev ps s; rw [h]
@[simp] theorem raiseCode_att_failed (src : Nat) (code : Option Nat) (sev : Nat) (ps : List Nat) (s : State) : (raiseCode src code sev ps s).att.failed = s.att.failed := by
  obtain ⟨_, _, h⟩ := raiseCode_only src code sev ps s; rw [h]
@[simp] theorem raiseCode_att_rootKey (src : Nat) (code : Option Nat) (sev : Nat) (ps : List Nat) (s : State) : (raiseCode src code sev ps s).att.rootKey = s.att.rootKey := by
  obtain ⟨_, _, h⟩ := raiseCode_only src code sev ps s; rw [h]
@[simp] theorem raiseCode_att_fnKeys (src : Nat) (code : Option Nat) (sev : Nat) (ps : List Nat) (s : State) : (raiseCode src code sev ps s).att.fnKeys = s.att.fnKeys := by
  obtain ⟨_, _, h⟩ := raiseCode_only src code sev ps s; rw [h]
@[simp] theorem raiseCode_att_fuses (src : Nat) (code : Option Nat) (sev : Nat) (ps : List Nat) (s : State) : (raiseCode src code sev ps s).att.fuses = s.att.fuses := by
  obtain ⟨_, _, h⟩ := raiseCode_only src code sev ps s; rw [h]
@[simp] theorem raiseCode_att_images (src : Nat) (code : Option Nat) (sev : Nat) (ps : List Nat) (s : State) : (raiseCode src code sev ps s).att.images = s.att.images := by
  obtain ⟨_, _, h⟩ := raiseCode_only src code sev ps s; rw [h]
@[simp] theorem raiseCode_att_committed (src : Nat) (code : Option Nat) (sev : Nat) (ps : List Nat) (s : State) : (raiseCode src code sev ps s).att.committed = s.att.committed := by
  obtain ⟨_, _, h⟩ := raiseCode_only src code sev ps s; rw [h]
@[simp] theorem raiseCode_att_sel (src : Nat) (code : Option Nat) (sev : Nat) (ps : List Nat) (s : State) : (raiseCode src code sev ps s).att.sel = s.att.sel := by
  obtain ⟨_, _, h⟩ := raiseCode_only src code sev ps s; rw [h]
@[simp] theorem raiseCode_att_runSlot (src : Nat) (code : Option Nat) (sev : Nat) (ps : List Nat) (s : State) : (raiseCode src code sev ps s).att.runSlot = s.att.runSlot := by
  obtain ⟨_, _, h⟩ := raiseCode_only src code sev ps s; rw [h]
@[simp] theorem raiseCode_att_trialRun (src : Nat) (code : Option Nat) (sev : Nat) (ps : List Nat) (s : State) : (raiseCode src code sev ps s).att.trialRun = s.att.trialRun := by
  obtain ⟨_, _, h⟩ := raiseCode_only src code sev ps s; rw [h]
@[simp] theorem raiseCode_att_download (src : Nat) (code : Option Nat) (sev : Nat) (ps : List Nat) (s : State) : (raiseCode src code sev ps s).att.download = s.att.download := by
  obtain ⟨_, _, h⟩ := raiseCode_only src code sev ps s; rw [h]
@[simp] theorem raiseCode_att_miQueue (src : Nat) (code : Option Nat) (sev : Nat) (ps : List Nat) (s : State) : (raiseCode src code sev ps s).att.miQueue = s.att.miQueue := by
  obtain ⟨_, _, h⟩ := raiseCode_only src code sev ps s; rw [h]
@[simp] theorem raiseCode_att_miCur (src : Nat) (code : Option Nat) (sev : Nat) (ps : List Nat) (s : State) : (raiseCode src code sev ps s).att.miCur = s.att.miCur := by
  obtain ⟨_, _, h⟩ := raiseCode_only src code sev ps s; rw [h]
@[simp] theorem raiseCode_att_miOut (src : Nat) (code : Option Nat) (sev : Nat) (ps : List Nat) (s : State) : (raiseCode src code sev ps s).att.miOut = s.att.miOut := by
  obtain ⟨_, _, h⟩ := raiseCode_only src code sev ps s; rw [h]
@[simp] theorem raiseCode_att_miPaused (src : Nat) (code : Option Nat) (sev : Nat) (ps : List Nat) (s : State) : (raiseCode src code sev ps s).att.miPaused = s.att.miPaused := by
  obtain ⟨_, _, h⟩ := raiseCode_only src code sev ps s; rw [h]
@[simp] theorem raiseCode_att_miLast (src : Nat) (code : Option Nat) (sev : Nat) (ps : List Nat) (s : State) : (raiseCode src code sev ps s).att.miLast = s.att.miLast := by
  obtain ⟨_, _, h⟩ := raiseCode_only src code sev ps s; rw [h]
@[simp] theorem raiseCode_att_miConfig (src : Nat) (code : Option Nat) (sev : Nat) (ps : List Nat) (s : State) : (raiseCode src code sev ps s).att.miConfig = s.att.miConfig := by
  obtain ⟨_, _, h⟩ := raiseCode_only src code sev ps s; rw [h]
@[simp] theorem raiseCode_att_vpd (src : Nat) (code : Option Nat) (sev : Nat) (ps : List Nat) (s : State) : (raiseCode src code sev ps s).att.vpd = s.att.vpd := by
  obtain ⟨_, _, h⟩ := raiseCode_only src code sev ps s; rw [h]
@[simp] theorem raiseCode_att_sensors (src : Nat) (code : Option Nat) (sev : Nat) (ps : List Nat) (s : State) : (raiseCode src code sev ps s).att.sensors = s.att.sensors := by
  obtain ⟨_, _, h⟩ := raiseCode_only src code sev ps s; rw [h]

/-! ### raise -/

@[simp] theorem raise_pending (src sev : Nat) (ps : List Nat) (s : State) : (raise src sev ps s).pending = s.pending := by
  obtain ⟨_, _, h⟩ := raise_only src sev ps s; rw [h]
@[simp] theorem raise_free (src sev : Nat) (ps : List Nat) (s : State) : (raise src sev ps s).free = s.free := by
  obtain ⟨_, _, h⟩ := raise_only src sev ps s; rw [h]
@[simp] theorem raise_ce (src sev : Nat) (ps : List Nat) (s : State) : (raise src sev ps s).ce = s.ce := by
  obtain ⟨_, _, h⟩ := raise_only src sev ps s; rw [h]
@[simp] theorem raise_ze (src sev : Nat) (ps : List Nat) (s : State) : (raise src sev ps s).ze = s.ze := by
  obtain ⟨_, _, h⟩ := raise_only src sev ps s; rw [h]
@[simp] theorem raise_ci (src sev : Nat) (ps : List Nat) (s : State) : (raise src sev ps s).ci = s.ci := by
  obtain ⟨_, _, h⟩ := raise_only src sev ps s; rw [h]
@[simp] theorem raise_fl (src sev : Nat) (ps : List Nat) (s : State) : (raise src sev ps s).fl = s.fl := by
  obtain ⟨_, _, h⟩ := raise_only src sev ps s; rw [h]
@[simp] theorem raise_gr (src sev : Nat) (ps : List Nat) (s : State) : (raise src sev ps s).gr = s.gr := by
  obtain ⟨_, _, h⟩ := raise_only src sev ps s; rw [h]
@[simp] theorem raise_pb (src sev : Nat) (ps : List Nat) (s : State) : (raise src sev ps s).pb = s.pb := by
  obtain ⟨_, _, h⟩ := raise_only src sev ps s; rw [h]
@[simp] theorem raise_dm (src sev : Nat) (ps : List Nat) (s : State) : (raise src sev ps s).dm = s.dm := by
  obtain ⟨_, _, h⟩ := raise_only src sev ps s; rw [h]
@[simp] theorem raise_lr (src sev : Nat) (ps : List Nat) (s : State) : (raise src sev ps s).lr = s.lr := by
  obtain ⟨_, _, h⟩ := raise_only src sev ps s; rw [h]
@[simp] theorem raise_ctl (src sev : Nat) (ps : List Nat) (s : State) : (raise src sev ps s).ctl = s.ctl := by
  obtain ⟨_, _, h⟩ := raise_only src sev ps s; rw [h]
@[simp] theorem raise_ck (src sev : Nat) (ps : List Nat) (s : State) : (raise src sev ps s).ck = s.ck := by
  obtain ⟨_, _, h⟩ := raise_only src sev ps s; rw [h]
@[simp] theorem raise_pw (src sev : Nat) (ps : List Nat) (s : State) : (raise src sev ps s).pw = s.pw := by
  obtain ⟨_, _, h⟩ := raise_only src sev ps s; rw [h]
@[simp] theorem raise_rs (src sev : Nat) (ps : List Nat) (s : State) : (raise src sev ps s).rs = s.rs := by
  obtain ⟨_, _, h⟩ := raise_only src sev ps s; rw [h]
@[simp] theorem raise_board (src sev : Nat) (ps : List Nat) (s : State) : (raise src sev ps s).board = s.board := by
  obtain ⟨_, _, h⟩ := raise_only src sev ps s; rw [h]
@[simp] theorem raise_rf_stage (src sev : Nat) (ps : List Nat) (s : State) : (raise src sev ps s).rf.stage = s.rf.stage := by
  obtain ⟨_, _, h⟩ := raise_only src sev ps s; rw [h]
@[simp] theorem raise_rf_copies (src sev : Nat) (ps : List Nat) (s : State) : (raise src sev ps s).rf.copies = s.rf.copies := by
  obtain ⟨_, _, h⟩ := raise_only src sev ps s; rw [h]
@[simp] theorem raise_rf_voted (src sev : Nat) (ps : List Nat) (s : State) : (raise src sev ps s).rf.voted = s.rf.voted := by
  obtain ⟨_, _, h⟩ := raise_only src sev ps s; rw [h]
@[simp] theorem raise_att_released (src sev : Nat) (ps : List Nat) (s : State) : (raise src sev ps s).att.released = s.att.released := by
  obtain ⟨_, _, h⟩ := raise_only src sev ps s; rw [h]
@[simp] theorem raise_att_failed (src sev : Nat) (ps : List Nat) (s : State) : (raise src sev ps s).att.failed = s.att.failed := by
  obtain ⟨_, _, h⟩ := raise_only src sev ps s; rw [h]
@[simp] theorem raise_att_rootKey (src sev : Nat) (ps : List Nat) (s : State) : (raise src sev ps s).att.rootKey = s.att.rootKey := by
  obtain ⟨_, _, h⟩ := raise_only src sev ps s; rw [h]
@[simp] theorem raise_att_fnKeys (src sev : Nat) (ps : List Nat) (s : State) : (raise src sev ps s).att.fnKeys = s.att.fnKeys := by
  obtain ⟨_, _, h⟩ := raise_only src sev ps s; rw [h]
@[simp] theorem raise_att_fuses (src sev : Nat) (ps : List Nat) (s : State) : (raise src sev ps s).att.fuses = s.att.fuses := by
  obtain ⟨_, _, h⟩ := raise_only src sev ps s; rw [h]
@[simp] theorem raise_att_images (src sev : Nat) (ps : List Nat) (s : State) : (raise src sev ps s).att.images = s.att.images := by
  obtain ⟨_, _, h⟩ := raise_only src sev ps s; rw [h]
@[simp] theorem raise_att_committed (src sev : Nat) (ps : List Nat) (s : State) : (raise src sev ps s).att.committed = s.att.committed := by
  obtain ⟨_, _, h⟩ := raise_only src sev ps s; rw [h]
@[simp] theorem raise_att_sel (src sev : Nat) (ps : List Nat) (s : State) : (raise src sev ps s).att.sel = s.att.sel := by
  obtain ⟨_, _, h⟩ := raise_only src sev ps s; rw [h]
@[simp] theorem raise_att_runSlot (src sev : Nat) (ps : List Nat) (s : State) : (raise src sev ps s).att.runSlot = s.att.runSlot := by
  obtain ⟨_, _, h⟩ := raise_only src sev ps s; rw [h]
@[simp] theorem raise_att_trialRun (src sev : Nat) (ps : List Nat) (s : State) : (raise src sev ps s).att.trialRun = s.att.trialRun := by
  obtain ⟨_, _, h⟩ := raise_only src sev ps s; rw [h]
@[simp] theorem raise_att_download (src sev : Nat) (ps : List Nat) (s : State) : (raise src sev ps s).att.download = s.att.download := by
  obtain ⟨_, _, h⟩ := raise_only src sev ps s; rw [h]
@[simp] theorem raise_att_miQueue (src sev : Nat) (ps : List Nat) (s : State) : (raise src sev ps s).att.miQueue = s.att.miQueue := by
  obtain ⟨_, _, h⟩ := raise_only src sev ps s; rw [h]
@[simp] theorem raise_att_miCur (src sev : Nat) (ps : List Nat) (s : State) : (raise src sev ps s).att.miCur = s.att.miCur := by
  obtain ⟨_, _, h⟩ := raise_only src sev ps s; rw [h]
@[simp] theorem raise_att_miOut (src sev : Nat) (ps : List Nat) (s : State) : (raise src sev ps s).att.miOut = s.att.miOut := by
  obtain ⟨_, _, h⟩ := raise_only src sev ps s; rw [h]
@[simp] theorem raise_att_miPaused (src sev : Nat) (ps : List Nat) (s : State) : (raise src sev ps s).att.miPaused = s.att.miPaused := by
  obtain ⟨_, _, h⟩ := raise_only src sev ps s; rw [h]
@[simp] theorem raise_att_miLast (src sev : Nat) (ps : List Nat) (s : State) : (raise src sev ps s).att.miLast = s.att.miLast := by
  obtain ⟨_, _, h⟩ := raise_only src sev ps s; rw [h]
@[simp] theorem raise_att_miConfig (src sev : Nat) (ps : List Nat) (s : State) : (raise src sev ps s).att.miConfig = s.att.miConfig := by
  obtain ⟨_, _, h⟩ := raise_only src sev ps s; rw [h]
@[simp] theorem raise_att_vpd (src sev : Nat) (ps : List Nat) (s : State) : (raise src sev ps s).att.vpd = s.att.vpd := by
  obtain ⟨_, _, h⟩ := raise_only src sev ps s; rw [h]
@[simp] theorem raise_att_sensors (src sev : Nat) (ps : List Nat) (s : State) : (raise src sev ps s).att.sensors = s.att.sensors := by
  obtain ⟨_, _, h⟩ := raise_only src sev ps s; rw [h]

/-! ### accessEvent -/

@[simp] theorem accessEvent_pending (m : Master) (addr : Nat) (write : Bool) (kind : Nat) (s : State) : (accessEvent m addr write kind s).pending = s.pending := by
  obtain ⟨_, _, h⟩ := accessEvent_only m addr write kind s; rw [h]
@[simp] theorem accessEvent_free (m : Master) (addr : Nat) (write : Bool) (kind : Nat) (s : State) : (accessEvent m addr write kind s).free = s.free := by
  obtain ⟨_, _, h⟩ := accessEvent_only m addr write kind s; rw [h]
@[simp] theorem accessEvent_ce (m : Master) (addr : Nat) (write : Bool) (kind : Nat) (s : State) : (accessEvent m addr write kind s).ce = s.ce := by
  obtain ⟨_, _, h⟩ := accessEvent_only m addr write kind s; rw [h]
@[simp] theorem accessEvent_ze (m : Master) (addr : Nat) (write : Bool) (kind : Nat) (s : State) : (accessEvent m addr write kind s).ze = s.ze := by
  obtain ⟨_, _, h⟩ := accessEvent_only m addr write kind s; rw [h]
@[simp] theorem accessEvent_ci (m : Master) (addr : Nat) (write : Bool) (kind : Nat) (s : State) : (accessEvent m addr write kind s).ci = s.ci := by
  obtain ⟨_, _, h⟩ := accessEvent_only m addr write kind s; rw [h]
@[simp] theorem accessEvent_fl (m : Master) (addr : Nat) (write : Bool) (kind : Nat) (s : State) : (accessEvent m addr write kind s).fl = s.fl := by
  obtain ⟨_, _, h⟩ := accessEvent_only m addr write kind s; rw [h]
@[simp] theorem accessEvent_gr (m : Master) (addr : Nat) (write : Bool) (kind : Nat) (s : State) : (accessEvent m addr write kind s).gr = s.gr := by
  obtain ⟨_, _, h⟩ := accessEvent_only m addr write kind s; rw [h]
@[simp] theorem accessEvent_pb (m : Master) (addr : Nat) (write : Bool) (kind : Nat) (s : State) : (accessEvent m addr write kind s).pb = s.pb := by
  obtain ⟨_, _, h⟩ := accessEvent_only m addr write kind s; rw [h]
@[simp] theorem accessEvent_dm (m : Master) (addr : Nat) (write : Bool) (kind : Nat) (s : State) : (accessEvent m addr write kind s).dm = s.dm := by
  obtain ⟨_, _, h⟩ := accessEvent_only m addr write kind s; rw [h]
@[simp] theorem accessEvent_lr (m : Master) (addr : Nat) (write : Bool) (kind : Nat) (s : State) : (accessEvent m addr write kind s).lr = s.lr := by
  obtain ⟨_, _, h⟩ := accessEvent_only m addr write kind s; rw [h]
@[simp] theorem accessEvent_ck (m : Master) (addr : Nat) (write : Bool) (kind : Nat) (s : State) : (accessEvent m addr write kind s).ck = s.ck := by
  obtain ⟨_, _, h⟩ := accessEvent_only m addr write kind s; rw [h]
@[simp] theorem accessEvent_pw (m : Master) (addr : Nat) (write : Bool) (kind : Nat) (s : State) : (accessEvent m addr write kind s).pw = s.pw := by
  obtain ⟨_, _, h⟩ := accessEvent_only m addr write kind s; rw [h]
@[simp] theorem accessEvent_rs (m : Master) (addr : Nat) (write : Bool) (kind : Nat) (s : State) : (accessEvent m addr write kind s).rs = s.rs := by
  obtain ⟨_, _, h⟩ := accessEvent_only m addr write kind s; rw [h]
@[simp] theorem accessEvent_board (m : Master) (addr : Nat) (write : Bool) (kind : Nat) (s : State) : (accessEvent m addr write kind s).board = s.board := by
  obtain ⟨_, _, h⟩ := accessEvent_only m addr write kind s; rw [h]
@[simp] theorem accessEvent_rf_stage (m : Master) (addr : Nat) (write : Bool) (kind : Nat) (s : State) : (accessEvent m addr write kind s).rf.stage = s.rf.stage := by
  obtain ⟨_, _, h⟩ := accessEvent_only m addr write kind s; rw [h]
@[simp] theorem accessEvent_rf_copies (m : Master) (addr : Nat) (write : Bool) (kind : Nat) (s : State) : (accessEvent m addr write kind s).rf.copies = s.rf.copies := by
  obtain ⟨_, _, h⟩ := accessEvent_only m addr write kind s; rw [h]
@[simp] theorem accessEvent_rf_voted (m : Master) (addr : Nat) (write : Bool) (kind : Nat) (s : State) : (accessEvent m addr write kind s).rf.voted = s.rf.voted := by
  obtain ⟨_, _, h⟩ := accessEvent_only m addr write kind s; rw [h]
@[simp] theorem accessEvent_att_released (m : Master) (addr : Nat) (write : Bool) (kind : Nat) (s : State) : (accessEvent m addr write kind s).att.released = s.att.released := by
  obtain ⟨_, _, h⟩ := accessEvent_only m addr write kind s; rw [h]
@[simp] theorem accessEvent_att_failed (m : Master) (addr : Nat) (write : Bool) (kind : Nat) (s : State) : (accessEvent m addr write kind s).att.failed = s.att.failed := by
  obtain ⟨_, _, h⟩ := accessEvent_only m addr write kind s; rw [h]
@[simp] theorem accessEvent_att_rootKey (m : Master) (addr : Nat) (write : Bool) (kind : Nat) (s : State) : (accessEvent m addr write kind s).att.rootKey = s.att.rootKey := by
  obtain ⟨_, _, h⟩ := accessEvent_only m addr write kind s; rw [h]
@[simp] theorem accessEvent_att_fnKeys (m : Master) (addr : Nat) (write : Bool) (kind : Nat) (s : State) : (accessEvent m addr write kind s).att.fnKeys = s.att.fnKeys := by
  obtain ⟨_, _, h⟩ := accessEvent_only m addr write kind s; rw [h]
@[simp] theorem accessEvent_att_fuses (m : Master) (addr : Nat) (write : Bool) (kind : Nat) (s : State) : (accessEvent m addr write kind s).att.fuses = s.att.fuses := by
  obtain ⟨_, _, h⟩ := accessEvent_only m addr write kind s; rw [h]
@[simp] theorem accessEvent_att_images (m : Master) (addr : Nat) (write : Bool) (kind : Nat) (s : State) : (accessEvent m addr write kind s).att.images = s.att.images := by
  obtain ⟨_, _, h⟩ := accessEvent_only m addr write kind s; rw [h]
@[simp] theorem accessEvent_att_committed (m : Master) (addr : Nat) (write : Bool) (kind : Nat) (s : State) : (accessEvent m addr write kind s).att.committed = s.att.committed := by
  obtain ⟨_, _, h⟩ := accessEvent_only m addr write kind s; rw [h]
@[simp] theorem accessEvent_att_sel (m : Master) (addr : Nat) (write : Bool) (kind : Nat) (s : State) : (accessEvent m addr write kind s).att.sel = s.att.sel := by
  obtain ⟨_, _, h⟩ := accessEvent_only m addr write kind s; rw [h]
@[simp] theorem accessEvent_att_runSlot (m : Master) (addr : Nat) (write : Bool) (kind : Nat) (s : State) : (accessEvent m addr write kind s).att.runSlot = s.att.runSlot := by
  obtain ⟨_, _, h⟩ := accessEvent_only m addr write kind s; rw [h]
@[simp] theorem accessEvent_att_trialRun (m : Master) (addr : Nat) (write : Bool) (kind : Nat) (s : State) : (accessEvent m addr write kind s).att.trialRun = s.att.trialRun := by
  obtain ⟨_, _, h⟩ := accessEvent_only m addr write kind s; rw [h]
@[simp] theorem accessEvent_att_download (m : Master) (addr : Nat) (write : Bool) (kind : Nat) (s : State) : (accessEvent m addr write kind s).att.download = s.att.download := by
  obtain ⟨_, _, h⟩ := accessEvent_only m addr write kind s; rw [h]
@[simp] theorem accessEvent_att_miQueue (m : Master) (addr : Nat) (write : Bool) (kind : Nat) (s : State) : (accessEvent m addr write kind s).att.miQueue = s.att.miQueue := by
  obtain ⟨_, _, h⟩ := accessEvent_only m addr write kind s; rw [h]
@[simp] theorem accessEvent_att_miCur (m : Master) (addr : Nat) (write : Bool) (kind : Nat) (s : State) : (accessEvent m addr write kind s).att.miCur = s.att.miCur := by
  obtain ⟨_, _, h⟩ := accessEvent_only m addr write kind s; rw [h]
@[simp] theorem accessEvent_att_miOut (m : Master) (addr : Nat) (write : Bool) (kind : Nat) (s : State) : (accessEvent m addr write kind s).att.miOut = s.att.miOut := by
  obtain ⟨_, _, h⟩ := accessEvent_only m addr write kind s; rw [h]
@[simp] theorem accessEvent_att_miPaused (m : Master) (addr : Nat) (write : Bool) (kind : Nat) (s : State) : (accessEvent m addr write kind s).att.miPaused = s.att.miPaused := by
  obtain ⟨_, _, h⟩ := accessEvent_only m addr write kind s; rw [h]
@[simp] theorem accessEvent_att_miLast (m : Master) (addr : Nat) (write : Bool) (kind : Nat) (s : State) : (accessEvent m addr write kind s).att.miLast = s.att.miLast := by
  obtain ⟨_, _, h⟩ := accessEvent_only m addr write kind s; rw [h]
@[simp] theorem accessEvent_att_miConfig (m : Master) (addr : Nat) (write : Bool) (kind : Nat) (s : State) : (accessEvent m addr write kind s).att.miConfig = s.att.miConfig := by
  obtain ⟨_, _, h⟩ := accessEvent_only m addr write kind s; rw [h]
@[simp] theorem accessEvent_att_vpd (m : Master) (addr : Nat) (write : Bool) (kind : Nat) (s : State) : (accessEvent m addr write kind s).att.vpd = s.att.vpd := by
  obtain ⟨_, _, h⟩ := accessEvent_only m addr write kind s; rw [h]
@[simp] theorem accessEvent_att_sensors (m : Master) (addr : Nat) (write : Bool) (kind : Nat) (s : State) : (accessEvent m addr write kind s).att.sensors = s.att.sensors := by
  obtain ⟨_, _, h⟩ := accessEvent_only m addr write kind s; rw [h]
@[simp] theorem accessEvent_ctl_boxes (m : Master) (addr : Nat) (write : Bool) (kind : Nat) (s : State) : (accessEvent m addr write kind s).ctl.boxes = s.ctl.boxes := by
  obtain ⟨_, _, h⟩ := accessEvent_only m addr write kind s; rw [h]
@[simp] theorem accessEvent_ctl_dogs (m : Master) (addr : Nat) (write : Bool) (kind : Nat) (s : State) : (accessEvent m addr write kind s).ctl.dogs = s.ctl.dogs := by
  obtain ⟨_, _, h⟩ := accessEvent_only m addr write kind s; rw [h]
@[simp] theorem accessEvent_ctl_cores (m : Master) (addr : Nat) (write : Bool) (kind : Nat) (s : State) : (accessEvent m addr write kind s).ctl.cores = s.ctl.cores := by
  obtain ⟨_, _, h⟩ := accessEvent_only m addr write kind s; rw [h]
@[simp] theorem accessEvent_ctl_parGlobal (m : Master) (addr : Nat) (write : Bool) (kind : Nat) (s : State) : (accessEvent m addr write kind s).ctl.parGlobal = s.ctl.parGlobal := by
  obtain ⟨_, _, h⟩ := accessEvent_only m addr write kind s; rw [h]
@[simp] theorem accessEvent_ctl_parAddr (m : Master) (addr : Nat) (write : Bool) (kind : Nat) (s : State) : (accessEvent m addr write kind s).ctl.parAddr = s.ctl.parAddr := by
  obtain ⟨_, _, h⟩ := accessEvent_only m addr write kind s; rw [h]

end Sys2Proof.Machine
end

