-- ==== Sys2Proof/Laws/Larder.lean ====
section
/-! SUPPORT. What the Larder's requests can do: the pool and the size of what each engine stages (13_larder.md R370, R371). -/

namespace Sys2Proof.Machine

/-- The pool for a size holds it, and no smaller pool does (R371). -/
theorem poolFor_fits {n p : Nat} (h : poolFor n = some p) : n ≤ bufSize p ∧ p < 5 ∧ ∀ q, q < p → bufSize q < n := by
  unfold poolFor at h
  split at h
  · cases h
  · split_ifs at h with h1 h2 h3 h4 h5
    all_goals (cases h; refine ⟨by simp [bufSize]; omega, by omega, fun q hq => ?_⟩; interval_cases q <;> simp [bufSize] <;> omega)

/-- A request fails for its size alone: 0, or more than a wordline (R371). -/
theorem poolFor_none_iff (n : Nat) : poolFor n = none ↔ n = 0 ∨ 327680 < n := by
  unfold poolFor
  split_ifs <;> simp <;> omega

/-- Everything an engine stages, of a slot of at most 16 LBAs, fits a pool (R370, R371). -/
theorem poolFor_staged (x : Staged) (h : ∀ n, x = .slot n → 1 ≤ n ∧ n ≤ 16) : ∃ p, poolFor x.size = some p := by
  cases x with
  | slot n =>
    obtain ⟨h1, h2⟩ := h n rfl
    have hs : (Staged.slot n).size ≠ 0 ∧ (Staged.slot n).size ≤ 327680 := by
      simp only [Staged.size]; split <;> omega
    cases hp : poolFor (Staged.slot n).size with
    | some p => exact ⟨p, rfl⟩
    | none => rcases (poolFor_none_iff _).1 hp with h0 | h0 <;> omega
  | lba => exact ⟨1, rfl⟩
  | payload => exact ⟨3, rfl⟩
  | header => exact ⟨0, rfl⟩
  | wordline => exact ⟨4, rfl⟩

end Sys2Proof.Machine
end

