-- ==== Sys2Proof/Laws/Queues.lean ====
section
/-! SUPPORT. When nothing that a cluster took under an earlier epoch is left of any queue (01_architecture.md R31). -/

namespace Sys2Proof.Machine

theorem mem_of_tfind {α : Type} {t : List (Nat × α)} {k : Nat} {v : α} (h : tfind t k = some v) : (k, v) ∈ t := by
  induction t with
  | nil => simp [tfind] at h
  | cons p r ih =>
    obtain ⟨j, w⟩ := p
    unfold tfind at h
    split at h
    · rename_i hj
      obtain rfl := Option.some.inj h
      subst hj
      exact List.mem_cons_self
    · exact List.mem_cons_of_mem _ (ih h)

/-- With no message taken and the clusters' mailboxes empty, no queue has work of an earlier epoch left. -/
theorem staleMail_of_quiet (s : State) (ht : ∀ p, p ∈ s.ce.sqs → p.2.taken = []) (hb : ∀ mb, mb < 4 → boxFull s mb = false)
    (fn q : Nat) : staleMail s fn q = false := by
  unfold staleMail
  rw [Bool.or_eq_false_iff]
  constructor
  · split
    · rfl
    · rename_i y hy
      rw [ht _ (mem_of_tfind hy)]
      rfl
  · rw [List.any_eq_false]
    intro mb hm
    simp [hb mb (List.mem_range.1 hm)]

end Sys2Proof.Machine
end

