-- ==== Sys2Proof/Machine/Codewords.lean ====
section
/-! DEFINITION. What the codewords of a band hold: data or stream with its metadata, fill, and the parity of a stripe (07_flash_channels.md R198,
08_flash_integrity.md R219, R220, 05_transforms.md R142, R147). -/

namespace Sys2Proof.Machine

/-- Bytes of a codeword's information: 4,096 of data and 32 of metadata (R219). -/
def infoBytes : Nat := 4128

/-- The 8-byte STAMP of a data codeword (R220). -/
def stampWord (st : Stamp) : Nat := st.index % 1048576 + st.kind % 8 * 1048576 + st.band % 524288 * 16777216 + st.bgen % 2097152 * 8796093022208

/-- Metadata by KIND: of an uncompressed LBA its CTR and tag, of the stream HDR_OFF, of fill zeros (R220). -/
def metaPlain (st : Stamp) (u : Sealed) : List Byte := leBytes 8 (stampWord { st with kind := 0 }) ++ leBytes 8 u.nonce ++ sealTag u
def metaStream (st : Stamp) (hdrOff : Nat) : List Byte := leBytes 8 (stampWord { st with kind := 1 }) ++ leBytes 2 hdrOff ++ List.replicate 22 0#8
def metaFill (st : Stamp) : List Byte := leBytes 8 (stampWord { st with kind := 7 }) ++ List.replicate 24 0#8

/-- Metadata of a metadata codeword: the sequence number of its first journal record, its checkpoint and its number of records; and of a dump codeword,
`band` 0x7_FFFF, or 0x7_FFFD for a mirror owner's copies persisted: DUMP_ID, SEQ and ADDR. Both end in the CRC-32C of the data (10_granary.md R282,
11_balwen.md R335). -/
def metaJournal (index jseq ckpt recs : Nat) (data : List Byte) : List Byte :=
  leBytes 8 (stampWord { index := index, kind := 2, band := 0x7FFFE, bgen := jseq }) ++ leBytes 8 jseq ++ leBytes 8 ckpt ++ leBytes 4 recs ++
  leBytes 4 (crc32c data)
def metaDump (band dumpId seq addr : Nat) (data : List Byte) : List Byte :=
  leBytes 8 (stampWord { index := seq, kind := 3, band := band, bgen := dumpId }) ++ leBytes 8 dumpId ++ leBytes 8 seq ++ leBytes 4 addr ++
  leBytes 4 (crc32c data)

/-- The codewords of a metadata wordline: data with its metadata. The journal records that begin in one are counted in RECS, and JSEQ is the number of
the first (R282). Of a checkpoint's codewords the data is not given here. -/
def journalCws (s : State) (w : MetaWl) : List (List Byte) :=
  (List.range (slcCws s)).map (fun j =>
    let recs := Nat.min 256 (w.n - 256 * j)
    let first := w.first + 256 * j
    let data := bytesAt (((s.fl.journal.drop (first - 1)).take recs).flatMap jrecBytes) 0 4096
    data ++ metaJournal (slcCws s * w.wl + j) (if recs = 0 then 0 else first) w.ckpt recs data)

/-- The metadata of dump codeword `seq` with its data: the page of the Granary at its ADDR, the end record or the event recorder copy. -/
def dumpMeta (d : Dump) (seq : Nat) (data : List Byte) : List Byte :=
  metaDump 0x7FFFF d.id seq ((tfind d.cws seq).getD (dumpAddr d seq)) data

/-- The end record (10_granary.md R300): the codeword count, the state and data byte counts, CAUSE and the time base. The spec does not lay it out (DESIGN
CHOICE, notes/assumptions/38.md). -/
def endRecord (d : Dump) (tb : Nat) : List Byte :=
  bytesAt (leBytes 8 (dumpTotal d) ++ leBytes 8 (d.stateSegs * mib) ++ leBytes 8 ((d.segs.length - d.stateSegs) * mib) ++ leBytes 8 d.cause ++ leBytes 8 tb) 0 4096

/-- The metadata of a persisted copy of a mirror owner's, by its place among the owner's codewords (11_balwen.md R335): it has no DUMP_ID, and its ADDR is the
copy's offset (DESIGN CHOICE, notes/assumptions/38.md). -/
def orphanMeta (p : MirrorPage) (seq : Nat) (data : List Byte) : List Byte := metaDump 0x7FFFD 0 seq p.offset data

/-- A unit's ciphertext, and the bytes of a frame in the stream: its header and its payload, padded to whole units (R142). -/
def cipherText (u : Sealed) : List Byte := Config.gcmData u.key (sealIv u) (sealPlain u)
def frameBytes (f : Frame) : List Byte := bytesAt (f.hdr ++ cipherText f.sealed) 0 (16 * frameLen f)

/-- Unit `u` of a zone's stream: 16 bytes of the frame that holds it. -/
def streamUnit (z : Zone) (u : Nat) : List Byte :=
  match z.frames.find? (fun f => match f.off with
    | some a => decide (a ≤ u ∧ u < a + frameLen f)
    | none => false) with
  | some f => bytesAt (frameBytes f) (16 * (u - f.off.getD 0)) 16
  | none => List.replicate 16 0#8

/-- The first stream unit of the codeword at a position, and HDR_OFF: the first frame header that begins in it, all ones if none. -/
def cwStart (z : Zone) (i : Nat) : Nat := ((List.range i).map (unitsIn z)).sum
def hdrOffset (z : Zone) (i : Nat) : Nat :=
  ((List.range (unitsIn z i)).find? (fun k => z.frames.any (fun f => f.off == some (cwStart z i + k)))).getD 0xFFFF

/-- The 4,128 bytes of data codeword `i` of a zone's band. -/
def cwInfo (s : State) (key b i : Nat) : List Byte :=
  let z := zoneOf s key
  let st : Stamp := { index := i, band := b, bgen := (bandOf s b).gen }
  let body : List Byte × List Byte :=
    if isFill z i then ([], metaFill st)
    else if zoneComp z then ((List.range (unitsIn z i)).flatMap (fun k => streamUnit z (cwStart z i + k)), metaStream st (hdrOffset z i))
    else match z.units.find? (fun u => u.2.pos == i) with
      | some u => (cipherText u.2.sealed, metaPlain st u.2.sealed)
      | none => ([], metaFill st)
  bytesAt body.1 0 4096 ++ bytesAt body.2 0 32

/-! ### The stripe (R198, R261) -/

/-- Bitwise XOR of informations. -/
def xorInfo (ls : List (List Byte)) : List Byte := ls.foldl (fun a l => List.zipWith (fun x y => x ^^^ y) a l) (List.replicate infoBytes 0#8)

/-- Codeword index of a data position at a wordline, level, plane and codeword of the page (R197). -/
def cwAt (s : State) (dens b : Nat) (w d lev p c : Nat) : Nat :=
  (((w * dataWidth s b + d) * bitsPerCell dens + lev) * s.board.planes + p) * 4 + c

/-- The parity codeword of a stripe, and a data codeword rebuilt from the other data pages and the parity page. -/
def parityInfo (s : State) (key b w lev p c : Nat) : List Byte :=
  xorInfo ((List.range (dataWidth s b)).map (fun d => cwInfo s key b (cwAt s (zoneDens (zoneOf s key)) b w d lev p c)))
def rebuildInfo (s : State) (key b w lev p c d : Nat) : List Byte :=
  xorInfo (((List.range (dataWidth s b)).filter (fun e => e != d)).map (fun e => cwInfo s key b (cwAt s (zoneDens (zoneOf s key)) b w e lev p c)) ++
    [parityInfo s key b w lev p c])

end Sys2Proof.Machine
end

