-- ==== Sys2Proof/Machine/Package.lean ====
section
/-! DEFINITION. The ball grid: which signal each ball carries (19_package.md R510 to R515), the lanes of a host link (R529) and the BO_SENSE
scale (R528). No command touches the package; the definitions stand beside the registers and pins that they place. -/

namespace Sys2Proof.Machine

/-! ### Names (R510) -/

/-- The letter of a row within its group of 19. -/
def rowLetter (i : Nat) : String :=
  ["A", "B", "C", "D", "E", "F", "G", "H", "J", "K", "L", "M", "N", "P", "T", "U", "V", "W", "Y"].getD i ""

/-- The name of the row of an index from 1 to 63. -/
def rowName (r : Nat) : String :=
  ["", "A", "B", "C"].getD ((r - 1) / 19) "" ++ rowLetter ((r - 1) % 19)

/-- A grid ball's name: its row, then its column. -/
def ballName (r c : Nat) : String := rowName r ++ toString c

/-- A number in two digits. -/
def twoDigits (n : Nat) : String := toString (n / 10) ++ toString (n % 10)

/-- A signal of a bus: its name and its bit. -/
def busBit (name : String) (k : Nat) : String := name ++ "[" ++ toString k ++ "]"

/-! ### The interstitial field (R511) -/

/-- What the interstitial ball below and right of a site carries; the orientation key carries none. -/
def interstitialBall (r c : Nat) : Option String :=
  if r < 24 || 39 < r || c < 24 || 39 < c || (r == 24 && c == 24) then none
  else some (if (r + c) % 2 = 0 then "VDD_CORE" else "VSS")

/-! ### Flash channels (R513) -/

/-- The template of a channel's block of 4 by 7 sites. -/
def flashCell (r c : Nat) : String :=
  ([["DQ[0]", "DQ[1]", "VSS", "DQ[2]", "DQ[3]", "VSS", "DQS_T"],
    ["DQ[4]", "DQ[5]", "VSS", "DQ[6]", "DQ[7]", "VSS", "DQS_C"],
    ["RE_T", "RE_C", "VSS", "WE_N", "ALE", "CLE", "VDDQ_FL"],
    ["CE_N[0]", "CE_N[1]", "CE_N[2]", "CE_N[3]", "WP_N", "VSS", "VDDQ_FL"]].getD (r - 1) []).getD (c - 1) "VSS"

/-- The site of a template cell of a channel: row index and column. -/
def flashSite (ch r c : Nat) : Nat × Nat :=
  let k := ch % 32
  let d := 4 * (k / 8) + r
  (3 + 7 * (k % 8) + c, if ch < 32 then d else 64 - d)

/-- What a site of a flash band carries, from its depth and the row's place. -/
def flashBall (east : Bool) (r d : Nat) : String :=
  let k := 8 * ((d - 1) / 4) + (r - 4) / 7 + if east then 32 else 0
  let cell := flashCell ((d - 1) % 4 + 1) ((r - 4) % 7 + 1)
  if cell == "VSS" || cell == "VDDQ_FL" then cell else "FL_CH_" ++ twoDigits k ++ "_" ++ cell

/-! ### DRAM, host and peer blocks (R514) -/

/-- The signals of a subchannel in their order. -/
def dramSub (sub : String) : List String :=
  [sub ++ "_CK_T", sub ++ "_CK_C", sub ++ "_CS_N"] ++ (List.range 14).map (busBit (sub ++ "_CA")) ++
  (List.range 10).flatMap (fun k =>
    (List.range 4).map (fun i => if k ≤ 7 then busBit (sub ++ "_DQ") (4 * k + i) else busBit (sub ++ "_CB") (4 * k - 32 + i)) ++
    [busBit (sub ++ "_DQS_T") k, busBit (sub ++ "_DQS_C") k])

/-- The signals of a DRAM channel in the order in which they fill the block's sites. -/
def dramSeq : List String := dramSub "SA" ++ dramSub "SB" ++ ["RESET_N", "ALERT_N", "ZQ"]

/-- The power of a site of a DRAM block; none where a signal lies. -/
def dramPower (r c : Nat) : Option String :=
  if r == 7 || (r == 14 && c ≤ 8) then some "VSS"
  else if r == 4 || r == 11 then some (if c == 1 || c == 8 || c == 15 then "VSS" else "VDDQ_DM")
  else none

/-- What a site of a DRAM channel's block of 14 rows by 15 columns carries. -/
def dramBall (n r c : Nat) : String :=
  match dramPower r c with
  | some p => p
  | none =>
    let before := ((List.range (15 * (r - 1) + c - 1)).filter (fun i => (dramPower (i / 15 + 1) (i % 15 + 1)).isNone)).length
    "DM_" ++ toString n ++ "_" ++ dramSeq.getD before ""

/-- Lanes 0 to 3 of a port or link, each with its two transmit and two receive signals. -/
def laneSeq : List String :=
  (List.range 4).flatMap (fun k => [busBit "TX_P" k, busBit "TX_N" k, busBit "RX_P" k, busBit "RX_N" k])

/-- What place `i` of the host block carries, its sites taken row by row: 34 places a port. -/
def hostBall (i : Nat) : String :=
  if 136 ≤ i then "VSS" else
  let p := "HP_" ++ toString (i / 34) ++ "_"
  let j := i % 34
  if j < 20 then p ++ (["REFCLK_P", "REFCLK_N", "PERST_N", "CLKREQ_N"] ++ laneSeq).getD j ""
  else if j < 30 then "VDD_HPHY" else "VDDA_HPHY"

/-- What place `i` of the peer block carries: 30 places a link. -/
def peerBall (i : Nat) : String :=
  if 120 ≤ i then "VSS" else
  let j := i % 30
  if j < 16 then "PL_" ++ toString (i / 30) ++ "_" ++ laneSeq.getD j ""
  else if j < 26 then "VDD_PPHY" else "VDDA_PPHY"

/-- What a site of the core field carries. -/
def coreBall (r c : Nat) : String :=
  if (r + c) % 2 = 1 then "VSS" else if r ≤ 23 || 41 ≤ r then "VDD_SRAM" else "VDD_CORE"

/-! ### Corners (R515) -/

/-- The corner balls that are not VSS: row index, column and signal. -/
def northWest : List (Nat × Nat × String) :=
  [(1, 2, "LW_IN"), (1, 4, "LW_ZC"), (1, 6, "BO_SENSE"), (1, 8, "HU_LINE"), (1, 10, "HU_TEST_N"), (1, 12, "MAIN_PG"), (1, 14, "THERM_TRIP_N"),
   (2, 3, "XA_IN"), (2, 5, "XA_OUT"), (2, 9, "XB_IN"), (2, 11, "XB_OUT"), (2, 13, "FIREFLY"), (2, 15, "FAULT_N")] ++
  (List.range 4).map (fun k => (3, 2 + 2 * k, busBit "STATUS" k)) ++ (List.range 4).map (fun k => (3, 10 + 2 * k, "VDD_AON"))

def northEast : List (Nat × Nat × String) :=
  [(1, 49, "NOR_CS_N"), (1, 51, "NOR_SCK"), (1, 53, "NOR_DQS"), (1, 55, "NOR_RESET_N"), (1, 57, "AVS_CLK"), (1, 59, "AVS_MDATA"), (1, 61, "AVS_SDATA")] ++
  (List.range 8).map (fun k => (2, 48 + 2 * k, busBit "NOR_DQ" k)) ++
  (List.range 4).map (fun k => (3, 49 + 2 * k, "VDDIO_18")) ++ (List.range 4).map (fun k => (3, 57 + 2 * k, "VDD_STBY"))

def southWest : List (Nat × Nat × String) :=
  [(60, 2, "SMB_SCL"), (60, 4, "SMB_SDA"), (60, 6, "SMB_ALERT_N"), (60, 8, "I3C_SCL"), (60, 10, "I3C_SDA"), (60, 12, "SNS_SCL"), (60, 14, "SNS_SDA"),
   (61, 1, "TCK"), (61, 3, "TMS"), (61, 5, "TDI"), (61, 7, "TDO"), (61, 9, "TRST_N"), (61, 11, "HOST_CFG[0]"), (61, 13, "HOST_CFG[1]"), (61, 15, "TEST_EN")] ++
  (List.range 8).map (fun k => (62, 2 + 2 * k, "VDDIO_33")) ++ (List.range 4).map (fun k => (63, 1 + 2 * k, "VDD_AON"))

def southEast : List (Nat × Nat × String) :=
  (List.range 4).map (fun k => (60, 49 + 2 * k, "VDDIO_18")) ++ (List.range 4).map (fun k => (60, 57 + 2 * k, "VDD_STBY")) ++
  (List.range 16).map (fun k => (62, 48 + k, "NC"))

def cornerBall (r c : Nat) : String :=
  ((northWest ++ northEast ++ southWest ++ southEast).find? (fun b => b.1 == r && b.2.1 == c)).elim "VSS" (fun b => b.2.2)

/-! ### The grid (R512) -/

/-- What the grid ball of a row index and a column, each from 1 to 63, carries. -/
def gridBall (r c : Nat) : String :=
  if c ≤ 16 || 48 ≤ c then
    if 4 ≤ r && r ≤ 59 then flashBall (decide (48 ≤ c)) r (if c ≤ 16 then c else 64 - c) else cornerBall r c
  else if r ≤ 14 then (if c == 32 then "VSS" else if c < 32 then dramBall 0 r (c - 16) else dramBall 1 r (c - 32))
  else if 50 ≤ r then (if c == 32 then "VSS" else if c < 32 then dramBall 2 (64 - r) (c - 16) else dramBall 3 (64 - r) (c - 32))
  else if r ≤ 19 then hostBall (31 * (r - 15) + (c - 17))
  else if r ≤ 44 then coreBall r c
  else peerBall (31 * (r - 45) + (c - 17))

/-! ### Straps and scaling (R528, R529) -/

/-- The lanes of a host link, as port and lane, for a sampled HOST_CFG (R529); none where there is no such link. -/
def linkLanes (cfg link : Nat) : List (Nat × Nat) :=
  let width := [1, 2, 4, 1].getD cfg 1
  if 4 ≤ link * width then [] else (List.range (4 * width)).map (fun i => (link * width + i / 4, i % 4))

/-- The voltage of the 12 V bus, in mV, that a level at BO_SENSE stands for (R528). -/
def busMv (senseMv : Nat) : Nat := 12 * senseMv

end Sys2Proof.Machine
end

