-- ==== Sys2Proof/WellFormed.lean ====
section
/-! DEFINITION. Well-formed commands: every operand lies in the range the spec gives it. -/

namespace Sys2Proof

/-- Function indexes are 0 to 2,051 (04_tenants.md R115). -/
def isFn (n : Nat) : Bool := decide (n < 2052)

/-- A master of the register fabric exists (14_control.md R382, R386). -/
def Master.wellFormed : Master → Bool
  | .attic => true
  | .jtag => true
  | .core n => decide (n < 16)
  | .coreUser n => decide (n < 16)
  | .host n => decide (n < 4)
  | .engine n => decide (n < 256)

/-- The fields of a descriptor fit their widths (07_flash_channels.md R201). -/
def Desc.wellFormed (d : Desc) : Bool :=
  decide (d.op < 256 ∧ d.die < 64 ∧ d.queue < 4 ∧ d.dens < 4 ∧ d.pass < 4 ∧ d.planes < 16 ∧ d.suspMax < 16 ∧
    d.block < 65536 ∧ d.wl < 4096 ∧ d.level < 16 ∧ d.cw < 65536 ∧ d.thr < 65536 ∧ d.tag < 4294967296)

/-- The fields of a received frame fit their widths (11_balwen.md R324). -/
def BFrame.wellFormed (f : BFrame) : Bool :=
  decide (f.ver < 256 ∧ f.cls < 4 ∧ f.ttl < 16 ∧ f.dst < 262144 ∧ f.src < 262144 ∧ f.seq < 4294967296 ∧
    f.ack < 4294967296 ∧ f.len ≤ 4096 ∧ f.credit < 4096 ∧ f.creditClass < 4 ∧ (f.typ.getD 0) < 256 ∧ f.dmac < 281474976710656 ∧ f.etype < 65536)

/-- Every operand is in range. -/
def Instr.wellFormed : Instr → Bool
  | .sqTailDoorbell fn sqid tail _ => isFn fn && decide (sqid < 65536) && decide (tail < 65536)
  | .cqHeadDoorbell fn cqid head => isFn fn && decide (cqid < 65536) && decide (head < 65536)
  | .arbitrationRound => true
  | .commandStarted ctx => decide (ctx ≤ 131072)
  | .completionPosted fn sqid => isFn fn && decide (sqid < 65536)
  | .completionPostingWait fn sqid => isFn fn && decide (sqid < 65536)
  | .read ctx _ => decide (ctx ≤ 131072)
  | .readDataTransferred ctx => decide (ctx ≤ 131072)
  | .write ctx => decide (ctx ≤ 131072)
  | .zoneAppend ctx => decide (ctx ≤ 131072)
  | .writeZeroes ctx => decide (ctx ≤ 131072)
  | .verify ctx => decide (ctx ≤ 131072)
  | .flush ctx => decide (ctx ≤ 131072)
  | .copy ctx => decide (ctx ≤ 131072)
  | .zoneShape ctx => decide (ctx ≤ 131072)
  | .peerCopy ctx => decide (ctx ≤ 131072)
  | .zoneOpen ctx => decide (ctx ≤ 131072)
  | .zoneClose ctx => decide (ctx ≤ 131072)
  | .zoneFinish ctx => decide (ctx ≤ 131072)
  | .zoneReset ctx => decide (ctx ≤ 131072)
  | .zoneOffline ctx => decide (ctx ≤ 131072)
  | .setZoneDescriptorExtension ctx => decide (ctx ≤ 131072)
  | .selectAll ctx => decide (ctx ≤ 131072)
  | .reportZones ctx => decide (ctx ≤ 131072)
  | .extendedReportZones ctx => decide (ctx ≤ 131072)
  | .deleteIoSubmissionQueue ctx => decide (ctx ≤ 131072)
  | .createIoSubmissionQueue ctx => decide (ctx ≤ 131072)
  | .deleteIoCompletionQueue ctx => decide (ctx ≤ 131072)
  | .createIoCompletionQueue ctx => decide (ctx ≤ 131072)
  | .identify ctx => decide (ctx ≤ 131072)
  | .abortCmd ctx => decide (ctx ≤ 131072)
  | .asynchronousEventRequest ctx => decide (ctx ≤ 131072)
  | .namespaceCreate ctx => decide (ctx ≤ 131072)
  | .namespaceDelete ctx => decide (ctx ≤ 131072)
  | .namespaceAttach ctx => decide (ctx ≤ 131072)
  | .namespaceDetach ctx => decide (ctx ≤ 131072)
  | .formatNvm ctx => decide (ctx ≤ 131072)
  | .firmwareImageDownload ctx => decide (ctx ≤ 131072)
  | .firmwareCommit ctx => decide (ctx ≤ 131072)
  | .firmwareActivation ctx => decide (ctx ≤ 131072)
  | .activationDrainTimeout => true
  | .secondaryControllerAssign ctx => decide (ctx ≤ 131072)
  | .secondaryControllerOnline ctx => decide (ctx ≤ 131072)
  | .secondaryControllerOffline ctx => decide (ctx ≤ 131072)
  | .nvmeMiSend ctx => decide (ctx ≤ 131072)
  | .nvmeMiReceive ctx => decide (ctx ≤ 131072)
  | .installRootTransportKey ctx => decide (ctx ≤ 131072)
  | .loadFunctionTransportKey ctx _ => decide (ctx ≤ 131072)
  | .loadSlot ctx _ => decide (ctx ≤ 131072)
  | .eraseSlot ctx => decide (ctx ≤ 131072)
  | .slotStatus ctx => decide (ctx ≤ 131072)
  | .securityProtocolList ctx => decide (ctx ≤ 131072)
  | .resumeContinue ctx => decide (ctx ≤ 131072)
  | .resumeDiscard ctx => decide (ctx ≤ 131072)
  | .getFeatures ctx => decide (ctx ≤ 131072)
  | .setTenantShare ctx => decide (ctx ≤ 131072)
  | .setThermalGrace ctx => decide (ctx ≤ 131072)
  | .setDetourPolicy ctx => decide (ctx ≤ 131072)
  | .setTicketedAppend ctx => decide (ctx ≤ 131072)
  | .setMirrorMode ctx => decide (ctx ≤ 131072)
  | .setVolatileWriteCache ctx => decide (ctx ≤ 131072)
  | .setPowerManagement ctx => decide (ctx ≤ 131072)
  | .setHostControlledThermalManagement ctx => decide (ctx ≤ 131072)
  | .setTemperatureThreshold ctx => decide (ctx ≤ 131072)
  | .getLogPage ctx => decide (ctx ≤ 131072)
  | .freezeLog ctx => decide (ctx ≤ 131072)
  | .zonePhysicalUsageLog ctx => decide (ctx ≤ 131072)
  | .blockWearLog ctx => decide (ctx ≤ 131072)
  | .eventRecorderLog ctx => decide (ctx ≤ 131072)
  | .peerRecoveryLog ctx => decide (ctx ≤ 131072)
  | .holdUpHealthLog ctx => decide (ctx ≤ 131072)
  | .readMarginHistogramLog ctx => decide (ctx ≤ 131072)
  | .flr fn => isFn fn
  | .vfDisable port numVfs => decide (port < 4) && decide (numVfs ≤ 512)
  | .vfEnable port numVfs => decide (port < 4) && decide (numVfs ≤ 512)
  | .controllerReset fn => isFn fn
  | .controllerEnable fn => isFn fn
  | .shutdownNotification fn => isFn fn
  | .perstN port => decide (port < 4)
  | .squashDone fn => isFn fn
  | .fallBackSquash fn _ => isFn fn
  | .hostPhyPllLoss port => decide (port < 4)
  | .queueReHoming fn sqid cluster => isFn fn && decide (sqid < 65536) && decide (cluster < 4)
  | .zeFblPush m _ => m.wellFormed
  | .framePacked ctx => decide (ctx ≤ 131072)
  | .granaryApply ctx => decide (ctx ≤ 131072)
  | .granarySpaceObtained => true
  | .zoneTableCheckpoint => true
  | .cipherUnitDone ctx unit => decide (ctx ≤ 131136) && decide (unit < 65536)
  | .shadowPendingTimeout slot => decide (slot < 8192)
  | .ciKwLoad m => m.wellFormed
  | .ciKwErase m => m.wellFormed
  | .ciKsCtrWrite m _ => m.wellFormed
  | .ciKsCeilWrite m _ => m.wellFormed
  | .descriptorPost ch d _ => decide (ch < 64) && d.wellFormed
  | .dieIssue ch die => decide (ch < 64) && decide (die < 64)
  | .tokenGrant => true
  | .tokenWaitTimeout ch die => decide (ch < 64) && decide (die < 64)
  | .statusPoll ch die _ => decide (ch < 64) && decide (die < 64)
  | .operationResume ch die => decide (ch < 64) && decide (die < 64)
  | .pageReadDone ch die => decide (ch < 64) && decide (die < 64)
  | .softReadDone ch die => decide (ch < 64) && decide (die < 64)
  | .calibrationReadDone ch die _ => decide (ch < 64) && decide (die < 64)
  | .programPassDone ch die _ => decide (ch < 64) && decide (die < 64)
  | .eraseDone ch die _ => decide (ch < 64) && decide (die < 64)
  | .dumpProgramDone ch die _ => decide (ch < 64) && decide (die < 64)
  | .dieOperationDone ch die step => decide (ch < 64) && decide (die < 64) && decide (step < 256)
  | .dieTemperatureRead ch die _ => decide (ch < 64) && decide (die < 64)
  | .operationTimeout ch die => decide (ch < 64) && decide (die < 64)
  | .scCancel m ch _ => m.wellFormed && decide (ch < 64)
  | .scCtlRun m ch => m.wellFormed && decide (ch < 64)
  | .scUcDataWrite m ch _ => m.wellFormed && decide (ch < 64)
  | .flashDomainPowered k => decide (k < 8)
  | .channelInitDone ch _ => decide (ch < 64)
  | .initLimitExpired ch => decide (ch < 64)
  | .hardDecodeDone tag _ _ => decide (tag < 4294967296)
  | .softDecodeDone tag _ _ => decide (tag < 4294967296)
  | .stripeRebuildDone tag _ margins => decide (tag < 4294967296) && margins.all (fun m => decide (m < 256))
  | .ldEwqPop m => m.wellFormed
  | .detourLateTest tag _ => decide (tag < 4294967296)
  | .detourAssembled tag _ => decide (tag < 4294967296)
  | .migrationMoveDone nsid zone => decide (nsid < 4294967296) && decide (zone < 1048576)
  | .termiteMoveStart nsid zone target duty => decide (nsid < 4294967296) && decide (zone < 1048576) && decide (target < 524288) && decide (1 ≤ duty ∧ duty ≤ 4)
  | .termiteMoveDone nsid zone => decide (nsid < 4294967296) && decide (zone < 1048576)
  | .patrol band _ => decide (band < 524288)
  | .ageRefresh nsid zone => decide (nsid < 4294967296) && decide (zone < 1048576)
  | .lineHalfPeriod _ => true
  | .lineLossDetected _ _ => true
  | .bo1Crossed _ => true
  | .bo2Crossed _ => true
  | .huLineLow _ => true
  | .trip sensor _ => decide (sensor < 24)
  | .dumpEnd => true
  | .holdUpCompletedReset _ => true
  | .holdUpTestStart _ => true
  | .huTestStart m _ => m.wellFormed
  | .holdUpTestEnd _ _ => true
  | .holdUpTestResult => true
  | .mirrorPartnerLost _ => true
  | .mirrorPartnerRestored => true
  | .ownerLost node _ => decide (node < 262144)
  | .orphanPullTimeout => true
  | .plCtlEn m link _ => m.wellFormed && decide (link < 4)
  | .negotiationSucceeds link rate lanes _ => decide (link < 4) && decide (rate ≤ 2) && decide (lanes < 16)
  | .trainingTimeout link => decide (link < 4)
  | .sessionLossTimeout link => decide (link < 4)
  | .linkLoss link _ _ => decide (link < 4)
  | .retrain m link => m.wellFormed && decide (link < 4)
  | .keepaliveTimer link => decide (link < 4)
  | .replayTimer link node => decide (link < 4) && decide (node < 262144)
  | .sessionIdleClose link node => decide (link < 4) && decide (node < 262144)
  | .peerPhyPllLoss => true
  | .keepalive link f => decide (link < 4) && f.wellFormed
  | .ack link f => decide (link < 4) && f.wellFormed
  | .nak link f => decide (link < 4) && f.wellFormed
  | .discover link f _ => decide (link < 4) && f.wellFormed
  | .discoverReply link f _ => decide (link < 4) && f.wellFormed
  | .timeSyncInterval => true
  | .timeSync link f _ => decide (link < 4) && f.wellFormed
  | .timeReply link f _ _ _ => decide (link < 4) && f.wellFormed
  | .holdupNotice link f _ tb => decide (link < 4) && f.wellFormed && decide (tb < 18446744073709551616)
  | .mirrorData link f _ => decide (link < 4) && f.wellFormed
  | .mirrorState link f _ => decide (link < 4) && f.wellFormed
  | .mirrorAck link f _ => decide (link < 4) && f.wellFormed
  | .mirrorRelease link f _ => decide (link < 4) && f.wellFormed
  | .orphanPull link f => decide (link < 4) && f.wellFormed
  | .orphanData link f _ => decide (link < 4) && f.wellFormed
  | .copyReq link f nsid _ n _ ctx => decide (link < 4) && f.wellFormed && decide (ctx ≤ 131072) && decide (nsid < 4294967296) && decide (n ≤ 256)
  | .copyData link f ctx _ => decide (link < 4) && f.wellFormed && decide (ctx ≤ 131072)
  | .copyEnd link f ctx _ => decide (link < 4) && f.wellFormed && decide (ctx ≤ 131072)
  | .dramRefresh => true
  | .mr4Read _ => true
  | .weevilRead _ _ _ => true
  | .retire m => m.wellFormed
  | .reinstate m => m.wellFormed
  | .dmZeroGo m => m.wellFormed
  | .zeroingDone => true
  | .loopbackCompare m => m.wellFormed
  | .loopbackDone _ _ => true
  | .modeRegisterWrite m _ => m.wellFormed
  | .miErrPop m => m.wellFormed
  | .bufAllocate owner _ _ _ _ => decide (owner < 256)
  | .requestWaitTimeout pool _ => decide (pool < 6)
  | .lrReq m _ => m.wellFormed
  | .bufFree owner _ => decide (owner < 256)
  | .bufHandOff owner _ dest => decide (owner < 256) && decide (dest < 256)
  | .bufShare owner _ n => decide (owner < 256) && decide (n ≤ 256)
  | .bufAddReference owner _ n => decide (owner < 256) && decide (n ≤ 256)
  | .bufRelease owner _ n => decide (owner < 256) && decide (n ≤ 256)
  | .bufReclaim m _ => m.wellFormed
  | .mbDoorbell m mb => m.wellFormed && decide (mb < 32)
  | .mbAck m mb => m.wellFormed && decide (mb < 32)
  | .evSw m _ => m.wellFormed
  | .eventRecord => true
  | .cricketKick m w _ => m.wellFormed && decide (w < 5)
  | .cricketStage1 w => decide (w < 5)
  | .cricketStage2 w => decide (w < 5)
  | .cricketStage3 w => decide (w < 5)
  | .registerWrite m _ _ => m.wellFormed
  | .registerParityMismatch _ _ => true
  | .windowCopyOutVoted _ cp _ => decide (cp < 3)
  | .clkSelWrite m d _ => m.wellFormed && decide (d < 6)
  | .handoverForced d => decide (d < 6)
  | .xaFault => true
  | .rootPllFault => true
  | .fircFault => true
  | .sircFault => true
  | .fircReady => true
  | .fircRestartTimeout => true
  | .referenceFallbackRelock => true
  | .pllReady _ => true
  | .xaReady _ => true
  | .clkPllWrite m _ => m.wellFormed
  | .ffCfgWrite m _ => m.wellFormed
  | .pwReqDoze m => m.wellFormed
  | .pwReqCellar m => m.wellFormed
  | .pwReqQuiesce m => m.wellFormed
  | .pwReqHalt m => m.wellFormed
  | .cellarEntryDone _ => true
  | .dozeWake _ => true
  | .cellarWake _ => true
  | .quiesceDone => true
  | .pwSwWrite m k _ => m.wellFormed && decide (k < 13)
  | .rstHoldWrite m k _ => m.wellFormed && decide (k < 13)
  | .domainStateTimeout k => decide (k < 13)
  | .ftCapLimWrite m _ => m.wellFormed
  | .sensorSample _ => true
  | .thermalTick => true
  | .graceExpired => true
  | .compensationUpdate => true
  | .lockstepMismatch => true
  | .nvmeMiRequest _ => true
  | .readNvmeMiDataStructure => true
  | .nvmSubsystemHealthStatusPoll => true
  | .controllerHealthStatusPoll => true
  | .configurationSet => true
  | .configurationGet => true
  | .vpdRead => true
  | .vpdWrite => true
  | .nvmeMiReset => true
  | .miPause endpoint => decide (endpoint < 6)
  | .miResume endpoint => decide (endpoint < 6)
  | .nvmeMiAbort endpoint => decide (endpoint < 6)
  | .miGetState endpoint => decide (endpoint < 6)
  | .miReplay endpoint => decide (endpoint < 6)
  | .nvmeBasicManagementCommand => true
  | .tunnelledAdminCommand => true
  | .programKeyHash => true
  | .revokeKey => true
  | .requireLms => true
  | .lockDebug => true
  | .readFuses => true
  | .readBoardSensors => true
  | .boardSensorPoll _ _ => true
  | .recoveryDownload typ _ _ _ => decide (typ = 1 ∨ typ = 2)
  | .erWinLatch m bank => m.wellFormed && decide (bank < 2)
  | .erWinAdvance m bank => m.wellFormed && decide (bank < 2)
  | .erCtlClear m => m.wellFormed
  | .standbyPowerUp => true
  | .secureLbistDone _ => true
  | .mainPgRise straps _ => decide (straps < 4)
  | .mainPgFall => true
  | .chipWarmReset _ => true
  | .nvmSubsystemReset fn => isFn fn
  | .rsReqFirmwareDomainReset m _ => m.wellFormed
  | .rsReqChipWarmReset m _ => m.wellFormed
  | .bootVerify => true
  | .avsAcknowledge => true
  | .selftestDone _ _ => true
  | .dataClassTestDone _ => true
  | .recovery _ => true
  | .deviceReady => true
  | .minimumRunReached ch die => decide (ch < 64) && decide (die < 64)
  | .trainingRetry link => decide (link < 4)
  | .xbReady => true
  | .standbyPowerLoss => true
  | .debugSessionStart => true
  | .debugCoreHalt core _ => decide (core < 16)

end Sys2Proof
end

