-- ==== Sys2Proof/Tests/Slice0.lean ====
section
/-! SUPPORT. Tests of this model's own: ill-formed commands that WellFormed refuses, small steps checked against the spec, and for every
statement with hypotheses concrete states and operands that meet them. -/

namespace Sys2Proof.Tests

open Sys2Proof Sys2Proof.Machine

set_option Elab.async false

/-! ### Small states -/

/-- A device in RUN with every domain on and nothing else in it. -/
def up : State := { pw := { mode := 4, doms := (List.range 13).map (fun k => (k, 2)) }, att := { released := true } }

/-- The device with these command contexts, submission queues and functions. -/
def eng (ctxs : List (Nat × Ctx)) (sqs : List (Nat × Sq)) (fns : List (Nat × Fn)) : State :=
  { up with ce := { ctxs := ctxs, sqs := sqs, fns := fns } }

/-- The device with one started command in context 0. -/
def one (x : Ctx) : State := eng [(0, x)] [] []

/-- A started admin command with three of its dwords. -/
def adm (opc cdw10 cdw11 : Nat) : Ctx := { st := .started, e := { opc := opc, nsid := 1, cdw10 := cdw10, cdw11 := cdw11 } }

/-- An enabled function that is present. -/
def live : Fn := { present := true, online := true, en := true, rdy := true }

/-- The engine's device with namespace 1 of four zones attached to function 0. -/
def withNs (n : Ns) (s : State) : State := { s with ze := { s.ze with nss := [(1, { n with zones := 4, attached := some 0 })] } }

/-- A stored register instance. -/
def reg (r : Ref) (v : Nat) (s : State) : State := wr r v s

def inMode (m : Nat) (s : State) : State := { s with pw := { s.pw with mode := m } }

/-- The device with a management request in progress. -/
def mi (r : MiReq) : State := { up with att := { released := true, miCur := some r } }

/-- A started admin command of any contents. -/
def ent (e : Entry) : Ctx := { st := .started, e := e }

/-- A Security Send or Receive of the firmware's protocol. -/
def sec (opc sel slot tl : Nat) (payload : List Byte) : Ctx :=
  ent { opc := opc, nsid := 1, cdw10 := 0xF2000000 + 2097152 * sel + 256 * slot, cdw11 := tl, payload := payload }

def withSlots (t : List (Nat × Slot)) (s : State) : State := { s with ci := { s.ci with slots := t } }
def withDl (d : Download) (s : State) : State := { s with att := { s.att with download := some d } }
def withRec (r : Recorder) : State := { up with att := { released := true, evrec := r } }
def withDogs (w stage : Nat) : State := reg (R.ckCfg w) 65536 { up with ctl := { dogs := [(w, { stage := stage })] } }

/-- A started I/O command of queue 1. -/
def io (e : Entry) : Ctx := { st := .started, sqid := 1, e := e }

/-- One command, namespace 1 of four zones, of which the first is `z`, a loaded key slot 0, and a free erased band 0 in domain 0. -/
def zoned (x : Ctx) (z : Zone) : State :=
  { one x with
    ze := { nss := [(1, { zones := 4, attached := some 0 })], zones := [(1048576, z)], bands := [(0, { erased := true })],
            rows := [(0, { domain := some 0, use := some 0 })], domains := [(0, { fbl := [0] })] }
    ci := { slots := [(0, { loaded := true })] } }

/-- An open zone on band 0, and one that is Empty with its own shape. -/
def openZone : Zone := { st := .implOpen, shape := some {}, band := some 0 }
def emptyZone : Zone := { shape := some {} }

/-- A write of queue 1 validated in zone 0 of namespace 1. -/
def wrt (nlb arrived : Nat) (done : List Nat) : Ctx :=
  { io { opc := 1, nsid := 1 } with validated := true, nsid := 1, nlb := nlb, arrived := arrived, unitsDone := done }
def big (s : State) : State := { s with gr := { s.gr with size := 1000, health := .good } }

/-- One die with its channel. -/
def flash (dk : Nat) (d : Die) : State := { up with fl := { chans := [(dk / 64, { st := .running, usable := 2 ^ 64 - 1 })], dies := [(dk, d)] } }
def withJobs (j : ReadJob) (s : State) : State := { s with fl := { s.fl with jobs := [(5, j)] } }

/-- Zone 0 of namespace 1 bound to band 0. -/
def bound (z : Zone) (s : State) : State :=
  { s with ze := { zones := [(1048576, { z with band := some 0 })], bands := [(0, { zone := some (1, 0) }), (1, { erased := true })],
                   rows := [(0, { domain := some 0, use := some 0 })] } }
def withBlk (k : Nat) (b : DieBlk) (s : State) : State := { s with fl := { s.fl with blks := [(k, b)] } }

/-- A read that is late: its die erases for long, and the other dies of its stripe are idle. -/
def lateJob : ReadJob := { who := .hostRead 0 0 0, deadline := 300000, desc := { op := 1, tag := 5, cw := 1 } }
def late : State := (fun s => { s with ck := { s.ck with tb := 280000 }, ze := { s.ze with domains := [(0, { depth := 4 })] } }) <|
  bound {} <| withJobs lateJob (flash 0 { cur := some { d := { op := 0x20, queue := 2 }, phase := .running }, q := [({ op := 1, tag := 5, cw := 1 }, .hostRead 0 0 0)] })

/-- A zone with a move in progress to band 1. -/
def moving (duty : Nat) (units : List (Nat × LUnit)) : Zone :=
  { st := .full, shape := some {}, band := some 0, units := units, move := some { target := 1, duty := duty } }

/-- A link to node 9 that is UP, with its session. -/
def linked (n : Nat) (x : Session) (s : State) : State :=
  { s with pb := { s.pb with links := [(n, { st := .up, known := true, peer := 9 })], sessions := [(sessKey n 0, x)] } }
def fr : BFrame := { src := 9 }
def own (o : Owner) (s : State) : State := { s with pb := { s.pb with owners := [(9, o)] } }
def mirror (s : State) : State := { s with gr := { s.gr with size := 1000, mirEn := true, mirPartner := 9, health := .good } }

/-- One Larder buffer in use, and a device that reads its memories. -/
def withBuf (b : Buf) : State := { up with lr := { bufs := [(0, b)] } }
def scrub (m : Memory) : State := { up with dm := m }

/-! ### Witnesses -/

theorem witness_DoorbellsAreRecorded_1 :
    ∃ (s : State) (sq : Sq), sqOf s 0 1 = some sq ∧ bellOn s 0 = true ∧ 63 < sq.size :=
  ⟨eng [] [(1, { size := 64 })] [(0, live)], { size := 64 }, by decide +kernel⟩

theorem witness_DoorbellsAreRecorded_2 :
    ∃ (s : State) (cq : Cq), cqOf s 0 1 = some cq ∧ bellOn s 0 = true ∧ 63 < cq.size :=
  ⟨{ eng [] [] [(0, live)] with ce := { cqs := [(1, { size := 64 })], fns := [(0, live)] } }, { size := 64 }, by decide +kernel⟩

theorem witness_RoundBringsSettingsIntoForce_1 :
    ∃ (s : State) (f : Fn), tfind s.ce.fns 0 = some f :=
  ⟨eng [] [] [(0, live)], live, by decide +kernel⟩

theorem witness_RoundBringsSettingsIntoForce_2 :
    ∃ (s : State) (e : Entry) (q : Sq), s.ce.sqs = [(qKey 0 0, q)] ∧ q.entries = [e] ∧ fetching s = true ∧
      fetchable s q = true ∧ fnLive (fnOf s 0) = true ∧ s.ce.ctxs = [] ∧ 0 < roundLimit s :=
  ⟨{ up with ce := { fetchStop := false, fns := [(0, live)], sqs := [(0, { entries := [{}] })] } }, {}, { entries := [{}] }, by decide +kernel⟩

theorem witness_CommandsStartInOrder_1 :
    ∃ (s : State) (x : Ctx) (q : Sq), ctxOf s 0 = some x ∧ sqOf s x.fn x.sqid = some q ∧ x.st = .fetched ∧ x.tunnel = false ∧
      ctxFresh s x = true ∧ q.frozen = none ∧ q.resuming = none ∧ s.gr.holdup = false ∧ earlierStarted s 0 x = true ∧ x.sqid = 0 ∧ adminFault s x = none :=
  ⟨eng [(0, { e := { opc := 0x06, cdw10 := 1 } })] [(0, {})] [], { e := { opc := 0x06, cdw10 := 1 } }, {}, by decide +kernel⟩

theorem witness_CommandsStartInOrder_2 :
    ∃ (s : State) (x : Ctx) (q : Sq), ctxOf s 4096 = some x ∧ sqOf s x.fn x.sqid = some q ∧ x.st = .fetched ∧ x.tunnel = false ∧
      ctxFresh s x = true ∧ q.frozen = none ∧ q.resuming = none ∧ s.gr.holdup = false ∧ earlierStarted s 4096 x = true ∧ x.sqid ≠ 0 ∧
      ioOpcodes.contains x.e.opc = true ∧ fwRun x.e.opc = false ∧ x.e.fuse = 0 ∧ nsGranted s x.fn x.e.nsid = true ∧ safeBars s x.e = false ∧
      sglFault x.e = none ∧ ioFieldFault s x.e = none :=
  ⟨withNs {} (eng [(4096, { sqid := 1, e := { opc := 0x02, nsid := 1 } })] [(1, {})] []), { sqid := 1, e := { opc := 0x02, nsid := 1 } }, {}, by decide +kernel⟩

theorem witness_CompletionsPost_1 :
    ∃ (s : State) (c : Nat) (q : Sq) (cq : Cq) (x : Ctx), sqOf s 0 0 = some q ∧ cqOf s 0 q.cqid = some cq ∧
      s.gr.holdup = false ∧ cqRoom cq = true ∧ nextPost s 0 q = some (c, x) ∧ ctxFresh s x = true ∧ isWriteOpc x.e.opc = false ∧
      q.deleting = none ∧ q.discarding = none ∧ q.resuming = none ∧ s.ce.ctxs.all (fun p => !(p.2.e.opc == 0x15 || p.2.e.opc == 0x0D) || p.2.st != .committed) = true :=
  ⟨{ up with ce := { ctxs := [(0, { st := .completed, e := { opc := 6 } })], sqs := [(0, { live := [0] })], cqs := [(0, { size := 4 })] } }, 0, { live := [0] }, { size := 4 }, { st := .completed, e := { opc := 6 } }, by decide +kernel⟩

theorem witness_CompletionsPost_2 :
    ∃ (s : State) (q : Sq) (cq : Cq), sqOf s 0 0 = some q ∧ cqOf s 0 q.cqid = some cq ∧ cqRoom cq = false ∧ (nextPost s 0 q).isSome = true :=
  ⟨{ up with ce := { ctxs := [(0, { st := .completed, e := { opc := 6 } })], sqs := [(0, { live := [0] })], cqs := [(0, { head := 1 })] } }, { live := [0] }, { head := 1 }, by decide +kernel⟩

theorem witness_QueuesAreCreatedAndDeleted_1 :
    ∃ (s : State) (x : Ctx), Safety.AdminRuns s 0 x 0x01 ∧ bits x.e.cdw11 31 16 ≠ 0 ∧
      (cqOf s x.fn (bits x.e.cdw11 31 16)).isSome = true ∧ eQid x.e ≠ 0 ∧ eQid x.e ≤ (fnOf s x.fn).nvq ∧ sqOf s x.fn (eQid x.e) = none ∧
      eQsize x.e ≠ 0 ∧ bit x.e.cdw11 0 = true :=
  ⟨{ up with ce := { ctxs := [(0, adm 1 65537 65537)], cqs := [(1, {})] } }, adm 1 65537 65537, by unfold Safety.AdminRuns Safety.Runnable; decide +kernel⟩

theorem witness_QueuesAreCreatedAndDeleted_2 :
    ∃ (s : State) (x : Ctx), Safety.AdminRuns s 0 x 0x05 ∧ eQid x.e ≠ 0 ∧ eQid x.e ≤ (fnOf s x.fn).nvq ∧
      cqOf s x.fn (eQid x.e) = none ∧ eQsize x.e ≠ 0 ∧ bit x.e.cdw11 0 = true ∧ bits x.e.cdw11 31 16 < (fnOf s x.fn).nvi :=
  ⟨one (adm 5 65537 65537), adm 5 65537 65537, by unfold Safety.AdminRuns Safety.Runnable; decide +kernel⟩

theorem witness_QueuesAreCreatedAndDeleted_3 :
    ∃ (s : State) (x : Ctx) (q : Sq), Safety.AdminRuns s 0 x 0x00 ∧ sqOf s x.fn (eQid x.e) = some q ∧ eQid x.e ≠ 0 ∧
      q.deleting = none ∧ q.discarding = none ∧ q.resuming = none ∧ q.live = [] :=
  ⟨eng [(0, adm 0 1 0)] [(1, {})] [], adm 0 1 0, {}, by unfold Safety.AdminRuns Safety.Runnable; decide +kernel⟩

theorem witness_QueuesAreCreatedAndDeleted_4 :
    ∃ (s : State) (x : Ctx), Safety.AdminRuns s 0 x 0x04 ∧ eQid x.e ≠ 0 ∧ (cqOf s x.fn (eQid x.e)).isSome = true ∧
      s.ce.sqs.any (fun p => p.1 / 65536 == x.fn && p.2.cqid == eQid x.e) = false :=
  ⟨{ up with ce := { ctxs := [(0, adm 4 1 0)], cqs := [(1, {})] } }, adm 4 1 0, by unfold Safety.AdminRuns Safety.Runnable; decide +kernel⟩

theorem witness_QueuesAreCreatedAndDeleted_5 :
    ∃ (s : State) (sq : Sq), sqOf s 0 1 = some sq :=
  ⟨eng [] [(1, {})] [], {}, by decide +kernel⟩

theorem witness_AbortAndEventRequests_1 :
    ∃ (s : State) (k : Nat) (x y : Ctx) (q : Sq), Safety.AdminRuns s 0 x 0x08 ∧ sqOf s x.fn (eQid x.e) = some q ∧
      q.live.find? (fun c' => c' != 0 && ((ctxOf s c').map (fun z => z.e.cid == bits x.e.cdw10 31 16)).getD false) = some k ∧
      ctxOf s k = some y ∧ y.st = .fetched ∧ y.tunnel = false ∧ y.inFw = false ∧ ctxFresh s y = true ∧ (∀ p, p ∈ s.ce.sqs → p.2.resuming = none) :=
  ⟨eng [(0, adm 8 458753 0), (4096, { sqid := 1, e := { cid := 7 } })] [(1, { live := [4096] })] [], 4096, adm 8 458753 0, { sqid := 1, e := { cid := 7 } }, { live := [4096] }, by unfold Safety.AdminRuns Safety.Runnable; decide +kernel⟩

theorem witness_AbortAndEventRequests_2 :
    ∃ (s : State) (x : Ctx), Safety.AdminRuns s 0 x 0x08 ∧
      (((sqOf s x.fn (eQid x.e)).map (fun q => q.live)).getD []).all (fun c' => c' == 0 || (ctxOf s c').all (fun z => z.e.cid != bits x.e.cdw10 31 16)) = true :=
  ⟨one (adm 8 458753 0), adm 8 458753 0, by unfold Safety.AdminRuns Safety.Runnable; decide +kernel⟩

theorem witness_AbortAndEventRequests_3 :
    ∃ (s : State) (x : Ctx) (ev : Nat × Nat × Nat) (rest : List (Nat × Nat × Nat)) (q : Sq), Safety.AdminRuns s 0 x 0x0C ∧
      sqOf s x.fn 0 = some q ∧ q.live.length ≤ 16 ∧ 0 ∈ q.live ∧ (fnOf s x.fn).asyncEvents = ev :: rest :=
  ⟨eng [(0, adm 12 0 0)] [(0, { live := [0] })] [(0, { asyncEvents := [(1, 2, 3)] })], adm 12 0 0, (1, 2, 3), [], { live := [0] }, by unfold Safety.AdminRuns Safety.Runnable; decide +kernel⟩

theorem witness_AbortAndEventRequests_4 :
    ∃ (s : State) (x : Ctx) (q : Sq), Safety.AdminRuns s 0 x 0x0C ∧ sqOf s x.fn 0 = some q ∧ q.live.length ≤ 16 ∧ 0 ∈ q.live ∧
      (fnOf s x.fn).asyncEvents = [] :=
  ⟨eng [(0, adm 12 0 0)] [(0, { live := [0] })] [], adm 12 0 0, { live := [0] }, by unfold Safety.AdminRuns Safety.Runnable; decide +kernel⟩

theorem witness_FrozenQueuesResume_1 :
    ∃ (s : State) (x : Ctx) (q : Sq) (f : Freeze), Safety.AdminRuns s 0 x 0xC0 ∧ bit x.e.cdw11 0 = false ∧ bit x.e.cdw11 1 = false ∧
      sqOf s x.fn (eQid x.e) = some q ∧ q.frozen = some f ∧ q.discarding = none ∧ q.resuming = none ∧ (heldOf q f).any (running s) = false ∧
      (heldOf q f).all (fun i => ((ctxOf s i).map (fun y => !(y.st == .completed && freezing y.status))).getD true) = true :=
  ⟨eng [(0, adm 0xC0 1 0)] [(1, { live := [4096], frozen := some { ctx := 4096 } })] [], adm 0xC0 1 0, { live := [4096], frozen := some { ctx := 4096 } }, { ctx := 4096 }, by unfold Safety.AdminRuns Safety.Runnable; decide +kernel⟩

theorem witness_FrozenQueuesResume_2 :
    ∃ (s : State) (x y : Ctx) (q : Sq) (cq : Cq), sqOf s 0 1 = some q ∧ cqOf s 0 q.cqid = some cq ∧ s.gr.holdup = false ∧ cqRoom cq = true ∧
      nextPost s 1 q = some (4096, y) ∧ q.live = [4096] ∧ q.frozen = none ∧ q.discarding = none ∧ q.deleting = none ∧ q.resuming = some (0, [4096], []) ∧
      ctxFresh s y = true ∧ isWriteOpc y.e.opc = false ∧ y.fn = 0 ∧ y.sqid = 1 ∧ ctxOf s 0 = some x ∧ x.st = .committed ∧ x.e.opc = 0xC0 ∧ x.tunnel = false ∧ ctxFresh s x = true :=
  ⟨{ up with ce := { ctxs := [(0, { st := .committed, e := { opc := 0xC0 } }), (4096, { sqid := 1, st := .completed })], sqs := [(1, { live := [4096], resuming := some (0, [4096], []) })], cqs := [(0, { size := 4 })] } }, { st := .committed, e := { opc := 0xC0 } }, { sqid := 1, st := .completed }, { live := [4096], resuming := some (0, [4096], []) }, { size := 4 }, by decide +kernel⟩

theorem witness_FrozenQueuesResume_3 :
    ∃ (s : State) (x : Ctx) (q : Sq) (f : Freeze), Safety.AdminRuns s 0 x 0xC0 ∧ bit x.e.cdw11 0 = true ∧
      sqOf s x.fn (eQid x.e) = some q ∧ q.frozen = some f ∧ q.discarding = none ∧ q.resuming = none ∧ q.live = [f.ctx] :=
  ⟨eng [(0, adm 0xC0 1 1)] [(1, { live := [4096], frozen := some { ctx := 4096 } })] [], adm 0xC0 1 1, { live := [4096], frozen := some { ctx := 4096 } }, { ctx := 4096 }, by unfold Safety.AdminRuns Safety.Runnable; decide +kernel⟩

theorem witness_FrozenQueuesResume_4 :
    ∃ (s : State) (x : Ctx) (q : Sq) (f : Freeze), Safety.AdminRuns s 0 x 0xC0 ∧ bit x.e.cdw11 0 = true ∧
      sqOf s x.fn (eQid x.e) = some q ∧ q.frozen = some f ∧ q.discarding = none ∧ q.resuming = none ∧ q.live = [] ∧ (bit x.e.cdw11 1 = false ∨ q.entries = []) :=
  ⟨eng [(0, adm 0xC0 1 1)] [(1, { frozen := some { ctx := 4096 } })] [], adm 0xC0 1 1, { frozen := some { ctx := 4096 } }, { ctx := 4096 }, by unfold Safety.AdminRuns Safety.Runnable; decide +kernel⟩

theorem witness_FrozenQueuesResume_5 :
    ∃ (s : State) (i : Nat) (x y : Ctx) (q : Sq) (f : Freeze), Safety.AdminRuns s 0 x 0xC0 ∧ bit x.e.cdw11 0 = true ∧
      sqOf s x.fn (eQid x.e) = some q ∧ eQid x.e ≠ 0 ∧ q.frozen = some f ∧ q.discarding = none ∧ q.resuming = none ∧ q.deleting = none ∧ q.live = [f.ctx, i] ∧ i ≠ 0 ∧ i ≠ f.ctx ∧
      ctxOf s i = some y ∧ y.st = .fetched ∧ y.tunnel = false ∧ ctxFresh s y = true ∧ y.fn = x.fn ∧ y.sqid = eQid x.e :=
  ⟨eng [(0, adm 0xC0 1 1), (4097, { sqid := 1 })] [(1, { live := [4096, 4097], frozen := some { ctx := 4096 } })] [], 4097, adm 0xC0 1 1, { sqid := 1 }, { live := [4096, 4097], frozen := some { ctx := 4096 } }, { ctx := 4096 }, by unfold Safety.AdminRuns Safety.Runnable; decide +kernel⟩

theorem witness_FrozenQueuesResume_6 :
    ∃ (s : State) (x : Ctx) (e : Entry) (q : Sq) (cq : Cq), sqOf s 0 1 = some q ∧ cqOf s 0 q.cqid = some cq ∧ s.gr.holdup = false ∧ cqRoom cq = true ∧
      q.live = [] ∧ q.drain = [e] ∧ q.discarding = some (0, [4096, 4097]) ∧ q.frozen.isSome = true ∧ ctxOf s 0 = some x ∧ x.st = .committed ∧
      x.tunnel = false ∧ ctxFresh s x = true :=
  ⟨{ up with ce := { ctxs := [(0, { st := .committed, e := { opc := 0xC0 } })], sqs := [(1, { drain := [{}], discarding := some (0, [4096, 4097]), frozen := some { ctx := 4096 } })], cqs := [(0, { size := 4 })] } }, { st := .committed, e := { opc := 0xC0 } }, {}, { drain := [{}], discarding := some (0, [4096, 4097]), frozen := some { ctx := 4096 } }, { size := 4 }, by decide +kernel⟩

theorem witness_FunctionsAreTakenAway_1 :
    ∃ (s : State), (fnOf s 0).present = true ∧ ((fnOf s 0).online || isPf 0) = true ∧ (fnOf s 0).squash = none ∧
      ∃ c x, ctxOf s c = some x ∧ x.fn = 0 ∧ x.tunnel = false ∧ ctxFresh s x = true ∧ worksOn x = false :=
  ⟨one {}, by decide +kernel, by decide +kernel, by decide +kernel, 0, {}, by decide +kernel⟩

theorem witness_FunctionsAreTakenAway_2 :
    ∃ (s : State), (fnOf s 0).present = true ∧ (fnOf s 0).en = true ∧ (fnOf s 0).squash = none :=
  ⟨eng [] [] [(0, live)], by decide +kernel⟩

theorem witness_FunctionsAreTakenAway_3 :
    ∃ (s : State) (pin : Nat), pin < 4 ∧ linkPorts s pin = [] :=
  ⟨{ up with rs := { straps := 2 } }, 3, by decide +kernel⟩

theorem witness_FunctionsAreTakenAway_4 :
    ∃ (s : State) (pin port : Nat), pin < 4 ∧ port ∈ linkPorts s pin ∧ port ≠ pin ∧ (fnOf s port).present = true ∧ (fnOf s port).squash = none :=
  ⟨{ up with rs := { straps := 2 } }, 0, 3, by decide +kernel⟩

theorem witness_FunctionsAreTakenAway_5 :
    ∃ (s : State) (port n : Nat), (portState s port).vfEnable = true ∧ n < (portState s port).numVfs ∧
      (fnOf s (vfFn port (n + 1))).squash = none :=
  ⟨{ up with ce := { ports := [(0, { vfEnable := true, numVfs := 512 })] } }, 0, 511, by decide +kernel⟩

theorem witness_SquashesEnd_1 :
    ∃ (s : State) (k : SquashKind), (fnOf s 0).squash = some k ∧ k ≠ .parity ∧ oldCtxs s 0 = [] :=
  ⟨eng [] [] [(0, { squash := some .flr })], .flr, by decide +kernel⟩

theorem witness_SquashesEnd_2 :
    ∃ (s : State), (fnOf s 0).squash.isSome = true ∧ oldCtxs s 0 ≠ [] :=
  ⟨eng [(0, {})] [] [(0, { gen := 1, squash := some .flr })], by decide +kernel⟩

theorem witness_ControllersStartAndStop_1 :
    ∃ (s : State), (fnOf s 0).present = true ∧ (fnOf s 0).en = false ∧ (fnOf s 0).squash = none ∧ s.pw.mode ≠ mHalt ∧ s.pw.mode ≠ mQuiesce :=
  ⟨up, by decide +kernel⟩

theorem witness_ControllersStartAndStop_2 :
    ∃ (s : State), (fnOf s 0).present = true ∧ (fnOf s 0).en = true ∧ (fnOf s 0).squash = none ∧ isPf 0 = true ∧ inService s = true ∧
      ((List.range 4).filter (fun k => k != 0)).all (fun k => !(fnOf s k).en || (fnOf s k).shn) = true :=
  ⟨eng [] [] [(0, live)], by decide +kernel⟩

theorem witness_ControllersStartAndStop_3 :
    ∃ (s : State), (fnOf s 4).present = true ∧ (fnOf s 4).en = true ∧ (fnOf s 4).squash = none ∧ isPf 4 = false :=
  ⟨eng [] [] [(4, live)], by decide +kernel⟩

theorem witness_SecondaryControllersAreManaged_1 :
    ∃ (s : State) (fn : Nat) (x : Ctx), Safety.AdminRuns s 0 x 0x1C ∧ bits x.e.cdw10 3 0 = 8 ∧ secOf x = some fn ∧ (fnOf s fn).present = false ∧ (fnOf s fn).online = false ∧
      bits x.e.cdw10 10 8 = 0 ∧ bits x.e.cdw11 15 0 ≤ 256 ∧ bits x.e.cdw11 15 0 ≤ s.ce.vqPool + (fnOf s fn).nvq :=
  ⟨one (adm 0x1C (8 + 65536 * cntlidOf 4) 256), 4, adm 0x1C (8 + 65536 * cntlidOf 4) 256, by unfold Safety.AdminRuns Safety.Runnable; decide +kernel⟩

theorem witness_SecondaryControllersAreManaged_2 :
    ∃ (s : State) (fn : Nat) (x : Ctx), Safety.AdminRuns s 0 x 0x1C ∧ bits x.e.cdw10 3 0 = 8 ∧ secOf x = some fn ∧ (fnOf s fn).present = false ∧ (fnOf s fn).online = false ∧
      bits x.e.cdw10 10 8 = 1 ∧ bits x.e.cdw11 15 0 ≤ 257 ∧ bits x.e.cdw11 15 0 ≤ s.ce.viPool + (fnOf s fn).nvi :=
  ⟨one (adm 0x1C (264 + 65536 * cntlidOf 4) 257), 4, adm 0x1C (264 + 65536 * cntlidOf 4) 257, by unfold Safety.AdminRuns Safety.Runnable; decide +kernel⟩

theorem witness_SecondaryControllersAreManaged_3 :
    ∃ (s : State) (fn : Nat) (x : Ctx), Safety.AdminRuns s 0 x 0x1C ∧ bits x.e.cdw10 3 0 = 9 ∧ secOf x = some fn ∧ (fnOf s fn).nvq ≠ 0 ∧ (fnOf s fn).nvi ≠ 0 :=
  ⟨eng [(0, adm 0x1C (9 + 65536 * cntlidOf 4) 0)] [] [(4, { nvq := 1, nvi := 1 })], 4, adm 0x1C (9 + 65536 * cntlidOf 4) 0, by unfold Safety.AdminRuns Safety.Runnable; decide +kernel⟩

theorem witness_SecondaryControllersAreManaged_4 :
    ∃ (s : State) (fn : Nat) (x : Ctx), Safety.AdminRuns s 0 x 0x1C ∧ bits x.e.cdw10 3 0 = 7 ∧ secOf x = some fn ∧
      ((fnOf s fn).present && (fnOf s fn).en) = false :=
  ⟨one (adm 0x1C (7 + 65536 * cntlidOf 4) 0), 4, adm 0x1C (7 + 65536 * cntlidOf 4) 0, by unfold Safety.AdminRuns Safety.Runnable; decide +kernel⟩

theorem witness_IdleModesAreEnteredAndLeft_1 :
    ∃ (s : State), Safety.Reaches s (.core 0) .power 0 ∧ serving s = true ∧ dozeOk s = true :=
  ⟨up, by unfold Safety.Reaches; decide +kernel⟩

theorem witness_IdleModesAreEnteredAndLeft_2 :
    ∃ (s : State), s.pw.mode = mDoze ∧ wakesDoze s .hostTlp = true :=
  ⟨inMode mDoze up, by decide +kernel⟩

theorem witness_IdleModesAreEnteredAndLeft_3 :
    ∃ (s : State), Safety.Reaches s (.core 0) .power 0 ∧ serving s = true ∧ cellarOk s = true ∧ s.pw.entering = false :=
  ⟨{ up with gr := { ckpt := some {} } }, by unfold Safety.Reaches; decide +kernel⟩

theorem witness_IdleModesAreEnteredAndLeft_4 :
    ∃ (s : State), s.pw.entering = true ∧ serving s = true :=
  ⟨{ up with pw := { up.pw with entering := true } }, by decide +kernel⟩

theorem witness_IdleModesAreEnteredAndLeft_5 :
    ∃ (s : State), s.pw.entering = false ∧ s.pw.mode = mCellar ∧ wakesCellar s .perst = true :=
  ⟨inMode mCellar up, by decide +kernel⟩

theorem witness_IdleModesAreEnteredAndLeft_6 :
    ∃ (s : State), s.pw.entering = true ∧ wakesCellar s .perst = true :=
  ⟨{ up with pw := { up.pw with entering := true } }, by decide +kernel⟩

theorem witness_OrderlyStops_1 :
    ∃ (s : State), Safety.Reaches s (.core 0) .power 0 ∧ stopOk s = true :=
  ⟨up, by unfold Safety.Reaches; decide +kernel⟩

theorem witness_OrderlyStops_2 :
    ∃ (s : State) (why : StopCause), s.pw.stop = some why ∧ why.tests = true ∧ s.pw.mode = mQuiesce ∧ stopDrained s = true ∧ s.pw.stopTested = false :=
  ⟨{ up with gr := { ckpt := some {} }, pw := { up.pw with mode := mQuiesce, stop := some .shutdown } }, .shutdown, by decide +kernel⟩

theorem witness_OrderlyStops_3 :
    ∃ (s : State) (why : StopCause), s.pw.stop = some why ∧ why.tests = true ∧ s.pw.mode = mQuiesce ∧ stopDrained s = true ∧ s.pw.stopDone = false ∧
      s.pw.stopTested = true :=
  ⟨{ up with gr := { ckpt := some {} }, pw := { up.pw with mode := mQuiesce, stop := some .shutdown, stopTested := true } }, .shutdown, by decide +kernel⟩

theorem witness_OrderlyStops_4 :
    ∃ (s : State), s.pw.stop = some .halt ∧ s.pw.mode = mQuiesce ∧ stopDrained s = true ∧ s.pw.stopDone = false :=
  ⟨{ up with gr := { ckpt := some {} }, pw := { up.pw with mode := mQuiesce, stop := some .halt } }, by decide +kernel⟩

theorem witness_OrderlyStops_5 :
    ∃ (s : State), s.pw.stop = some .warmReset ∧ s.pw.mode = mQuiesce ∧ stopDrained s = true ∧ s.pw.stopDone = false :=
  ⟨{ up with gr := { ckpt := some {} }, pw := { up.pw with mode := mQuiesce, stop := some .warmReset } }, by decide +kernel⟩

theorem witness_PowerSwitchesAndCap_1 :
    ∃ (s : State) (v : Word), (masterCls (.core 0) = .priv ∨ masterCls (.core 0) = .secure) ∧ masterSilent s (.core 0) = false ∧
      checkOk v.toNat = true ∧ pwSwOk s 12 (v.toNat % 65536) = true :=
  ⟨up, 0xFFFF0000#32, by decide +kernel⟩

theorem witness_PowerSwitchesAndCap_2 :
    ∃ (s : State) (v : Word), masterSilent s (.core 0) = false ∧ checkOk v.toNat = true ∧ pwSwOk s 0 (v.toNat % 65536) = false :=
  ⟨up, 0xFFFF0000#32, by decide +kernel⟩

theorem witness_PowerSwitchesAndCap_3 :
    ∃ (s : State) (v : Word), masterSilent s (.core 0) = false ∧ serving s = true ∧ checkOk v.toNat = true :=
  ⟨up, 0xFFFE0001#32, by decide +kernel⟩

theorem witness_PowerSwitchesAndCap_4 :
    ∃ (s : State) (v : Word), Safety.Reaches s (.core 0) .flashToken 0 ∧ s.pw.mode = mRun ∧ bits v.toNat 16 0 ≠ 0 :=
  ⟨up, 1#32, by unfold Safety.Reaches; decide +kernel⟩

theorem witness_PowerSwitchesAndCap_5 :
    ∃ (s : State) (v : Word), Safety.Reaches s (.core 0) .flashToken 0 ∧ s.pw.mode = mCapped ∧ bits v.toNat 16 0 = 0 :=
  ⟨inMode mCapped up, 0#32, by unfold Safety.Reaches; decide +kernel⟩

theorem witness_PowerSwitchesAndCap_6 :
    ∃ (s : State), serving s = true ∧ s.pw.entering = false ∧ s.pw.waking = false :=
  ⟨up, by decide +kernel⟩

theorem witness_HeatIsEnforced_1 :
    ∃ (s : State) (ts : List Int), s.rs.standby = true ∧ ts.length = 24 ∧ inService s = true ∧ s.pw.critRow = 1 ∧
      (∃ i, i < 24 ∧ sensorBad ts (ts.getD i 0) = false ∧ 105 ≤ ts.getD i 0) :=
  ⟨{ up with pw := { up.pw with critRow := 1 } }, List.replicate 24 105, by decide +kernel, by decide +kernel, by decide +kernel, by decide +kernel, 23, by decide +kernel⟩

theorem witness_HeatIsEnforced_2 :
    ∃ s : State, s.pw.th = .grace ∧ elapsed s s.pw.graceAt (graceNs s) = true :=
  ⟨{ up with pw := { th := .grace }, ck := { tb := 100000000000 } }, by decide +kernel⟩

theorem witness_HeatIsEnforced_3 :
    ∃ s : State, s.pw.th = .enforce ∧ 95 ≤ s.pw.comp :=
  ⟨{ up with pw := { th := .enforce, comp := 95 } }, by decide +kernel⟩

theorem witness_HeatIsEnforced_4 :
    ∃ s : State, s.pw.th = .enforce ∧ cool s = true ∧ s.pw.comp < 95 ∧ s.pw.limit + thStep s < budget s :=
  ⟨{ up with pw := { th := .enforce } }, by decide +kernel⟩

theorem witness_HeatIsEnforced_5 :
    ∃ s : State, s.pw.th = .enforce ∧ cool s = true ∧ s.pw.comp < 95 ∧ budget s ≤ s.pw.limit + thStep s :=
  ⟨{ up with pw := { th := .enforce, limit := 32000 } }, by decide +kernel⟩

theorem witness_HeatIsEnforced_6 :
    ∃ s : State, s.pw.mode ≠ mOff ∧ s.pw.mode ≠ mHoldup :=
  ⟨up, by decide +kernel⟩

theorem witness_DomainClocksAreSelected_1 :
    ∃ (s : State) (v : Word), masterSilent s (.core 0) = false ∧ checkOk v.toNat = true ∧ srcReady s.ck (v.toNat % 2) = true ∧
      (clkFrom s 1 ≠ 1 ∨ bit v.toNat 1 = bit (winVal s (clkSelOff 1)) 1) :=
  ⟨up, 0xFFFF0000#32, by decide +kernel⟩

theorem witness_DomainClocksAreSelected_2 :
    ∃ (s : State) (v : Word), masterSilent s (.core 0) = false ∧ checkOk v.toNat = true ∧ srcReady s.ck (v.toNat % 2) = false :=
  ⟨up, 0xFFFE0001#32, by decide +kernel⟩

theorem witness_DomainClocksAreSelected_3 :
    ∃ (s : State) (h : Nat), tfind s.ck.handing 5 = some h :=
  ⟨{ up with ck := { handing := [(5, 3)] } }, 3, by decide +kernel⟩

theorem witness_LostClocksFallBackToFirc_1 :
    ∃ s : State, s.ck.xaRdy = true ∧ monitored s = true :=
  ⟨{ up with ck := { xaRdy := true } }, by decide +kernel⟩

theorem witness_LostClocksFallBackToFirc_2 :
    ∃ s : State, s.ck.rootRdy = true ∧ monitored s = true :=
  ⟨{ up with ck := { rootRdy := true } }, by decide +kernel⟩

theorem witness_LostClocksFallBackToFirc_3 :
    ∃ s : State, s.ck.fircRdy = true ∧ monitored s = true :=
  ⟨up, by decide +kernel⟩

theorem witness_LostClocksFallBackToFirc_4 :
    ∃ s : State, s.ck.sircRdy = true ∧ s.ck.xbRdy = true :=
  ⟨{ up with ck := { xbRdy := true } }, by decide +kernel⟩

theorem witness_LostClocksFallBackToFirc_5 :
    ∃ s : State, s.ck.fircRdy = false ∧ monitored s = true ∧ s.pw.waking = false :=
  ⟨{ up with ck := { fircRdy := false } }, by decide +kernel⟩

theorem witness_LostClocksFallBackToFirc_6 :
    ∃ s : State, s.ck.refFb = true ∧ s.ck.relocking = true ∧ s.ck.fircRdy = true :=
  ⟨{ up with ck := { refFb := true, relocking := true } }, by decide +kernel⟩

theorem witness_PllsAndTimeBaseFollow_1 :
    ∃ s : State, monitored s = true ∧ s.pw.waking = false ∧ s.ck.refFb = false ∧ s.ck.xaRdy = true ∧ rdb s R.clkPll 0 = true ∧ rdb s R.clkPll 1 = true ∧ rdb s R.clkPll 2 = true :=
  ⟨reg R.clkPll 15 { up with ck := { xaRdy := true } }, by decide +kernel⟩

theorem witness_PllsAndTimeBaseFollow_2 :
    ∃ s : State, monitored s = true ∧ s.pw.waking = false ∧ 3 ∉ s.ck.hphyRdy :=
  ⟨up, by decide +kernel⟩

theorem witness_PllsAndTimeBaseFollow_3 :
    ∃ s : State, s.ck.xaRdy = false ∧ monitored s = true ∧ s.ck.tbStopped = false :=
  ⟨up, by decide +kernel⟩

theorem witness_PllsAndTimeBaseFollow_4 :
    ∃ s : State, s.ck.xaRdy = false ∧ monitored s = true ∧ s.ck.tbStopped = true :=
  ⟨{ up with ck := { tbStopped := true } }, by decide +kernel⟩

theorem witness_PllsAndTimeBaseFollow_5 :
    ∃ s : State, rdb s R.clkMon 0 = true ∧ s.rs.standby = true :=
  ⟨reg R.clkMon 1 up, by decide +kernel⟩

theorem witness_PllsAndTimeBaseFollow_6 :
    ∃ s : State, Safety.Reaches s (.core 0) .clock 0 :=
  ⟨up, by unfold Safety.Reaches; decide +kernel⟩

theorem witness_PllsAndTimeBaseFollow_7 :
    ∃ s : State, s.ck.hphyRdy.contains 3 = true :=
  ⟨{ up with ck := { hphyRdy := [3] } }, by decide +kernel⟩

theorem witness_PllsAndTimeBaseFollow_8 :
    ∃ s : State, s.ck.pphyRdy = true :=
  ⟨{ up with ck := { pphyRdy := true } }, by decide +kernel⟩

theorem witness_RailsAndResets_1 :
    ∃ s : State, s.rs.mainPg = true ∧ s.pw.mode ≠ mOff :=
  ⟨up, by decide +kernel⟩

theorem witness_RailsAndResets_2 :
    ∃ s : State, s.rs.standby = true ∧ s.rs.mainPg = false ∧ s.rs.faultCode ≠ some 12 :=
  ⟨{ up with rs := { mainPg := false } }, by decide +kernel⟩

theorem witness_RailsAndResets_3 :
    ∃ s : State, s.rs.standby = false :=
  ⟨{ up with rs := { standby := false } }, by decide +kernel⟩

theorem witness_RailsAndResets_4 :
    ∃ s : State, s.rs.standby = true ∧ s.att.released = false ∧ s.rs.faultCode ≠ some 12 :=
  ⟨State.reset, by decide +kernel⟩

theorem witness_RailsAndResets_5 :
    ∃ s : State, s.pw.mode = mHoldup ∧ 2 ≤ s.gr.dumpSt :=
  ⟨{ inMode mHoldup up with gr := { dumpSt := 2 } }, by decide +kernel⟩

theorem witness_RailsAndResets_6 :
    ∃ s : State, s.pw.mode ≠ mOff ∧ segCount s = 0 :=
  ⟨up, by decide +kernel⟩

theorem witness_RailsAndResets_7 :
    ∃ s : State, isPf 0 = true ∧ (fnOf s 0).squash = none ∧ inService s = true ∧ starting s = false :=
  ⟨up, by decide +kernel⟩

theorem witness_RailsAndResets_8 :
    ∃ (s : State) (v : Word), Safety.Reaches s (.core 0) .sysctl 0 ∧ bits v.toNat 15 8 = 0x5A ∧ segCount s = 0 ∧ s.pw.mode ≠ mOff :=
  ⟨up, 0x5A00#32, by unfold Safety.Reaches; decide +kernel⟩

theorem witness_RailsAndResets_9 :
    ∃ (s : State) (v : Word), Safety.Reaches s (.core 0) .sysctl 0 ∧ bits v.toNat 15 8 = 0x5A ∧ segCount s ≠ 0 :=
  ⟨{ up with gr := { segs := [(0, {})] } }, 0x5A00#32, by unfold Safety.Reaches; decide +kernel⟩

theorem witness_StartUpReachesService_1 :
    ∃ s : State, s.pw.mode = mBoot ∧ atticRuns s = true ∧ s.rs.testEn = false ∧ s.rs.faultCode = none ∧ s.pw.comp < 92 ∧
      (selNewest s).trial = false :=
  ⟨{ State.reset with att := { released := true } }, by decide +kernel⟩

theorem witness_StartUpReachesService_2 :
    ∃ s : State, s.pw.mode = mSelftest ∧ s.rs.stage = 0 ∧ testSkipped s = false ∧ s.pw.avsAcked = true :=
  ⟨{ State.reset with pw := { mode := 2, avsAcked := true } }, by decide +kernel⟩

theorem witness_StartUpReachesService_3 :
    ∃ failed : List Nat, failHalt failed = true :=
  ⟨List.range 40, by decide +kernel⟩

theorem witness_StartUpReachesService_4 :
    ∃ s : State, s.pw.mode = mSelftest ∧ s.pw.avsReq ≠ s.pw.avsTarget :=
  ⟨{ State.reset with pw := { mode := 2, avsReq := 700 } }, by decide +kernel⟩

theorem witness_StartUpReachesService_5 :
    ∃ s : State, s.pw.mode = mSelftest ∧ s.pw.avsReq = s.pw.avsTarget ∧ s.rs.stage = 1 :=
  ⟨{ State.reset with pw := { mode := 2 }, rs := { stage := 1 } }, by decide +kernel⟩

theorem witness_StartUpReachesService_6 :
    ∃ (s : State) (h : Nat) (d : Dump), s.pw.mode = mLoad ∧ s.gr.recovered = false ∧ needsPull s = false ∧ newestDump s = some (h, d) ∧
      d.journal.length ≤ journalKept s ∧ d.zones = [] ∧ s.gr.pulled = [] ∧ s.gr.size = 0 :=
  ⟨{ State.reset with pw := { mode := 3 }, gr := { halves := [(0, {})] } }, 0, {}, by decide +kernel, by decide +kernel, by decide +kernel, by decide +kernel, by decide +kernel, by decide +kernel, by decide +kernel, by decide +kernel⟩

theorem witness_StartUpReachesService_7 :
    ∃ s : State, s.pw.mode = mLoad ∧ s.gr.recovered = true ∧ s.gr.ckpt.isSome = true ∧ ckptCurrent s = true ∧ s.gr.unplaced = false ∧ s.pw.safePending = false ∧
      s.rs.pendWarm = none ∧ halfErased s (nextHalf s) = true :=
  ⟨{ State.reset with pw := { mode := 3 }, gr := { recovered := true, ckpt := some {} } }, by decide +kernel⟩

theorem witness_MailboxesAndRecorderTakeTheirMessages_1 :
    ∃ s : State, Safety.Reaches s (.core 0) .mailbox 20 ∧ boxFull s 20 = false :=
  ⟨up, by unfold Safety.Reaches; decide +kernel⟩

theorem witness_MailboxesAndRecorderTakeTheirMessages_2 :
    ∃ s : State, Safety.Reaches s (.core 0) .mailbox 31 ∧ boxFull s 31 = true :=
  ⟨{ up with ctl := { boxes := [(31, { full := true })] } }, by unfold Safety.Reaches; decide +kernel⟩

theorem witness_MailboxesAndRecorderTakeTheirMessages_3 :
    ∃ (s : State) (c : Nat) (x : Ctx), Safety.Reaches s (.core 0) .mailbox 4 ∧ boxFull s 4 = false ∧
      bits (rd s (R.mbTag 4)) 16 0 = c ∧ ctxOf s c = some x ∧ x.tunnel = false ∧ ctxFresh s x = true ∧ x.inFw = true ∧ x.st ≠ .completed ∧
      bits (rd s (R.mbTag 4)) 36 29 = x.fgen ∧ bits (rd s (R.mbTag 4)) 52 37 = x.epoch ∧ bits (rd s (R.mbTag 4)) 55 53 = 4 ∧ s.ce.sqs.all (fun p => p.2.rehomeTo.isNone) = true :=
  ⟨reg (R.mbTag 4) (4 * 2 ^ 53) (one { st := .started, inFw := true }), 0, { st := .started, inFw := true }, by unfold Safety.Reaches; decide +kernel⟩

theorem witness_MailboxesAndRecorderTakeTheirMessages_4 :
    ∃ s : State, Safety.Reaches s (.core 0) .mailbox 0 ∧ boxFull s 0 = true ∧ s.ce.ctxs.all (fun p => !p.2.inFw || p.2.mbSent) = true ∧
      s.ce.sqs.all (fun p => p.2.rehomeTo.isNone) = true :=
  ⟨{ up with ctl := { boxes := [(0, { full := true })] } }, by unfold Safety.Reaches; decide +kernel⟩

theorem witness_MailboxesAndRecorderTakeTheirMessages_5 :
    ∃ (s : State) (e : Event) (rest : List Event), s.rs.standby = true ∧ s.att.evrec.fifo = e :: rest ∧ s.att.evrec.recs = [] :=
  ⟨withRec { fifo := [{}] }, {}, [], by decide +kernel⟩

theorem witness_MailboxesAndRecorderTakeTheirMessages_6 :
    ∃ (s : State) (e : Event) (rest : List Event) (old : List ERec) (x : ERec), s.rs.standby = true ∧ s.att.evrec.fifo = e :: rest ∧
      s.att.evrec.recs = old ++ [x] ∧ sameEvent e x = true ∧ x.repeats < 65535 ∧ x.carried = false :=
  ⟨withRec { fifo := [{}], recs := [{}] }, {}, [], [], {}, by decide +kernel⟩

theorem witness_FirmwareEventsAreTreatedLikeAny :
    ∃ s : State, Safety.Reaches s (.core 0) .event 0 ∧ rdb s (R.evCfg 479) 0 = true ∧ s.att.evrec.fifo.length < 64 :=
  ⟨reg (R.evCfg 479) 1 up, by unfold Safety.Reaches; decide +kernel⟩

theorem witness_WatchdogsAdvanceThroughTheirStages_1 :
    ∃ (s : State) (v : Word), Safety.Reaches s (.core 0) .cricket 4 ∧ v.toNat % 65536 = 0xA5 ∧ (dogOf s 4).stage < 3 :=
  ⟨up, 0xA5#32, by unfold Safety.Reaches; decide +kernel⟩

theorem witness_WatchdogsAdvanceThroughTheirStages_2 :
    ∃ (s : State) (v : Word), Safety.Reaches s (.core 0) .cricket 0 ∧ v.toNat % 65536 ≠ 0xA5 :=
  ⟨up, 0xA4#32, by unfold Safety.Reaches; decide +kernel⟩

theorem witness_WatchdogsAdvanceThroughTheirStages_3 :
    ∃ s : State, dogCounts s 4 = true ∧ (dogOf s 4).stage = 0 :=
  ⟨withDogs 4 0, by decide +kernel⟩

theorem witness_WatchdogsAdvanceThroughTheirStages_4 :
    ∃ s : State, dogCounts s 3 = true ∧ (dogOf s 3).stage = 1 ∧
      (∃ fn q sq, sqOf s fn q = some sq ∧ sq.home = 3) ∧ s.ce.ctxs.all (fun p => !p.2.inFw || p.2.mbSent) = true ∧
      s.ce.notices = [] ∧ (∀ fn q, staleMail s fn q = false) :=
  ⟨{ withDogs 3 1 with ce := { (withDogs 3 1).ce with sqs := [(0, { home := 3 })] } }, by decide +kernel, by decide +kernel, ⟨0, 0, { home := 3 }, by decide +kernel, by decide +kernel⟩, by decide +kernel, by decide +kernel, fun fn q => staleMail_of_quiet _ (by decide +kernel) (by decide +kernel) fn q⟩

theorem witness_WatchdogsAdvanceThroughTheirStages_5 :
    ∃ s : State, dogCounts s 4 = true ∧ (dogOf s 4).stage = 1 :=
  ⟨withDogs 4 1, by decide +kernel⟩

theorem witness_WatchdogsAdvanceThroughTheirStages_6 :
    ∃ s : State, dogCounts s 4 = true ∧ (dogOf s 4).stage = 2 ∧ s.pw.mode ≠ mOff :=
  ⟨withDogs 4 2, by decide +kernel⟩

theorem witness_WatchdogsAdvanceThroughTheirStages_7 :
    ∃ s : State, s.att.fuses.debugLock = false ∧ domState s 0 = 2 :=
  ⟨up, by decide +kernel⟩

theorem witness_WatchdogsAdvanceThroughTheirStages_8 :
    ∃ (s : State) (v : Word), isWinOff 0xB0 = true ∧ v.toNat % 65536 ≠ winCopy s 0xB0 2 ∧ tfind s.rf.voted 0xB0 = none :=
  ⟨up, 1#32, by decide +kernel⟩

theorem witness_RegisterWritesAreJudged_1 :
    ∃ (s : State), masterCls (.host 3) = .host ∧ masterCls (.engine 0) = .engine ∧ inRegSpace 0x10000000 = true ∧ s = State.reset :=
  ⟨State.reset, by decide +kernel⟩

theorem witness_RegisterWritesAreJudged_2 :
    ∃ (s : State) (addr : Nat), masterSilent s (.core 0) = false ∧ findReg addr = none ∧ blkAt addr = some (.sysctl, 0) :=
  ⟨up, 0x10000004, by decide +kernel⟩

theorem witness_RegisterWritesAreJudged_3 :
    ∃ (s : State) (addr : Nat), masterSilent s (.core 0) = false ∧ findReg addr = none ∧ blkAt addr = some (.commandEngine, 0) ∧
      reachable s .commandEngine 0 = false :=
  ⟨State.reset, 0x10100100, by decide +kernel⟩

theorem witness_RegisterWritesAreJudged_4 :
    ∃ (s : State) (addr : Nat), masterSilent s (.core 0) = false ∧ findReg addr = none ∧ blkAt addr = none ∧ 0x8000000000 ≤ addr :=
  ⟨up, 0x8000000000, by decide +kernel⟩

theorem witness_RegisterWritesAreJudged_5 :
    ∃ (s : State) (a : Nat), findReg (0x4000000000 + a) = none ∧ a < 0x4000000000 ∧ domState s 10 = 2 ∧ masterSilent s (.core 0) = false ∧ dmUsable s ≤ a :=
  ⟨up, 0x3FFE000000, by decide +kernel⟩

theorem witness_RegisterWritesAreJudged_6 :
    ∃ (s : State) (a : Nat), findReg (0x4000000000 + a) = none ∧ a < dmUsable s ∧ domState s 10 = 2 ∧ masterSilent s (.core 0) = false ∧ zeroMark s ≤ a :=
  ⟨up, 0, by decide +kernel⟩

theorem witness_RegisterWritesAreJudged_7 :
    ∃ (s : State) (addr : Nat) (h : Hit), Safety.Reaches s (.core 0) .mailbox h.i ∧ findReg addr = some h ∧ h.d = D.mbTag ∧ h.hi = false ∧
      h.d.blk = .mailbox ∧ h.d.wide = true ∧ h.d.fields.any writable = true ∧ h.d.fields.any (fun f => f.who.admits h.i .priv) = true :=
  ⟨up, (D.mbTag.at 0 0).addr, { d := D.mbTag, i := 0, j := 0, hi := false }, by unfold Safety.Reaches; decide +kernel⟩

theorem witness_RegisterWritesAreJudged_8 :
    ∃ (s : State) (addr : Nat) (h : Hit), Safety.Reaches s (.core 0) .mailbox h.i ∧ findReg addr = some h ∧ h.d = D.mbTag ∧ h.hi = true ∧
      boxFull s h.i = false ∧ tget 0 s.rf.stage (masterKey (.core 0)) < 4294967296 :=
  ⟨up, (D.mbTag.at 0 0).addr + 4, { d := D.mbTag, i := 0, j := 0, hi := true }, by unfold Safety.Reaches; decide +kernel⟩

theorem witness_RegisterWritesAreJudged_9 :
    ∃ (s : State) (addr : Nat) (h : Hit), Safety.Reaches s (.core 0) .event h.i ∧ findReg addr = some h ∧ h.d = D.evSwP :=
  ⟨up, (D.evSwP.at 0 0).addr, { d := D.evSwP, i := 0, j := 0, hi := false }, by unfold Safety.Reaches; decide +kernel⟩

theorem witness_RegisterWritesAreJudged_10 :
    ∃ (s : State) (addr : Nat) (h : Hit), Safety.Reaches s (.core 0) .clock h.i ∧ findReg addr = some h ∧ h.d = D.clkMon ∧ rdb s R.clkLock 0 = true :=
  ⟨reg R.clkLock 1 up, (D.clkMon.at 0 0).addr, { d := D.clkMon, i := 0, j := 0, hi := false }, by unfold Safety.Reaches; decide +kernel⟩

theorem witness_RegisterWritesAreJudged_11 :
    ∃ s : State, (fnOf s 0).present = true ∧ (fnOf s 0).squash = none :=
  ⟨up, by decide +kernel⟩

theorem witness_RegisterWritesAreJudged_12 :
    ∃ (s : State) (offset : Nat), parityAt offset = true ∧ serving s = true ∧ s.ctl.parGlobal = false :=
  ⟨up, (D.thCfg.at 0 0).addr - regBase, by decide +kernel⟩

theorem witness_ManagementCommandsAreAnswered_1 :
    ∃ (s : State) (r : MiReq), atticRuns s = true ∧ s.att.miCur = none ∧ s.att.miQueue = [] ∧ endpointUp s r.endpoint = true ∧
      s.att.miPaused.contains r.endpoint = false ∧ miOpcodes.contains r.opcode = true :=
  ⟨up, {}, by decide +kernel⟩

theorem witness_ManagementCommandsAreAnswered_2 :
    ∃ (s : State) (r : MiReq), atticRuns s = true ∧ s.att.miCur = none ∧ s.att.miQueue = [] ∧ endpointUp s r.endpoint = true ∧
      s.att.miPaused.contains r.endpoint = false ∧ miOpcodes.contains r.opcode = false :=
  ⟨up, { opcode := 0x99 }, by decide +kernel⟩

theorem witness_ManagementCommandsAreAnswered_3 :
    ∀ op, op < 0x101 → ∃ (s : State) (r : MiReq), Safety.MiRuns s r op :=
  fun op _ => ⟨mi { opcode := op }, { opcode := op }, rfl, rfl, rfl⟩

theorem witness_ManagementCommandsAreAnswered_4 :
    ∃ (s : State) (r : MiReq) (v : Nat), Safety.MiRuns s r 0x04 ∧ tfind s.att.miConfig (256 * r.endpoint + r.arg % 256) = some v :=
  ⟨{ mi { opcode := 4 } with att := { released := true, miCur := some { opcode := 4 }, miConfig := [(0, 5)] } }, { opcode := 4 }, 5, by unfold Safety.MiRuns; decide +kernel⟩

theorem witness_ManagementCommandsAreAnswered_5 :
    ∃ (s : State) (r : MiReq), Safety.MiRuns s r 0x06 ∧ r.off + r.data.length ≤ 256 :=
  ⟨mi { opcode := 6, data := List.replicate 256 0 }, { opcode := 6, data := List.replicate 256 0 }, by unfold Safety.MiRuns; decide +kernel⟩

theorem witness_ManagementCommandsAreAnswered_6 :
    ∃ (s : State) (r : MiReq), Safety.MiRuns s r 0x07 ∧ inService s = true ∧ starting s = false :=
  ⟨mi { opcode := 7 }, { opcode := 7 }, by unfold Safety.MiRuns; decide +kernel⟩

theorem witness_ManagementCommandsAreAnswered_7 :
    ∃ (s : State) (r : MiReq), Safety.MiRuns s r 0x07 ∧ s.pw.mode = mHalt ∧ 92 ≤ s.pw.comp :=
  ⟨{ mi { opcode := 7 } with pw := { mode := mHalt, comp := 92 } }, { opcode := 7 }, by unfold Safety.MiRuns; decide +kernel⟩

theorem witness_ManagementCommandsAreAnswered_8 :
    ∃ (s : State) (o : MiResp), endpointUp s 1 = true ∧ tfind s.att.miLast 1 = some o :=
  ⟨{ up with att := { released := true, miLast := [(1, {})] } }, {}, by decide +kernel⟩

theorem witness_ManagementCommandsAreAnswered_9 :
    ∃ (s : State) (r : MiReq), Safety.MiRuns s r 0x100 ∧ ctxOf s tunnelCtx = none ∧ tunnelServed s r.cmd.opc = true ∧
      notTunnelled.contains r.cmd.opc = false ∧
      adminFault s { fn := r.fn, fgen := (fnOf s r.fn).gen, tunnel := true, st := .started, e := r.cmd } = none :=
  ⟨mi { opcode := 0x100, cmd := { opc := 6, cdw10 := 1 } }, { opcode := 0x100, cmd := { opc := 6, cdw10 := 1 } }, by unfold Safety.MiRuns; decide +kernel⟩

theorem witness_ManagementCommandsAreAnswered_10 :
    ∃ (s : State) (r : MiReq), Safety.MiRuns s r 0x100 ∧ ctxOf s tunnelCtx = none ∧ tunnelServed s r.cmd.opc = true ∧
      notTunnelled.contains r.cmd.opc = true :=
  ⟨mi { opcode := 0x100, cmd := { opc := 8 } }, { opcode := 0x100, cmd := { opc := 8 } }, by unfold Safety.MiRuns; decide +kernel⟩

theorem witness_FusesSensorsAndRecorderWindow_1 :
    ∃ (s : State) (r : MiReq), Safety.MiRuns s r 0xC0 ∧ 1 ≤ r.arg ∧ r.arg ≤ 3 ∧ r.data.length = 48 ∧ tfind s.att.fuses.keyHash r.arg = none :=
  ⟨mi { opcode := 0xC0, arg := 3, data := List.replicate 48 0 }, { opcode := 0xC0, arg := 3, data := List.replicate 48 0 }, by unfold Safety.MiRuns; decide +kernel⟩

theorem witness_FusesSensorsAndRecorderWindow_2 :
    ∃ (s : State) (r : MiReq), Safety.MiRuns s r 0xC1 ∧ r.arg ≤ 3 ∧ bit s.att.fuses.revoke r.arg = false ∧
      keyLeft s.att.fuses (s.att.fuses.revoke + 2 ^ r.arg) = true :=
  ⟨{ up with att := { released := true, miCur := some { opcode := 0xC1, arg := 3 }, fuses := { keyHash := [(0, []), (3, [])] } } }, { opcode := 0xC1, arg := 3 }, by unfold Safety.MiRuns; decide +kernel⟩

theorem witness_FusesSensorsAndRecorderWindow_3 :
    ∃ (s : State) (r : MiReq), Safety.MiRuns s r 0xC2 ∧ r.data.length = 32 ∧ s.att.fuses.lmsReq = false :=
  ⟨mi { opcode := 0xC2, data := List.replicate 32 0 }, { opcode := 0xC2, data := List.replicate 32 0 }, by unfold Safety.MiRuns; decide +kernel⟩

theorem witness_FusesSensorsAndRecorderWindow_4 :
    ∃ (s : State) (r : MiReq), Safety.MiRuns s r 0xC3 ∧ leNat (r.data.take 4) = 0x0D1C0DE5 ∧ s.att.fuses.debugLock = false :=
  ⟨mi { opcode := 0xC3, data := [0xE5, 0x0D, 0x1C, 0x0D] }, { opcode := 0xC3, data := [0xE5, 0x0D, 0x1C, 0x0D] }, by unfold Safety.MiRuns; decide +kernel⟩

theorem witness_FusesSensorsAndRecorderWindow_5 :
    ∃ (s : State) (r : MiReq), Safety.MiRuns s r 0xC4 :=
  ⟨mi { opcode := 0xC4 }, { opcode := 0xC4 }, by unfold Safety.MiRuns; decide +kernel⟩

theorem witness_FusesSensorsAndRecorderWindow_6 :
    ∃ (s : State) (r : MiReq), Safety.MiRuns s r 0xC5 :=
  ⟨mi { opcode := 0xC5 }, { opcode := 0xC5 }, by unfold Safety.MiRuns; decide +kernel⟩

theorem witness_FusesSensorsAndRecorderWindow_7 :
    ∃ (s : State) (e : BoardSensor), atticRuns s = true ∧ tfind s.board.sensors 0 = some e ∧ (tget {} s.att.sensors 0 : BSensor).misses = 2 :=
  ⟨{ up with board := { sensors := [(0, { hi := 1 })] }, att := { released := true, sensors := [(0, { misses := 2 })] } }, { hi := 1 }, by decide +kernel⟩

theorem witness_FusesSensorsAndRecorderWindow_8 :
    ∃ (s : State) (x : ERec), masterSilent s .attic = false ∧ Who.perBank.admits 1 (masterCls .attic) = true ∧ tfind s.att.evrec.latched 1 = some x :=
  ⟨withRec { latched := [(1, {})] }, {}, by decide +kernel⟩

theorem witness_FusesSensorsAndRecorderWindow_9 :
    ∃ s : State, Safety.Reaches s (.core 0) .attic 0 ∧ s.att.evrec.fifo.length < 64 :=
  ⟨up, by unfold Safety.Reaches; decide +kernel⟩

theorem witness_FusesSensorsAndRecorderWindow_10 :
    ∃ s : State, atticRuns s = true ∧ s.rs.faultCode = some 13 :=
  ⟨{ up with rs := { faultCode := some 13 } }, by decide +kernel⟩

theorem witness_NamespacesAreManaged_1 :
    ∃ (s : State) (x : Ctx), Safety.AdminRuns s 0 x 0x06 ∧ bits x.e.cdw10 7 0 = 0x14 ∧ isPf x.fn = true :=
  ⟨one (adm 6 0x14 0), adm 6 0x14 0, by unfold Safety.AdminRuns Safety.Runnable; decide +kernel⟩

theorem witness_NamespacesAreManaged_2 :
    ∃ (s : State) (x : Ctx) (n : Ns), Safety.AdminRuns s 0 x 0x06 ∧ bits x.e.cdw10 7 0 = 0x00 ∧ nsOf s x.e.nsid = some n ∧ x.e.nsid ∈ namedNs s x :=
  ⟨withNs {} (one (adm 6 0 0)), adm 6 0 0, { zones := 4, attached := some 0 }, by unfold Safety.AdminRuns Safety.Runnable; decide +kernel⟩

theorem witness_NamespacesAreManaged_3 :
    ∃ (s : State) (x : Ctx), Safety.AdminRuns s 0 x 0x06 ∧ bits x.e.cdw10 7 0 = 0x00 ∧ x.e.nsid ∉ namedNs s x :=
  ⟨one (adm 6 0 0), adm 6 0 0, by unfold Safety.AdminRuns Safety.Runnable; decide +kernel⟩

theorem witness_NamespacesAreManaged_4 :
    ∃ (s : State) (x : Ctx), Safety.AdminRuns s 0 x 0x0D ∧ bits x.e.cdw10 3 0 = 0 ∧ bits x.e.cdw11 31 24 = 2 ∧
      fieldAt x.e.payload 26 1 = 0 ∧ fieldAt x.e.payload 0 8 = fieldAt x.e.payload 8 8 ∧ fieldAt x.e.payload 0 8 ≠ 0 ∧
      fieldAt x.e.payload 0 8 % zoneLbas = 0 ∧ fieldAt x.e.payload 3840 4 ≤ 4095 ∧ fieldAt x.e.payload 3844 4 ≤ 16383 ∧
      fieldAt x.e.payload 3840 4 ≤ fieldAt x.e.payload 3844 4 ∧ totalZones s + fieldAt x.e.payload 0 8 / zoneLbas ≤ 819200 ∧ s.ze.nss.length < 4096 :=
  ⟨one (ent { opc := 0x0D, cdw11 := 33554432, payload := leBytes 8 (819200 * zoneLbas) ++ leBytes 8 (819200 * zoneLbas) }), ent { opc := 0x0D, cdw11 := 33554432, payload := leBytes 8 (819200 * zoneLbas) ++ leBytes 8 (819200 * zoneLbas) }, by unfold Safety.AdminRuns Safety.Runnable; decide +kernel⟩

theorem witness_NamespacesAreManaged_5 :
    ∃ (s : State) (fn : Nat) (x : Ctx) (n : Ns), Safety.AdminRuns s 0 x 0x15 ∧ bits x.e.cdw10 3 0 = 0 ∧ nsOf s x.e.nsid = some n ∧
      attachList x.e = [some fn] ∧ n.attached = none :=
  ⟨{ one (ent { opc := 0x15, nsid := 1, cdw10 := 0, payload := leBytes 2 1 ++ leBytes 2 1 }) with ze := { nss := [(1, {})] } }, 0, ent { opc := 0x15, nsid := 1, cdw10 := 0, payload := leBytes 2 1 ++ leBytes 2 1 }, {}, by unfold Safety.AdminRuns Safety.Runnable; decide +kernel⟩

theorem witness_NamespacesAreManaged_6 :
    ∃ (s : State) (fn : Nat) (x : Ctx) (n : Ns), Safety.AdminRuns s 0 x 0x15 ∧ bits x.e.cdw10 3 0 = 1 ∧ nsOf s x.e.nsid = some n ∧
      attachList x.e = [some fn] ∧ n.attached = some fn ∧ s.ce.ctxs = [(0, x)] ∧ x.covered = [] :=
  ⟨withNs {} (one (ent { opc := 0x15, nsid := 1, cdw10 := 1, payload := leBytes 2 1 ++ leBytes 2 1 })), 0, ent { opc := 0x15, nsid := 1, cdw10 := 1, payload := leBytes 2 1 ++ leBytes 2 1 }, { zones := 4, attached := some 0 }, by unfold Safety.AdminRuns Safety.Runnable; decide +kernel⟩

theorem witness_NamespacesAreManaged_7 :
    ∃ (s : State) (x : Ctx) (n : Ns), Safety.AdminRuns s 0 x 0x80 ∧ bits x.e.cdw10 11 9 = 0 ∧ bits x.e.cdw10 3 0 = 0 ∧
      bits x.e.cdw10 13 12 = 0 ∧ nsOf s x.e.nsid = some n ∧ x.e.nsid ∈ namedNs s x ∧ x.e.nsid ≠ 0xFFFFFFFF ∧ s.ze.zones = [] ∧ s.gr.unplaced = false :=
  ⟨withNs {} (one (adm 0x80 0 0)), adm 0x80 0 0, { zones := 4, attached := some 0 }, by unfold Safety.AdminRuns Safety.Runnable; decide +kernel⟩

theorem witness_NamespacesAreManaged_8 :
    ∃ (s : State) (x : Ctx) (n : Ns), Safety.AdminRuns s 0 x 0x0D ∧ bits x.e.cdw10 3 0 = 1 ∧ nsOf s x.e.nsid = some n ∧
      x.e.nsid ≠ 0xFFFFFFFF ∧ s.ce.ctxs = [(0, x)] ∧ x.waitFlash = false ∧ x.waitMirror = false ∧ s.gr.unplaced = false :=
  ⟨withNs {} (one (adm 0x0D 1 0)), adm 0x0D 1 0, { zones := 4, attached := some 0 }, by unfold Safety.AdminRuns Safety.Runnable; decide +kernel⟩

theorem witness_ImagesAreStagedCommittedAndActivated_1 :
    ∃ (s : State) (x : Ctx), Safety.AdminRuns s 0 x 0x11 ∧ noDram s = false ∧ (4 * (x.e.cdw10 + 1)) % 4096 = 0 ∧ x.e.cdw11 = 0 ∧ s.att.download = none :=
  ⟨one (adm 0x11 1023 0), adm 0x11 1023 0, by unfold Safety.AdminRuns Safety.Runnable; decide +kernel⟩

theorem witness_ImagesAreStagedCommittedAndActivated_2 :
    ∃ (s : State) (x : Ctx) (d : Download), Safety.AdminRuns s 0 x 0x11 ∧ noDram s = false ∧ (4 * (x.e.cdw10 + 1)) % 4096 = 0 ∧
      (4 * x.e.cdw11) % 4096 = 0 ∧ s.att.download = some d ∧ d.direct = false ∧ d.owner ≠ 4097 ∧ d.owner ≠ x.fn :=
  ⟨withDl { owner := 5 } (one (adm 0x11 1023 1024)), adm 0x11 1023 1024, { owner := 5 }, by unfold Safety.AdminRuns Safety.Runnable; decide +kernel⟩

theorem witness_ImagesAreStagedCommittedAndActivated_3 :
    ∃ (s : State) (x : Ctx) (d : Download), Safety.AdminRuns s 0 x 0x10 ∧ bits x.e.cdw10 5 3 = 0 ∧ bits x.e.cdw10 2 0 = 2 ∧
      2 ≠ s.att.runSlot ∧ s.rs.activating = none ∧ s.att.download = some d ∧ d.direct = false ∧ d.owner = x.fn :=
  ⟨withDl {} (one (adm 0x10 2 0)), adm 0x10 2 0, {}, by unfold Safety.AdminRuns Safety.Runnable; decide +kernel⟩

theorem witness_ImagesAreStagedCommittedAndActivated_4 :
    ∃ (s : State) (x : Ctx), s.rs.activating = some 0 ∧ drained s 0 = true ∧ ctxOf s 0 = some x ∧ x.st = .committed ∧ x.tunnel = false ∧
      x.sqid = 0 ∧ ctxFresh s x = true :=
  ⟨{ one { st := .committed } with rs := { activating := some 0 } }, { st := .committed }, by decide +kernel⟩

theorem witness_ImagesAreStagedCommittedAndActivated_5 :
    ∃ (s : State) (x : Ctx), s.rs.activating = some 0 ∧ drained s 0 = false ∧ ctxOf s 0 = some x ∧ x.st = .committed ∧ x.tunnel = false ∧
      x.sqid = 0 ∧ ctxFresh s x = true :=
  ⟨{ eng [(0, { st := .committed }), (1, { st := .started })] [] [] with rs := { activating := some 0 } }, { st := .committed }, by decide +kernel⟩

theorem witness_KeysAreLoadedThroughTheAttic_1 :
    ∃ (s : State) (x : Ctx), Safety.IsTunnelled s tunnelCtx x 0x81 ∧ bits x.e.cdw10 31 24 = 0xF2 ∧ bits x.e.cdw10 23 21 = 1 ∧ atticRuns s = true ∧ eTl x.e = 32 :=
  ⟨eng [(tunnelCtx, { sec 0x81 1 0 32 [] with tunnel := true })] [] [], { sec 0x81 1 0 32 [] with tunnel := true }, by unfold Safety.IsTunnelled; decide +kernel⟩

theorem witness_KeysAreLoadedThroughTheAttic_2 :
    ∃ (s : State) (f k : Nat) (x : Ctx), Safety.AdminRuns s 0 x 0x81 ∧ bits x.e.cdw10 31 24 = 0xF2 ∧ bits x.e.cdw10 23 21 = 2 ∧ atticRuns s = true ∧
      isPf x.fn = true ∧ eTl x.e = 48 ∧ fnOfCntlid (fieldAt x.e.payload 0 2) = some f ∧ portOf f = x.fn ∧ s.att.rootKey = some k :=
  ⟨{ one (sec 0x81 2 0 48 (leBytes 2 (cntlidOf 4))) with att := { released := true, rootKey := some 7 } }, 4, 7, sec 0x81 2 0 48 (leBytes 2 (cntlidOf 4)), by unfold Safety.AdminRuns Safety.Runnable; decide +kernel⟩

theorem witness_KeysAreLoadedThroughTheAttic_3 :
    ∃ blob : Wrapped, blob.plain.length = 32 :=
  ⟨{ plain := List.replicate 32 0 }, by decide +kernel⟩

theorem witness_KeysAreLoadedThroughTheAttic_4 :
    ∃ (s : State) (k : Nat) (x : Ctx) (blob : Wrapped), Safety.AdminRuns s 0 x 0x81 ∧ bits x.e.cdw10 31 24 = 0xF2 ∧ bits x.e.cdw10 23 21 = 3 ∧
      atticRuns s = true ∧ eTl x.e = 56 ∧ slotGranted (fnOf s x.fn) (eSecSlot x.e) = true ∧ tfind s.att.fnKeys x.fn = some k ∧ blob.kek = k ∧
      blob.plain.length = 48 ∧ fieldAt blob.plain 44 4 = 0 ∧ (slotOf s (eSecSlot x.e)).shadow = none ∧ (slotOf s (eSecSlot x.e)).loaded = false :=
  ⟨{ one (sec 0x81 3 8191 56 []) with att := { released := true, fnKeys := [(0, 9)] } }, 9, sec 0x81 3 8191 56 [], { kek := 9, plain := List.replicate 48 0 }, by unfold Safety.AdminRuns Safety.Runnable; decide +kernel⟩

theorem witness_KeysAreLoadedThroughTheAttic_5 :
    ∃ (s : State) (k : Nat) (x : Ctx) (blob : Wrapped), Safety.AdminRuns s 0 x 0x81 ∧ bits x.e.cdw10 31 24 = 0xF2 ∧ bits x.e.cdw10 23 21 = 3 ∧
      atticRuns s = true ∧ eTl x.e = 56 ∧ slotGranted (fnOf s x.fn) (eSecSlot x.e) = true ∧ tfind s.att.fnKeys x.fn = some k ∧ blob.kek = k ∧
      blob.plain.length = 48 ∧ fieldAt blob.plain 44 4 = 0 ∧ (slotOf s (eSecSlot x.e)).shadow = none ∧ (slotOf s (eSecSlot x.e)).loaded = true ∧
      holders s (eSecSlot x.e) (slotOf s (eSecSlot x.e)).keyGen ≠ 0 :=
  ⟨withSlots [(0, { loaded := true })] { one { sec 0x81 3 0 56 [] with keys := [(0, 0)] } with att := { released := true, fnKeys := [(0, 9)] } }, 9, { sec 0x81 3 0 56 [] with keys := [(0, 0)] }, { kek := 9, plain := List.replicate 48 0 }, by unfold Safety.AdminRuns Safety.Runnable; decide +kernel⟩

theorem witness_KeysAreLoadedThroughTheAttic_6 :
    ∃ (s : State) (x : Ctx), Safety.AdminRuns s 0 x 0x81 ∧ bits x.e.cdw10 31 24 = 0xF2 ∧ bits x.e.cdw10 23 21 = 4 ∧ atticRuns s = true ∧ eTl x.e = 0 ∧
      slotGranted (fnOf s x.fn) (eSecSlot x.e) = true ∧ (slotOf s (eSecSlot x.e)).loaded = true ∧ (slotOf s (eSecSlot x.e)).shadow = none :=
  ⟨withSlots [(0, { loaded := true })] (one (sec 0x81 4 0 0 [])), sec 0x81 4 0 0 [], by unfold Safety.AdminRuns Safety.Runnable; decide +kernel⟩

theorem witness_KeysAreLoadedThroughTheAttic_7 :
    ∃ (s : State) (x : Ctx), Safety.AdminRuns s 0 x 0x82 ∧ bits x.e.cdw10 31 24 = 0xF2 ∧ bits x.e.cdw10 23 21 = 1 ∧ eTl x.e % 16 = 0 ∧
      16 ≤ eTl x.e ∧ eTl x.e ≤ 65536 ∧ eSecSlot x.e + eTl x.e / 16 ≤ 8192 :=
  ⟨one (sec 0x82 1 8191 16 []), sec 0x82 1 8191 16 [], by unfold Safety.AdminRuns Safety.Runnable; decide +kernel⟩

theorem witness_KeysAreLoadedThroughTheAttic_8 :
    ∃ (s : State) (x : Ctx), Safety.AdminRuns s 0 x 0x82 ∧ bits x.e.cdw10 31 24 = 0 :=
  ⟨one (adm 0x82 0 0), adm 0x82 0 0, by unfold Safety.AdminRuns Safety.Runnable; decide +kernel⟩

theorem witness_KeysAreLoadedThroughTheAttic_9 :
    ∃ (s : State) (x : Ctx), Safety.AdminRuns s 0 x 0x1D ∧ atticRuns s = true ∧ bits x.e.cdw11 7 0 = 3 :=
  ⟨one (adm 0x1D 0 3), adm 0x1D 0 3, by unfold Safety.AdminRuns Safety.Runnable; decide +kernel⟩

theorem witness_KeysAreLoadedThroughTheAttic_10 :
    ∃ (s : State) (x : Ctx), Safety.AdminRuns s 0 x 0x1E ∧ atticRuns s = true ∧ bits x.e.cdw11 7 0 = 5 ∧
      bits x.e.cdw12 15 0 + bits x.e.cdw13 15 0 ≤ 256 :=
  ⟨one (ent { opc := 0x1E, cdw11 := 5, cdw13 := 256 }), ent { opc := 0x1E, cdw11 := 5, cdw13 := 256 }, by unfold Safety.AdminRuns Safety.Runnable; decide +kernel⟩

theorem witness_FeaturesAreSetAndRead_1 :
    ∃ (s : State) (f : Nat) (x : Ctx), Safety.SetRuns s 0 x 0xD0 ∧ isPf x.fn = true ∧ shareTarget x = some f ∧ shareValid x.e.payload = true :=
  ⟨one (ent { opc := 9, nsid := 1, cdw10 := 0xD0, cdw11 := 1, payload := [1, 0, 0, 0, 0, 0, 1] }), 0, ent { opc := 9, nsid := 1, cdw10 := 0xD0, cdw11 := 1, payload := [1, 0, 0, 0, 0, 0, 1] }, by unfold Safety.SetRuns Safety.AdminRuns Safety.Runnable; decide +kernel⟩

theorem witness_FeaturesAreSetAndRead_2 :
    ∃ (s : State) (f : Nat) (x : Ctx), Safety.SetRuns s 0 x 0xD0 ∧ isPf x.fn = true ∧ shareTarget x = some f ∧ shareValid x.e.payload = false :=
  ⟨one (ent { opc := 9, nsid := 1, cdw10 := 0xD0, cdw11 := 1 }), 0, ent { opc := 9, nsid := 1, cdw10 := 0xD0, cdw11 := 1 }, by unfold Safety.SetRuns Safety.AdminRuns Safety.Runnable; decide +kernel⟩

theorem witness_FeaturesAreSetAndRead_3 :
    ∃ (s : State) (x : Ctx), Safety.SetRuns s 0 x 0xD1 ∧ isPf x.fn = true ∧ x.e.cdw11 = 60 ∧ s.pw.th ≠ .grace :=
  ⟨one (ent { opc := 9, nsid := 1, cdw10 := 0xD1, cdw11 := 60 }), ent { opc := 9, nsid := 1, cdw10 := 0xD1, cdw11 := 60 }, by unfold Safety.SetRuns Safety.AdminRuns Safety.Runnable; decide +kernel⟩

theorem witness_FeaturesAreSetAndRead_4 :
    ∃ (s : State) (x : Ctx) (n : Ns), Safety.SetRuns s 0 x 0xD2 ∧ bit x.e.cdw11 31 = false ∧ bits x.e.cdw11 30 14 = 0 ∧ bits x.e.cdw11 13 0 = 10000 ∧
      nsOf s x.e.nsid = some n ∧ x.e.nsid ∈ namedNs s x ∧ x.e.nsid ≠ 0xFFFFFFFF :=
  ⟨withNs {} (one (ent { opc := 9, nsid := 1, cdw10 := 0xD2, cdw11 := 10000 })), ent { opc := 9, nsid := 1, cdw10 := 0xD2, cdw11 := 10000 }, { zones := 4, attached := some 0 }, by unfold Safety.SetRuns Safety.AdminRuns Safety.Runnable; decide +kernel⟩

theorem witness_FeaturesAreSetAndRead_5 :
    ∃ (s : State) (x : Ctx), Safety.SetRuns s 0 x 0xD2 ∧ bit x.e.cdw11 31 = true ∧ bits x.e.cdw11 30 8 = 0 ∧ isPf x.fn = true ∧
      bits x.e.cdw12 31 16 ≠ 0 ∧ domExists s (bits x.e.cdw11 7 0) = true ∧ domGranted (fnOf s x.fn) (bits x.e.cdw11 7 0) = true :=
  ⟨{ one (ent { opc := 9, nsid := 1, cdw10 := 0xD2, cdw11 := 2147483648, cdw12 := 65536 }) with ze := { rows := [(0, { domain := some 0, use := some 0 })] } }, ent { opc := 9, nsid := 1, cdw10 := 0xD2, cdw11 := 2147483648, cdw12 := 65536 }, by unfold Safety.SetRuns Safety.AdminRuns Safety.Runnable; decide +kernel⟩

theorem witness_FeaturesAreSetAndRead_6 :
    ∃ (s : State) (x : Ctx) (n : Ns), Safety.SetRuns s 0 x 0xD3 ∧ nsOf s x.e.nsid = some n ∧ x.e.nsid ∈ namedNs s x ∧ x.e.nsid ≠ 0xFFFFFFFF :=
  ⟨withNs {} (one (ent { opc := 9, nsid := 1, cdw10 := 0xD3 })), ent { opc := 9, nsid := 1, cdw10 := 0xD3 }, { zones := 4, attached := some 0 }, by unfold Safety.SetRuns Safety.AdminRuns Safety.Runnable; decide +kernel⟩

theorem witness_FeaturesAreSetAndRead_7 :
    ∃ (s : State) (x : Ctx), Safety.SetRuns s 0 x 0xD4 ∧ isPf x.fn = true ∧ x.e.cdw11 = 3 ∧ x.e.cdw12 = 262143 ∧ bits x.e.cdw13 15 0 = 1000 :=
  ⟨one (ent { opc := 9, nsid := 1, cdw10 := 0xD4, cdw11 := 3, cdw12 := 262143, cdw13 := 1000 }), ent { opc := 9, nsid := 1, cdw10 := 0xD4, cdw11 := 3, cdw12 := 262143, cdw13 := 1000 }, by unfold Safety.SetRuns Safety.AdminRuns Safety.Runnable; decide +kernel⟩

theorem witness_FeaturesAreSetAndRead_8 :
    ∃ (s : State) (x : Ctx), Safety.SetRuns s 0 x 0x06 ∧ (eSv x.e = false ∨ bit x.e.cdw11 0 = false) :=
  ⟨one (ent { opc := 9, nsid := 1, cdw10 := 6 }), ent { opc := 9, nsid := 1, cdw10 := 6 }, by unfold Safety.SetRuns Safety.AdminRuns Safety.Runnable; decide +kernel⟩

theorem witness_FeaturesAreSetAndRead_9 :
    ∃ (s : State) (x : Ctx), Safety.SetRuns s 0 x 0x02 ∧ eSv x.e = false ∧ bits x.e.cdw11 4 0 = 2 ∧ s.pw.capMgmt < 131072 ∧ s.pw.mode = mRun :=
  ⟨one (ent { opc := 9, nsid := 1, cdw10 := 2, cdw11 := 2 }), ent { opc := 9, nsid := 1, cdw10 := 2, cdw11 := 2 }, by unfold Safety.SetRuns Safety.AdminRuns Safety.Runnable; decide +kernel⟩

theorem witness_FeaturesAreSetAndRead_10 :
    ∃ (s : State) (x : Ctx), Safety.SetRuns s 0 x 0x10 ∧ eSv x.e = false ∧ tmtOk (bits x.e.cdw11 31 16) = true ∧ tmtOk (bits x.e.cdw11 15 0) = true ∧
      bits x.e.cdw11 31 16 < bits x.e.cdw11 15 0 :=
  ⟨one (ent { opc := 9, nsid := 1, cdw10 := 16, cdw11 := 343 * 65536 + 344 }), ent { opc := 9, nsid := 1, cdw10 := 16, cdw11 := 343 * 65536 + 344 }, by unfold Safety.SetRuns Safety.AdminRuns Safety.Runnable; decide +kernel⟩

theorem witness_FeaturesAreSetAndRead_11 :
    ∃ (s : State) (x : Ctx), Safety.SetRuns s 0 x 0x04 ∧ eSv x.e = false ∧ bits x.e.cdw11 21 16 = 0 :=
  ⟨one (ent { opc := 9, nsid := 1, cdw10 := 4 }), ent { opc := 9, nsid := 1, cdw10 := 4 }, by unfold Safety.SetRuns Safety.AdminRuns Safety.Runnable; decide +kernel⟩

theorem witness_FeaturesAreSetAndRead_12 :
    ∃ (s : State) (x : Ctx), Safety.AdminRuns s 0 x 0x0A ∧ bits x.e.cdw10 10 8 = 0 ∧ bits x.e.cdw10 7 0 = 0xD0 ∧ isPf x.fn = false ∧ x.tunnel = false :=
  ⟨one { ent { opc := 10, cdw10 := 0xD0 } with fn := 4 }, { ent { opc := 10, cdw10 := 0xD0 } with fn := 4 }, by unfold Safety.AdminRuns Safety.Runnable; decide +kernel⟩

theorem witness_LogPagesAnswer_1 :
    ∀ l, l ∈ [0x01, 0x02, 0x03, 0x05, 0xC0, 0xC2, 0xC4, 0xC5] → ∃ (s : State) (x : Ctx), Safety.LogRuns s 0 x l ∧ x.e.nsid = 0 ∧ eLsp0 x.e = false :=
  fun l hl => ⟨one (ent { opc := 2, cdw10 := l }), ent { opc := 2, cdw10 := l }, by revert hl; revert l; unfold Safety.LogRuns Safety.AdminRuns Safety.Runnable; decide +kernel⟩

theorem witness_LogPagesAnswer_2 :
    ∃ (s : State) (x : Ctx), Safety.LogRuns s 0 x 0xC1 ∧ nsGranted s x.fn x.e.nsid = true :=
  ⟨withNs {} (one (ent { opc := 2, nsid := 1, cdw10 := 0xC1 })), ent { opc := 2, nsid := 1, cdw10 := 0xC1 }, by unfold Safety.LogRuns Safety.AdminRuns Safety.Runnable; decide +kernel⟩

theorem witness_LogPagesAnswer_3 :
    ∃ (s : State) (x : Ctx), Safety.LogRuns s 0 x 0xC2 ∧ x.e.nsid = 0 ∧ eLsp0 x.e = true ∧ (grantedRows s x.fn).contains (eLsi x.e) = false :=
  ⟨one (ent { opc := 2, nsid := 0, cdw10 := 0x1C2 }), ent { opc := 2, nsid := 0, cdw10 := 0x1C2 }, by unfold Safety.LogRuns Safety.AdminRuns Safety.Runnable; decide +kernel⟩

theorem witness_LogPagesAnswer_4 :
    ∃ (s : State) (x : Ctx), Safety.LogRuns s 0 x 0xC3 ∧ isPf x.fn = true ∧ eLpo x.e = 0 ∧ eLsp0 x.e = false :=
  ⟨one (ent { opc := 2, nsid := 1, cdw10 := 0xC3 }), ent { opc := 2, nsid := 1, cdw10 := 0xC3 }, by unfold Safety.LogRuns Safety.AdminRuns Safety.Runnable; decide +kernel⟩

theorem witness_LogPagesAnswer_5 :
    ∃ (s : State) (x : Ctx), Safety.LogRuns s 0 x 0xC3 ∧ isPf x.fn = true ∧ eLpo x.e = 0 ∧ eLsp0 x.e = true :=
  ⟨one (ent { opc := 2, nsid := 1, cdw10 := 0x1C3 }), ent { opc := 2, nsid := 1, cdw10 := 0x1C3 }, by unfold Safety.LogRuns Safety.AdminRuns Safety.Runnable; decide +kernel⟩

theorem witness_LogPagesAnswer_6 :
    ∃ (s : State) (x : Ctx) (node : Nat) (o : Owner), Safety.LogRuns s 0 x 0xC4 ∧ x.e.nsid = 0 ∧ eLsp0 x.e = true ∧ isPf x.fn = true ∧
      s.pb.owners[eLsi x.e]? = some (node, o) ∧ tfind s.pb.owners node = some o ∧ o.state = 3 :=
  ⟨{ one (ent { opc := 2, nsid := 0, cdw10 := 0x1C4 }) with pb := { owners := [(9, { state := 3 })] } }, ent { opc := 2, nsid := 0, cdw10 := 0x1C4 }, 9, { state := 3 }, by unfold Safety.LogRuns Safety.AdminRuns Safety.Runnable; decide +kernel⟩

theorem witness_LogPagesAnswer_7 :
    ∃ (s : State) (x : Ctx) (n : Ns), Safety.LogRuns s 0 x 0xC6 ∧ nsOf s x.e.nsid = some n ∧ s.ze.nss = [(x.e.nsid, n)] ∧ x.e.nsid ∈ namedNs s x ∧
      x.e.nsid ≠ 0xFFFFFFFF :=
  ⟨withNs {} (one (ent { opc := 2, nsid := 1, cdw10 := 0xC6 })), ent { opc := 2, nsid := 1, cdw10 := 0xC6 }, { zones := 4, attached := some 0 }, by unfold Safety.LogRuns Safety.AdminRuns Safety.Runnable; decide +kernel⟩

theorem witness_ReadsAndVerifiesAreServed_1 :
    ∃ (s : State) (x : Ctx), Safety.IoRuns s 0 x 0x02 ∧ Safety.MayBegin s 0 x ∧ Safety.SourcesUsable s x :=
  ⟨one (io { opc := 2, nsid := 1 }), io { opc := 2, nsid := 1 }, by unfold Safety.IoRuns Safety.Runnable Safety.MayBegin Safety.SourcesUsable; decide +kernel⟩

theorem witness_ReadsAndVerifiesAreServed_2 :
    ∃ (s : State) (x : Ctx), Safety.IoRuns s 0 x 0x0C ∧ Safety.MayBegin s 0 x ∧ Safety.SourcesUsable s x ∧ touched s x.e.nsid (srcLbas x.e) ≠ [] ∧
      (∀ l, l ∈ srcLbas x.e → lbaOff l < (zoneOf s (lbaKey x.e.nsid l)).wp → ∀ g, (srcRef s (lbaKey x.e.nsid l) (lbaOff l) g).isSome = true) :=
  ⟨zoned (io { opc := 12, nsid := 1 }) { st := .full, wp := 1, units := [(0, {})] }, io { opc := 12, nsid := 1 }, by unfold Safety.IoRuns Safety.Runnable; decide +kernel, by unfold Safety.MayBegin; decide +kernel, by unfold Safety.SourcesUsable; decide +kernel, by decide +kernel, fun l hl _ g => by have h : l = 0 := (List.mem_singleton.mp hl); subst h; rfl⟩

theorem witness_ReadsAndVerifiesAreServed_3 :
    ∃ (s : State) (x : Ctx), Safety.IoRuns s 0 x 0x02 ∧ Safety.MayBegin s 0 x ∧
      (∃ l, l ∈ srcLbas x.e ∧ (zoneOf s (lbaKey x.e.nsid l)).st = .offline) :=
  ⟨zoned (io { opc := 2, nsid := 1 }) { st := .offline }, io { opc := 2, nsid := 1 }, by unfold Safety.IoRuns Safety.Runnable; decide +kernel, by unfold Safety.MayBegin; decide +kernel, 0, by decide +kernel⟩

theorem witness_ReadsAndVerifiesAreServed_4 :
    ∃ (s : State) (x : Ctx), Safety.IoRuns s 0 x 0x0C ∧ Safety.MayBegin s 0 x ∧ x.badTag = false ∧
      Safety.SourcesUsable s x ∧ touched s x.e.nsid (srcLbas x.e) = [] :=
  ⟨one (io { opc := 12, nsid := 1 }), io { opc := 12, nsid := 1 }, by unfold Safety.IoRuns Safety.Runnable Safety.MayBegin Safety.SourcesUsable; decide +kernel⟩

theorem witness_ReadsAndVerifiesAreServed_5 :
    ∃ (s : State) (u : Nat) (x : Ctx) (r : SrcRef) (k : Nat × Nat) (data : List Block), Safety.IoRuns s 0 x 0x02 ∧ Safety.UnitEnds s x u r k ∧
      r.extra = false ∧ opens k r.aad r.sealed = true ∧ r.check = 0 ∧
      unitBlocks ((sameUnit x r).map (fun q => q.2.place)).max? r.sealed = some data :=
  ⟨zoned ({ io { opc := 2, nsid := 1 } with started := true, todo := [0], src := [(0, { aad := sealAad {} })] }) {}, 0, { io { opc := 2, nsid := 1 } with started := true, todo := [0], src := [(0, { aad := sealAad {} })] }, { aad := sealAad {} }, (0, 0), [], by unfold Safety.IoRuns Safety.Runnable Safety.UnitEnds; decide +kernel⟩

theorem witness_ReadsAndVerifiesAreServed_6 :
    ∃ (s : State) (u : Nat) (x : Ctx) (r : SrcRef) (k : Nat × Nat), Safety.IoRuns s 0 x 0x02 ∧ Safety.UnitEnds s x u r k ∧
      r.extra = false ∧ opens k r.aad r.sealed = false :=
  ⟨zoned ({ io { opc := 2, nsid := 1 } with started := true, todo := [0], src := [(0, { aad := [1] })] }) {}, 0, { io { opc := 2, nsid := 1 } with started := true, todo := [0], src := [(0, { aad := [1] })] }, { aad := [1] }, (0, 0), by unfold Safety.IoRuns Safety.Runnable Safety.UnitEnds; decide +kernel⟩

theorem witness_ReadsAndVerifiesAreServed_7 :
    ∃ (s : State) (u : Nat) (x : Ctx) (r : SrcRef) (k : Nat × Nat), Safety.IoRuns s 0 x 0x02 ∧ Safety.UnitEnds s x u r k ∧
      opens k r.aad r.sealed = true ∧ (r.check ≠ 0 ∨ unitBlocks ((sameUnit x r).map (fun q => q.2.place)).max? r.sealed = none) :=
  ⟨zoned ({ io { opc := 2, nsid := 1 } with started := true, todo := [0], src := [(0, { aad := sealAad {}, check := 1 })] }) {}, 0, { io { opc := 2, nsid := 1 } with started := true, todo := [0], src := [(0, { aad := sealAad {}, check := 1 })] }, { aad := sealAad {}, check := 1 }, (0, 0), by unfold Safety.IoRuns Safety.Runnable Safety.UnitEnds; decide +kernel⟩

theorem witness_ReadsAndVerifiesAreServed_8 :
    ∃ (s : State) (u : Nat) (x : Ctx) (r : SrcRef) (k : Nat × Nat), Safety.IoRuns s 0 x 0x0C ∧ x.todo = [u] ∧ Safety.UnitEnds s x u r k ∧
      (opens k r.aad r.sealed = false ∨ r.check = 0 ∧ (unitBlocks none r.sealed).isSome = true) :=
  ⟨zoned ({ io { opc := 12, nsid := 1 } with started := true, todo := [0], src := [(0, { aad := sealAad {} })] }) {}, 0, { io { opc := 12, nsid := 1 } with started := true, todo := [0], src := [(0, { aad := sealAad {} })] }, { aad := sealAad {} }, (0, 0), by unfold Safety.IoRuns Safety.Runnable Safety.UnitEnds; decide +kernel⟩

theorem witness_ReadsAndVerifiesAreServed_9 :
    ∃ (s : State) (x : Ctx), Safety.IoRuns s 0 x 0x02 ∧ x.started = true ∧ x.todo = [] :=
  ⟨one ({ io { opc := 2, nsid := 1 } with started := true }), { io { opc := 2, nsid := 1 } with started := true }, by unfold Safety.IoRuns Safety.Runnable; decide +kernel⟩

theorem witness_ReadsAndVerifiesAreServed_10 :
    ∃ (s : State) (x : Ctx), Safety.IoRuns s 0 x 0x02 ∧ x.started = false :=
  ⟨one (io { opc := 2, nsid := 1 }), io { opc := 2, nsid := 1 }, by unfold Safety.IoRuns Safety.Runnable; decide +kernel⟩

theorem witness_WritesAreValidated_1 :
    ∀ l, l ∈ [(0x01 : Nat), 0x7D, 0x08] → ∃ (s : State) (x : Ctx) (key g b : Nat), Safety.IoRuns s 0 x l ∧ x.validated = false ∧ mayValidate s 0 x = true ∧
      zoneAt s x.e.nsid (eSlba x.e) = some key ∧ ticketOf s x = 0 ∧ Safety.TakesWrites s x.fn key false (some b) ∧ Safety.Fits s key (some b) x.e g :=
  fun l hl => by
    rcases (by simpa using hl : l = 1 ∨ l = 0x7D ∨ l = 8) with rfl | rfl | rfl
    · exact ⟨zoned (io { opc := 1, nsid := 1 }) emptyZone, io { opc := 1, nsid := 1 }, 1048576, 0, 0, by unfold Safety.IoRuns Safety.Runnable; decide +kernel, by decide +kernel, by decide +kernel, by decide +kernel, by decide +kernel, ⟨by decide +kernel, by decide +kernel, by decide +kernel, by decide +kernel, Or.inr (Or.inr ⟨0, by unfold Safety.LeavesEmpty Safety.RoomActive; decide +kernel, by unfold Safety.RoomOpen; decide +kernel, rfl⟩)⟩, by unfold Safety.Fits; decide +kernel⟩
    · exact ⟨zoned (io { opc := 0x7D, nsid := 1 }) emptyZone, io { opc := 0x7D, nsid := 1 }, 1048576, 0, 0, by unfold Safety.IoRuns Safety.Runnable; decide +kernel, by decide +kernel, by decide +kernel, by decide +kernel, by decide +kernel, ⟨by decide +kernel, by decide +kernel, by decide +kernel, by decide +kernel, Or.inr (Or.inr ⟨0, by unfold Safety.LeavesEmpty Safety.RoomActive; decide +kernel, by unfold Safety.RoomOpen; decide +kernel, rfl⟩)⟩, by unfold Safety.Fits; decide +kernel⟩
    · exact ⟨zoned (io { opc := 8, nsid := 1 }) emptyZone, io { opc := 8, nsid := 1 }, 1048576, 0, 0, by unfold Safety.IoRuns Safety.Runnable; decide +kernel, by decide +kernel, by decide +kernel, by decide +kernel, by decide +kernel, ⟨by decide +kernel, by decide +kernel, by decide +kernel, by decide +kernel, Or.inr (Or.inr ⟨0, by unfold Safety.LeavesEmpty Safety.RoomActive; decide +kernel, by unfold Safety.RoomOpen; decide +kernel, rfl⟩)⟩, by unfold Safety.Fits; decide +kernel⟩

theorem witness_WritesAreValidated_2 :
    ∃ (s : State) (x : Ctx) (key g : Nat), Safety.IoRuns s 0 x 0x01 ∧ x.validated = false ∧ mayValidate s 0 x = true ∧
      zoneAt s x.e.nsid (eSlba x.e) = some key ∧ ticketOf s x = 0 ∧ Safety.TakesWrites s x.fn key false none ∧ Safety.Fits s key none x.e g :=
  ⟨zoned (io { opc := 1, nsid := 1 }) openZone, io { opc := 1, nsid := 1 }, 1048576, 0, by unfold Safety.IoRuns Safety.Runnable; decide +kernel, by decide +kernel, by decide +kernel, by decide +kernel, by decide +kernel, ⟨by decide +kernel, by decide +kernel, by decide +kernel, by decide +kernel, Or.inl ⟨by decide +kernel, rfl⟩⟩, by unfold Safety.Fits; decide +kernel⟩

theorem witness_WritesAreValidated_3 :
    ∀ st, st ∈ [ZState.full, ZState.readOnly, ZState.offline] → ∃ (s : State) (x : Ctx) (key : Nat), Safety.IoRuns s 0 x 0x01 ∧ x.validated = false ∧
      mayValidate s 0 x = true ∧ zoneAt s x.e.nsid (eSlba x.e) = some key ∧ ticketOf s x = 0 ∧ (zoneOf s key).waiting = [] ∧ bandHeld s key = false ∧ (zoneOf s key).rebuilding = false ∧ (zoneOf s key).st = st :=
  fun st hst => ⟨zoned (io { opc := 1, nsid := 1 }) { st := st }, io { opc := 1, nsid := 1 }, 1048576, by revert hst; revert st; unfold Safety.IoRuns Safety.Runnable; decide +kernel⟩

theorem witness_WritesAreValidated_4 :
    ∃ (s : State) (x : Ctx) (key : Nat), Safety.IoRuns s 0 x 0x01 ∧ x.validated = false ∧ mayValidate s 0 x = true ∧
      zoneAt s x.e.nsid (eSlba x.e) = some key ∧ ticketOf s x = 0 ∧ Safety.TakesWrites s x.fn key false none ∧ (∀ g, ¬ Safety.Fits s key none x.e g) :=
  ⟨zoned (io { opc := 1, nsid := 1 }) { openZone with vp := 5 }, io { opc := 1, nsid := 1 }, 1048576, by unfold Safety.IoRuns Safety.Runnable; decide +kernel, by decide +kernel, by decide +kernel, by decide +kernel, by decide +kernel, ⟨by decide +kernel, by decide +kernel, by decide +kernel, by decide +kernel, Or.inl ⟨by decide +kernel, rfl⟩⟩, fun _ h => absurd h.1 (by decide +kernel)⟩

theorem witness_WritesAreValidated_5 :
    ∃ (s : State) (x : Ctx) (key : Nat) (k : Ticket), Safety.IoRuns s 0 x 0x7D ∧ x.validated = false ∧ mayValidate s 0 x = true ∧
      zoneAt s x.e.nsid (eSlba x.e) = some key ∧ replayed s key x = some k ∧ inFlight s k = false ∧ k.nlb = eNlb x.e :=
  ⟨{ zoned (io { opc := 0x7D, nsid := 1, cdw15 := 1 }) {} with ze := { nss := [(1, { zones := 4, attached := some 0, ticketed := true })], zones := [(1048576, { openZone with tickets := [{ ticket := 1, nlb := 1, applied := true, ctx := 99 }] })] } }, io { opc := 0x7D, nsid := 1, cdw15 := 1 }, 1048576, { ticket := 1, nlb := 1, applied := true, ctx := 99 }, by unfold Safety.IoRuns Safety.Runnable; decide +kernel⟩

theorem witness_WritesAreValidated_6 :
    ∃ (s : State) (x : Ctx), Safety.IoRuns s 0 x 0x01 ∧ x.validated = true :=
  ⟨one (wrt 1 1 []), wrt 1 1 [], by unfold Safety.IoRuns Safety.Runnable; decide +kernel⟩

theorem witness_WriteDataIsSealedPackedAndApplied_1 :
    ∃ (s : State) (u : Nat) (x : Ctx) (k : Nat × Nat), ctxOf s 0 = some x ∧ x.sqid ≠ 0 ∧ x.tunnel = false ∧ x.st = .started ∧ isWriteOpc x.e.opc = true ∧
      u ∉ x.todo ∧ writeKey s x = some k ∧ x.validated = true ∧ x.waitCeil = false ∧ u ∉ x.unitsDone ∧ u < writeUnits s x ∧
      unitReady s (zKey x.nsid x.zone) 0 x u = true ∧ (∀ f, f ∈ partsOf s (zKey x.nsid x.zone) x u → opens k (placeAad s (zKey x.nsid x.zone) (16 * f.slot + f.first)) f.sealed = true) :=
  ⟨zoned { wrt 1 1 [] with encKey := some (0, 0) } openZone, 0, { wrt 1 1 [] with encKey := some (0, 0) }, (0, 0), by decide +kernel⟩

theorem witness_WriteDataIsSealedPackedAndApplied_2 :
    ∃ (s : State) (b : Nat) (x : Ctx), ctxOf s 0 = some x ∧ ctxFresh s x = true ∧ atHead s 0 (zKey x.nsid x.zone) x = true ∧ x.waitSpace = false ∧
      zoneComp (zoneOf s (zKey x.nsid x.zone)) = false ∧ (zoneOf s (zKey x.nsid x.zone)).band = some b ∧
      (zoneOf s (zKey x.nsid x.zone)).waiting = [] ∧ 0 < readyLbas s x ∧ s.gr.mirEn = false ∧ s.gr.waiters = [] ∧
      (zoneOf s (zKey x.nsid x.zone)).nextPos + (x.nlb - x.applied) ≤ bandCws s.board (zoneDens (zoneOf s (zKey x.nsid x.zone))) (dataWidth s b) ∧
      hasRoom s (zKey x.nsid x.zone) (List.replicate (readyLbas s x) 4096) [] ((zoneOf s (zKey x.nsid x.zone)).nextPos + readyLbas s x) = true ∧ x.applied + readyLbas s x = x.nlb ∧ x.fua = false ∧ writeThrough s = false ∧ x.tunnel = false ∧ x.sqid ≠ 0 :=
  ⟨big (zoned (wrt 1 1 [0]) { openZone with queue := [0] }), 0, wrt 1 1 [0], by decide +kernel⟩

theorem witness_WriteDataIsSealedPackedAndApplied_3 :
    ∃ (s : State) (b : Nat) (x : Ctx), ctxOf s 0 = some x ∧ ctxFresh s x = true ∧ canPack s 0 (zKey x.nsid x.zone) x = true ∧ x.waitSpace = false ∧
      (zoneOf s (zKey x.nsid x.zone)).band = some b ∧ s.gr.mirEn = false ∧ s.gr.waiters = [] ∧ x.applied + 1 < x.nlb :=
  ⟨big (zoned (wrt 32 32 [0, 1]) { openZone with shape := some { comp := true }, queue := [0] }), 0, wrt 32 32 [0, 1], by decide +kernel⟩

theorem witness_WriteDataIsSealedPackedAndApplied_4 :
    ∃ (s : State) (x : Ctx), ctxOf s 0 = some x ∧ ctxFresh s x = true ∧ atHead s 0 (zKey x.nsid x.zone) x = true ∧ x.waitSpace = false ∧
      zoneComp (zoneOf s (zKey x.nsid x.zone)) = true ∧ (zoneOf s (zKey x.nsid x.zone)).waiting = [] ∧ x.applied < x.packed :=
  ⟨zoned { wrt 2 0 [] with packed := 1 } { openZone with shape := some { comp := true }, queue := [0] }, { wrt 2 0 [] with packed := 1 }, by decide +kernel⟩

theorem witness_WriteDataIsSealedPackedAndApplied_5 :
    ∃ (s : State) (b : Nat) (x : Ctx), s.gr.waiters.head? = some 0 ∧ ctxOf s 0 = some x ∧ ctxFresh s x = true ∧
      atHead s 0 (zKey x.nsid x.zone) x = true ∧ zoneComp (zoneOf s (zKey x.nsid x.zone)) = false ∧ (zoneOf s (zKey x.nsid x.zone)).band = some b ∧
      0 < readyLbas s x ∧ x.applied + readyLbas s x < x.nlb ∧ s.gr.mirEn = false ∧ hasRoom s (zKey x.nsid x.zone) (List.replicate (readyLbas s x) 4096) [] ((zoneOf s (zKey x.nsid x.zone)).nextPos + readyLbas s x) = true ∧
      (zoneOf s (zKey x.nsid x.zone)).nextPos + (x.nlb - x.applied) ≤ bandCws s.board (zoneDens (zoneOf s (zKey x.nsid x.zone))) (dataWidth s b) :=
  ⟨{ zoned { wrt 100 1 [0] with e := { opc := 1, nsid := 1 } } { openZone with queue := [0] } with gr := { size := 1000, waiters := [0] } }, 0, { wrt 100 1 [0] with e := { opc := 1, nsid := 1 } }, by decide +kernel⟩

theorem witness_ZoneActionsChangeTheZone_1 :
    ∃ (s : State) (x : Ctx) (key : Nat), Safety.ActsOn s 0 x zsaOpen key ∧ (zoneOf s key).st = .implOpen :=
  ⟨big (zoned (io { opc := 0x79, nsid := 1, cdw13 := zsaOpen }) openZone), io { opc := 0x79, nsid := 1, cdw13 := zsaOpen }, 1048576, by unfold Safety.ActsOn Safety.IoRuns Safety.Runnable Safety.GranaryFree; decide +kernel⟩

theorem witness_ZoneActionsChangeTheZone_2 :
    ∃ (s : State) (x : Ctx) (key b : Nat), Safety.ActsOn s 0 x zsaOpen key ∧ Safety.LeavesEmpty s x.fn key true b ∧ Safety.RoomOpen s (zNsid key) :=
  ⟨big (zoned (io { opc := 0x79, nsid := 1, cdw13 := zsaOpen }) emptyZone), io { opc := 0x79, nsid := 1, cdw13 := zsaOpen }, 1048576, 0, by unfold Safety.ActsOn Safety.IoRuns Safety.Runnable Safety.GranaryFree Safety.LeavesEmpty Safety.RoomActive Safety.RoomOpen; decide +kernel⟩

theorem witness_ZoneActionsChangeTheZone_3 :
    ∃ (s : State) (x : Ctx) (key : Nat), Safety.ActsOn s 0 x zsaClose key ∧ isOpen (zoneOf s key).st = true :=
  ⟨big (zoned (io { opc := 0x79, nsid := 1, cdw13 := zsaClose }) openZone), io { opc := 0x79, nsid := 1, cdw13 := zsaClose }, 1048576, by unfold Safety.ActsOn Safety.IoRuns Safety.Runnable Safety.GranaryFree; decide +kernel⟩

theorem witness_ZoneActionsChangeTheZone_4 :
    ∃ (s : State) (x : Ctx) (key : Nat), Safety.ActsOn s 0 x zsaClose key ∧ (zoneOf s key).st = .closed :=
  ⟨big (zoned (io { opc := 0x79, nsid := 1, cdw13 := zsaClose }) { st := .closed }), io { opc := 0x79, nsid := 1, cdw13 := zsaClose }, 1048576, by unfold Safety.ActsOn Safety.IoRuns Safety.Runnable Safety.GranaryFree; decide +kernel⟩

theorem witness_ZoneActionsChangeTheZone_5 :
    ∃ (s : State) (x : Ctx) (key : Nat), Safety.ActsOn s 0 x zsaFinish key ∧ (zoneOf s key).st = .empty :=
  ⟨big (zoned (io { opc := 0x79, nsid := 1, cdw13 := zsaFinish }) {}), io { opc := 0x79, nsid := 1, cdw13 := zsaFinish }, 1048576, by unfold Safety.ActsOn Safety.IoRuns Safety.Runnable Safety.GranaryFree; decide +kernel⟩

theorem witness_ZoneActionsChangeTheZone_6 :
    ∃ (s : State) (x : Ctx) (key : Nat), Safety.ActsOn s 0 x zsaFinish key ∧ isActive (zoneOf s key).st = true :=
  ⟨big (zoned (io { opc := 0x79, nsid := 1, cdw13 := zsaFinish }) { st := .closed }), io { opc := 0x79, nsid := 1, cdw13 := zsaFinish }, 1048576, by unfold Safety.ActsOn Safety.IoRuns Safety.Runnable Safety.GranaryFree; decide +kernel⟩

theorem witness_ZoneActionsChangeTheZone_7 :
    ∃ (s : State) (x : Ctx) (key : Nat), Safety.ActsOn s 0 x zsaReset key ∧ (zoneOf s key).st = .full :=
  ⟨big (zoned (io { opc := 0x79, nsid := 1, cdw13 := zsaReset }) { st := .full }), io { opc := 0x79, nsid := 1, cdw13 := zsaReset }, 1048576, by unfold Safety.ActsOn Safety.IoRuns Safety.Runnable Safety.GranaryFree; decide +kernel⟩

theorem witness_ZoneActionsChangeTheZone_8 :
    ∃ (s : State) (x : Ctx) (key : Nat), Safety.ActsOn s 0 x zsaOffline key ∧ (zoneOf s key).st = .readOnly :=
  ⟨big (zoned (io { opc := 0x79, nsid := 1, cdw13 := zsaOffline }) { st := .readOnly }), io { opc := 0x79, nsid := 1, cdw13 := zsaOffline }, 1048576, by unfold Safety.ActsOn Safety.IoRuns Safety.Runnable Safety.GranaryFree; decide +kernel⟩

theorem witness_ZoneActionsChangeTheZone_9 :
    ∃ (s : State) (x : Ctx) (key b : Nat), Safety.ActsOn s 0 x zsaExt key ∧ Safety.LeavesEmpty s x.fn key true b :=
  ⟨big (zoned (io { opc := 0x79, nsid := 1, cdw13 := zsaExt }) emptyZone), io { opc := 0x79, nsid := 1, cdw13 := zsaExt }, 1048576, 0, by unfold Safety.ActsOn Safety.IoRuns Safety.Runnable Safety.GranaryFree Safety.LeavesEmpty Safety.RoomActive; decide +kernel⟩

theorem witness_ZoneActionsChangeTheZone_10 :
    ∃ (s : State) (x : Ctx) (key : Nat), Safety.ActsOn s 0 x zsaReset key ∧ (zoneOf s key).st = .offline :=
  ⟨big (zoned (io { opc := 0x79, nsid := 1, cdw13 := zsaReset }) { st := .offline }), io { opc := 0x79, nsid := 1, cdw13 := zsaReset }, 1048576, by unfold Safety.ActsOn Safety.IoRuns Safety.Runnable Safety.GranaryFree; decide +kernel⟩

theorem witness_ZoneActionsChangeTheZone_11 :
    ∃ (s : State) (x : Ctx) (key : Nat), Safety.IoRuns s 0 x 0x79 ∧ zsaOf x.e = zsaReset ∧ zsaAll x.e = false ∧ effectsBefore s 0 x = true ∧
      zoneAt s x.e.nsid (eSlba x.e) = some key ∧ eSlba x.e % zoneLbas = 0 ∧ (zoneOf s key).queue ≠ [] :=
  ⟨zoned (io { opc := 0x79, nsid := 1, cdw13 := zsaReset }) { openZone with queue := [5] }, io { opc := 0x79, nsid := 1, cdw13 := zsaReset }, 1048576, by unfold Safety.IoRuns Safety.Runnable; decide +kernel⟩

theorem witness_ZoneActionsChangeTheZone_12 :
    ∃ (s : State) (x : Ctx) (k : Nat), Safety.IoRuns s 0 x 0x79 ∧ zsaOf x.e = zsaReset ∧ zsaAll x.e = true ∧ effectsBefore s 0 x = true ∧ x.asked = 0 ∧
      x.status = stOk ∧ Safety.GranaryFree s (3 * s.ze.zones.length) ∧ (∀ p, p ∈ s.ze.zones → zNsid p.1 = x.e.nsid → (zoneOf s p.1).queue = [] ∧ (zoneOf s p.1).rebuilding = false ∧
      ∀ f, f ∈ (zoneOf s p.1).frames → pendingPart f = false) ∧ zNsid k = x.e.nsid ∧
      selects (zsaOf x.e) (zoneOf s k).st = true :=
  ⟨big (zoned (io { opc := 0x79, nsid := 1, cdw13 := zsaReset + 256 }) { st := .full }), io { opc := 0x79, nsid := 1, cdw13 := zsaReset + 256 }, 1048576, by unfold Safety.IoRuns Safety.Runnable Safety.GranaryFree; decide +kernel⟩

theorem witness_ZonesAreShapedReportedAndCheckpointed_1 :
    ∃ (s : State) (x : Ctx) (n : Ns), Safety.IoRuns s 0 x 0x81 ∧ effectsBefore s 0 x = true ∧ Safety.GranaryFree s 1 ∧
      shapeValid s x.e = true ∧ domExists s (shapeFrom x.e.payload).domain = true ∧ domGranted (fnOf s x.fn) (shapeFrom x.e.payload).domain = true ∧
      slotGranted (fnOf s x.fn) (shapeFrom x.e.payload).keySlot = true ∧ bit x.e.cdw12 0 = true ∧ nsOf s x.e.nsid = some n :=
  ⟨big (zoned (io { opc := 0x81, nsid := 1, cdw12 := 1, payload := [1, 1] }) {}), io { opc := 0x81, nsid := 1, cdw12 := 1, payload := [1, 1] }, { zones := 4, attached := some 0 }, by unfold Safety.IoRuns Safety.Runnable Safety.GranaryFree; decide +kernel⟩

theorem witness_ZonesAreShapedReportedAndCheckpointed_2 :
    ∃ (s : State) (x : Ctx) (key : Nat), Safety.IoRuns s 0 x 0x81 ∧ effectsBefore s 0 x = true ∧ Safety.GranaryFree s 1 ∧
      shapeValid s x.e = true ∧ domExists s (shapeFrom x.e.payload).domain = true ∧ domGranted (fnOf s x.fn) (shapeFrom x.e.payload).domain = true ∧
      slotGranted (fnOf s x.fn) (shapeFrom x.e.payload).keySlot = true ∧ bit x.e.cdw12 0 = false ∧ zoneAt s x.e.nsid (eSlba x.e) = some key ∧
      eSlba x.e % zoneLbas = 0 ∧ (zoneOf s key).st = .empty :=
  ⟨big (zoned (io { opc := 0x81, nsid := 1, cdw12 := 0, payload := [1, 1] }) {}), io { opc := 0x81, nsid := 1, cdw12 := 0, payload := [1, 1] }, 1048576, by unfold Safety.IoRuns Safety.Runnable Safety.GranaryFree; decide +kernel⟩

theorem witness_ZonesAreShapedReportedAndCheckpointed_3 :
    ∃ (s : State) (x : Ctx), Safety.IoRuns s 0 x 0x81 ∧ effectsBefore s 0 x = true ∧ shapeValid s x.e = false :=
  ⟨one (io { opc := 0x81, nsid := 1 }), io { opc := 0x81, nsid := 1 }, by unfold Safety.IoRuns Safety.Runnable; decide +kernel⟩

theorem witness_ZonesAreShapedReportedAndCheckpointed_4 :
    ∃ (s : State) (x : Ctx) (q : Sq), ctxOf s 4096 = some x ∧ sqOf s x.fn x.sqid = some q ∧ x.st = .fetched ∧ x.tunnel = false ∧ ctxFresh s x = true ∧
      q.frozen = none ∧ s.gr.holdup = false ∧ earlierStarted s 4096 x = true ∧ x.sqid ≠ 0 ∧ x.e.opc = 0x81 ∧ x.e.fuse = 0 ∧ nsGranted s x.fn x.e.nsid = false :=
  ⟨eng [(4096, { sqid := 1, e := { opc := 0x81, nsid := 9 } })] [(1, {})] [], { sqid := 1, e := { opc := 0x81, nsid := 9 } }, {}, by decide +kernel⟩

theorem witness_ZonesAreShapedReportedAndCheckpointed_5 :
    ∃ (s : State) (x : Ctx), Safety.IoRuns s 0 x 0x7A ∧ bits x.e.cdw13 7 0 = 1 :=
  ⟨one (io { opc := 0x7A, nsid := 1, cdw13 := 1 }), io { opc := 0x7A, nsid := 1, cdw13 := 1 }, by unfold Safety.IoRuns Safety.Runnable; decide +kernel⟩

theorem witness_ZonesAreShapedReportedAndCheckpointed_6 :
    ∃ (s : State) (v : Word), Safety.Reaches s (.core 0) .zoneEngine 0 ∧ s.ze.bandWait = [] ∧ pushReason s (rdf s R.zeFblSel 7 0) (bits v.toNat 18 0) = 0 :=
  ⟨{ up with ze := (zoned {} {}).ze }, 0#32, by unfold Safety.Reaches; decide +kernel⟩

theorem witness_ZonesAreShapedReportedAndCheckpointed_7 :
    ∃ (s : State) (v : Word), Safety.Reaches s (.core 0) .zoneEngine 0 ∧ s.ze.bandWait = [] ∧ pushReason s (rdf s R.zeFblSel 7 0) (bits v.toNat 18 0) ≠ 0 :=
  ⟨up, 0#32, by unfold Safety.Reaches; decide +kernel⟩

theorem witness_ZonesAreShapedReportedAndCheckpointed_8 :
    ∃ s : State, active s = true ∧ s.gr.recovered = true ∧ (ckptWrite (((s.gr.ckpt.map (fun c => c.num)).getD 0) + 1) (ckptWls s) s).isSome = true :=
  ⟨{ up with gr := { recovered := true }, fl := { chans := [(0, { st := .running, usable := 1 }), (16, { st := .running, usable := 1 })] } }, by decide +kernel⟩

theorem witness_FlushCopyAndPeerCopyRun_1 :
    ∃ (s : State) (x : Ctx), Safety.IoRuns s 0 x 0x00 ∧ x.validated = false ∧ effectsBefore s 0 x = true ∧
      (∀ p, p ∈ x.cover ++ (earlier s 0 x).filterMap (fun i => (ctxOf s i).bind (writeCover s x)) → rangeOnFlash s p.1 p.2.1 (p.2.2 - p.2.1) = true) :=
  ⟨one (io { opc := 0, nsid := 1 }), io { opc := 0, nsid := 1 }, by unfold Safety.IoRuns Safety.Runnable; decide +kernel⟩

theorem witness_FlushCopyAndPeerCopyRun_2 :
    ∃ (s : State) (key g : Nat) (x : Ctx), Safety.IoRuns s 0 x 0x19 ∧ mayValidate s 0 x = true ∧ indexLost s x.e.nsid (srcLbas x.e) = false ∧ readHeld s 0 x x.e.nsid (srcLbas x.e) = false ∧
      x.started = false ∧ x.validated = false ∧ Safety.SourcesUsable s x ∧ zoneAt s x.e.nsid (eSlba x.e) = some key ∧ Safety.TakesWrites s x.fn key (s.ze.bandWait.contains 0) none ∧
      Safety.Fits s key none x.e g :=
  ⟨zoned (io { opc := 0x19, nsid := 1, ranges := [(zoneLbas, 1)] }) openZone, 1048576, 0, io { opc := 0x19, nsid := 1, ranges := [(zoneLbas, 1)] }, by unfold Safety.IoRuns Safety.Runnable; decide +kernel, by decide +kernel, by decide +kernel, by decide +kernel, by decide +kernel, by decide +kernel, by unfold Safety.SourcesUsable; decide +kernel, by decide +kernel, ⟨by decide +kernel, by decide +kernel, by decide +kernel, by decide +kernel, Or.inl ⟨by decide +kernel, rfl⟩⟩, by unfold Safety.Fits; decide +kernel⟩

theorem witness_FlushCopyAndPeerCopyRun_3 :
    ∃ (s : State) (x : Ctx), Safety.IoRuns s 0 x 0x19 ∧ mayValidate s 0 x = true ∧ indexLost s x.e.nsid (srcLbas x.e) = false ∧ readHeld s 0 x x.e.nsid (srcLbas x.e) = false ∧
      x.started = false ∧ x.validated = false ∧ (∃ l, l ∈ srcLbas x.e ∧ (zoneOf s (lbaKey x.e.nsid l)).st = .offline) :=
  ⟨zoned (io { opc := 0x19, nsid := 1, cdw10 := zoneLbas, ranges := [(0, 1)] }) { st := .offline }, io { opc := 0x19, nsid := 1, cdw10 := zoneLbas, ranges := [(0, 1)] }, by unfold Safety.IoRuns Safety.Runnable; decide +kernel, by decide +kernel, by decide +kernel, by decide +kernel, by decide +kernel, by decide +kernel, 0, by decide +kernel⟩

theorem witness_FlushCopyAndPeerCopyRun_4 :
    ∃ (s : State) (x : Ctx), Safety.IoRuns s 0 x 0x85 ∧ mayValidate s 0 x = true ∧ x.started = false ∧ x.validated = false ∧
      peerOk (fnOf s x.fn) (pcNode x.e) (pcNsid x.e) = false :=
  ⟨one (io { opc := 0x85, nsid := 1, cdw13 := 9, cdw14 := 1 }), io { opc := 0x85, nsid := 1, cdw13 := 9, cdw14 := 1 }, by unfold Safety.IoRuns Safety.Runnable; decide +kernel⟩

theorem witness_FlushCopyAndPeerCopyRun_5 :
    ∃ (s : State) (x : Ctx), Safety.IoRuns s 0 x 0x85 ∧ mayValidate s 0 x = true ∧ x.started = false ∧ x.validated = false ∧
      peerOk (fnOf s x.fn) (pcNode x.e) (pcNsid x.e) = true ∧ peerCopies s < 64 ∧ pcNode x.e = ownNode s ∧ sourceLets s (pcNsid x.e) (pcNode x.e) = false :=
  ⟨{ up with ce := { ctxs := [(0, io { opc := 0x85, nsid := 1, cdw13 := 0, cdw14 := 1 })], fns := [(0, { live with share := { peers := [(0, 1)] } })] } }, io { opc := 0x85, nsid := 1, cdw13 := 0, cdw14 := 1 }, by unfold Safety.IoRuns Safety.Runnable; decide +kernel⟩

theorem witness_FlushCopyAndPeerCopyRun_6 :
    ∃ (s : State) (key g n : Nat) (x : Ctx), Safety.IoRuns s 0 x 0x85 ∧ mayValidate s 0 x = true ∧ x.started = false ∧ x.validated = false ∧
      peerOk (fnOf s x.fn) (pcNode x.e) (pcNsid x.e) = true ∧ peerCopies s < 64 ∧ pcNode x.e ≠ ownNode s ∧ zoneAt s x.e.nsid (eSlba x.e) = some key ∧
      Safety.TakesWrites s x.fn key (s.ze.bandWait.contains 0) none ∧ Safety.Fits s key none x.e g ∧ s.gr.mirEn = false ∧ linkTo s (pcNode x.e) = some n ∧
      linkEth s n = false ∧ (sessOf s (sessKey n 0)).isSome = true ∧ x.asked = 0 ∧ x.chunks = 0 :=
  ⟨{ zoned {} openZone with ce := { ctxs := [(0, io { opc := 0x85, nsid := 1, cdw13 := 9, cdw14 := 1 })], fns := [(0, { live with share := { peers := [(9, 1)] } })] }, pb := { links := [(0, { st := .up, known := true, peer := 9 })], sessions := [(0, {})] } }, 1048576, 0, 0, io { opc := 0x85, nsid := 1, cdw13 := 9, cdw14 := 1 }, by unfold Safety.IoRuns Safety.Runnable; decide +kernel, by decide +kernel, by decide +kernel, by decide +kernel, by decide +kernel, by decide +kernel, by decide +kernel, by decide +kernel, ⟨by decide +kernel, by decide +kernel, by decide +kernel, by decide +kernel, Or.inl ⟨by decide +kernel, rfl⟩⟩, by unfold Safety.Fits; decide +kernel, by decide +kernel, by decide +kernel, by decide +kernel, by decide +kernel, by decide +kernel, by decide +kernel⟩

theorem witness_KeySlotsAreLoadedErasedAndCounted_1 :
    ∃ (s : State) (k : Nat), Safety.Reaches s .attic .cipher 0 ∧ k = rdf s R.ciKwSel 12 0 ∧ (slotOf s k).shadow = none ∧ (slotOf s k).loaded = false :=
  ⟨up, 0, by unfold Safety.Reaches; decide +kernel⟩

theorem witness_KeySlotsAreLoadedErasedAndCounted_2 :
    ∃ (s : State) (k : Nat), Safety.Reaches s .attic .cipher 0 ∧ k = rdf s R.ciKwSel 12 0 ∧ (slotOf s k).shadow = none ∧ (slotOf s k).loaded = true ∧
      holders s k (slotOf s k).keyGen ≠ 0 :=
  ⟨withSlots [(0, { loaded := true })] (one { keys := [(0, 0)] }), 0, by unfold Safety.Reaches; decide +kernel⟩

theorem witness_KeySlotsAreLoadedErasedAndCounted_3 :
    ∃ (s : State) (k : Nat), Safety.Reaches s .attic .cipher 0 ∧ k = rdf s R.ciKwSel 12 0 ∧ (slotOf s k).shadow.isSome = true :=
  ⟨withSlots [(0, { shadow := some (1, 2) })] up, 0, by unfold Safety.Reaches; decide +kernel⟩

theorem witness_KeySlotsAreLoadedErasedAndCounted_4 :
    ∃ (s : State) (hi : Word) (k v : Nat), Safety.Reaches s (.core 0) .cipher 0 ∧ k = rdf s R.ciKsSel 12 0 ∧
      v = bits (hi.toNat * 4294967296 + tget 0 s.rf.stage (masterKey (.core 0))) 63 0 ∧ (slotOf s k).ctr < v ∧ (slotOf s k).ceil ≤ v :=
  ⟨up, 1#32, 0, 4294967296, by unfold Safety.Reaches; decide +kernel⟩

theorem witness_KeySlotsAreLoadedErasedAndCounted_5 :
    ∃ (s : State) (hi : Word) (k v : Nat), Safety.Reaches s (.core 0) .cipher 0 ∧ k = rdf s R.ciKsSel 12 0 ∧
      v = bits (hi.toNat * 4294967296 + tget 0 s.rf.stage (masterKey (.core 0))) 63 0 ∧ v ≤ (slotOf s k).ctr ∧ v < (slotOf s k).ceil :=
  ⟨withSlots [(0, { ceil := 1 })] up, 0#32, 0, 0, by unfold Safety.Reaches; decide +kernel⟩

theorem witness_KeySlotsAreLoadedErasedAndCounted_6 :
    ∃ s : State, (slotOf s 8191).shadow.isSome = true :=
  ⟨withSlots [(8191, { shadow := some (1, 2) })] up, by decide +kernel⟩

theorem witness_DescriptorsArePosted_1 :
    ∃ (s : State) (d : Desc), Safety.TakesPost s 0 d .firmware ∧ d.op = 2 :=
  ⟨flash 0 {}, { op := 2, queue := 3 }, by unfold Safety.TakesPost Safety.MayPost; decide +kernel⟩

theorem witness_DescriptorsArePosted_2 :
    ∃ (s : State) (d : Desc) (o : Op), Safety.TakesPost s 0 d (.hostRead 0 0 0) ∧ d.op = 2 ∧ (dieOf s 0).cur = some o ∧ d.die = 0 ∧ (fillDesc s 0 d (.hostRead 0 0 0)).queue = 0 ∧
      Safety.Suspendable s 0 d.die o = true ∧ o.d.suspMax ≤ o.suspends :=
  ⟨{ flash 0 { cur := some { d := { op := 0x10, suspMax := 0 }, phase := .running } } with ck := { tb := 1000000000 } }, { op := 2 }, { d := { op := 0x10, suspMax := 0 }, phase := .running }, by unfold Safety.TakesPost Safety.MayPost Safety.Suspendable; decide +kernel⟩

theorem witness_DescriptorsArePosted_3 :
    ∃ (s : State) (d : Desc), Safety.TakesPost s 0 d .dump ∧ d.op = 0x30 ∧ Safety.Postable s (64 * 0 + d.die) (fillDesc s 0 d .dump) .dump :=
  ⟨{ withBlk 12 { st := 7 } (flash 0 {}) with gr := { dumpSt := 1, halves := [(0, { segs := [(0, {})], dies := [0] })] } }, { op := 0x30, queue := 1, block := 12 }, by unfold Safety.TakesPost Safety.MayPost Safety.Postable; decide +kernel⟩

theorem witness_DescriptorsArePosted_4 :
    ∃ (s : State) (d : Desc), Safety.MayPost s 0 d .firmware ∧ (dieOf s (64 * 0 + d.die)).posts = [] ∧ (dieOf s (64 * 0 + d.die)).heads = [] ∧
      hasEntry (dieOf s (64 * 0 + d.die)) (fillDesc s 0 d .firmware).queue = false ∧ d.op = 0x48 :=
  ⟨flash 0 { q := List.replicate 8 ({ op := 0x48, queue := 3 }, .dump) }, { op := 0x48, queue := 3 }, by unfold Safety.MayPost; decide +kernel⟩

theorem witness_DescriptorsArePosted_5 :
    ∃ s : State, agentHeld s (agentOf 0 .dump) = true :=
  ⟨{ up with fl := { heldPosts := [(0, ({}, .dump))] } }, by decide +kernel⟩

theorem witness_DescriptorsArePosted_6 :
    ∃ (s : State) (d : Desc), agentHeld s (agentOf 0 .firmware) = false ∧ d.op = 0x10 ∧ descOk s d.die (fillDesc s 0 d .firmware) = true ∧
      mayProgram s (64 * 0 + d.die) (fillDesc s 0 d .firmware) .firmware = false :=
  ⟨flash 0 {}, { op := 0x10, queue := 1, block := 16 }, by decide +kernel⟩

theorem witness_DescriptorsArePosted_7 :
    ∃ (s : State) (d : Desc) (b p k : Nat), agentHeld s (agentOf 0 (.assembler 0)) = false ∧ d.op = 0x10 ∧
      descOk s d.die (fillDesc s 0 d (.assembler 0)) = true ∧ bandOfBlk s (64 * 0 + d.die) d.block = some (b, p) ∧ bandZone s b = some k ∧
      stripeReady s (zoneOf s k) b d.wl = false :=
  ⟨bound {} (flash 0 {}), { op := 0x10, queue := 1, block := 16 }, 0, 0, 1048576, by decide +kernel⟩

theorem witness_DescriptorsArePosted_8 :
    ∃ (s : State) (d : Desc), agentHeld s (agentOf 0 .firmware) = false ∧ (chanOf s 0).st ≠ .off ∧ descOk s d.die (fillDesc s 0 d .firmware) = false :=
  ⟨flash 0 {}, { op := 0x99 }, by decide +kernel⟩

theorem witness_DescriptorsArePosted_9 :
    ∃ (s : State) (d : Desc), agentHeld s (agentOf 0 .firmware) = false ∧ (chanOf s 0).st ≠ .off ∧ Safety.Postable s (64 * 0 + d.die) (fillDesc s 0 d .firmware) .firmware ∧
      descOk s d.die (fillDesc s 0 d .firmware) = true ∧ d.die < 64 ∧ dieTakes s 0 d.die = false :=
  ⟨{ up with fl := { chans := [(0, { st := .running })] } }, { op := 0x40, queue := 3 }, by unfold Safety.Postable; decide +kernel⟩

theorem witness_DescriptorsArePosted_10 :
    ∃ (s : State) (d : Desc) (j : ReadJob), Safety.TakesPost s 0 d .firmware ∧ d.op = 1 ∧ newJob s 0 d.die (fillDesc s 0 d .firmware) .firmware = some j :=
  ⟨bound {} (flash 0 {}), { op := 1, block := 17, cw := 1 }, (newJob (bound {} (flash 0 {})) 0 0 (fillDesc (bound {} (flash 0 {})) 0 { op := 1, block := 17, cw := 1 } .firmware) .firmware).getD {}, by unfold Safety.TakesPost Safety.MayPost; decide +kernel⟩

theorem witness_DescriptorsArePosted_11 :
    ∃ (s : State) (d : Desc), Safety.TakesPost s 0 d .firmware ∧ d.op = 0x20 ∧ Safety.Postable s (64 * 0 + d.die) (fillDesc s 0 d .firmware) .firmware ∧ lifeOver s (64 * 0 + d.die) d.block = false :=
  ⟨flash 0 {}, { op := 0x20, queue := 2, block := 16 }, by unfold Safety.TakesPost Safety.MayPost Safety.Postable; decide +kernel⟩

theorem witness_DescriptorsArePosted_12 :
    ∃ (s : State) (d : Desc), agentHeld s (agentOf 0 .firmware) = false ∧ d.op = 0x20 ∧ descOk s d.die (fillDesc s 0 d .firmware) = true ∧ ¬ Safety.Postable s (64 * 0 + d.die) (fillDesc s 0 d .firmware) .firmware :=
  ⟨withBlk 16 { st := 4 } (flash 0 {}), { op := 0x20, queue := 2, block := 16 }, by unfold Safety.Postable; decide +kernel⟩

theorem witness_DescriptorsArePosted_13 :
    ∃ (s : State) (d : Desc), agentHeld s (agentOf 0 .firmware) = false ∧ d.die < 64 ∧ d.op = 0x20 ∧ descOk s d.die (fillDesc s 0 d .firmware) = true ∧ Safety.Postable s (64 * 0 + d.die) (fillDesc s 0 d .firmware) .firmware ∧
      dieFailed s (64 * 0 + d.die) = false ∧ dieTakes s 0 d.die = true ∧ lifeOver s (64 * 0 + d.die) d.block = true :=
  ⟨withBlk 16 { life := 1000000000 } (flash 0 {}), { op := 0x20, queue := 2, block := 16 }, by unfold Safety.Postable; decide +kernel⟩

theorem witness_DescriptorsArePosted_14 :
    ∃ (s : State), Safety.Reaches s (.core 0) .flCh 63 ∧ s.fl.heldPosts = [] :=
  ⟨up, by unfold Safety.Reaches; decide +kernel⟩

theorem witness_DiesIssueSuspendAndResume_1 :
    ∃ (s : State) (d : Desc) (who : Issuer), s.fl.heldPosts = [] ∧ (dieOf s 0).cur = none ∧ (dieOf s 0).resuming = false ∧ dieFailed s 0 = false ∧ (dieOf s 0).resetLun = false ∧
      chooseDesc s 0 (dieOf s 0) = some (d, who) ∧ Safety.NoRequests s ∧ s.fl.poolDump = false ∧ d.op = 0x10 ∧
      passInOrder s d (progress s 0 d.block).1 (progress s 0 d.block).2 = true :=
  ⟨flash 0 { q := [({ op := 0x10, queue := 1, block := 16, wl := 0 }, .assembler 0)] }, { op := 0x10, queue := 1, block := 16, wl := 0 }, .assembler 0, by unfold Safety.NoRequests; decide +kernel⟩

theorem witness_DiesIssueSuspendAndResume_2 :
    ∃ (s : State) (d : Desc) (who : Issuer), s.fl.heldPosts = [] ∧ (dieOf s 0).cur = none ∧ (dieOf s 0).resuming = false ∧ dieFailed s 0 = false ∧ (dieOf s 0).resetLun = false ∧
      chooseDesc s 0 (dieOf s 0) = some (d, who) ∧ s.gr.bo2 = false ∧ d.op = 0x10 ∧
      passInOrder s d (progress s 0 d.block).1 (progress s 0 d.block).2 = false :=
  ⟨flash 0 { q := [({ op := 0x10, queue := 1, block := 16, wl := 5 }, .assembler 0)] }, { op := 0x10, queue := 1, block := 16, wl := 5 }, .assembler 0, by decide +kernel⟩

theorem witness_DiesIssueSuspendAndResume_3 :
    ∃ s : State, s.fl.heldPosts = [] ∧ (dieOf s 0).cur = none ∧ (dieOf s 0).resuming = false ∧ dieFailed s 0 = false ∧ (dieOf s 0).resetLun = true ∧
      (chanOf s 0).st = .holdup ∧ Safety.NoRequests s ∧ tokensHeld s + 1 ≤ poolSize s :=
  ⟨{ up with fl := { chans := [(0, { st := .holdup })], dies := [(0, { resetLun := true })] } }, by unfold Safety.NoRequests; decide +kernel⟩

theorem witness_DiesIssueSuspendAndResume_4 :
    ∃ s : State, s.fl.heldPosts = [] ∧ arbHead s = none :=
  ⟨up, by decide +kernel⟩

theorem witness_DiesIssueSuspendAndResume_5 :
    ∃ (s : State) (r : TokReq) (o : Op), s.fl.heldPosts = [] ∧ s.fl.rdReq = [r] ∧ s.fl.peReq = [] ∧ s.fl.dumpReq = [] ∧ s.fl.poolDump = false ∧ s.gr.bo2 = false ∧
      tokensHeld s + r.cost ≤ poolSize s ∧ (dieOf s r.die).cur = some o ∧ (dieOf s r.die).resuming = false ∧ o.d.op ≤ 3 :=
  ⟨{ flash 0 {} with fl := { rdReq := [{ cost := 1 }], dies := [(0, { cur := some { d := { op := 1 }, phase := .waitTokens } })] } }, { cost := 1 }, { d := { op := 1 }, phase := .waitTokens }, by decide +kernel⟩

theorem witness_DiesIssueSuspendAndResume_6 :
    ∃ (s : State), s.fl.poolDump = false ∧ ∃ r, r ∈ s.fl.rdReq ++ s.fl.peReq ++ s.fl.dumpReq ∧ r.die = 64 * 0 + 0 ∧ r.warned = false :=
  ⟨{ up with fl := { rdReq := [{}] } }, by decide +kernel, {}, by decide +kernel⟩

theorem witness_DiesIssueSuspendAndResume_7 :
    ∃ (s : State) (o : Op), (dieOf s 0).cur = some o ∧ (headOf (dieOf s 0) 0).isSome = true ∧ Safety.Suspendable s 0 0 o = true ∧ o.suspends < o.d.suspMax :=
  ⟨{ flash 0 { cur := some { d := { op := 0x10, suspMax := 1 }, phase := .running }, q := [({ op := 1 }, .firmware)] } with ck := { tb := 1000000000 } }, { d := { op := 0x10, suspMax := 1 }, phase := .running }, by unfold Safety.Suspendable; decide +kernel⟩

theorem witness_DiesIssueSuspendAndResume_8 :
    ∃ (s : State) (o : Op), (dieOf s 0).cur = some o ∧ (headOf (dieOf s 0) 0).isSome = true ∧ Safety.Suspendable s 0 0 o = true ∧ o.d.suspMax ≤ o.suspends :=
  ⟨{ flash 0 { cur := some { d := { op := 0x10, suspMax := 0 }, phase := .running }, q := [({ op := 1 }, .firmware)] } with ck := { tb := 1000000000 } }, { d := { op := 0x10, suspMax := 0 }, phase := .running }, by unfold Safety.Suspendable; decide +kernel⟩

theorem witness_DiesIssueSuspendAndResume_9 :
    ∃ (s : State) (o : Op), s.fl.heldPosts = [] ∧ (dieOf s 0).cur = some o ∧ o.phase = .suspending ∧ (dieOf s 0).resuming = false ∧ s.gr.holdup = false :=
  ⟨flash 0 { cur := some { d := { op := 0x10 }, phase := .suspending } }, { d := { op := 0x10 }, phase := .suspending }, by decide +kernel⟩

theorem witness_DiesIssueSuspendAndResume_10 :
    ∃ (s : State) (o : Op), s.fl.heldPosts = [] ∧ (dieOf s 0).cur = some o ∧ o.phase = .suspending ∧ (dieOf s 0).resuming = false ∧ s.gr.holdup = true :=
  ⟨{ flash 0 { cur := some { d := { op := 0x10 }, phase := .suspending } } with gr := { holdup := true } }, { d := { op := 0x10 }, phase := .suspending }, by decide +kernel⟩

theorem witness_DiesIssueSuspendAndResume_11 :
    ∃ (s : State) (o : Op), s.fl.heldPosts = [] ∧ (dieOf s 0).cur = none ∧ (dieOf s 0).susp = some o ∧ (dieOf s 0).resuming = false ∧ (chanOf s 0).st = .running ∧
      s.fl.poolDump = false ∧ Safety.NoRequests s ∧ headOf (dieOf s 0) 0 = none ∧ tokensHeld s + tokenCost s o.d ≤ poolSize s :=
  ⟨flash 0 { susp := some { d := { op := 0x10, suspMax := 1 }, phase := .running } }, { d := { op := 0x10, suspMax := 1 }, phase := .running }, by unfold Safety.NoRequests; decide +kernel⟩

theorem witness_DieOperationsEnd_1 :
    ∀ op, op ∈ [(1 : Nat), 2, 3, 0x10, 0x20, 0x30, 0x48] → ∃ (s : State) (o : Op), Safety.OpRuns s 0 0 op o ∧ (chanOf s 0).st ≠ .init ∧ s.fl.heldPosts = [] :=
  fun op hop => ⟨flash 0 { cur := some { d := { op := op }, phase := .running } }, { d := { op := op }, phase := .running }, by revert hop; revert op; unfold Safety.OpRuns; decide +kernel⟩

theorem witness_DieOperationsEnd_2 :
    ∃ (s : State) (o : Op) (j : ReadJob), Safety.OpRuns s 0 0 3 o ∧ jobOf s o.d.tag = some j ∧ j.step = 3 ∧ dieFailed s 0 = false ∧ dieTakes s 0 0 = true :=
  ⟨{ flash 0 { cur := some { d := { op := 3 }, phase := .running } } with fl := { (flash 0 { cur := some { d := { op := 3 }, phase := .running } }).fl with jobs := [(0, { step := 3 })] } }, { d := { op := 3 }, phase := .running }, { step := 3 }, by unfold Safety.OpRuns; decide +kernel⟩

theorem witness_DieOperationsEnd_3 :
    ∃ (s : State) (o : Op) (b pos k : Nat), Safety.OpRuns s 0 0 0x10 o ∧ bandOfBlk s 0 o.d.block = some (b, pos) ∧ bandZone s b = some k ∧ s.fl.heldPosts = [] ∧
      (∀ p, p ∈ s.ce.ctxs → p.2.waitTicket = false) :=
  ⟨bound {} (flash 0 { cur := some { d := { op := 0x10, block := 16 }, phase := .running } }), { d := { op := 0x10, block := 16 }, phase := .running }, 0, 0, 1048576, by unfold Safety.OpRuns; decide +kernel⟩

theorem witness_DieOperationsEnd_4 :
    ∃ (s : State) (o : Op), Safety.OpRuns s 0 0 0x20 o ∧ s.fl.heldPosts = [] ∧ s.ze.bandWait = [] ∧ (∀ p, p ∈ s.ze.rows → p.2.migrating = false) ∧ s.pb.owners = [] ∧
      (blkOf s 0 o.d.block).st = 1 :=
  ⟨withBlk 16 { st := 1 } (flash 0 { cur := some { d := { op := 0x20, block := 16 }, phase := .running } }), { d := { op := 0x20, block := 16 }, phase := .running }, by unfold Safety.OpRuns; decide +kernel⟩

theorem witness_DieOperationsEnd_5 :
    ∃ (s : State) (o : Op) (d : Dump), Safety.OpRuns s 0 0 0x30 o ∧ tfind s.gr.halves s.gr.armed = some d ∧ s.fl.heldPosts = [] :=
  ⟨{ flash 0 { cur := some { d := { op := 0x30 }, phase := .running } } with gr := { halves := [(0, {})] } }, { d := { op := 0x30 }, phase := .running }, {}, by unfold Safety.OpRuns; decide +kernel⟩

theorem witness_DieOperationsEnd_6 :
    ∃ s : State, (chanOf s 0).st = .init ∧ s.fl.heldPosts = [] :=
  ⟨{ up with fl := { chans := [(0, { st := .init })] } }, by decide +kernel⟩

theorem witness_DieOperationsEnd_7 :
    ∃ s : State, (chanOf s 63).st = .running ∧ dieUsable s (64 * 63 + 63) = true ∧ (dieOf s (64 * 63 + 63)).reading = none ∧ Safety.TakesPost s 63 (tempDesc 63) .sequencer :=
  ⟨{ up with fl := { chans := [(63, { st := .running, usable := 2 ^ 63 })] } }, by unfold Safety.TakesPost Safety.MayPost; decide +kernel⟩

theorem witness_DieOperationsEnd_8 :
    ∃ (s : State) (o : Op), Safety.OpRuns s 0 0 o.d.op o ∧ 3 ≤ (dieOf s 0).tmoRow + 1 ∧ s.fl.heldPosts = [] :=
  ⟨flash 0 { cur := some { d := { op := 1 }, phase := .running }, tmoRow := 2 }, { d := { op := 1 }, phase := .running }, by unfold Safety.OpRuns; decide +kernel⟩

theorem witness_ChannelsStartAndFindTheirDies_1 :
    ∃ s : State, domState s 9 ≠ 0 ∧ (chanOf s 63).st = .off :=
  ⟨up, by decide +kernel⟩

theorem witness_ChannelsStartAndFindTheirDies_2 :
    ∃ s : State, Safety.Reaches s (.core 0) .flCh 63 ∧ rdb s (R.scCtl 63) 0 = true :=
  ⟨reg (R.scCtl 63) 1 up, by unfold Safety.Reaches; decide +kernel⟩

theorem witness_ChannelsStartAndFindTheirDies_3 :
    ∃ s : State, Safety.Reaches s (.core 0) .flCh 63 ∧ rdb s (R.scCtl 63) 0 = false ∧ rdf s (R.scUcAddr 63) 16 2 = 24575 :=
  ⟨reg (R.scUcAddr 63) (4 * 24575) up, by unfold Safety.Reaches; decide +kernel⟩

theorem witness_ChannelsStartAndFindTheirDies_4 :
    ∃ s : State, Safety.Reaches s (.core 0) .flCh 0 ∧ (chanOf s 0).st = .halted ∧ (chanOf s 0).uc ≠ [] :=
  ⟨{ up with fl := { chans := [(0, { st := .halted, uc := [(0, 0)] })] } }, by unfold Safety.Reaches; decide +kernel⟩

theorem witness_ChannelsStartAndFindTheirDies_5 :
    ∃ s : State, (chanOf s 0).st = .init :=
  ⟨{ up with fl := { chans := [(0, { st := .init })] } }, by decide +kernel⟩

theorem witness_ChannelsStartAndFindTheirDies_6 :
    ∃ (s : State) (b : Nat), (chanOf s 0).st = .init ∧ 63 ∉ s.fl.known ∧ b ∈ badMarks s 63 :=
  ⟨{ up with fl := { chans := [(0, { st := .init })] }, board := { factoryBad := [4096 * 63 + 1639] } }, 1639, by decide +kernel⟩

theorem witness_ReadsAreDecodedRecoveredAndDetoured_1 :
    ∃ (s : State) (tag c z l : Nat) (j : ReadJob) (x : Ctx) (st : Stamp), jobOf s tag = some j ∧ s.fl.heldPosts = [] ∧ j.who = .hostRead c z l ∧
      jobStale s j = false ∧ ctxOf s c = some x ∧ j.ready = true ∧ j.desc.op = 1 ∧ stampOk s j st = true :=
  ⟨bound {} (withJobs { who := .hostRead 0 0 0, ready := true, zone := 1048576, desc := { op := 1 } } (one {})), 5, 0, 0, 0, { who := .hostRead 0 0 0, ready := true, zone := 1048576, desc := { op := 1 } }, {}, {}, by decide +kernel⟩

theorem witness_ReadsAreDecodedRecoveredAndDetoured_2 :
    ∃ (s : State) (tag c z l : Nat) (j : ReadJob) (x : Ctx) (st : Stamp), jobOf s tag = some j ∧ s.fl.heldPosts = [] ∧ j.who = .hostRead c z l ∧
      jobStale s j = false ∧ ctxOf s c = some x ∧ j.ready = true ∧ j.desc.op = 2 ∧ stampOk s j st = true :=
  ⟨bound {} (withJobs { who := .hostRead 0 0 0, ready := true, zone := 1048576, desc := { op := 2 } } (one {})), 5, 0, 0, 0, { who := .hostRead 0 0 0, ready := true, zone := 1048576, desc := { op := 2 } }, {}, {}, by decide +kernel⟩

theorem witness_ReadsAreDecodedRecoveredAndDetoured_3 :
    ∃ (s : State) (tag : Nat) (j : ReadJob) (st : Stamp), jobOf s tag = some j ∧ s.fl.heldPosts = [] ∧ issuerCtx j.who ≠ none ∧ j.ready = true ∧ j.desc.op = 1 ∧
      stampOk s j st = false :=
  ⟨bound {} (withJobs { who := .hostRead 0 0 0, ready := true, zone := 1048576, desc := { op := 1 } } (one {})), 5, { who := .hostRead 0 0 0, ready := true, zone := 1048576, desc := { op := 1 } }, { index := 1 }, by decide +kernel⟩

theorem witness_ReadsAreDecodedRecoveredAndDetoured_4 :
    ∃ (s : State) (tag : Nat) (j : ReadJob), jobOf s tag = some j ∧ s.fl.heldPosts = [] ∧ issuerCtx j.who ≠ none ∧ j.ready = true ∧ j.desc.op = 1 ∧
      dieFailed s (64 * j.ch + j.die) = false ∧ dieTakes s j.ch j.die = true :=
  ⟨bound {} (withJobs { who := .hostRead 0 0 0, ready := true, zone := 1048576, desc := { op := 1 } } (flash 0 {})), 5, { who := .hostRead 0 0 0, ready := true, zone := 1048576, desc := { op := 1 } }, by decide +kernel⟩

theorem witness_ReadsAreDecodedRecoveredAndDetoured_5 :
    ∃ (s : State) (tag : Nat) (j : ReadJob), jobOf s tag = some j ∧ s.fl.heldPosts = [] ∧ issuerCtx j.who ≠ none ∧ j.ready = true ∧ j.desc.op = 2 ∧ 4 ≤ j.step :=
  ⟨bound {} (withJobs { who := .hostRead 0 0 0, ready := true, zone := 1048576, step := 4, desc := { op := 2 } } (one {})), 5, { who := .hostRead 0 0 0, ready := true, zone := 1048576, step := 4, desc := { op := 2 } }, by decide +kernel⟩

theorem witness_ReadsAreDecodedRecoveredAndDetoured_6 :
    ∃ (s : State) (tag c z l : Nat) (j : ReadJob) (x : Ctx), jobOf s tag = some j ∧ s.fl.heldPosts = [] ∧ j.who = .hostRead c z l ∧ jobStale s j = false ∧
      Safety.IoRuns s c x 0x02 ∧ j.step = 5 ∧ j.detour = false :=
  ⟨bound {} (withJobs { who := .hostRead 0 0 0, ready := true, zone := 1048576, step := 5 } (one (io { opc := 2, nsid := 1 }))), 5, 0, 0, 0, { who := .hostRead 0 0 0, ready := true, zone := 1048576, step := 5 }, io { opc := 2, nsid := 1 }, by unfold Safety.IoRuns Safety.Runnable; decide +kernel⟩

theorem witness_ReadsAreDecodedRecoveredAndDetoured_7 :
    ∃ (s : State) (tag c z l : Nat) (j : ReadJob) (x : Ctx), jobOf s tag = some j ∧ s.fl.heldPosts = [] ∧ j.who = .hostRead c z l ∧ jobStale s j = false ∧
      ctxOf s c = some x ∧ j.detour = true ∧ j.parts = [] :=
  ⟨bound {} (withJobs { who := .hostRead 0 0 0, ready := true, zone := 1048576, detour := true } (one {})), 5, 0, 0, 0, { who := .hostRead 0 0 0, ready := true, zone := 1048576, detour := true }, {}, by decide +kernel⟩

theorem witness_ReadsAreDecodedRecoveredAndDetoured_8 :
    ∃ (s : State) (tag c z l : Nat) (j : ReadJob), jobOf s tag = some j ∧ j.who = .hostRead c z l ∧ j.relGen ≠ (zoneOf s j.zone).relGen ∧
      (zoneOf s j.zone).band = some j.band ∧ (bandOf s j.band).gen = j.bgen ∧ j.detour = true ∧ j.parts = [] :=
  ⟨{ withJobs { who := .hostRead 0 0 0, ready := true, relGen := 1, detour := true } up with ze := { zones := [(0, { band := some 0 })] } }, 5, 0, 0, 0, { who := .hostRead 0 0 0, ready := true, relGen := 1, detour := true }, by decide +kernel⟩

theorem witness_ReadsAreDecodedRecoveredAndDetoured_9 :
    ∃ (s : State) (tag c z l direct e : Nat) (j : ReadJob), tag < 2147483648 ∧ s.fl.heldPosts = [] ∧ jobOf s tag = some j ∧ j.who = .hostRead c z l ∧ j.tested = false ∧
      (unissued (dieOf s (64 * j.ch + j.die))).any (fun d => d.1.tag == tag && d.1.op == 1) = true ∧
      j.deadline ≤ s.ck.tb + readNs s j.dens (cwBits j.desc).length ∧ rdb s R.dsCtl 0 = true ∧ j.detour = false ∧ j.step = 1 ∧
      j.ready = false ∧ j.desc.op = 1 ∧ j.deadline ≠ j.posted ∧ dieFailed s (64 * j.ch + j.die) = false ∧
      (∀ k, k ∈ otherDies s j.band (64 * j.ch + j.die) → dieFailed s k = false ∧ hasEntry (dieOf s k) 0 = true ∧ (chanOf s (k / 64)).st ≠ .holdup) ∧
      assemblerOut s = false ∧ estimate s (64 * j.ch + j.die) j.dens (cwBits j.desc).length (some tag) = some direct ∧ j.deadline < direct ∧
      detourEstimate s (otherDies s j.band (64 * j.ch + j.die)) j.dens (cwBits j.desc).length = some e ∧ e + 1000 * rdf s R.dsCtl 15 8 ≤ direct ∧
      tokensHeld s + (otherDies s j.band (64 * j.ch + j.die)).length * rdf s (R.ftCost j.dens) 7 0 ≤ poolSize s ∧
      1000 ≤ domLevel s ((bandDom s j.band).getD 0) :=
  ⟨late, 5, 0, 0, 0, (estimate late 0 0 1 (some 5)).getD 0, (detourEstimate late (otherDies late 0 0) 0 1).getD 0, lateJob, by decide +kernel⟩

theorem witness_ReadsAreDecodedRecoveredAndDetoured_10 :
    ∃ (s : State) (b v : Nat) (r : List (Nat × Nat)), Safety.Reaches s (.core 0) .readIntegrity 0 ∧ s.fl.ewq = (b, v) :: r :=
  ⟨{ up with fl := { ewq := [(1, 2)] } }, 1, 2, [], by unfold Safety.Reaches; decide +kernel⟩

theorem witness_ZonesMovePatrolAndAge_1 :
    ∃ (s : State) (nsid zone target duty key : Nat) (z : Zone), zone < 1048576 ∧ key = zKey nsid zone ∧ z = zoneOf s key ∧ z.st = .full ∧
      z.band.isSome = true ∧ z.move = none ∧ z.queue = [] ∧ bandReady s target = true ∧ bandHolds s z target = true ∧
      bandDom s target = z.shape.map (fun h => h.domain) ∧ (slotOf s (shapeOf s nsid z).keySlot).loaded = true ∧
      liveUnits z ≤ counterLeft (slotOf s (shapeOf s nsid z).keySlot) ∧ termiteMoves s < s.board.moves ∧ dutyMoves s z target duty = true ∧ s.gr.holdup = false :=
  ⟨bound { st := .full, shape := some {}, band := some 0, refresh := true } (withSlots [(0, { loaded := true, ceil := 10 })] up), 1, 0, 1, 1, 1048576, { st := .full, shape := some {}, band := some 0, refresh := true }, by decide +kernel⟩

theorem witness_ZonesMovePatrolAndAge_2 :
    ∃ (s : State) (nsid zone key b : Nat) (z : Zone) (m : Move), key = zKey nsid zone ∧ z = zoneOf s key ∧ z.move = some m ∧ z.band = some b ∧ b ≠ m.target ∧ m.gen = z.relGen ∧ (slotOf s (shapeOf s (zNsid key) z).keySlot).loaded = true ∧ (slotOf s (shapeOf s (zNsid key) z).keySlot).shadow = none ∧ m.ctr + liveUnits z ≤ (slotOf s (shapeOf s (zNsid key) z).keySlot).ceil ∧ s.fl.heldPosts = [] ∧ (∀ p, p ∈ (moveUnits z).mapIdx (fun i u => (i, u)) → opens ((fun i => if i = 0 then (firstKey s m (shapeOf s (zNsid key) z).keySlot).getD (0, 0) else ((slotOf s (shapeOf s (zNsid key) z).keySlot).key, (slotOf s (shapeOf s (zNsid key) z).keySlot).salt)) p.1) (placeAad s key p.2.1) p.2.2.1 = true) ∧ m.duty ≠ 0 ∧ m.due ≤ s.ck.tb ∧ (∀ p, p ∈ s.ce.ctxs → p.2.waitTicket = false) :=
  ⟨{ bound (moving 1 []) (withSlots [(0, { loaded := true, ceil := 10 })] up) with pending := [] }, 1, 0, 1048576, 0, moving 1 [], { target := 1, duty := 1 }, by decide +kernel⟩

theorem witness_ZonesMovePatrolAndAge_3 :
    ∃ (s : State) (nsid zone key b : Nat) (z : Zone) (m : Move), key = zKey nsid zone ∧ z = zoneOf s key ∧ z.move = some m ∧ z.band = some b ∧ b ≠ m.target ∧ m.gen = z.relGen ∧ (slotOf s (shapeOf s (zNsid key) z).keySlot).loaded = true ∧ (slotOf s (shapeOf s (zNsid key) z).keySlot).shadow = none ∧ m.ctr + liveUnits z ≤ (slotOf s (shapeOf s (zNsid key) z).keySlot).ceil ∧ s.fl.heldPosts = [] ∧ (∀ p, p ∈ (moveUnits z).mapIdx (fun i u => (i, u)) → opens ((fun i => if i = 0 then (firstKey s m (shapeOf s (zNsid key) z).keySlot).getD (0, 0) else ((slotOf s (shapeOf s (zNsid key) z).keySlot).key, (slotOf s (shapeOf s (zNsid key) z).keySlot).salt)) p.1) (placeAad s key p.2.1) p.2.2.1 = true) ∧ m.duty = 0 ∧ (∀ p, p ∈ s.ce.ctxs → p.2.waitTicket = false) :=
  ⟨{ bound (moving 0 []) (withSlots [(0, { loaded := true, ceil := 10 })] up) with pending := [] }, 1, 0, 1048576, 0, moving 0 [], { target := 1, duty := 0 }, by decide +kernel⟩

theorem witness_ZonesMovePatrolAndAge_4 :
    ∃ (s : State) (nsid zone key b : Nat) (z : Zone) (m : Move), key = zKey nsid zone ∧ z = zoneOf s key ∧ z.move = some m ∧ z.band = some b ∧ b ≠ m.target ∧ m.gen = z.relGen ∧ (slotOf s (shapeOf s (zNsid key) z).keySlot).loaded = true ∧ (slotOf s (shapeOf s (zNsid key) z).keySlot).shadow = none ∧ m.ctr + liveUnits z ≤ (slotOf s (shapeOf s (zNsid key) z).keySlot).ceil ∧ s.fl.heldPosts = [] ∧ m.duty ≠ 0 ∧ m.due ≤ s.ck.tb ∧ ¬ (∀ p, p ∈ (moveUnits z).mapIdx (fun i u => (i, u)) → opens ((fun i => if i = 0 then (firstKey s m (shapeOf s (zNsid key) z).keySlot).getD (0, 0) else ((slotOf s (shapeOf s (zNsid key) z).keySlot).key, (slotOf s (shapeOf s (zNsid key) z).keySlot).salt)) p.1) (placeAad s key p.2.1) p.2.2.1 = true) :=
  ⟨{ bound (moving 1 [(0, { sealed := { key := 5 } })]) (withSlots [(0, { loaded := true, ceil := 10 })] up) with pending := [] }, 1, 0, 1048576, 0, moving 1 [(0, { sealed := { key := 5 } })], { target := 1, duty := 1 }, by decide +kernel⟩

theorem witness_ZonesMovePatrolAndAge_5 :
    ∃ (s : State) (nsid zone : Nat) (m : Move), (zoneOf s (zKey nsid zone)).move = some m ∧ s.ck.tb < m.due :=
  ⟨{ bound { st := .full, move := some { target := 1, duty := 1, due := 5 } } up with pending := [] }, 1, 0, { target := 1, duty := 1, due := 5 }, by decide +kernel⟩

theorem witness_ZonesMovePatrolAndAge_6 :
    ∃ (s : State) (b : Nat) (ms : List Nat), patrolReads s b ≠ [] ∧ ms.length = (patrolReads s b).length ∧ patrolDue s b = true ∧
      (∃ v, v ∈ ms ∧ v < ewOf s ((bandOf s b).dens.getD 0)) ∧ s.fl.ewq.length < 1024 :=
  ⟨{ up with ze := { bands := [(0, { prog := [(0, (1, 1))] })], rows := [(0, { domain := some 0, use := some 0 })] } }, 0, List.replicate (patrolReads { up with ze := { bands := [(0, { prog := [(0, (1, 1))] })], rows := [(0, { domain := some 0, use := some 0 })] } } 0).length 0, by decide +kernel, by decide +kernel, by decide +kernel, ⟨0, by decide +kernel⟩, by decide +kernel⟩

theorem witness_ZonesMovePatrolAndAge_7 :
    ∃ (s : State) (nsid zone key b : Nat), key = zKey nsid zone ∧ (zoneOf s key).st = .full ∧ (zoneOf s key).band = some b ∧
      ageDays s (shapeOf s nsid (zoneOf s key)).life (shapeOf s nsid (zoneOf s key)).density ≠ 0 ∧
      ageDays s (shapeOf s nsid (zoneOf s key)).life (shapeOf s nsid (zoneOf s key)).density * 86400000000000 ≤ poweredAge s b :=
  ⟨{ bound { st := .full, shape := some { life := 2 } } up with fl := { lifeStart := 10000000000000000000 } }, 1, 0, 1048576, 0, by decide +kernel⟩

theorem witness_LinksTrainGoUpAndFail_1 :
    ∃ (s : State) (v : Word), Safety.Reaches s (.core 0) .balwen 3 ∧ (linkOf s 3).st = .off ∧ bit v.toNat 0 = true :=
  ⟨up, 1#32, by unfold Safety.Reaches; decide +kernel⟩

theorem witness_LinksTrainGoUpAndFail_2 :
    ∃ (s : State) (v : Word), Safety.Reaches s (.core 0) .balwen 0 ∧ (linkOf s 0).st ≠ .off ∧ bit v.toNat 0 = false ∧ s.gr.mirEn = false :=
  ⟨{ up with pb := { links := [(0, { st := .training })] } }, 0#32, by unfold Safety.Reaches; decide +kernel⟩

theorem witness_LinksTrainGoUpAndFail_3 :
    ∃ (s : State), Safety.Reaches s (.core 0) .balwen 0 ∧ linkUp s 0 = true ∧ rdb s (R.plCtl 0) 0 = true :=
  ⟨reg (R.plCtl 0) 1 ({ up with pb := { links := [(0, { st := .up })] } }), by unfold Safety.Reaches; decide +kernel⟩

theorem witness_LinksTrainGoUpAndFail_4 :
    ∃ (s : State) (rate lanes : Nat), (linkOf s 0).st = .training ∧ (linkOf s 0).retryWait = false ∧ linkGoes s 0 rate lanes = true ∧ linkEth s 0 = false :=
  ⟨{ up with pb := { links := [(0, { st := .training })] } }, 2, 15, by decide +kernel⟩

theorem witness_LinksTrainGoUpAndFail_5 :
    ∃ (s : State) (rate lanes : Nat), (linkOf s 3).st = .training ∧ (linkOf s 3).retryWait = false ∧ linkGoes s 3 rate lanes = true ∧ linkEth s 3 = true :=
  ⟨reg (R.plCtl 3) 2 ({ up with pb := { links := [(3, { st := .training })] } }), 1, 15, by decide +kernel⟩

theorem witness_LinksTrainGoUpAndFail_6 :
    ∃ s : State, (linkOf s 0).st = .training ∧ (linkOf s 0).retryWait = true ∧ s.gr.mirEn = false ∧ sessionsOf s 0 ≠ [] :=
  ⟨{ up with pb := { links := [(0, { st := .training, retryWait := true })], sessions := [(0, {})] } }, by decide +kernel⟩

theorem witness_LinksTrainGoUpAndFail_7 :
    ∃ s : State, linkUp s 0 = true :=
  ⟨{ up with pb := { links := [(0, { st := .up })] } }, by decide +kernel⟩

theorem witness_LinksTrainGoUpAndFail_8 :
    ∃ (s : State) (node : Nat) (x : Session), sessOf s (sessKey 0 (sessNode s 0 node)) = some x ∧ x.replay ≠ [] ∧ linkUp s 0 = true ∧ x.replays = 7 :=
  ⟨{ up with pb := { links := [(0, { st := .up })], sessions := [(0, { replay := [{}], replays := 7 })] } }, 9, { replay := [{}], replays := 7 }, by decide +kernel⟩

theorem witness_LinksTrainGoUpAndFail_9 :
    ∃ (s : State) (node : Nat) (x : Session), sessOf s (sessKey 0 (sessNode s 0 node)) = some x ∧ x.replay ≠ [] ∧ linkUp s 0 = true ∧ x.replays = 8 ∧
      linkEth s 0 = false :=
  ⟨{ up with pb := { links := [(0, { st := .up })], sessions := [(0, { replay := [{}], replays := 8 })] } }, 9, { replay := [{}], replays := 8 }, by decide +kernel⟩

theorem witness_LinksTrainGoUpAndFail_10 :
    ∃ (s : State) (node : Nat) (x : Session), sessOf s (sessKey 0 (sessNode s 0 node)) = some x ∧ x.replay ≠ [] ∧ linkUp s 0 = true ∧ x.replays = 8 ∧
      linkEth s 0 = true ∧ node < 262144 ∧ s.gr.mirEn = false :=
  ⟨{ (reg (R.plCtl 0) 2 up) with pb := { links := [(0, { st := .up })], sessions := [(5, { replay := [{}], replays := 8 })] } }, 5, { replay := [{}], replays := 8 }, by decide +kernel⟩

theorem witness_LinksTrainGoUpAndFail_11 :
    ∃ (s : State) (node : Nat), linkEth s 0 = true ∧ (s.gr.mirEn && s.gr.mirPartner == node) = false ∧ tfind s.pb.owners node = none ∧
      (idleSess s 0).any (fun p => p.1 == sessKey 0 node && elapsed s p.2.lastUse 10000000000) = true :=
  ⟨{ ({ reg (R.plCtl 0) 2 up with ck := { tb := 10000000000 } }) with pb := { links := [(0, { st := .up })], sessions := [(5, {})] } }, 5, by decide +kernel⟩

theorem witness_FramesAreAcceptedInSequence_1 :
    ∃ (s : State) (f : BFrame) (x : Session), Safety.Expected s 0 tTimeSync f x ∧ linkTo s f.src = some 0 :=
  ⟨linked 0 {} up, fr, {}, by unfold Safety.Expected Safety.ForUs; decide +kernel⟩

theorem witness_FramesAreAcceptedInSequence_2 :
    ∃ (s : State) (f : BFrame) (x : Session), Safety.ForUs s 0 tTimeSync f ∧ f.unseq = false ∧ sessOf s (sessKey 0 0) = some x ∧ f.seq ≠ x.rxSeq :=
  ⟨linked 0 {} up, { fr with seq := 5 }, {}, by unfold Safety.ForUs; decide +kernel⟩

theorem witness_FramesAreAcceptedInSequence_3 :
    ∃ (s : State) (f : BFrame) (x : Session), linkUp s 0 = true ∧ linkEth s 0 = false ∧ f.hcrcOk = true ∧ f.ver = 1 ∧ f.src ≠ ownNode s ∧ f.unseq = false ∧
      sessOf s (sessKey 0 0) = some x ∧ f.len ≠ 0 ∧ f.pcrcOk = false :=
  ⟨linked 0 {} up, { fr with len := 4, pcrcOk := false }, {}, by decide +kernel⟩

theorem witness_FramesAreAcceptedInSequence_4 :
    ∃ (s : State), linkUp s 3 = true ∧ linkEth s 3 = false :=
  ⟨{ up with pb := { links := [(3, { st := .up })] } }, by decide +kernel⟩

theorem witness_FramesAreAcceptedInSequence_5 :
    ∃ (s : State) (f : BFrame) (x : Session), Safety.ForUs s 0 tAck f ∧ sessOf s (sessKey 0 0) = some x ∧ x.queue = [] ∧ f.credit ≠ 0 :=
  ⟨linked 0 {} up, { fr with credit := 1 }, {}, by unfold Safety.ForUs; decide +kernel⟩

theorem witness_FramesAreAcceptedInSequence_6 :
    ∃ (s : State) (f : BFrame) (x : Session), Safety.ForUs s 0 tNak f ∧ sessOf s (sessKey 0 0) = some x ∧ x.queue = [] ∧ x.replays = 7 ∧
      x.replay.filter (fun g => !seqBefore g.seq f.ack) ≠ [] :=
  ⟨linked 0 { replay := [{}], replays := 7 } up, fr, { replay := [{}], replays := 7 }, by unfold Safety.ForUs; decide +kernel⟩

theorem witness_FramesAreAcceptedInSequence_7 :
    ∃ (s : State) (f : BFrame) (x : Session), Safety.Expected s 3 tDiscover f x :=
  ⟨linked 3 {} up, fr, {}, by unfold Safety.Expected Safety.ForUs; decide +kernel⟩

theorem witness_FramesAreAcceptedInSequence_8 :
    ∃ (s : State) (f : BFrame), linkUp s 0 = true ∧ linkEth s 0 = false ∧ f.hcrcOk = true ∧ f.ver = 1 ∧ f.src = ownNode s :=
  ⟨linked 0 {} up, {}, by decide +kernel⟩

theorem witness_FramesAreAcceptedInSequence_9 :
    ∃ (s : State) (f : BFrame) (x : Session), Safety.Expected s 0 tTimeReply f x ∧ rdb s R.pbTime 31 = true ∧ f.src = rdf s R.pbTime 17 0 :=
  ⟨reg R.pbTime (2 ^ 31 + 9) (linked 0 {} up), fr, {}, by unfold Safety.Expected Safety.ForUs; decide +kernel⟩

theorem witness_FramesAreAcceptedInSequence_10 :
    ∃ (s : State), rdb s R.pbTime 31 = true ∧ s.pb.syncOut = true ∧ s.pb.syncFails = 9 :=
  ⟨reg R.pbTime (2 ^ 31 + 9) { up with pb := { syncOut := true, syncFails := 9 } }, by decide +kernel⟩

theorem witness_FramesAreAcceptedInSequence_11 :
    ∃ (s : State) (f : BFrame) (o : Owner), Safety.ForUs s 0 0x30 f ∧ tfind s.pb.owners f.src = some o ∧ o.state = 0 :=
  ⟨own {} (linked 0 {} up), fr, {}, by unfold Safety.ForUs; decide +kernel⟩

theorem witness_FramesAreAcceptedInSequence_12 :
    ∃ (s : State) (f : BFrame), Safety.ForUs s 0 0x30 f ∧ s.gr.mirEn = true ∧ s.gr.mirLost = false ∧ s.gr.mirPartner = f.src :=
  ⟨mirror (linked 0 {} up), fr, by unfold Safety.ForUs; decide +kernel⟩

theorem witness_MirrorAndCopyMessagesAct_1 :
    ∃ (s : State) (f : BFrame) (page : MirrorPage) (x : Session), Safety.Expected s 0 tMirrorData f x ∧ copyRoom s page.bytes = true ∧ linkTo s f.src = some 0 :=
  ⟨mirror (linked 0 {} up), fr, {}, {}, by unfold Safety.Expected Safety.ForUs; decide +kernel⟩

theorem witness_MirrorAndCopyMessagesAct_2 :
    ∃ (s : State) (f : BFrame) (page : MirrorPage) (x : Session), Safety.Expected s 0 tMirrorState f x ∧ copyRoom s page.bytes = true :=
  ⟨mirror (linked 0 {} up), fr, {}, {}, by unfold Safety.Expected Safety.ForUs; decide +kernel⟩

theorem witness_MirrorAndCopyMessagesAct_3 :
    ∃ (s : State) (f : BFrame) (x : Session) (w : Ctx), Safety.Expected s 0 tMirrorAck f x ∧ s.gr.mirEn = true ∧ f.src = s.gr.mirPartner ∧
      s.gr.mirOut = [(7, 0)] ∧ ctxOf s 0 = some w ∧ w.st = .committed ∧ w.nlb ≠ 0 ∧ w.applied = w.nlb ∧ w.fua = false ∧ writeThrough s = false ∧
      w.tunnel = false ∧ ctxFresh s w = true :=
  ⟨{ linked 0 {} (one { st := .committed, nlb := 1, applied := 1 }) with gr := { mirEn := true, mirPartner := 9, health := .good, mirOut := [(7, 0)] } }, fr, {}, { st := .committed, nlb := 1, applied := 1 }, by unfold Safety.Expected Safety.ForUs; decide +kernel⟩

theorem witness_MirrorAndCopyMessagesAct_4 :
    ∃ (s : State) (f : BFrame) (x : Session) (o : Owner), Safety.Expected s 0 tMirrorRelease f x ∧ tfind s.pb.owners f.src = some o ∧ s.gr.unplaced = false ∧ (∀ p, p ∈ s.pb.owners → p.2.state = 0 ∧ p.2.jobBands = []) :=
  ⟨own {} (linked 0 {} up), fr, {}, {}, by unfold Safety.Expected Safety.ForUs; decide +kernel⟩

theorem witness_MirrorAndCopyMessagesAct_5 :
    ∃ (s : State) (f : BFrame) (x : Session) (o : Owner), Safety.Expected s 0 tOrphanPull f x ∧ tfind s.pb.owners f.src = some o :=
  ⟨own {} (linked 0 {} up), fr, {}, {}, by unfold Safety.Expected Safety.ForUs; decide +kernel⟩

theorem witness_MirrorAndCopyMessagesAct_6 :
    ∃ (s : State) (f : BFrame) (x : Session), Safety.Expected s 0 tOrphanData f x ∧ starting s = true ∧ s.gr.pullSent = true ∧ s.gr.recovered = false ∧
      s.gr.pullDone = false ∧ f.src = s.gr.mirPartner :=
  ⟨{ linked 0 {} up with pw := { mode := 3 }, gr := { pullSent := true, mirPartner := 9 } }, fr, {}, by unfold Safety.Expected Safety.ForUs; decide +kernel⟩

theorem witness_MirrorAndCopyMessagesAct_7 :
    ∃ (s : State) (f : BFrame) (x : Session), Safety.Expected s 0 tCopyReq f x ∧ linkTo s f.src = some 0 ∧ sourceLets s 1 f.src = false :=
  ⟨linked 0 {} up, fr, {}, by unfold Safety.Expected Safety.ForUs; decide +kernel⟩

theorem witness_MirrorAndCopyMessagesAct_8 :
    ∃ (s : State) (f : BFrame) (x : Session), Safety.Expected s 0 tCopyReq f x ∧ linkTo s f.src = some 0 ∧ sourceLets s 1 f.src = true ∧
      ((nsOf s 1).map (fun w => w.zones * zoneLbas)).getD 0 < 4194304 + 1 :=
  ⟨{ linked 0 {} (eng [] [] [(0, { live with share := { peers := [(9, 1)] } })]) with ze := { nss := [(1, { zones := 4, attached := some 0 })], zones := [(1048576, {})] }, ci := { slots := [(0, { loaded := true })] } }, fr, {}, by unfold Safety.Expected Safety.ForUs; decide +kernel⟩

theorem witness_MirrorAndCopyMessagesAct_9 :
    ∃ (s : State) (f : BFrame) (x : Session) (l : Nat), Safety.Expected s 0 tCopyReq f x ∧ linkTo s f.src = some 0 ∧ sourceLets s 1 f.src = true ∧
      0 + 1 ≤ ((nsOf s 1).map (fun w => w.zones * zoneLbas)).getD 0 ∧ s.pb.chunks = [] ∧ (chunkLive s).length < 64 ∧ ctxOf s chunkCtx = none ∧ indexLost s 1 [l] = false ∧ l = 0 ∧ (zoneOf s (lbaKey 1 l)).st ≠ .offline ∧ touched s 1 [l] ≠ [] ∧
      (∀ k, k ∈ touched s 1 [l] → (captureGen s (shapeOf s 1 (zoneOf s k)).keySlot).isSome = true) ∧ (∀ g, (srcRef s (lbaKey 1 l) (lbaOff l) g).isSome = true) :=
  ⟨{ linked 0 {} (eng [] [] [(0, { live with share := { peers := [(9, 1)] } })]) with ze := { nss := [(1, { zones := 4, attached := some 0 })], zones := [(1048576, { st := .full, wp := 1, units := [(0, {})] })] }, ci := { slots := [(0, { loaded := true })] } }, fr, {}, 0, by unfold Safety.Expected Safety.ForUs; decide +kernel, by decide +kernel, by decide +kernel, by decide +kernel, by decide +kernel, by decide +kernel, by decide +kernel, by decide +kernel, rfl, by decide +kernel, by decide +kernel, by decide +kernel, fun g => rfl⟩

theorem witness_MirrorAndCopyMessagesAct_10 :
    ∃ (s : State) (f : BFrame) (x : Session) (l : Nat), Safety.Expected s 0 tCopyReq f x ∧ linkTo s f.src = some 0 ∧ sourceLets s 1 f.src = true ∧
      0 + 1 ≤ ((nsOf s 1).map (fun w => w.zones * zoneLbas)).getD 0 ∧ s.pb.chunks = [] ∧ (chunkLive s).length < 64 ∧ ctxOf s chunkCtx = none ∧ indexLost s 1 [l] = false ∧ l = 0 ∧ (zoneOf s (lbaKey 1 l)).st = .offline :=
  ⟨{ linked 0 {} (eng [] [] [(0, { live with share := { peers := [(9, 1)] } })]) with ze := { nss := [(1, { zones := 4, attached := some 0 })], zones := [(1048576, { st := .offline })] }, ci := { slots := [(0, { loaded := true })] } }, fr, {}, 0, by unfold Safety.Expected Safety.ForUs; decide +kernel⟩

theorem witness_MirrorAndCopyMessagesAct_11 :
    ∃ (s : State) (f : BFrame) (x : Session) (l : Nat), Safety.Expected s 0 tCopyReq f x ∧ linkTo s f.src = some 0 ∧ sourceLets s 1 f.src = true ∧
      0 + 1 ≤ ((nsOf s 1).map (fun w => w.zones * zoneLbas)).getD 0 ∧ s.pb.chunks = [] ∧ (chunkLive s).length < 64 ∧ ctxOf s chunkCtx = none ∧ indexLost s 1 [l] = false ∧ l = 0 ∧ (zoneOf s (lbaKey 1 l)).st ≠ .offline ∧ touched s 1 [l] = [] :=
  ⟨{ linked 0 {} (eng [] [] [(0, { live with share := { peers := [(9, 1)] } })]) with ze := { nss := [(1, { zones := 4, attached := some 0 })], zones := [(1048576, {})] }, ci := { slots := [(0, { loaded := true })] } }, fr, {}, 0, by unfold Safety.Expected Safety.ForUs; decide +kernel⟩

theorem witness_MirrorAndCopyMessagesAct_12 :
    ∃ (s : State) (c : Nat) (f : BFrame) (x : Ctx) (w : Session), Safety.Expected s 0 tCopyData f w ∧ ctxOf s c = some x ∧ x.e.opc = 0x85 ∧ ioCtx ≤ c ∧
      x.started = true ∧ x.st = .started ∧ x.chunks ≠ 0 ∧ pcNode x.e = f.src ∧ x.got.length < x.asked ∧ ctxFresh s x = true :=
  ⟨linked 0 {} (eng [(4096, { io { opc := 0x85, nsid := 1, cdw13 := 9 } with started := true, chunks := 1, asked := 1 })] [] []), 4096, fr, { io { opc := 0x85, nsid := 1, cdw13 := 9 } with started := true, chunks := 1, asked := 1 }, {}, by unfold Safety.Expected Safety.ForUs; decide +kernel⟩

theorem witness_MirrorAndCopyMessagesAct_13 :
    ∃ (s : State) (c : Nat) (f : BFrame) (x : Ctx) (w : Session), Safety.Expected s 0 tCopyEnd f w ∧ ctxOf s c = some x ∧ x.e.opc = 0x85 ∧ ioCtx ≤ c ∧
      x.started = true ∧ x.st = .started ∧ x.chunks ≠ 0 ∧ pcNode x.e = f.src ∧ eNlb x.e ≤ x.asked ∧ ctxFresh s x = true ∧ x.tunnel = false :=
  ⟨linked 0 {} (eng [(4096, { { io { opc := 0x85, nsid := 1, cdw13 := 9 } with started := true, chunks := 1, asked := 1 } with asked := 1 })] [] []), 4096, fr, { io { opc := 0x85, nsid := 1, cdw13 := 9 } with started := true, chunks := 1, asked := 1 }, {}, by unfold Safety.Expected Safety.ForUs; decide +kernel⟩

theorem witness_BuffersAreGrantedAndReturned_1 :
    ∃ (s : State), reachable s .larder 0 = true ∧ s.gr.size ≤ 8388608 ∧ (if true then some 5 else poolFor 0) = some 5 ∧ grantPool s 5 false true = some 5 :=
  ⟨{ up with gr := { size := 2 } }, by decide +kernel⟩

theorem witness_BuffersAreGrantedAndReturned_2 :
    ∃ (s : State), reachable s .larder 0 = true ∧ poolFor 4096 = some 1 ∧ grantPool s 1 true false = some 1 :=
  ⟨up, by decide +kernel⟩

theorem witness_BuffersAreGrantedAndReturned_3 :
    ∃ (s : State), reachable s .larder 0 = true ∧ poolFor 327680 = some 4 ∧ grantPool s 4 true true = none :=
  ⟨{ up with lr := { bufs := (List.range 64).map (fun i => (bufKey 4 i, { st := 1 })) } }, by decide +kernel⟩

theorem witness_BuffersAreGrantedAndReturned_4 :
    ∃ (s : State) (w : LWait), (tget [] s.lr.queues 0)[0]? = some w ∧ w.warned = false :=
  ⟨{ up with lr := { queues := [(0, [{}])] } }, {}, by decide +kernel⟩

theorem witness_BuffersAreGrantedAndReturned_5 :
    ∃ (s : State) (v : Word), Safety.Reaches s (.core 15) .larder 0 ∧ bit v.toNat 31 = true ∧ (if bit v.toNat 26 then some 5 else poolFor (bits v.toNat 18 0)) = some 0 ∧
      grantPool s 0 (bit v.toNat 24) (bit v.toNat 25) = some 0 :=
  ⟨up, 0x80000100#32, by unfold Safety.Reaches; decide +kernel⟩

theorem witness_BuffersAreGrantedAndReturned_6 :
    ∃ (s : State) (v : Word), Safety.Reaches s (.core 0) .larder 0 ∧ bit v.toNat 31 = true ∧ (if bit v.toNat 26 then some 5 else poolFor (bits v.toNat 18 0)) = some 5 ∧
      grantPool s 5 (bit v.toNat 24) (bit v.toNat 25) = none :=
  ⟨up, 0x84000000#32, by unfold Safety.Reaches; decide +kernel⟩

theorem witness_BuffersAreGrantedAndReturned_7 :
    ∃ (s : State) (v : Word), Safety.Reaches s (.core 0) .larder 0 ∧ bit v.toNat 31 = true ∧ (if bit v.toNat 26 then some 5 else poolFor (bits v.toNat 18 0)) = none :=
  ⟨up, 0x80000000#32, by unfold Safety.Reaches; decide +kernel⟩

theorem witness_BuffersAreGrantedAndReturned_8 :
    ∃ (s : State) (o p i : Nat) (h : Word), ownerValid o = true ∧ ownerPriv o = true ∧ reachable s .larder 0 = true ∧ Safety.Names s h p i ∧
      (bufOf s (bufKey p i)).st = 1 ∧ (bufOf s (bufKey p i)).owner = o ∧ tget [] s.lr.queues p = [] :=
  ⟨withBuf { st := 1 }, 0, 0, 0, 0#32, by unfold Safety.Names; decide +kernel⟩

theorem witness_BuffersAreGrantedAndReturned_9 :
    ∃ (s : State) (o p i : Nat) (h : Word), ownerValid o = true ∧ ownerPriv o = true ∧ reachable s .larder 0 = true ∧ Safety.Names s h p i ∧
      (bufOf s (bufKey p i)).st = 2 ∧ (bufOf s (bufKey p i)).count = 255 ∧ tget [] s.lr.queues p = [] :=
  ⟨withBuf { st := 2, count := 255 }, 0, 0, 0, 0#32, by unfold Safety.Names; decide +kernel⟩

theorem witness_BuffersAreGrantedAndReturned_10 :
    ∃ (s : State) (h : Word), reachable s .larder 0 = true ∧ lrError s 5 3 h.toNat 255 = 4 :=
  ⟨withBuf { st := 2, count := 1 }, 0#32, by decide +kernel⟩

theorem witness_BuffersAreGrantedAndReturned_11 :
    ∃ (s : State) (h : Word), reachable s .larder 0 = true ∧ lrError s 4 0 h.toNat 255 = 7 :=
  ⟨withBuf { st := 2, count := 1 }, 0#32, by decide +kernel⟩

theorem witness_BuffersAreGrantedAndReturned_12 :
    ∃ (s : State) (o p i : Nat) (h : Word) (w : LWait), ownerValid o = true ∧ reachable s .larder 0 = true ∧ s.gr.size ≤ 8388608 ∧
      Safety.Names s h p i ∧ (bufOf s (bufKey p i)).st = 1 ∧ (bufOf s (bufKey p i)).owner = o ∧ tget [] s.lr.queues p = [w] ∧ poolRsv s p = 0 ∧ (poolBusy s p).length ≤ poolCount s p :=
  ⟨reg (lrCfg 0) 0 { withBuf { st := 1 } with lr := { bufs := [(0, { st := 1 })], queues := [(0, [{}])] } }, 0, 0, 0, 0#32, {}, by unfold Safety.Names; decide +kernel⟩

theorem witness_BuffersAreGrantedAndReturned_13 :
    ∃ (s : State) (p i : Nat) (h : Word), Safety.Reaches s (.core 0) .larder 0 ∧ Safety.Names s h p i ∧ (bufOf s (bufKey p i)).st = 2 ∧
      tget [] s.lr.queues p = [] :=
  ⟨withBuf { st := 2 }, 0, 0, 0#32, by unfold Safety.Reaches Safety.Names; decide +kernel⟩

theorem witness_DramIsRefreshedCheckedAndZeroed_1 :
    ∃ s : State, refreshes s = true ∧ s.dm.fast = true ∧ s.dm.coolReads = 1 :=
  ⟨scrub { fast := true, coolReads := 1 }, by decide +kernel⟩

theorem witness_DramIsRefreshedCheckedAndZeroed_2 :
    ∃ s : State, refreshes s = false :=
  ⟨State.reset, by decide +kernel⟩

theorem witness_DramIsRefreshedCheckedAndZeroed_3 :
    ∃ s : State, Safety.Reaches s (.core 0) .memory 0 ∧ rdb s R.dmLock 0 = false ∧ s.dm.zeroing = false ∧ s.dm.zeroDone = false :=
  ⟨up, by unfold Safety.Reaches; decide +kernel⟩

theorem witness_DramIsRefreshedCheckedAndZeroed_4 :
    ∃ s : State, Safety.Reaches s .attic .memory 0 ∧ rdb s R.dmLock 0 = true ∧ s.dm.zeroDone = true :=
  ⟨reg R.dmLock 1 (scrub { zeroDone := true }), by unfold Safety.Reaches; decide +kernel⟩

theorem witness_DramIsRefreshedCheckedAndZeroed_5 :
    ∃ s : State, s.dm.lbRun = true ∧ s.pw.mode = mLoad ∧ 2 * dmChannels s = 8 :=
  ⟨{ scrub { lbRun := true } with pw := { mode := 3 } }, by decide +kernel⟩

theorem witness_DramIsRefreshedCheckedAndZeroed_6 :
    ∃ s : State, s.dm.lbRun = true ∧ rdb s R.dmLbCtl 16 = true :=
  ⟨reg R.dmLbCtl 65536 (scrub { lbRun := true }), by decide +kernel⟩

theorem witness_DramIsRefreshedCheckedAndZeroed_7 :
    ∃ s : State, Safety.Reaches s (.core 0) .memory 0 ∧ 0 = rd s R.dmRetAddr / 4096 ∧ 0 < dmUsable s / 4096 ∧ s.dm.used = 8191 ∧
      s.dm.zeroing = false ∧ s.dm.zeroDone = false :=
  ⟨scrub { used := 8191 }, by unfold Safety.Reaches; decide +kernel⟩

theorem witness_DramIsRefreshedCheckedAndZeroed_8 :
    ∃ s : State, Safety.Reaches s (.core 0) .memory 0 ∧ 0 = rd s R.dmRetAddr / 4096 ∧ 0 < dmUsable s / 4096 ∧ s.dm.used = 8192 :=
  ⟨scrub { used := 8192 }, by unfold Safety.Reaches; decide +kernel⟩

theorem witness_DramIsRefreshedCheckedAndZeroed_9 :
    ∃ s : State, s.dm.zeroing = true ∧ s.dm.bad = [0, 1] :=
  ⟨scrub { zeroing := true, bad := [0, 1] }, by decide +kernel⟩

theorem witness_WeevilReadsEveryMemory_1 :
    ∃ s : State, weevilReads s true = true ∧ errFound s true (weevilAddr s true) .none = .none ∧ dmUsable s ≤ s.dm.weevil ∧ sramBytes ≤ s.dm.weevilSram + 8 :=
  ⟨scrub { weevil := dmUsable State.reset, weevilSram := sramBytes - 8 }, by decide +kernel⟩

theorem witness_WeevilReadsEveryMemory_2 :
    ∃ s : State, weevilReads s false = true ∧ errFound s false s.dm.weevil .none = .none ∧ s.dm.weevil + 64 < dmUsable s :=
  ⟨scrub { zeroDone := true }, by decide +kernel⟩

theorem witness_WeevilReadsEveryMemory_3 :
    ∃ s : State, weevilReads s false = true ∧ errFound s false s.dm.weevil (.corrected 3) = .corrected 3 ∧ s.dm.weevil < zeroMark s ∧ s.dm.weevil / 64 ∈ s.dm.recent :=
  ⟨scrub { zeroDone := true, recent := [0] }, by decide +kernel⟩

theorem witness_WeevilReadsEveryMemory_4 :
    ∃ s : State, weevilReads s false = true ∧ errFound s false s.dm.weevil (.corrected 3) = .corrected 3 ∧ s.dm.weevil < zeroMark s ∧ s.dm.fifo.length = 64 :=
  ⟨scrub { zeroDone := true, fifo := List.replicate 64 {} }, by decide +kernel⟩

theorem witness_WeevilReadsEveryMemory_5 :
    ∃ (s : State) (z : Zone) (u : LUnit), weevilReads s false = true ∧ errFound s false s.dm.weevil .uncorrectable = .uncorrectable ∧ s.dm.weevil < zeroMark s ∧
      tfind s.ze.zones 5 = some z ∧ tfind z.units 0 = some u ∧ u.seg.isSome = true :=
  ⟨{ scrub { zeroDone := true } with ze := { zones := [(5, { units := [(0, { seg := some 1 })] })] } }, { units := [(0, { seg := some 1 })] }, { seg := some 1 }, by decide +kernel⟩

theorem witness_WeevilReadsEveryMemory_6 :
    ∃ s : State, weevilReads s false = true ∧ errFound s false s.dm.weevil .none = .uncorrectable ∧ s.dm.weevil < zeroMark s ∧ serving s = true :=
  ⟨scrub { zeroDone := true, bad := [0] }, by decide +kernel⟩

theorem witness_WeevilReadsEveryMemory_7 :
    ∃ s : State, weevilReads s false = true ∧ zeroMark s ≤ weevilAddr s false :=
  ⟨scrub {}, by decide +kernel⟩

theorem witness_WeevilReadsEveryMemory_8 :
    ∃ s : State, weevilReads s false = false :=
  ⟨State.reset, by decide +kernel⟩

theorem witness_SupplyLossEntersHoldup_1 :
    ∃ s : State, s.pw.mode ≠ mOff ∧ lmMode s = 1 ∧ s.gr.lmLocked = false ∧ s.gr.lmRun.length = 7 :=
  ⟨reg R.lmCfg 1 { up with gr := { lmRun := List.replicate 7 10000 } }, by decide +kernel⟩

theorem witness_SupplyLossEntersHoldup_2 :
    ∃ s : State, s.pw.mode ≠ mOff ∧ lmMode s = 2 ∧ s.gr.lmLocked = true :=
  ⟨reg R.lmCfg 2 { up with gr := { lmLocked := true } }, by decide +kernel⟩

theorem witness_SupplyLossEntersHoldup_3 :
    ∃ s : State, s.pw.mode = mRun ∧ lmMode s = 3 ∧ s.gr.armedOk = true ∧ lineLost s 0 100 = true :=
  ⟨reg R.lmCfg 3 { up with gr := { armedOk := true } }, by decide +kernel⟩

theorem witness_SupplyLossEntersHoldup_4 :
    ∃ s : State, s.pw.mode = mCellar ∧ lmMode s = 3 ∧ lineLost s 0 100 = true :=
  ⟨reg R.lmCfg 3 (inMode mCellar up), by decide +kernel⟩

theorem witness_SupplyLossEntersHoldup_5 :
    ∃ s : State, s.pw.mode = mRun ∧ lmMode s = 1 ∧ lineLost s 0 2000 = true :=
  ⟨reg R.lmCfg 1 { up with gr := { lmLocked := true, armedOk := true } }, by decide +kernel⟩

theorem witness_SupplyLossEntersHoldup_6 :
    ∃ s : State, s.pw.mode = mRun ∧ lmMode s = 0 :=
  ⟨reg R.lmCfg 0 up, by decide +kernel⟩

theorem witness_SupplyLossEntersHoldup_7 :
    ∃ s : State, s.pw.mode = mRun ∧ ((699 : Nat) : Int) < bo1Level s ∧ bo1Level s ≤ ((700 : Nat) : Int) :=
  ⟨up, by decide +kernel⟩

theorem witness_SupplyLossEntersHoldup_8 :
    ∃ s : State, s.pw.mode = mHoldup ∧ ((599 : Nat) : Int) < bo2Level s ∧ bo2Level s ≤ ((600 : Nat) : Int) ∧ s.gr.dumpSt = 1 :=
  ⟨{ inMode mHoldup up with gr := { dumpSt := 1 } }, by decide +kernel⟩

theorem witness_SupplyLossEntersHoldup_9 :
    ∃ (s : State) (d : Dump), s.gr.dumpSt = 1 ∧ tfind s.gr.halves s.gr.armed = some d ∧ dumpTried s d = true ∧ s.gr.bo2 = false :=
  ⟨{ up with gr := { dumpSt := 1, halves := [(0, {})] } }, {}, by decide +kernel⟩

theorem witness_SupplyLossEntersHoldup_10 :
    ∃ s : State, s.pw.mode = mHoldup ∧ s.gr.dumpSt = 2 ∧ elapsed s s.gr.endTime 100000000 = true ∧ bo1Level s < ((701 : Nat) : Int) :=
  ⟨{ inMode mHoldup up with gr := { dumpSt := 2 }, ck := { tb := 100000000 } }, by decide +kernel⟩

theorem witness_HoldUpTestsAndPartnersAreJudged_1 :
    ∃ s : State, s.rs.standby = true ∧ s.att.released = true ∧ active s = true ∧ s.pw.mode ≠ mLoad ∧ s.gr.testing = false ∧ s.gr.testEnded = false :=
  ⟨up, by decide +kernel⟩

theorem witness_HoldUpTestsAndPartnersAreJudged_2 :
    ∃ (s : State) (m : Master), masterSilent s m = false ∧ masterCls m = .secure ∧ s.pw.mode ≠ mHoldup ∧ s.pw.mode ≠ mOff ∧ s.gr.testing = false ∧
      s.gr.testEnded = false :=
  ⟨up, .attic, by decide +kernel⟩

theorem witness_HoldUpTestsAndPartnersAreJudged_3 :
    ∃ (s : State) (m : Master), masterSilent s m = false ∧ masterCls m = .priv :=
  ⟨up, .core 0, by decide +kernel⟩

theorem witness_HoldUpTestsAndPartnersAreJudged_4 :
    ∃ s : State, s.gr.testing = true ∧ rdf s R.huTest 27 16 = 750 :=
  ⟨{ up with gr := { testing := true } }, by decide +kernel⟩

theorem witness_HoldUpTestsAndPartnersAreJudged_5 :
    ∃ s : State, s.gr.testEnded = true ∧ elapsed s s.gr.lastTest 2000000000 = true ∧ s.gr.testGood = true :=
  ⟨{ up with gr := { testEnded := true, testGood := true }, ck := { tb := 2000000000 } }, by decide +kernel⟩

theorem witness_HoldUpTestsAndPartnersAreJudged_6 :
    ∃ s : State, s.gr.testEnded = true ∧ elapsed s s.gr.lastTest 2000000000 = true ∧ s.gr.testGood = false :=
  ⟨{ up with gr := { testEnded := true, testGood := false }, ck := { tb := 2000000000 } }, by decide +kernel⟩

theorem witness_HoldUpTestsAndPartnersAreJudged_7 :
    ∃ s : State, s.gr.mirEn = true ∧ s.gr.mirLost = false ∧ s.gr.mirOut ≠ [] :=
  ⟨{ up with gr := { mirEn := true, mirOut := [(0, 0)] } }, by decide +kernel⟩

theorem witness_HoldUpTestsAndPartnersAreJudged_8 :
    ∃ (s : State) (z : Zone) (u : LUnit), s.gr.mirEn = true ∧ s.gr.mirLost = true ∧ s.gr.mirPolicy = 0 ∧ (5, z) ∈ s.ze.zones ∧ (0, u) ∈ z.units ∧ u.seg.isSome = true :=
  ⟨{ up with gr := { mirEn := true, mirLost := true, mirPolicy := 0 }, ze := { zones := [(5, { units := [(0, { seg := some 1 })] })] } }, { units := [(0, { seg := some 1 })] }, { seg := some 1 }, by decide +kernel⟩

theorem witness_HoldUpTestsAndPartnersAreJudged_9 :
    ∃ (s : State) (o : Owner), tfind s.pb.owners 9 = some o ∧ o.state = 4 ∧ o.pages ≠ [] ∧ o.jobBands = [] :=
  ⟨own { state := 4, pages := [(0, {})] } up, { state := 4, pages := [(0, {})] }, by decide +kernel⟩

theorem witness_HoldUpTestsAndPartnersAreJudged_10 :
    ∃ s : State, starting s = true ∧ s.gr.recovered = false ∧ s.board.mirSaved = true ∧ s.gr.pulled = [] :=
  ⟨{ up with pw := { mode := mLoad }, board := { mirSaved := true } }, by decide +kernel⟩

theorem witness_FreezingStatuses_1 :
    ∃ (s : State) (x : Ctx) (q : Sq), ctxOf s 0 = some x ∧ x.tunnel = false ∧ ctxFresh s x = true ∧ x.st ≠ .completed ∧ x.sqid ≠ 0 ∧
      sqOf s x.fn x.sqid = some q ∧ q.deleting = none ∧ q.frozen = none :=
  ⟨eng [(0, { sqid := 1 })] [(1, {})] [], { sqid := 1 }, {}, by decide +kernel⟩

theorem witness_FreezingStatuses_2 :
    ∃ (s : State) (x : Ctx), ctxOf s 0 = some x ∧ x.tunnel = false ∧ ctxFresh s x = true ∧ x.st ≠ .completed ∧ x.sqid = 0 :=
  ⟨one {}, {}, by decide +kernel⟩

theorem witness_CorrectedAddressesAreRemembered_1 :
    ∃ s : State, s.dm.fifo.length = 63 ∧ 5 ∈ s.dm.recent :=
  ⟨scrub { fifo := List.replicate 63 {}, recent := [5] }, by decide +kernel⟩

theorem witness_CorrectedAddressesAreRemembered_2 :
    ∃ s : State, s.pw.mode ≠ mOff ∧ s.dm.recent = [1] :=
  ⟨scrub { recent := [1] }, by decide +kernel⟩

theorem witness_EveryCommandRuns :
    ∃ s : State, Safety.Runs .dumpEnd s :=
  ⟨up, _, rfl⟩


/-! ### Ill-formed commands are refused -/

/-- Operands outside the ranges the spec gives them, one term for each check. -/
theorem test_ill_formed_1 : ∀ c ∈ ([
    .sqTailDoorbell 2052 0 0 [], .sqTailDoorbell 0 65536 0 [], .sqTailDoorbell 0 0 65536 [], .cqHeadDoorbell 2052 0 0, .cqHeadDoorbell 0 65536 0,
    .cqHeadDoorbell 0 0 65536, .commandStarted 131073, .completionPosted 2052 0, .completionPosted 0 65536, .completionPostingWait 2052 0,
    .completionPostingWait 0 65536, .read 131073 none, .readDataTransferred 131073, .write 131073, .zoneAppend 131073, .writeZeroes 131073,
    .verify 131073, .flush 131073, .copy 131073, .zoneShape 131073, .peerCopy 131073, .zoneOpen 131073, .zoneClose 131073, .zoneFinish 131073,
    .zoneReset 131073, .zoneOffline 131073, .setZoneDescriptorExtension 131073, .selectAll 131073, .reportZones 131073, .extendedReportZones 131073,
    .deleteIoSubmissionQueue 131073, .createIoSubmissionQueue 131073, .deleteIoCompletionQueue 131073, .createIoCompletionQueue 131073,
    .identify 131073, .abortCmd 131073, .asynchronousEventRequest 131073, .namespaceCreate 131073, .namespaceDelete 131073, .namespaceAttach 131073] : List Instr), Instr.wellFormed c = false := by decide

/-- Operands outside the ranges the spec gives them, one term for each check. -/
theorem test_ill_formed_2 : ∀ c ∈ ([
    .namespaceDetach 131073, .formatNvm 131073, .firmwareImageDownload 131073, .firmwareCommit 131073, .firmwareActivation 131073,
    .secondaryControllerAssign 131073, .secondaryControllerOnline 131073, .secondaryControllerOffline 131073, .nvmeMiSend 131073,
    .nvmeMiReceive 131073, .installRootTransportKey 131073, .loadFunctionTransportKey 131073 {}, .loadSlot 131073 {}, .eraseSlot 131073,
    .slotStatus 131073, .securityProtocolList 131073, .resumeContinue 131073, .resumeDiscard 131073, .getFeatures 131073, .setTenantShare 131073,
    .setThermalGrace 131073, .setDetourPolicy 131073, .setTicketedAppend 131073, .setMirrorMode 131073, .setVolatileWriteCache 131073,
    .setPowerManagement 131073, .setHostControlledThermalManagement 131073, .setTemperatureThreshold 131073, .getLogPage 131073, .freezeLog 131073,
    .zonePhysicalUsageLog 131073, .blockWearLog 131073, .eventRecorderLog 131073, .peerRecoveryLog 131073, .holdUpHealthLog 131073,
    .readMarginHistogramLog 131073, .flr 2052, .vfDisable 4 0, .vfDisable 0 513, .vfEnable 4 0] : List Instr), Instr.wellFormed c = false := by decide

/-- Operands outside the ranges the spec gives them, one term for each check. -/
theorem test_ill_formed_3 : ∀ c ∈ ([
    .vfEnable 0 513, .controllerReset 2052, .controllerEnable 2052, .shutdownNotification 2052, .perstN 4, .squashDone 2052, .fallBackSquash 2052 [],
    .hostPhyPllLoss 4, .queueReHoming 2052 0 0, .queueReHoming 0 65536 0, .queueReHoming 0 0 4, .zeFblPush (.core 16) 0#32, .framePacked 131073,
    .granaryApply 131073, .cipherUnitDone 131137 0, .cipherUnitDone 0 65536, .shadowPendingTimeout 8192, .ciKwLoad (.core 16), .ciKwErase (.core 16),
    .ciKsCtrWrite (.core 16) 0#32, .ciKsCeilWrite (.core 16) 0#32, .descriptorPost 64 {} .firmware, .descriptorPost 0 { op := 256 } .firmware,
    .dieIssue 64 0, .dieIssue 0 64, .tokenWaitTimeout 64 0, .tokenWaitTimeout 0 64, .statusPoll 64 0 .busy, .statusPoll 0 64 .busy,
    .operationResume 64 0, .operationResume 0 64, .pageReadDone 64 0, .pageReadDone 0 64, .softReadDone 64 0, .softReadDone 0 64,
    .calibrationReadDone 64 0 [], .calibrationReadDone 0 64 [], .programPassDone 64 0 false, .programPassDone 0 64 false, .eraseDone 64 0 false] : List Instr), Instr.wellFormed c = false := by decide

/-- Operands outside the ranges the spec gives them, one term for each check. -/
theorem test_ill_formed_4 : ∀ c ∈ ([
    .eraseDone 0 64 false, .dumpProgramDone 64 0 false, .dumpProgramDone 0 64 false, .dieOperationDone 64 0 0, .dieOperationDone 0 64 0,
    .dieOperationDone 0 0 256, .dieTemperatureRead 64 0 0, .dieTemperatureRead 0 64 0, .operationTimeout 64 0, .operationTimeout 0 64,
    .scCancel (.core 16) 0 0#32, .scCancel .attic 64 0#32, .scCtlRun (.core 16) 0, .scCtlRun .attic 64, .scUcDataWrite (.core 16) 0 0#32,
    .scUcDataWrite .attic 64 0#32, .flashDomainPowered 8, .channelInitDone 64 [], .initLimitExpired 64, .hardDecodeDone 4294967296 none {},
    .softDecodeDone 4294967296 false {}, .stripeRebuildDone 4294967296 false [], .stripeRebuildDone 0 false [256], .ldEwqPop (.core 16),
    .detourLateTest 4294967296 false, .detourAssembled 4294967296 none, .migrationMoveDone 4294967296 0, .migrationMoveDone 0 1048576,
    .termiteMoveStart 4294967296 0 0 1, .termiteMoveStart 0 1048576 0 1, .termiteMoveStart 0 0 524288 1, .termiteMoveStart 0 0 0 0,
    .termiteMoveStart 0 0 0 5, .termiteMoveDone 4294967296 0, .termiteMoveDone 0 1048576, .patrol 524288 [], .ageRefresh 4294967296 0,
    .ageRefresh 0 1048576, .trip 24 0, .huTestStart (.core 16) 0] : List Instr), Instr.wellFormed c = false := by decide

/-- Operands outside the ranges the spec gives them, one term for each check. -/
theorem test_ill_formed_5 : ∀ c ∈ ([
    .ownerLost 262144 0, .plCtlEn (.core 16) 0 0#32, .plCtlEn .attic 4 0#32, .negotiationSucceeds 4 0 0 false, .negotiationSucceeds 0 3 0 false,
    .negotiationSucceeds 0 0 16 false, .trainingTimeout 4, .sessionLossTimeout 4, .linkLoss 4 0 0, .retrain (.core 16) 0, .retrain .attic 4,
    .keepaliveTimer 4, .replayTimer 4 0, .replayTimer 0 262144, .sessionIdleClose 4 0, .sessionIdleClose 0 262144, .keepalive 4 {},
    .keepalive 0 { ver := 256 }, .ack 4 {}, .ack 0 { ver := 256 }, .nak 4 {}, .nak 0 { ver := 256 }, .discover 4 {} [], .discover 0 { ver := 256 } [],
    .discoverReply 4 {} [], .discoverReply 0 { ver := 256 } [], .timeSync 4 {} 0, .timeSync 0 { ver := 256 } 0, .timeReply 4 {} 0 0 0,
    .timeReply 0 { ver := 256 } 0 0 0, .holdupNotice 4 {} 0 0, .holdupNotice 0 { ver := 256 } 0 0, .holdupNotice 0 {} 0 18446744073709551616,
    .mirrorData 4 {} {}, .mirrorData 0 { ver := 256 } {}, .mirrorState 4 {} {}, .mirrorState 0 { ver := 256 } {}, .mirrorAck 4 {} 0,
    .mirrorAck 0 { ver := 256 } 0, .mirrorRelease 4 {} []] : List Instr), Instr.wellFormed c = false := by decide

/-- Operands outside the ranges the spec gives them, one term for each check. -/
theorem test_ill_formed_6 : ∀ c ∈ ([
    .mirrorRelease 0 { ver := 256 } [], .orphanPull 4 {}, .orphanPull 0 { ver := 256 }, .orphanData 4 {} {}, .orphanData 0 { ver := 256 } {},
    .copyReq 4 {} 0 0 0 false 0, .copyReq 0 { ver := 256 } 0 0 0 false 0, .copyReq 0 {} 0 0 0 false 131073, .copyReq 0 {} 4294967296 0 0 false 0,
    .copyReq 0 {} 0 0 257 false 0, .copyData 4 {} 0 {}, .copyData 0 { ver := 256 } 0 {}, .copyData 0 {} 131073 {}, .copyEnd 4 {} 0 {},
    .copyEnd 0 { ver := 256 } 0 {}, .copyEnd 0 {} 131073 {}, .retire (.core 16), .reinstate (.core 16), .dmZeroGo (.core 16),
    .loopbackCompare (.core 16), .modeRegisterWrite (.core 16) 0#32, .miErrPop (.core 16), .bufAllocate 256 0 false false false,
    .requestWaitTimeout 6 0, .lrReq (.core 16) 0#32, .bufFree 256 0#32, .bufHandOff 256 0#32 0, .bufHandOff 0 0#32 256, .bufShare 256 0#32 0,
    .bufShare 0 0#32 257, .bufAddReference 256 0#32 0, .bufAddReference 0 0#32 257, .bufRelease 256 0#32 0, .bufRelease 0 0#32 257,
    .bufReclaim (.core 16) 0#32, .mbDoorbell (.core 16) 0, .mbDoorbell .attic 32, .mbAck (.core 16) 0, .mbAck .attic 32, .evSw (.core 16) 0#32] : List Instr), Instr.wellFormed c = false := by decide

/-- Operands outside the ranges the spec gives them, one term for each check. -/
theorem test_ill_formed_7 : ∀ c ∈ ([
    .cricketKick (.core 16) 0 0#32, .cricketKick .attic 5 0#32, .cricketStage1 5, .cricketStage2 5, .cricketStage3 5, .registerWrite (.core 16) 0 0#32,
    .windowCopyOutVoted 0 3 0#32, .clkSelWrite (.core 16) 0 0#32, .clkSelWrite .attic 6 0#32, .handoverForced 6, .clkPllWrite (.core 16) 0#32,
    .ffCfgWrite (.core 16) 0#32, .pwReqDoze (.core 16), .pwReqCellar (.core 16), .pwReqQuiesce (.core 16), .pwReqHalt (.core 16),
    .pwSwWrite (.core 16) 0 0#32, .pwSwWrite .attic 13 0#32, .rstHoldWrite (.core 16) 0 0#32, .rstHoldWrite .attic 13 0#32, .domainStateTimeout 13,
    .ftCapLimWrite (.core 16) 0#32, .miPause 6, .miResume 6, .nvmeMiAbort 6, .miGetState 6, .miReplay 6, .recoveryDownload 3 0 [] false,
    .erWinLatch (.core 16) 0, .erWinLatch .attic 2, .erWinAdvance (.core 16) 0, .erWinAdvance .attic 2, .erCtlClear (.core 16), .mainPgRise 4 false,
    .nvmSubsystemReset 2052, .rsReqFirmwareDomainReset (.core 16) 0#32, .rsReqChipWarmReset (.core 16) 0#32, .minimumRunReached 64 0,
    .minimumRunReached 0 64, .trainingRetry 4] : List Instr), Instr.wellFormed c = false := by decide

/-- Operands outside the ranges the spec gives them, one term for each check. -/
theorem test_ill_formed_8 : ∀ c ∈ ([
    .debugCoreHalt 16 false] : List Instr), Instr.wellFormed c = false := by decide

/-- Masters, descriptors and frames with a field outside its width, one for each check. -/
theorem test_ill_formed_parts :
    (∀ m ∈ ([.core 16, .coreUser 16, .host 4, .engine 256] : List Master), m.wellFormed = false) ∧
    (∀ d ∈ ([{ op := 256 }, { die := 64 }, { queue := 4 }, { dens := 4 }, { pass := 4 }, { planes := 16 }, { suspMax := 16 }, { block := 65536 },
      { wl := 4096 }, { level := 16 }, { cw := 65536 }, { thr := 65536 }, { tag := 4294967296 }] : List Desc), d.wellFormed = false) ∧
    (∀ f ∈ ([{ ver := 256 }, { cls := 4 }, { ttl := 16 }, { dst := 262144 }, { src := 262144 }, { seq := 4294967296 }, { ack := 4294967296 },
      { len := 4097 }, { credit := 4096 }, { creditClass := 4 }] : List BFrame), f.wellFormed = false) := by decide

/-! ### Small steps and the spec's worked examples -/

/-- The worked example of the DRAM address map (12_memory.md R347). -/
theorem test_dram_map : dramMap 12 4 false 0x1234567AC0 = { channel := 3, sub := 1, group := 5, bank := 2, column := 89, row := 37282 } := by decide +kernel

/-- Rows 0 to 255 are used full-width, as on the reference population. -/
def rows70 : State := { ze := { rows := [(70, { domain := some 0, use := some 0 })] } }

/-- The worked example of the codeword order: LBA 200,000 of an uncompressed TLC zone on band 112,037 (07_flash_channels.md R197). -/
theorem test_codeword_place : placeOf rows70 1 112037 200000 = { wl := 277, pos := 12, level := 2, plane := 0, cw := 0 } := by decide +kernel
theorem test_codeword_die : parityPos rows70 112037 = 5 ∧ dieAt 70 12 = 64 * 28 + 6 ∧ bandBlkIdx rows70 112037 = 53 := by decide +kernel

/-- The worked example of threshold compensation (08_flash_integrity.md R228): THR 0x00E1 is a compensation of −31. -/
def plcSlopes : State := { board := { slopes := [[], [], [], (List.replicate 5 0) ++ [-4] ++ List.replicate 24 0 ++ [-10]] } }
theorem test_threshold_offsets : tcompOf 0x00E1 = -31 ∧ appliedOff plcSlopes 3 0x00E1 30 3 = 22 ∧ appliedOff plcSlopes 3 0x00E1 5 (-2) = 5 := by
  decide +kernel

/-- The worked example of single elements through the trim unit (05_transforms.md R161, R162). -/
theorem test_trim_elements :
    trimElem 2 7 0x3F8CCCCD = 0x3F8C0000 ∧ trimElem 4 3 0x4049 = 0x4040 ∧ trimElem 3 4 0x8003 = 0x8000 ∧ trimElem 2 0 0x7F800001 = 0x7FC00000 ∧
    trimElem 1 10 0xFFF0000000000000 = 0xFFF0000000000000 := by decide +kernel

/-- The worked example of a sleep in CELLAR without XB (15_clocks.md R427, R428). -/
theorem test_catch_up : catchUp 1234567 20895367 = 600000000000 := by decide +kernel
theorem test_xa_ready_catches_up :
    (match execXaReady 20895367 { up with ck := { xaRdy := false, tbStopped := true, tb := 5000000000000, c0 := 1234567 } } with
     | .next t => t.ck.tb | _ => 0) = 5600000000000 := by decide +kernel

/-- The steps of the worked example of heat in enforcement (16_power_thermal.md R449): B is 32,000, S is 3,200. -/
def hot (comp : Int) (limit : Nat) : State := { reg R.ftBudget 32000 up with pw := { up.pw with th := .enforce, comp := comp, limit := limit } }
theorem test_thermal_steps :
    (match execGraceExpired { hot 95 0 with pw := { (hot 95 0).pw with th := .grace }, ck := { tb := 100000000000 } } with | .next t => t.pw.limit | _ => 0) = 28800 ∧
    (match execThermalTick (hot 96 28800) with | .next t => t.pw.limit | _ => 0) = 25600 ∧
    (match execThermalTick (hot 93 25600) with | .next t => t.pw.limit | _ => 0) = 25600 := by decide +kernel
theorem test_thermal_recovery :
    (match execThermalTick (hot 91 25600) with | .next t => t.pw.limit | _ => 0) = 28800 ∧
    (match execThermalTick (hot 90 28800) with | .next t => (t.pw.limit, t.pw.th) | _ => (1, .enforce)) = (0, .normal) ∧ admitN (hot 95 25600) = 25 := by
  decide +kernel

/-- The worked example of the full recorder, with three records in place of its 16,384 (17_attic.md R470). -/
theorem test_recorder_displaces :
    dropOldest 0 [{ seq := 1, ev := { sev := 2 } }, { seq := 2, ev := { sev := 1 } }, { seq := 3, ev := { sev := 3 } }] = none ∧
    dropOldest 1 [{ seq := 1, ev := { sev := 2 } }, { seq := 2, ev := { sev := 1 } }, { seq := 3, ev := { sev := 3 } }] =
      some [{ seq := 1, ev := { sev := 2 } }, { seq := 3, ev := { sev := 3 } }] := by decide +kernel

/-- The worked example of physical capacity: a frame of 32,736 payload bytes is 2,049 units, and a TLC band holds 15 × 96 MiB of data
(02_zones.md R52 to R56, 05_transforms.md R142). -/
theorem test_frame_and_band_size : 16 * frameLen { payBytes := 32736 } = 32784 ∧ 4096 * bandCws {} 1 15 = 1509949440 := by decide +kernel

/-- A fetched command starts; the block runs the front command and leaves the rest waiting. -/
theorem test_step_takes_front :
    (match step { up with pending := [.commandStarted 9, .standbyPowerUp] } with | .next t => t.pending | _ => []) = [.standbyPowerUp] := by decide +kernel

/-- On an empty queue the time base advances by one tick of 20 ns (15_clocks.md R426). -/
theorem test_idle_tick : (match step { up with ck := { xaRdy := true } } with | .next t => t.ck.tb | _ => 0) = 20 := by decide +kernel

/-- A tail doorbell outside the queue leaves it as it was, one inside moves the tail (03_queues.md R75). -/
theorem test_doorbells :
    (match execSqTailDoorbell 0 1 64 [] (eng [] [(1, { size := 64 })] [(0, live)]) with | .next t => (sqOf t 0 1).map (fun q => q.tail) | _ => none) = some 0 ∧
    (match execSqTailDoorbell 0 1 3 [] (eng [] [(1, { size := 64 })] [(0, live)]) with
     | .next t => (sqOf t 0 1).map (fun q => (q.tail, q.entries.length)) | _ => none) = some (3, 3) := by decide +kernel

/-- A marked die-block becomes BAD and a spare that is not marked serves its index; factory die-blocks are left alone (R236). -/
theorem test_factory_bad_block : (let t := firstIdent 1 { State.reset with board := { factoryBad := [4096 + 3, 4096 + 20, 4096 + 1616] } }
    ((blkOf t 1 3).st, (blkOf t 1 20).st, (blkOf t 1 1616).st, (blkOf t 1 1617).st, servingBlk t 1 20, t.fl.startRecs.length)) = (7, 6, 6, 0, 1617, 3) := by decide +kernel

/-- Every register of the tables reads the reset value that its table gives (R9), RX_ATTIC of the Attic's mailboxes apart, which R397 fixes at 1. -/
theorem test_registers_at_reset : allRegs.all (fun d => (List.range d.n1).all (fun i => (List.range d.n2).all (fun j =>
    (d.id == .mbCfg && decide (8 ≤ i ∧ i < 12)) || regValue (.core 0) State.reset { d := d, i := i, j := j } == d.rstOf (if d.n1 = 1 then j else i) j))) = true := by decide +kernel

end Sys2Proof.Tests
end

/-! PROOFS. The statements of the scope chapter: every command runs, and what a plain write stores (00_scope.md R9, R13). -/

namespace Sys2Proof.Machine

/-! ### Every command runs -/

/-- Settles O60, by the arms of `exec`: each calls a meaning whose outcome is `.next` whatever the state holds; the conditions of
a command are inside its next state and never choose the outcome. -/
theorem everyCommandRuns : Obligations.EveryCommandRuns := by
  unfold Obligations.EveryCommandRuns
  intro c s
  cases c <;> exact ⟨_, rfl⟩

/-! ### What a write of a plain RW register stores (00_scope.md R9, R13) -/

/-- A write to an address that a register has is that register's write. -/
theorem exec_registerWrite_hit {s : State} {m : Master} {addr : Nat} {h : Hit} (v : Word) (hs : masterSilent s m = false)
    (hr : findReg addr = some h) : exec (.registerWrite m addr v) s = .next (writeHit m h v.toNat s) := by
  simp [exec, execRegisterWrite, hs, hr]

/-- A master that reaches a block is neither a host nor an engine. -/
theorem reaches_not_host_engine {s : State} {m : Master} {b : Blk} {i : Nat} (h : Safety.Reaches s m b i) :
    masterCls m ≠ .host ∧ masterCls m ≠ .engine := by
  obtain ⟨hc | hc, -, -⟩ := h <;> simp [hc]

/-- PRIV fields admit every master that reaches a block. -/
theorem reaches_admits_priv {s : State} {m : Master} {b : Blk} {i : Nat} (h : Safety.Reaches s m b i) (bank : Nat) :
    Who.priv.admits bank (masterCls m) = true := by
  obtain ⟨hc | hc, -, -⟩ := h <;> rw [hc] <;> rfl

/-- A value stored only where it differs is read after all. -/
theorem rd_onlyIf_wr (r : Ref) (v : Nat) (s : State) : rd (onlyIf (v != rd s r) (wr r v) s) r = v := by
  by_cases hv : v = rd s r
  · rw [bne_eq_false_iff_eq.2 hv, onlyIf_false, hv]
  · rw [bne_iff_ne.2 hv, onlyIf_true, rd_wr_same]

/-- A 32-bit register with one RW field takes that field's bits from the write and keeps every other bit of its stored value. -/
theorem rd_accessReg_one_rw {s : State} {m : Master} {d : RegD} {hi lo i : Nat} {w : Who} (j : Nat) (ref : Ref) (v : Nat)
    (hm : Safety.Reaches s m d.blk i) (hd : d.fields = [⟨hi, lo, .rw, w⟩]) (hn : d.wide = false)
    (hw : w.admits i (masterCls m) = true) :
    rd (accessReg m d i j false ref v (fun _ t => t) s) ref = setBits (rd s ref) hi lo (bits v hi lo) := by
  have hclass := reaches_not_host_engine hm
  obtain ⟨-, hs, hb⟩ := hm
  have hacc : (Acc.rw == Acc.rwl) = false := rfl
  simp [accessReg, hclass, hs, hb, hd, hn, hw, hacc, maskTo, Field.lockHit, Field.store, rd_onlyIf_wr]

/-- A write to EV_SW_P stores the word in bits 31:0; what the stored value has above them stays. -/
theorem rd_registerWrite_evSwP {s : State} {m : Master} {addr i : Nat} (v : Word) (hm : Safety.Reaches s m .event i)
    (hr : findReg addr = some { d := D.evSwP, i := i }) :
    ∃ t, exec (.registerWrite m addr v) s = .next t ∧
      rd t (D.evSwP.at i 0) = setBits (rd s (D.evSwP.at i 0)) 31 0 (bits v.toNat 31 0) :=
  ⟨_, exec_registerWrite_hit v hm.2.1 hr, rd_accessReg_one_rw 0 _ _ hm rfl rfl (reaches_admits_priv hm i)⟩

/-! ### A stored value wider than its register -/

/-- The reset state with 2 ^ 32 stored for EV_SW_P_0, a value that needs 33 bits. -/
def wideEvSwP : State := wr (D.evSwP.at 0 0) (2 ^ 32) State.reset

/-- Refutes O29: the clause on EV_SW_P ranges over all states and does not ask that the register's stored value fit its 32
bits. In `wideEvSwP` core 0 writes 0 to EV_SW_P_0 (address 0x10010044), and 2 ^ 32 is stored after the write as before it. -/
theorem not_registerWritesAreJudged : ¬ Obligations.RegisterWritesAreJudged := by
  unfold Obligations.RegisterWritesAreJudged
  rintro ⟨-, -, -, -, -, evSwPClause, -⟩
  have hm : Safety.Reaches wideEvSwP (.core 0) .event 0 := ⟨.inl rfl, rfl, rfl⟩
  have hr : findReg 0x10010044 = some { d := D.evSwP, i := 0 } := by decide +kernel
  obtain ⟨t, ht, hclaimed, -⟩ := evSwPClause wideEvSwP (.core 0) 0x10010044 0 _ hm hr rfl
  obtain ⟨t', ht', hstored⟩ := rd_registerWrite_evSwP 0 hm hr
  obtain rfl : t = t' := by injection ht.symm.trans ht'
  have hzero : rd t (D.evSwP.at 0 0) = 0 := hclaimed
  have hwide : rd t (D.evSwP.at 0 0) = 2 ^ 32 := by rw [hstored, wideEvSwP, rd_wr_same]; decide
  omega

end Sys2Proof.Machine

/-! PROOFS. The statements of the read and write paths: what a cipher unit's end does while a key that its command captured is not
usable (01_architecture.md R16, R18; 06_cipher.md R171). -/

namespace Sys2Proof.Machine

/-! ### A command that waits for a shadow begins no cipher operation (06_cipher.md R171) -/

section
variable {s : State} {x : Ctx}

/-- A source unit is not decrypted while a key that its command captured is not usable. -/
theorem decryptUnit_of_keys_unusable (c : Nat) (r : SrcRef) (hkeys : keysUsable s x = false) : decryptUnit c x r s = s := by
  cases hk : keyOf s r.slot r.gen <;> simp [decryptUnit, hk, hkeys]

/-- A unit of a write is not encrypted while a key that the write captured is not usable. -/
theorem encryptUnit_of_keys_unusable (c u : Nat) (hkeys : keysUsable s x = false) : encryptUnit c u x s = s := by
  cases hk : writeKey s x <;> simp [encryptUnit, hk, hkeys]

/-- CIPHER_UNIT_DONE of a command changes nothing while a key that the command captured is not usable, be the unit itself one of
another slot. -/
theorem exec_cipherUnitDone_of_keys_unusable {c : Nat} (u : Nat) (hctx : ctxOf s c = some x) (hopc : x.e.opc ≠ chunkOpc)
    (hkeys : keysUsable s x = false) : exec (.cipherUnitDone c u) s = .next s := by
  have hchunk : (x.e.opc == chunkOpc) = false := by simpa using hopc
  simp only [exec, execCipherUnitDone, hctx]
  cases hu : (if x.todo.contains u then tfind x.src u else none) with
  | some r => simp [decryptUnit_of_keys_unusable c r hkeys, hchunk]
  | none => simp [encryptUnit_of_keys_unusable c u hkeys]

end

/-! ### A Read and a Copy of which one captured key is a pending shadow -/

/-- A unit of zone 0 of namespace 1, sealed under the current key of slot 0. -/
def slot0Unit : SrcRef :=
  let u : Sealed := { plain := [zeroBlock], key := 7, salt := 3, nsid := 1 }
  { zone := zKey 1 0, sealed := u, aad := sealAad u }

/-- A Read of two units: one under slot 0, and one of zone 1 under slot 1, whose shadow it captured. -/
def shadowRead : Ctx :=
  { st := .started, sqid := 1, started := true, e := { opc := 0x02, nsid := 1, cdw10 := zoneLbas - 1, cdw12 := 1 },
    keys := [(0, 0), (1, 1)], todo := [0, 1], src := [(0, slot0Unit), (1, { slot := 1, gen := 1, zone := zKey 1 1 })] }

/-- A Copy of two LBAs to zone 2, which slot 0 seals: the first came as zeros, the second is sealed in zone 1 under slot 1, whose
shadow the Copy captured. -/
def shadowCopy : Ctx :=
  { st := .started, sqid := 1, started := true, e := { opc := 0x19, nsid := 1, ranges := [(3 * zoneLbas, 1), (zoneLbas, 1)] },
    nsid := 1, zone := 2, nlb := 2, validated := true, arrived := 1, got := [(0, zeroBlock)], keys := [(1, 1), (0, 0)],
    todo := [1], src := [(1, { slot := 1, gen := 1, zone := zKey 1 1 })] }

/-- The two commands run in contexts 4096 and 4097 while context 4098 still holds the old key of slot 1, so that the shadow of
slot 1 is pending (06_cipher.md R170). -/
def shadowPending : State :=
  { ce := { ctxs := [(4096, shadowRead), (4097, shadowCopy), (4098, { st := .started, sqid := 1, keys := [(1, 0)] })] },
    ci := { slots := [(0, { loaded := true, key := 7, salt := 3 }), (1, { loaded := true, key := 8, salt := 4, shadow := some (9, 5) })] } }

/-- The Read's unit of slot 0 can end in the terms of the statement: it is still to be served, needs no codeword, and its key is current. -/
theorem shadowRead_unitEnds : Safety.UnitEnds shadowPending shadowRead 0 slot0Unit (7, 3) :=
  ⟨by decide, rfl, by decide, rfl, rfl, rfl⟩

/-- The end of the Read's unit leaves the state as it is. -/
theorem exec_cipherUnitDone_shadowRead : exec (.cipherUnitDone 4096 0) shadowPending = .next shadowPending :=
  exec_cipherUnitDone_of_keys_unusable (x := shadowRead) 0 rfl (by decide) rfl

/-- The end of the Copy's unit leaves the state as it is. -/
theorem exec_cipherUnitDone_shadowCopy : exec (.cipherUnitDone 4097 0) shadowPending = .next shadowPending :=
  exec_cipherUnitDone_of_keys_unusable (x := shadowCopy) 0 rfl (by decide) rfl

/-- Refutes O37: `Safety.UnitEnds` asks for the key of the unit that ends and not for the others that the Read captured, and while
one of them is a pending shadow the Read begins no cipher operation (06_cipher.md R171). In `shadowPending` unit 0 of the Read stays
to be served. -/
theorem not_readsAndVerifiesAreServed : ¬ Obligations.ReadsAndVerifiesAreServed := by
  unfold Obligations.ReadsAndVerifiesAreServed
  rintro ⟨-, -, -, -, unitServed, -⟩
  have hruns : Safety.IoRuns shadowPending 4096 shadowRead 0x02 := ⟨⟨rfl, rfl, rfl, rfl, rfl⟩, by decide⟩
  obtain ⟨t, ht, ⟨y, hy, hserved, -⟩, -⟩ :=
    unitServed shadowPending 4096 0 shadowRead slot0Unit (7, 3) [zeroBlock] hruns shadowRead_unitEnds rfl rfl rfl rfl
  obtain rfl : shadowPending = t := by injection exec_cipherUnitDone_shadowRead.symm.trans ht
  obtain rfl : shadowRead = y := Option.some.inj hy
  exact hserved (by decide)

/-- Refutes O39: the clause on a write's units asks for the key that the write is sealed under and not for the others that it
captured, and while one of them is a pending shadow the write begins no cipher operation (06_cipher.md R171). In `shadowPending`
unit 0 of the Copy, whose data has come and whose destination's key is current, is not noted as sealed. -/
theorem not_writeDataIsSealedPackedAndApplied : ¬ Obligations.WriteDataIsSealedPackedAndApplied := by
  unfold Obligations.WriteDataIsSealedPackedAndApplied
  rintro ⟨unitSealed, -⟩
  have hparts : partsOf shadowPending (zKey shadowCopy.nsid shadowCopy.zone) shadowCopy 0 = [] := rfl
  obtain ⟨t, ht, ⟨y, hy, hnoted, -⟩, -⟩ :=
    unitSealed shadowPending 4097 0 shadowCopy (7, 3) rfl (by decide) rfl (.inl rfl) rfl (by decide) rfl rfl rfl (by decide)
      (by decide) rfl (by simp [hparts])
  obtain rfl : shadowPending = t := by injection exec_cipherUnitDone_shadowCopy.symm.trans ht
  obtain rfl : shadowCopy = y := Option.some.inj hy
  exact absurd hnoted (by decide)

end Sys2Proof.Machine

/-! PROOFS. Rules of the operations that the statements of the zones go through: what sending a frame, placing an item in the Granary, noting
a zone's delta, marking a key slot and ending a command leave, and what they give (10_granary.md R281, 06_cipher.md R170 to R176,
03_queues.md R78, R97). Each rule compares two states with the parts cut out that the operation may change. -/

namespace Sys2Proof.Machine

/-! ### What sending on the links leaves (11_balwen.md R322 to R331) -/

/-- A state without what sending a frame may change: stored registers, the recorder, the links and the free values. -/
def offLink (s : State) : State := { s with rf := {}, att := {}, pb := {}, free := 0 }

@[simp] theorem offLink_onPb (f : Balwen → Balwen) (s : State) : offLink (onPb f s) = offLink s := rfl
@[simp] theorem offLink_tookFree (s : State) : offLink (tookFree s) = offLink s := rfl
@[simp] theorem offLink_count (cnt ovf : Ref) (i n : Nat) (s : State) : offLink (count cnt ovf i n s) = offLink s := by
  obtain ⟨_, h⟩ := count_only_regs cnt ovf i n s
  rw [h]; rfl
@[simp] theorem offLink_raise (src sev : Nat) (ps : List Nat) (s : State) : offLink (raise src sev ps s) = offLink s := by
  obtain ⟨_, _, h⟩ := raise_only src sev ps s
  rw [h]; rfl
@[simp] theorem offLink_modSess (k : Nat) (f : Session → Session) (s : State) : offLink (modSess k f s) = offLink s := rfl
@[simp] theorem offLink_modLink (n : Nat) (f : Link → Link) (s : State) : offLink (modLink n f s) = offLink s := rfl
@[simp] theorem offLink_emit (n : Nat) (f : TxFrame) (s : State) : offLink (emit n f s) = offLink s := by simp [emit]

@[simp] theorem offLink_sessEmit (n k : Nat) (f : TxFrame) (s : State) : offLink (sessEmit n k f s) = offLink s := by
  unfold sessEmit
  split <;> simp

@[simp] theorem offLink_sessSend (n k : Nat) (f : TxFrame) (s : State) : offLink (sessSend n k f s) = offLink s := by
  unfold sessSend
  split
  · rfl
  · split <;> simp

@[simp] theorem offLink_openSess (k : Nat) (s : State) : offLink (openSess k s) = offLink s := by
  unfold openSess
  split <;> simp

@[simp] theorem offLink_roomSess (n : Nat) (s : State) : offLink (roomSess n s).1 = offLink s := by
  unfold roomSess
  split
  · rfl
  · split <;> simp

@[simp] theorem offLink_needSess (n node : Nat) (s : State) : offLink (needSess n node s).1 = offLink s := by
  have hroom := offLink_roomSess n s
  unfold needSess
  dsimp only
  split_ifs
  · rfl
  · rfl
  · split <;> simp_all

@[simp] theorem offLink_sendFrame (f : TxFrame) (s : State) : offLink (sendFrame f s).1 = offLink s := by
  unfold sendFrame
  split
  · exact onlyIf_keeps offLink _ _ s (fun t => offLink_raise _ _ _ t)
  · next n _ =>
    have hsess := offLink_needSess n (sessNode s n f.dst) s
    dsimp only
    split <;> simp [hsess]

/-- A frame sent takes no buffer of the Larder. -/
theorem sendFrame_lr (f : TxFrame) (s : State) : (sendFrame f s).1.lr = s.lr :=
  (congrArg State.lr (offLink_sendFrame f s) :)

/-! ### What the Granary's bookkeeping leaves (10_granary.md R281 to R287) -/

/-- A state without what placing an item in the Granary, or noting it in the journal, may change. -/
def offGranary (s : State) : State := { offLink s with gr := {}, lr := {}, fl := {} }

/-- What sending leaves, the Granary's part of it. -/
theorem offGranary_of_offLink {s t : State} (h : offLink t = offLink s) : offGranary t = offGranary s := by
  unfold offGranary
  rw [h]

@[simp] theorem offGranary_onGr (f : Granary → Granary) (s : State) : offGranary (onGr f s) = offGranary s := rfl
@[simp] theorem offGranary_onLr (f : Larder → Larder) (s : State) : offGranary (onLr f s) = offGranary s := rfl
@[simp] theorem offGranary_onFl (f : Flash → Flash) (s : State) : offGranary (onFl f s) = offGranary s := rfl
@[simp] theorem offGranary_setBuf (k : Nat) (b : Buf) (s : State) : offGranary (setBuf k b s) = offGranary s := rfl
@[simp] theorem offGranary_tookFree (s : State) : offGranary (tookFree s) = offGranary s := rfl
@[simp] theorem offGranary_count (cnt ovf : Ref) (i n : Nat) (s : State) : offGranary (count cnt ovf i n s) = offGranary s :=
  offGranary_of_offLink (offLink_count cnt ovf i n s)
@[simp] theorem offGranary_raise (src sev : Nat) (ps : List Nat) (s : State) : offGranary (raise src sev ps s) = offGranary s :=
  offGranary_of_offLink (offLink_raise src sev ps s)

@[simp] theorem offGranary_grantBuf (p owner : Nat) (s : State) : offGranary (grantBuf p owner s) = offGranary s := by
  unfold grantBuf
  split
  · rfl
  · exact (onlyIf_keeps offGranary _ _ _ (fun t => offGranary_raise _ _ _ t)).trans (by simp)

@[simp] theorem offGranary_putItem_fresh (kind bytes a b n : Nat) (s : State) :
    offGranary (putItem.fresh kind bytes a b n s).2 = offGranary s := by
  simp [putItem.fresh, takeSegBuf]

@[simp] theorem offGranary_putItem (kind bytes a b : Nat) (s : State) : offGranary (putItem kind bytes a b s).2 = offGranary s := by
  unfold putItem
  dsimp only
  split
  · split <;> simp
  · simp

@[simp] theorem offGranary_putState (kind bytes a b : Nat) (s : State) : offGranary (putState kind bytes a b s) = offGranary s := by
  unfold putState
  dsimp only
  split <;> simp

@[simp] theorem offGranary_sendRecord (item : Nat × Nat) (f : TxFrame) (s : State) :
    offGranary (sendRecord item f s) = offGranary s := by
  unfold sendRecord
  split
  · exact (offGranary_of_offLink (offLink_sendFrame _ _)).trans (offGranary_onGr _ s)
  · rfl

/-- A record sent takes no buffer of the Larder. -/
@[simp] theorem sendRecord_lr (item : Nat × Nat) (f : TxFrame) (s : State) : (sendRecord item f s).lr = s.lr := by
  unfold sendRecord
  split
  · exact sendFrame_lr _ _
  · rfl

@[simp] theorem offGranary_journalAll (rs : List JRec) (s : State) : offGranary (journalAll rs s) = offGranary s := by
  unfold journalAll
  refine (onlyIf_keeps offGranary _ _ _ (fun t => ?_)).trans (by simp)
  exact forEach_keeps offGranary _ (fun p t => offGranary_sendRecord _ _ t) _ t

@[simp] theorem offGranary_journal (r : JRec) (s : State) : offGranary (journal r s) = offGranary s :=
  offGranary_journalAll [r] s

/-! ### Zone table deltas (10_granary.md R281) -/

@[simp] theorem zoneOf_modZone_same (key : Nat) (f : Zone → Zone) (s : State) : zoneOf (modZone key f s) key = f (zoneOf s key) := by
  simp [zoneOf, modZone]

theorem zoneOf_modZone_other {k key : Nat} (h : k ≠ key) (f : Zone → Zone) (s : State) : zoneOf (modZone key f s) k = zoneOf s k := by
  simp [zoneOf, modZone, tget_tmod_other h]

/-- What leaves all but the Granary's part as it was leaves the zones. -/
theorem zoneOf_of_offGranary {s t : State} (h : offGranary t = offGranary s) (k : Nat) : zoneOf t k = zoneOf s k :=
  (congrArg (fun u => zoneOf u k) h :)

/-- A state without what a zone table delta may change: what the Granary's bookkeeping may, and the zone table. -/
def offZones (s : State) : State := { offGranary s with ze := { s.ze with zones := [] } }

theorem offZones_of_offGranary {s t : State} (h : offGranary t = offGranary s) : offZones t = offZones s :=
  congrArg (fun u => { u with ze := { u.ze with zones := [] } }) h

/-- The delta placed where the zone has none since the last checkpoint. -/
def placeDelta (key : Nat) (s : State) : State :=
  if (zoneOf s key).deltas then s else modZone key (fun z => { z with deltas := true }) (putState 3 4096 key 0 s)

/-- The journal record of a zone's state, under the floor of R285. -/
def journalDelta (key : Nat) (s : State) : State :=
  if s.gr.limited then
    s |> journal { typ := 15, aux := key } |> modZone key (fun z => { z with jseq := s.fl.journal.length + 1 })
      |> onFl (fun f => { f with jZones := tset (s.fl.journal.length + 1) (key, zoneOf s key) f.jZones })
  else s

/-- A delta is placed, journalled under the floor of R285, and sent. -/
theorem noteDelta_eq (key : Nat) (s : State) :
    ∃ f, noteDelta key s = sendRecord (deltaItem key) f (journalDelta key (placeDelta key s)) := ⟨_, rfl⟩

@[simp] theorem offZones_placeDelta (key : Nat) (s : State) : offZones (placeDelta key s) = offZones s := by
  unfold placeDelta
  split
  · rfl
  · exact (offZones_of_offGranary (offGranary_putState 3 4096 key 0 s) :)

@[simp] theorem offZones_journalDelta (key : Nat) (s : State) : offZones (journalDelta key s) = offZones s := by
  unfold journalDelta
  split
  · exact (offZones_of_offGranary (offGranary_journal { typ := 15, aux := key } s) :)
  · rfl

@[simp] theorem offZones_noteDelta (key : Nat) (s : State) : offZones (noteDelta key s) = offZones s := by
  obtain ⟨f, h⟩ := noteDelta_eq key s
  rw [h, offZones_of_offGranary (offGranary_sendRecord _ f _), offZones_journalDelta, offZones_placeDelta]

@[simp] theorem noteDelta_ce (key : Nat) (s : State) : (noteDelta key s).ce = s.ce := (congrArg State.ce (offZones_noteDelta key s) :)
@[simp] theorem noteDelta_ci (key : Nat) (s : State) : (noteDelta key s).ci = s.ci := (congrArg State.ci (offZones_noteDelta key s) :)
@[simp] theorem noteDelta_dm (key : Nat) (s : State) : (noteDelta key s).dm = s.dm := (congrArg State.dm (offZones_noteDelta key s) :)
@[simp] theorem noteDelta_bands (key : Nat) (s : State) : (noteDelta key s).ze.bands = s.ze.bands :=
  (congrArg (fun t => t.ze.bands) (offZones_noteDelta key s) :)

theorem zoneOf_placeDelta_other {k key : Nat} (hk : k ≠ key) (s : State) : zoneOf (placeDelta key s) k = zoneOf s k := by
  unfold placeDelta
  split
  · rfl
  · rw [zoneOf_modZone_other hk, zoneOf_of_offGranary (offGranary_putState 3 4096 key 0 s)]

theorem zoneOf_placeDelta_same (key : Nat) (s : State) : zoneOf (placeDelta key s) key = { zoneOf s key with deltas := true } := by
  unfold placeDelta
  split
  · next h => rw [← h]
  · rw [zoneOf_modZone_same, zoneOf_of_offGranary (offGranary_putState 3 4096 key 0 s)]

theorem zoneOf_journalDelta_other {k key : Nat} (hk : k ≠ key) (s : State) : zoneOf (journalDelta key s) k = zoneOf s k := by
  unfold journalDelta
  split
  · exact (zoneOf_modZone_other hk _ _).trans (zoneOf_of_offGranary (offGranary_journal _ s) k)
  · rfl

theorem zoneOf_journalDelta_same (key : Nat) (s : State) :
    ∃ n, zoneOf (journalDelta key s) key = { zoneOf s key with jseq := n } := by
  unfold journalDelta
  split
  · refine ⟨s.fl.journal.length + 1, (zoneOf_modZone_same _ _ _).trans ?_⟩
    rw [zoneOf_of_offGranary (offGranary_journal _ s) key]
  · exact ⟨(zoneOf s key).jseq, rfl⟩

/-- A zone's delta changes no other zone. -/
theorem zoneOf_noteDelta_other {k key : Nat} (hk : k ≠ key) (s : State) : zoneOf (noteDelta key s) k = zoneOf s k := by
  obtain ⟨f, h⟩ := noteDelta_eq key s
  rw [h, zoneOf_of_offGranary (offGranary_sendRecord _ f _), zoneOf_journalDelta_other hk, zoneOf_placeDelta_other hk]

/-- Of its own zone a delta changes its mark and the number of its journal record. -/
theorem zoneOf_noteDelta_same (key : Nat) (s : State) :
    ∃ n, zoneOf (noteDelta key s) key = { zoneOf s key with deltas := true, jseq := n } := by
  obtain ⟨f, h⟩ := noteDelta_eq key s
  obtain ⟨n, hn⟩ := zoneOf_journalDelta_same key (placeDelta key s)
  exact ⟨n, by rw [h, zoneOf_of_offGranary (offGranary_sendRecord _ f _), hn, zoneOf_placeDelta_same]⟩

/-- A zone that has a delta in the Granary takes no buffer for one more, where the floor of R285 is not in force. -/
theorem noteDelta_lr {key : Nat} {s : State} (hd : (zoneOf s key).deltas = true) (hl : s.gr.limited = false) :
    (noteDelta key s).lr = s.lr := by
  obtain ⟨f, h⟩ := noteDelta_eq key s
  rw [h, sendRecord_lr]
  simp [placeDelta, journalDelta, hd, hl]

/-! ### Key slots (06_cipher.md R170 to R176) -/

/-- A state without what a key slot's own changes may change: stored registers, the recorder and the slots. -/
def offCipher (s : State) : State := { s with rf := {}, att := {}, ci := {} }

@[simp] theorem offCipher_modSlot (k : Nat) (f : Slot → Slot) (s : State) : offCipher (modSlot k f s) = offCipher s := rfl
@[simp] theorem offCipher_count (cnt ovf : Ref) (i n : Nat) (s : State) : offCipher (count cnt ovf i n s) = offCipher s := by
  obtain ⟨_, h⟩ := count_only_regs cnt ovf i n s
  rw [h]; rfl
@[simp] theorem offCipher_raise (src sev : Nat) (ps : List Nat) (s : State) : offCipher (raise src sev ps s) = offCipher s := by
  obtain ⟨_, _, h⟩ := raise_only src sev ps s
  rw [h]; rfl

@[simp] theorem offCipher_markSlot (k : Nat) (s : State) : offCipher (markSlot k s) = offCipher s := by
  simp only [markSlot]
  split_ifs <;> simp

@[simp] theorem offCipher_settleSlot (k : Nat) (s : State) : offCipher (settleSlot k s) = offCipher s := by
  simp only [settleSlot]
  split
  · simp
  · split <;> simp

@[simp] theorem slotOf_modSlot_same (k : Nat) (f : Slot → Slot) (s : State) : slotOf (modSlot k f s) k = f (slotOf s k) := by
  simp [slotOf, modSlot]

theorem slotOf_of_ci {s t : State} (h : t.ci = s.ci) (k : Nat) : slotOf t k = slotOf s k := by
  simp [slotOf, h]

/-- Marking a counter does not move it. -/
theorem slotOf_markSlot_ctr (k : Nat) (s : State) : (slotOf (markSlot k s) k).ctr = (slotOf s k).ctr := by
  simp only [markSlot]
  split_ifs <;> simp [slotOf_of_ci (raise_ci _ _ _ _)]

/-- Where a slot has `n` counter values left, they are reserved: the counter moves past them, and nothing beside the cipher block changes. -/
theorem reserve_of_left {k n : Nat} {s : State} (h : n ≤ counterLeft (slotOf s k)) :
    ∃ t, reserve k n s = some ((slotOf s k).ctr, t) ∧ (slotOf t k).ctr = (slotOf s k).ctr + n ∧ offCipher t = offCipher s := by
  refine ⟨markSlot k (modSlot k (fun x => { x with ctr := x.ctr + n }) s), by simp [reserve, not_lt.2 h], ?_, by simp⟩
  rw [slotOf_markSlot_ctr, slotOf_modSlot_same]

theorem reserve_of_exhausted {k n : Nat} {s : State} (h : counterLeft (slotOf s k) < n) : reserve k n s = none := by
  simp [reserve, h]

/-! ### Contexts, and a status fixed (03_queues.md R78, R97, R98) -/

@[simp] theorem ctxOf_modCtx_same (c : Nat) (f : Ctx → Ctx) (s : State) : ctxOf (modCtx c f s) c = (ctxOf s c).map f := by
  simp [ctxOf, modCtx, tfind_talter_same]

theorem ctxOf_modCtx_other {d c : Nat} (h : d ≠ c) (f : Ctx → Ctx) (s : State) : ctxOf (modCtx c f s) d = ctxOf s d := by
  simp [ctxOf, modCtx, tfind_talter_other h]

theorem ctxOf_of_ce {s t : State} (h : t.ce = s.ce) (c : Nat) : ctxOf t c = ctxOf s c := by simp [ctxOf, h]

/-- A state without what the end of a command may change: stored registers, the recorder and the rest of the Attic, and the command engine. -/
def offEngine (s : State) : State := { s with rf := {}, att := {}, ce := {} }

@[simp] theorem offEngine_onCe (f : Engine → Engine) (s : State) : offEngine (onCe f s) = offEngine s := rfl
@[simp] theorem offEngine_onAtt (f : Attic → Attic) (s : State) : offEngine (onAtt f s) = offEngine s := rfl
@[simp] theorem offEngine_modCtx (c : Nat) (f : Ctx → Ctx) (s : State) : offEngine (modCtx c f s) = offEngine s := rfl
@[simp] theorem offEngine_modSq (fn q : Nat) (f : Sq → Sq) (s : State) : offEngine (modSq fn q f s) = offEngine s := rfl
@[simp] theorem offEngine_modFn (fn : Nat) (f : Fn → Fn) (s : State) : offEngine (modFn fn f s) = offEngine s := rfl
@[simp] theorem offEngine_wrb (r : Ref) (i : Nat) (b : Bool) (s : State) : offEngine (wrb r i b s) = offEngine s := rfl
@[simp] theorem offEngine_raise (src sev : Nat) (ps : List Nat) (s : State) : offEngine (raise src sev ps s) = offEngine s := by
  obtain ⟨_, _, h⟩ := raise_only src sev ps s
  rw [h]; rfl

@[simp] theorem offEngine_sendAsync (fn : Nat) (ev : Nat × Nat × Nat) (s : State) : offEngine (sendAsync fn ev s) = offEngine s := by
  unfold sendAsync
  split <;> simp

@[simp] theorem offEngine_freezeQueue (c : Nat) (s : State) : offEngine (freezeQueue c s) = offEngine s := by
  simp only [freezeQueue]
  split
  · rfl
  split
  · rfl
  split
  · rfl
  split
  · rfl
  split
  · split
    · rw [offEngine_raise, offEngine_wrb, offEngine_modSq]
    · rw [offEngine_sendAsync, offEngine_modFn, offEngine_raise, offEngine_wrb, offEngine_modSq]
  · split
    · rw [offEngine_raise, offEngine_modSq]
    · rfl

@[simp] theorem offEngine_freeCtx (c : Nat) (s : State) : offEngine (freeCtx c s) = offEngine s := by
  unfold freeCtx
  split <;> simp

@[simp] theorem offEngine_tunnelReply (x : Ctx) (s : State) : offEngine (tunnelReply x s) = offEngine s := by
  unfold tunnelReply miRespond
  split <;> simp

/-- The end of a command changes nothing beside the command engine, the events and the management endpoint. -/
@[simp] theorem offEngine_complete (c : Nat) (st : Status) (dw0 dw1 : Nat) (s : State) :
    offEngine (complete c st dw0 dw1 s) = offEngine s := by
  simp only [complete]
  split
  · rfl
  split_ifs <;> simp

/-- An Asynchronous Event Request that waits is started: an event ends no command whose status is fixed. -/
theorem ctxOf_sendAsync_of_completed {c : Nat} {s : State} {y : Ctx} (hc : ctxOf s c = some y) (hst : y.st = .completed)
    (fn : Nat) (ev : Nat × Nat × Nat) : ctxOf (sendAsync fn ev s) c = some y := by
  unfold sendAsync
  split
  · next d hd =>
    have hne : c ≠ d := by
      rintro rfl
      have hw := List.find?_some hd
      simp [hc, hst] at hw
    rw [ctxOf_modCtx_other hne, hc]
  · exact hc

/-- The freezing of a queue leaves the command that froze it. -/
theorem ctxOf_freezeQueue_of_completed {c : Nat} {s : State} {y : Ctx} (hc : ctxOf s c = some y) (hst : y.st = .completed) :
    ctxOf (freezeQueue c s) c = some y := by
  have hraise (src sev : Nat) (ps : List Nat) (t : State) : ctxOf (raise src sev ps t) c = ctxOf t c :=
    ctxOf_of_ce (raise_ce src sev ps t) c
  have hsq (fn q : Nat) (f : Sq → Sq) (t : State) : ctxOf (modSq fn q f t) c = ctxOf t c := rfl
  have hwrb (r : Ref) (i : Nat) (b : Bool) (t : State) : ctxOf (wrb r i b t) c = ctxOf t c := rfl
  have hfn (fn : Nat) (f : Fn → Fn) (t : State) : ctxOf (modFn fn f t) c = ctxOf t c := rfl
  simp only [freezeQueue, hc]
  split
  · exact hc
  split
  · exact hc
  split
  · exact hc
  split
  · split
    · simp [hraise, hsq, hwrb, hc]
    · exact ctxOf_sendAsync_of_completed (by simp [hraise, hsq, hwrb, hfn, hc]) hst _ _
  · split
    · simp [hraise, hsq, hc]
    · exact hc

/-- A started command that no squash has overtaken ends with the status fixed for it. -/
theorem complete_ended {c : Nat} {s : State} {x : Ctx} (hc : ctxOf s c = some x) (ht : x.tunnel = false)
    (hf : ctxFresh s x = true) (hst : x.st = .started) (st : Status) (dw0 dw1 : Nat) :
    Safety.Ended (complete c st dw0 dw1 s) c st dw0 := by
  have hrun : complete c st dw0 dw1 s =
      freezeQueue c (modCtx c (fun x => { x with st := .completed, status := st, dw0 := dw0, dw1 := dw1, inFw := false }) s) := by
    simp [complete, hc, ht, hf, hst]
  rw [hrun]
  exact ⟨_, ctxOf_freezeQueue_of_completed (by rw [ctxOf_modCtx_same, hc]; rfl) rfl, rfl, rfl, rfl⟩

/-- A failure changes nothing beside the command engine, the events and the management endpoint. -/
@[simp] theorem offEngine_failAt (c : Nat) (st : Status) (cause : Nat) (zone lba : Option Nat) (s : State) :
    offEngine (failAt c st cause zone lba s) = offEngine s := by simp [failAt]

/-- A started command that fails ends with the failure's status. -/
theorem failAt_ended {c : Nat} {s : State} {x : Ctx} (hc : ctxOf s c = some x) (ht : x.tunnel = false)
    (hf : ctxFresh s x = true) (hst : x.st = .started) (st : Status) (cause : Nat) (zone lba : Option Nat) :
    Safety.Ended (failAt c st cause zone lba s) c st 0 :=
  complete_ended (x := { x with cause := cause, errZone := zone, errLba := lba })
    (s := modCtx c (fun x => { x with cause := cause, errZone := zone, errLba := lba }) s)
    (by rw [ctxOf_modCtx_same, hc]; rfl) ht hf hst st 0 0

/-! ### The captures of a command ended (06_cipher.md R171) -/

/-- What is left when a command's captures end: the command without them, the functions, the zones and the Granary. -/
theorem ctxOf_dropKeys {c : Nat} {s : State} {x : Ctx} (hc : ctxOf s c = some x) :
    ctxOf (dropKeys c s) c = some { x with keys := [] } ∧ (dropKeys c s).ce.fns = s.ce.fns ∧ (dropKeys c s).ze = s.ze ∧
      (dropKeys c s).gr = s.gr := by
  have hoff : offCipher (dropKeys c s) = offCipher (modCtx c (fun x => { x with keys := [] }) s) := by
    simp only [dropKeys, hc]
    exact forEach_keeps offCipher settleSlot (fun k t => offCipher_settleSlot k t) _ _
  have hce : (dropKeys c s).ce = (modCtx c (fun x => { x with keys := [] }) s).ce := (congrArg State.ce hoff :)
  refine ⟨?_, by rw [hce]; rfl, (congrArg State.ze hoff :), (congrArg State.gr hoff :)⟩
  rw [ctxOf_of_ce hce, ctxOf_modCtx_same, hc]
  rfl

end Sys2Proof.Machine

/-! PROOFS. The statement of the validation of writes: the place that a write takes, and the checks that it fails (02_zones.md R58, R59,
03_queues.md R81, R94, R95). -/

namespace Sys2Proof.Machine

/-! ### A zone bound to a band (02_zones.md R51, R56) -/

/-- A state without what the binding of a band may change: stored registers, the recorder, and the zone engine's tables. -/
def offBands (s : State) : State := { s with rf := {}, att := {}, ze := {} }

@[simp] theorem offBands_raise (src sev : Nat) (ps : List Nat) (s : State) : offBands (raise src sev ps s) = offBands s := by
  obtain ⟨_, _, h⟩ := raise_only src sev ps s
  rw [h]; rfl

/-- A band taken off a free-band list changes the list and may raise an event. -/
theorem fblTake_keeps (d b : Nat) (s : State) :
    offBands (fblTake d b s) = offBands s ∧ (fblTake d b s).ze.zones = s.ze.zones := by
  simp only [fblTake, fblDrop]
  split_ifs
  · exact ⟨rfl, rfl⟩
  · rw [offBands_raise, raise_ze]
    exact ⟨rfl, rfl⟩
  · exact ⟨rfl, rfl⟩

theorem zoneOf_fblTake (d b k : Nat) (s : State) : zoneOf (fblTake d b s) k = zoneOf s k := by
  simp [zoneOf, (fblTake_keeps d b s).2]

theorem zoneOf_modBand (b : Nat) (f : Band → Band) (k : Nat) (s : State) : zoneOf (modBand b f s) k = zoneOf s k := rfl

@[simp] theorem offBands_onZe (f : ZoneEngine → ZoneEngine) (s : State) : offBands (onZe f s) = offBands s := rfl

@[simp] theorem offBands_bindBand (key b : Nat) (s : State) : offBands (bindBand key b s) = offBands s := by
  simp only [bindBand, modZone, modBand, offBands_onZe]
  exact (fblTake_keeps _ b s).1

/-- The zone that a band is bound to takes the shape in effect and the band's width (R47, R51). -/
theorem zoneOf_bindBand_same (key b : Nat) (s : State) : zoneOf (bindBand key b s) key =
    { zoneOf s key with band := some b, shape := some (shapeOf s (zNsid key) (zoneOf s key)), width := dataWidth s b } := by
  simp only [bindBand, zoneOf_modZone_same, zoneOf_modBand, zoneOf_fblTake]

theorem zoneOf_bindBand_other {k key : Nat} (hk : k ≠ key) (b : Nat) (s : State) : zoneOf (bindBand key b s) k = zoneOf s k := by
  simp only [bindBand, zoneOf_modZone_other hk, zoneOf_modBand, zoneOf_fblTake]

/-- The band names the zone it is bound to. -/
theorem bandOf_bindBand_same (key b : Nat) (s : State) : (bandOf (bindBand key b s) b).zone = some (zNsid key, zIdx key) := by
  simp [bindBand, bandOf, modBand, modZone]

/-! ### A write takes its place (02_zones.md R59) -/

/-- The shape in effect in a zone (R47). -/
def shapeIn (s : State) (key : Nat) : Shape := shapeOf s (zNsid key) (zoneOf s key)

theorem shapeIn_eq (s : State) (key : Nat) : shapeOf s (zNsid key) (zoneOf s key) = shapeIn s key := rfl

/-- A zone with a write, validated in state `s`, behind the others of its queue. -/
def withWrite (s : State) (c key : Nat) (e : Entry) (ticket stamp : Nat) (z : Zone) : Zone :=
  { z with st := if isOpen z.st then z.st else .implOpen, vp := (zoneOf s key).vp + writeNlb e, queue := z.queue ++ [c], lastWrite := stamp,
           tickets := if ticket = 0 then z.tickets
             else pushTicket { ticket := ticket, lba := (zoneOf s key).vp, nlb := writeNlb e, ctx := c } z.tickets }

/-- The context of a write, validated in state `s`, with its place, the key that it captured and its counter values. -/
def withPlace (s : State) (key : Nat) (e : Entry) (g ticket : Nat) (ceil : Bool) (x : Ctx) : Ctx :=
  { x with nsid := zNsid key, zone := zIdx key, first := (zoneOf s key).vp, nlb := writeNlb e, validated := true, ticket := ticket,
           inFw := false, keys := x.keys ++ [((shapeIn s key).keySlot, g)], ctr := (slotOf s (shapeIn s key).keySlot).ctr,
           ctrLeft := valuesFor (shapeIn s key) (writeNlb e), waitCeil := ceil }

/-- What follows in `validateIn` once a write's counter values are reserved and its zone has its band. -/
def takePlace (c key slot : Nat) (ceil : Bool) (fz : Zone → Zone) (fc : Ctx → Ctx) (s : State) : State :=
  s |> modZone key fz |> onZe (fun e => { e with stamp := e.stamp + 1 }) |> modCtx c fc |> onlyIf ceil (raise 267 sevWarning [slot])
    |> noteDelta key

section
variable (c key slot : Nat) (ceil : Bool) (fz : Zone → Zone) (fc : Ctx → Ctx) (s : State)

/-- The state in which `takePlace` notes the zone's delta. -/
theorem takePlace_eq : ∃ t, takePlace c key slot ceil fz fc s = noteDelta key t ∧ t.ce = (modCtx c fc s).ce ∧
    (∀ k, zoneOf t k = zoneOf (modZone key fz s) k) ∧ t.ze.bands = s.ze.bands ∧ t.ci = s.ci ∧ t.dm = s.dm ∧ t.lr = s.lr ∧ t.gr = s.gr := by
  refine ⟨_, rfl, ?_⟩
  cases ceil
  · simp only [onlyIf_false]
    exact ⟨rfl, fun k => rfl, rfl, rfl, rfl, rfl, rfl⟩
  · simp only [onlyIf_true, zoneOf, raise_ce, raise_ze, raise_ci, raise_dm, raise_lr, raise_gr]
    exact ⟨rfl, fun k => rfl, rfl, rfl, rfl, rfl, rfl⟩

theorem ctxOf_takePlace : ctxOf (takePlace c key slot ceil fz fc s) c = (ctxOf s c).map fc := by
  obtain ⟨t, ht, hce, -⟩ := takePlace_eq c key slot ceil fz fc s
  rw [ht, ctxOf_of_ce (noteDelta_ce key t), ctxOf_of_ce hce, ctxOf_modCtx_same]

theorem takePlace_sqs : (takePlace c key slot ceil fz fc s).ce.sqs = s.ce.sqs := by
  obtain ⟨t, ht, hce, -⟩ := takePlace_eq c key slot ceil fz fc s
  rw [ht, noteDelta_ce, hce]
  rfl

theorem zoneOf_takePlace_same :
    ∃ n, zoneOf (takePlace c key slot ceil fz fc s) key = { fz (zoneOf s key) with deltas := true, jseq := n } := by
  obtain ⟨t, ht, -, hz, -⟩ := takePlace_eq c key slot ceil fz fc s
  obtain ⟨n, hn⟩ := zoneOf_noteDelta_same key t
  exact ⟨n, by rw [ht, hn, hz, zoneOf_modZone_same]⟩

theorem zoneOf_takePlace_other {k : Nat} (hk : k ≠ key) : zoneOf (takePlace c key slot ceil fz fc s) k = zoneOf s k := by
  obtain ⟨t, ht, -, hz, -⟩ := takePlace_eq c key slot ceil fz fc s
  rw [ht, zoneOf_noteDelta_other hk, hz, zoneOf_modZone_other hk]

theorem takePlace_keeps : (takePlace c key slot ceil fz fc s).ze.bands = s.ze.bands ∧ (takePlace c key slot ceil fz fc s).ci = s.ci ∧
    (takePlace c key slot ceil fz fc s).dm = s.dm := by
  obtain ⟨t, ht, -, -, hb, hci, hdm, -⟩ := takePlace_eq c key slot ceil fz fc s
  rw [ht, noteDelta_bands, noteDelta_ci, noteDelta_dm]
  exact ⟨hb, hci, hdm⟩

/-- No buffer is taken where the zone's delta is in the Granary already. -/
theorem takePlace_lr (hd : (fz (zoneOf s key)).deltas = true) (hl : s.gr.limited = false) :
    (takePlace c key slot ceil fz fc s).lr = s.lr := by
  obtain ⟨t, ht, -, hz, -, -, -, hlr, hgr⟩ := takePlace_eq c key slot ceil fz fc s
  rw [ht, noteDelta_lr (by rw [hz, zoneOf_modZone_same, hd]) (by rw [hgr, hl]), hlr]

end

/-- The band chosen for a zone that leaves Empty is bound; a zone that has one keeps it. -/
def bindChosen (key : Nat) : Option Nat → State → State
  | none, s => s
  | some b, s => bindBand key b s

section
variable (key : Nat) (band : Option Nat) (s : State)

@[simp] theorem offBands_bindChosen : offBands (bindChosen key band s) = offBands s := by
  cases band
  · rfl
  · exact offBands_bindBand key _ s

theorem zoneOf_bindChosen_other {k : Nat} (hk : k ≠ key) : zoneOf (bindChosen key band s) k = zoneOf s k := by
  cases band
  · rfl
  · exact zoneOf_bindBand_other hk _ s

/-- Binding leaves a zone's state, its write pointer, its queue and its delta's mark. -/
theorem zoneOf_bindChosen_same : (zoneOf (bindChosen key band s) key).st = (zoneOf s key).st ∧
    (zoneOf (bindChosen key band s) key).wp = (zoneOf s key).wp ∧ (zoneOf (bindChosen key band s) key).queue = (zoneOf s key).queue ∧
    (zoneOf (bindChosen key band s) key).deltas = (zoneOf s key).deltas := by
  cases band
  · exact ⟨rfl, rfl, rfl, rfl⟩
  · simp only [bindChosen, zoneOf_bindBand_same, and_self]

end

section
variable {s : State} {key g : Nat} {band : Option Nat} {e : Entry} (c ticket : Nat)

/-- Where an append or another write starts, in the terms of `validateIn`. -/
theorem start_eq (s : State) (key : Nat) (e : Entry) :
    (if (e.opc == 0x7D) = true then (zoneOf s key).vp else eSlba e % zoneLbas) = Safety.startOf s key e := by
  simp [Safety.startOf]

/-- State `r` is state `s` with the counter values of a write reserved (06_cipher.md R174). -/
def Reserved (s r : State) (key : Nat) (e : Entry) : Prop :=
  offCipher r = offCipher s ∧
  (slotOf r (shapeIn s key).keySlot).ctr = (slotOf s (shapeIn s key).keySlot).ctr + valuesFor (shapeIn s key) (writeNlb e)

/-- A write that passes steps 5 to 7 of R59 has its counter values reserved and takes its place at the validation pointer. -/
theorem validateIn_of_fits (hfit : Safety.Fits s key band e g) :
    ∃ r ceil stamp, Reserved s r key e ∧
      validateIn c key (e.opc == 0x7D) (eSlba e % zoneLbas) (writeNlb e) ticket band s =
        .ok (takePlace c key (shapeIn s key).keySlot ceil (withWrite s c key e ticket stamp) (withPlace s key e g ticket ceil)
          (bindChosen key band r)) := by
  obtain ⟨hstart, hcap, hkey, hleft⟩ := hfit
  obtain ⟨r, hres, hctr, hoff⟩ := reserve_of_left hleft
  rw [hstart] at hcap
  refine ⟨r, pastCeil r (shapeIn s key).keySlot
    ((slotOf s (shapeIn s key).keySlot).ctr + valuesFor (shapeIn s key) (writeNlb e) - 1), r.ze.stamp + 1, ⟨hoff, hctr⟩, ?_⟩
  simp only [validateIn, start_eq, hstart, gt_iff_lt, not_lt.2 hcap, if_false, bne_self_eq_false, Bool.false_eq_true, hkey, hres]
  cases band <;> rfl

/-- The status of the first of steps 5 to 7 of R59 that a write does not pass. -/
def misfit (s : State) (key : Nat) (band : Option Nat) (e : Entry) : Status :=
  if zcapOf s (shapeIn s key) ((band.map (dataWidth s)).getD (zoneOf s key).width) < Safety.startOf s key e + writeNlb e then stBoundary
  else if Safety.startOf s key e ≠ (zoneOf s key).vp then stInvalidWrite
  else if captureGen s (shapeIn s key).keySlot = none then stKeyUnavailable else stKeyExhausted

/-- A write that does not pass steps 5 to 7 of R59 fails, and changes nothing. -/
theorem validateIn_of_not_fits (hfit : ∀ g, ¬ Safety.Fits s key band e g) :
    ∃ cause, validateIn c key (e.opc == 0x7D) (eSlba e % zoneLbas) (writeNlb e) ticket band s = .fail (misfit s key band e) cause s := by
  simp only [validateIn, start_eq, gt_iff_lt, shapeIn_eq, misfit]
  by_cases hcap : zcapOf s (shapeIn s key) ((band.map (dataWidth s)).getD (zoneOf s key).width) <
      Safety.startOf s key e + writeNlb e
  · exact ⟨10, by rw [if_pos hcap, if_pos hcap]⟩
  rw [if_neg hcap, if_neg hcap]
  by_cases hstart : Safety.startOf s key e = (zoneOf s key).vp
  · cases hkey : captureGen s (shapeIn s key).keySlot with
    | none => exact ⟨6, by simp [hstart]⟩
    | some g =>
      have hleft : counterLeft (slotOf s (shapeIn s key).keySlot) <
          valuesFor (shapeIn s key) (writeNlb e) :=
        not_le.1 fun hle => hfit g ⟨hstart, not_lt.1 hcap, hkey, hle⟩
      exact ⟨7, by simp [hstart, reserve_of_exhausted hleft]⟩
  · exact ⟨10, by simp [hstart]⟩

/-- Steps 5 to 7 of R59 wait for nothing. -/
theorem validateIn_ne_wait (s : State) (key : Nat) (band : Option Nat) (e : Entry) (t : State) :
    validateIn c key (e.opc == 0x7D) (eSlba e % zoneLbas) (writeNlb e) ticket band s ≠ .wait t := by
  by_cases hfit : ∃ g, Safety.Fits s key band e g
  · obtain ⟨g, hg⟩ := hfit
    obtain ⟨r, ceil, stamp, -, h⟩ := validateIn_of_fits c ticket hg
    simp [h]
  · obtain ⟨cause, h⟩ := validateIn_of_not_fits c ticket (not_exists.1 hfit)
    simp [h]

end

/-! ### What leaves a zone's transition to its end (02_zones.md R49, R56, R58) -/

section
variable {s : State} {c fn key : Nat}

/-- Where the grants of a transition hold, and what follows does not wait, the transition goes on (R49). -/
theorem leaveGrants_of_granted {k : State → ZRes} (hk : ∀ t, k s ≠ .wait t)
    (hgr : (zoneOf s key).st = .empty → (zoneOf s key).shape.isSome = true ∨
      domExists s (shapeOf s (zNsid key) (zoneOf s key)).domain = true ∧
      domGranted (fnOf s fn) (shapeOf s (zNsid key) (zoneOf s key)).domain = true ∧
      slotGranted (fnOf s fn) (shapeOf s (zNsid key) (zoneOf s key)).keySlot = true) :
    leaveGrants c fn key s k = k s := by
  simp only [leaveGrants]
  split
  · rfl
  · next hst =>
    obtain ⟨hempty, hshape⟩ : (zoneOf s key).st = .empty ∧ ¬ (zoneOf s key).shape.isSome = true := by simpa using hst
    obtain ⟨hdom, hdg, hsg⟩ := (hgr hempty).resolve_left hshape
    simp only [hdom, hdg, hsg, Bool.and_self, Bool.not_true, Bool.false_eq_true, if_false, ite_self]

/-- Where the open and active resources suffice, no zone is closed for them (R58). -/
theorem withResources_of_room {needOpen : Bool} (k : State → ZRes) (ha : (zoneOf s key).st = .empty → Safety.RoomActive s (zNsid key))
    (ho : needOpen = true → Safety.RoomOpen s (zNsid key)) : withResources c key needOpen s k = k s := by
  have hact : ((zoneOf s key).st == .empty && decide (16384 ≤ activeNow s ∨ ((nsOf s (zNsid key)).getD {}).mar ≤ nsActive s (zNsid key))) = false := by
    by_cases hst : (zoneOf s key).st = .empty
    · obtain ⟨h1, h2⟩ := ha hst
      simp [hst]; omega
    · simp [hst]
  have hopn : (needOpen && decide (4096 ≤ openNow s ∨ ((nsOf s (zNsid key)).getD {}).mor ≤ nsOpen s (zNsid key))) = false := by
    cases needOpen with
    | false => rfl
    | true =>
      obtain ⟨h1, h2⟩ := ho rfl
      simp; omega
  simp only [withResources, hact, hopn, Bool.false_eq_true, if_false]

/-- Where a band can be chosen, it is taken (R56). -/
theorem withBand_of_chosen {fw : Bool} {b : Nat} (implicit : Bool) (k : Nat → State → ZRes)
    (hb : chooseBand s (shapeOf s (zNsid key) (zoneOf s key)).domain fw = some b) : withBand c fn key fw implicit s k = k b s := by
  simp [withBand, hb]

/-- A zone that takes writes puts them to steps 5 to 7 of R59, with the band that it will have. -/
theorem validate_of_takesWrites {fw : Bool} {band : Option Nat} (ticket : Nat) (e : Entry) (ht : Safety.TakesWrites s fn key fw band) :
    validate c fn key (e.opc == 0x7D) (eSlba e % zoneLbas) (writeNlb e) ticket fw s =
      validateIn c key (e.opc == 0x7D) (eSlba e % zoneLbas) (writeNlb e) ticket band s := by
  obtain ⟨hwait, hheld, hreb, hstop, hcase⟩ := ht
  have hnw := validateIn_ne_wait c ticket s key band e
  rcases hcase with ⟨hopen, rfl⟩ | ⟨hclosed, hroom, rfl⟩ | ⟨b, ⟨hempty, hact, hgr, hb⟩, hroom, rfl⟩
  · cases hst : (zoneOf s key).st with
    | implOpen | explOpen =>
      simp only [validate, hwait, hheld, hreb, hstop, hst, List.isEmpty_nil, Bool.not_true, Bool.or_self, Bool.false_eq_true, if_false]
      exact leaveGrants_of_granted hnw (by simp [hst])
    | empty | closed | full | readOnly | offline => simp [hst, isOpen] at hopen
  · simp only [validate, hwait, hheld, hreb, hstop, hclosed, List.isEmpty_nil, Bool.not_true, Bool.or_self, Bool.false_eq_true, if_false]
    have hres := withResources_of_room (c := c) (needOpen := true)
      (fun s => validateIn c key (e.opc == 0x7D) (eSlba e % zoneLbas) (writeNlb e) ticket none s) (by simp [hclosed]) (fun _ => hroom)
    refine Eq.trans (leaveGrants_of_granted (fun t h => hnw t (Eq.trans hres.symm h)) (fun h => ?_)) hres
    exact absurd (hclosed.symm.trans h) (by decide)
  · simp only [validate, hwait, hheld, hreb, hstop, hempty, List.isEmpty_nil, Bool.not_true, Bool.or_self, Bool.false_eq_true, if_false]
    have hres := withResources_of_room (c := c) (needOpen := true)
      (fun s => withBand c fn key fw true s (fun b s =>
        validateIn c key (e.opc == 0x7D) (eSlba e % zoneLbas) (writeNlb e) ticket (some b) s)) (fun _ => hact) (fun _ => hroom)
    have hband := hres.trans (withBand_of_chosen true _ hb)
    exact Eq.trans (leaveGrants_of_granted (fun t h => hnw t (Eq.trans hband.symm h)) (fun _ => hgr)) hband

end

/-! ### Write, Zone Append and Write Zeroes start (03_queues.md R81, R94, R95) -/

section
variable {s : State} {c key opc : Nat} {x : Ctx}

/-- A started write of the fast path in its turn is tried; out of its turn nothing happens. -/
theorem exec_write {i : Instr} (hi : (i, opc) ∈ [(Instr.write c, 0x01), (Instr.zoneAppend c, 0x7D), (Instr.writeZeroes c, 0x08)])
    (hx : Safety.IoRuns s c x opc) : exec i s = .next (startWrite c x s) := by
  obtain ⟨⟨hctx, hopc, hst, htun, -⟩, hsq⟩ := hx
  have hrow : onIo c opc (startWrite c) s = startWrite c x s := by simp [onIo, onStarted, startedWith, hctx, hopc, hst, htun, hsq]
  simp only [List.mem_cons, Prod.mk.injEq, List.not_mem_nil, or_false] at hi
  rcases hi with ⟨rfl, rfl⟩ | ⟨rfl, rfl⟩ | ⟨rfl, rfl⟩
  · rw [exec, execWrite, hrow]
  · rw [exec, execZoneAppend, hrow]
  · rw [exec, execWriteZeroes, hrow]

/-- The opcodes of the fast path's writes are none of Copy's and Peer Copy's. -/
theorem opc_of_write {i : Instr} (hi : (i, opc) ∈ [(Instr.write c, 0x01), (Instr.zoneAppend c, 0x7D), (Instr.writeZeroes c, 0x08)]) :
    opc ≠ 0x19 ∧ opc ≠ 0x85 := by
  simp only [List.mem_cons, Prod.mk.injEq, List.not_mem_nil, or_false] at hi
  rcases hi with ⟨-, rfl⟩ | ⟨-, rfl⟩ | ⟨-, rfl⟩ <;> decide

/-- What a write notes once it is validated: FUA, and of the fast path's writes that their data has arrived (R14). -/
def noteFua (e : Entry) (y : Ctx) : Ctx :=
  { y with fua := bit e.cdw12 30, waitTicket := false, arrived := if e.opc = 0x19 || e.opc = 0x85 then y.arrived else y.nlb }

theorem replayed_of_no_ticket (ht : ticketOf s x = 0) : replayed s key x = none := by simp [replayed, ht]

section
variable (hctx : ctxOf s c = some x) (hst : x.st = .started) (hval : x.validated = false) (hkey : zoneAt s x.e.nsid (eSlba x.e) = some key)
  (hrep : replayed s key x = none)
include hctx hst hval hkey hrep

/-- A write that is validated notes FUA, and its data has arrived where the fast path brings it. -/
theorem tryWrite_of_ok {fw : Bool} {t : State} (h : validate c x.fn key (x.e.opc == 0x7D) (eSlba x.e % zoneLbas) (writeNlb x.e) (ticketOf s x) fw s = .ok t) :
    tryWrite c fw s = modCtx c (noteFua x.e) t := by
  simp only [tryWrite, hctx, hst, hval, hkey, hrep, h, bne_self_eq_false, Bool.or_self, Bool.false_eq_true, if_false]
  rfl

/-- A write that fails its validation gives up its captures and ends. -/
theorem tryWrite_of_fail {fw : Bool} {st : Status} {cause : Nat} {t : State}
    (h : validate c x.fn key (x.e.opc == 0x7D) (eSlba x.e % zoneLbas) (writeNlb x.e) (ticketOf s x) fw s = .fail st cause t) :
    tryWrite c fw s = failAt c st cause (some (zIdx key)) (some (eSlba x.e)) (dropKeys c t) := by
  simp [tryWrite, hctx, hst, hval, hkey, hrep, h]

end

/-- A write whose validation fails ends with the failure's status, and neither zones nor Granary change. -/
theorem exec_write_of_fail {i : Instr} {st : Status} {cause : Nat}
    (hi : (i, opc) ∈ [(Instr.write c, 0x01), (Instr.zoneAppend c, 0x7D), (Instr.writeZeroes c, 0x08)]) (hx : Safety.IoRuns s c x opc)
    (hval : x.validated = false) (hmay : mayValidate s c x = true) (hkey : zoneAt s x.e.nsid (eSlba x.e) = some key)
    (hrep : replayed s key x = none)
    (h : validate c x.fn key (x.e.opc == 0x7D) (eSlba x.e % zoneLbas) (writeNlb x.e) (ticketOf s x) false s = .fail st cause s) :
    ∃ t, exec i s = .next t ∧ Safety.Ended t c st 0 ∧ t.ze = s.ze ∧ t.gr = s.gr := by
  obtain ⟨⟨hctx, -, hst, htun, hfresh⟩, -⟩ := id hx
  obtain ⟨hdrop, hfns, hze, hgr⟩ := ctxOf_dropKeys hctx
  have hoff := offEngine_failAt c st cause (some (zIdx key)) (some (eSlba x.e)) (dropKeys c s)
  refine ⟨_, exec_write hi hx, ?_⟩
  rw [startWrite, if_pos hmay, tryWrite_of_fail hctx hst hval hkey hrep h]
  refine ⟨failAt_ended hdrop htun ?_ hst _ _ _ _, (congrArg State.ze hoff).trans hze, (congrArg State.gr hoff).trans hgr⟩
  simpa [ctxFresh, fnOf, hfns] using hfresh

/-- A write's place taken in a zone, from the state `r` in which its counter values are reserved, and noted in its context. -/
def placed (s : State) (c key g : Nat) (e : Entry) (ticket stamp : Nat) (ceil : Bool) (band : Option Nat) (r : State) : State :=
  modCtx c (noteFua e) (takePlace c key (shapeIn s key).keySlot ceil (withWrite s c key e ticket stamp) (withPlace s key e g ticket ceil)
    (bindChosen key band r))

theorem zoneOf_placed_same (s : State) (c key g : Nat) (e : Entry) (ticket stamp : Nat) (ceil : Bool) (band : Option Nat) (r : State) :
    ∃ n, zoneOf (placed s c key g e ticket stamp ceil band r) key =
      { withWrite s c key e ticket stamp (zoneOf (bindChosen key band r) key) with deltas := true, jseq := n } :=
  zoneOf_takePlace_same c key _ ceil _ _ _

section
variable {g ticket stamp : Nat} {ceil : Bool} {band : Option Nat} {r : State} {e : Entry} (hr : Reserved s r key e)
include hr

theorem ctxOf_placed (hctx : ctxOf s c = some x) :
    ctxOf (placed s c key g e ticket stamp ceil band r) c = some (noteFua e (withPlace s key e g ticket ceil x)) := by
  have hce : (bindChosen key band r).ce = s.ce := (congrArg State.ce (offBands_bindChosen key band r) :).trans (congrArg State.ce hr.1 :)
  rw [placed, ctxOf_modCtx_same, ctxOf_takePlace, ctxOf_of_ce hce, hctx]
  rfl

/-- What a write that takes its place makes of its zone, its key slot and its context (R59). -/
theorem validated_placed (hctx : ctxOf s c = some x) (hst : x.st = .started) (he : x.e = e) :
    Safety.Validated s (placed s c key g e ticket stamp ceil band r) c key g x := by
  subst he
  have hz (k : Nat) : zoneOf r k = zoneOf s k := (congrArg (fun t => zoneOf t k) hr.1 :)
  have hci : (bindChosen key band r).ci = r.ci := (congrArg State.ci (offBands_bindChosen key band r) :)
  obtain ⟨hbst, hbwp, hbq, -⟩ := zoneOf_bindChosen_same key band r
  rw [hz] at hbst hbwp hbq
  obtain ⟨n, hn⟩ := zoneOf_placed_same s c key g x.e ticket stamp ceil band r
  refine ⟨⟨_, ctxOf_placed hr hctx, rfl, hst, rfl, rfl, rfl, rfl, rfl, by simp [noteFua, withPlace, shapeIn], rfl⟩, ?_, ?_, ?_, ?_, ?_,
    fun k hk => ?_⟩
  · rw [hn]; rfl
  · rw [hn]; exact hbwp
  · rw [hn]; simp [withWrite, hbq]
  · rw [hn]; simp [withWrite, hbst]
  · refine (congrArg Slot.ctr (slotOf_of_ci ?_ _)).trans hr.2
    exact (takePlace_keeps c key _ ceil _ _ _).2.1.trans hci
  · exact (zoneOf_takePlace_other c key _ ceil _ _ _ hk).trans ((zoneOf_bindChosen_other key band r hk).trans (hz k))

/-- A zone that leaves Empty is bound to its band with the shape in effect. -/
theorem band_placed (b : Nat) :
    (zoneOf (placed s c key g e ticket stamp ceil (some b) r) key).band = some b ∧
    (zoneOf (placed s c key g e ticket stamp ceil (some b) r) key).shape = some (shapeIn s key) ∧
    (bandOf (placed s c key g e ticket stamp ceil (some b) r) b).zone = some (zNsid key, zIdx key) := by
  have hshape : shapeIn r key = shapeIn s key := (congrArg (fun t => shapeIn t key) hr.1 :)
  have hbound : zoneOf (bindChosen key (some b) r) key = _ := zoneOf_bindBand_same key b r
  obtain ⟨n, hn⟩ := zoneOf_placed_same s c key g e ticket stamp ceil (some b) r
  have hbands : (placed s c key g e ticket stamp ceil (some b) r).ze.bands = (bindBand key b r).ze.bands :=
    (takePlace_keeps c key _ ceil _ _ _).1
  refine ⟨?_, ?_, ?_⟩
  · rw [hn, hbound]; rfl
  · rw [hn, hbound, ← hshape]; rfl
  · rw [bandOf, hbands]; exact bandOf_bindBand_same key b r

/-- A write that takes its place leaves the memories and the queues, and takes no buffer where its zone's delta is in the Granary already. -/
theorem placed_keeps : (placed s c key g e ticket stamp ceil band r).dm = s.dm ∧
    (placed s c key g e ticket stamp ceil band r).ce.sqs = s.ce.sqs ∧
    ((zoneOf s key).deltas = true → s.gr.limited = false → (placed s c key g e ticket stamp ceil band r).lr = s.lr) := by
  have hb := offBands_bindChosen key band r
  have hz : zoneOf r key = zoneOf s key := (congrArg (fun t => zoneOf t key) hr.1 :)
  refine ⟨?_, ?_, fun hd hl => ?_⟩
  · exact (takePlace_keeps c key _ ceil _ _ _).2.2.trans ((congrArg State.dm hb :).trans (congrArg State.dm hr.1 :))
  · exact (takePlace_sqs c key _ ceil _ _ _).trans ((congrArg (fun t => t.ce.sqs) hb :).trans (congrArg (fun t => t.ce.sqs) hr.1 :))
  · have hgr : (bindChosen key band r).gr = s.gr := (congrArg State.gr hb :).trans (congrArg State.gr hr.1 :)
    obtain ⟨-, -, -, hbd⟩ := zoneOf_bindChosen_same key band r
    refine (takePlace_lr c key _ ceil _ _ _ ?_ (by rw [hgr, hl])).trans ((congrArg State.lr hb :).trans (congrArg State.lr hr.1 :))
    exact (hbd.trans (congrArg Zone.deltas hz)).trans hd

end

/-- A write that its zone takes and that fits takes its place (R59). -/
theorem exec_write_of_fits {i : Instr} {g : Nat} {band : Option Nat}
    (hi : (i, opc) ∈ [(Instr.write c, 0x01), (Instr.zoneAppend c, 0x7D), (Instr.writeZeroes c, 0x08)]) (hx : Safety.IoRuns s c x opc)
    (hval : x.validated = false) (hmay : mayValidate s c x = true) (hkey : zoneAt s x.e.nsid (eSlba x.e) = some key)
    (hrep : replayed s key x = none) (htakes : Safety.TakesWrites s x.fn key false band) (hfit : Safety.Fits s key band x.e g) :
    ∃ r ceil stamp, Reserved s r key x.e ∧ exec i s = .next (placed s c key g x.e (ticketOf s x) stamp ceil band r) := by
  obtain ⟨⟨hctx, -, hst, -⟩, -⟩ := id hx
  obtain ⟨r, ceil, stamp, hr, hok⟩ := validateIn_of_fits c (ticketOf s x) hfit
  have hv := (validate_of_takesWrites (c := c) (ticketOf s x) x.e htakes).trans hok
  refine ⟨r, ceil, stamp, hr, (exec_write hi hx).trans ?_⟩
  rw [startWrite, if_pos hmay, tryWrite_of_ok hctx hst hval hkey hrep hv]
  rfl

/-- A zone that is Full, Read Only or Offline refuses a write at once (R59). -/
theorem validate_of_closed_state {fn first nlb ticket : Nat} {append fw : Bool} (hwait : (zoneOf s key).waiting = [])
    (hheld : bandHeld s key = false) (hreb : (zoneOf s key).rebuilding = false) {st : Status}
    (hst : ((zoneOf s key).st, st) ∈ [(ZState.full, stFull), (ZState.readOnly, stReadOnly), (ZState.offline, stOffline)]) :
    validate c fn key append first nlb ticket fw s = .fail st 10 s := by
  simp only [List.mem_cons, Prod.mk.injEq, List.not_mem_nil, or_false] at hst
  rcases hst with ⟨hz, rfl⟩ | ⟨hz, rfl⟩ | ⟨hz, rfl⟩
  all_goals simp [validate, hwait, hheld, hreb, hz]

/-- A replayed append whose original has its status, and as many LBAs, ends with the original's LBA and does nothing else (R95). -/
theorem exec_zoneAppend_of_replayed {k : Ticket} (hx : Safety.IoRuns s c x 0x7D) (hval : x.validated = false)
    (hmay : mayValidate s c x = true) (hkey : zoneAt s x.e.nsid (eSlba x.e) = some key) (hrep : replayed s key x = some k)
    (hfl : inFlight s k = false) (hnlb : k.nlb = eNlb x.e) :
    exec (.zoneAppend c) s = .next (modCtx c (fun y => { y with
      st := .completed, status := stReplayed, dw0 := (zIdx key * zoneLbas + k.lba) % 4294967296,
      dw1 := (zIdx key * zoneLbas + k.lba) / 4294967296, inFw := false }) s) := by
  obtain ⟨⟨hctx, hopc, hst, htun, hfresh⟩, hsq⟩ := id hx
  have hw : writeNlb x.e = eNlb x.e := by simp [writeNlb, hopc]
  rw [exec_write (by simp) hx, startWrite, if_pos hmay]
  have hfreeze : freezing stReplayed = false := by decide
  simp [tryWrite, hctx, hst, hval, hkey, hrep, hfl, hnlb, hw, complete, htun, hfresh, freezeQueue, hfreeze]

/-- Out of its turn, or once it is validated, a write is not tried again. -/
theorem startWrite_of_no_turn (hctx : ctxOf s c = some x) (h : mayValidate s c x = false ∨ x.validated = true) : startWrite c x s = s := by
  rcases h with h | h
  · simp [startWrite, h]
  · simp [startWrite, tryWrite, hctx, h]

end

/-- Settles O38: `validate` and `tryWrite` carried out by the checks of R59 in their order, with the place that a write which passes them
takes, and the end of one which fails. -/
theorem writesAreValidated : Obligations.WritesAreValidated := by
  unfold Obligations.WritesAreValidated
  refine ⟨?_, ?_, ?_, ?_, ?_⟩
  · intro s c x i opc key g band hi hx hval hmay hkey htk htakes hfit
    obtain ⟨⟨hctx, hopc, hst, -⟩, -⟩ := id hx
    obtain ⟨hcopy, hpeer⟩ := opc_of_write hi
    obtain ⟨r, ceil, stamp, hr, hexec⟩ := exec_write_of_fits hi hx hval hmay hkey (replayed_of_no_ticket htk) htakes hfit
    obtain ⟨hdm, hsqs, hlr⟩ := placed_keeps (c := c) (g := g) (ticket := ticketOf s x) (stamp := stamp) (ceil := ceil) (band := band) hr
    refine ⟨_, hexec, validated_placed hr hctx hst rfl, ⟨_, ctxOf_placed hr hctx, ?_⟩, ?_, hlr, hdm, hsqs⟩
    · simp [noteFua, hopc, hcopy, hpeer]
    · rintro b rfl
      exact band_placed hr b
  · intro s c x i opc key hi hx hval hmay hkey htk hwait hheld hreb st hst
    exact exec_write_of_fail hi hx hval hmay hkey (replayed_of_no_ticket htk) (validate_of_closed_state hwait hheld hreb hst)
  · intro s c x i opc key band hi hx hval hmay hkey htk htakes hfit
    obtain ⟨cause, hfail⟩ := validateIn_of_not_fits c (ticketOf s x) hfit
    obtain ⟨t, ht, hended, hze, hgr⟩ := exec_write_of_fail hi hx hval hmay hkey (replayed_of_no_ticket htk)
      ((validate_of_takesWrites (c := c) (ticketOf s x) x.e htakes).trans hfail)
    exact ⟨t, ht, hze, hgr, hended⟩
  · intro s c x key k hx hval hmay hkey hrep hfl hnlb
    obtain ⟨⟨hctx, -⟩, -⟩ := id hx
    exact ⟨_, exec_zoneAppend_of_replayed hx hval hmay hkey hrep hfl hnlb,
      ⟨_, by rw [ctxOf_modCtx_same, hctx]; rfl, rfl, rfl, rfl⟩, rfl⟩
  · intro s c x i opc hi hx h
    rw [exec_write hi hx, startWrite_of_no_turn hx.1.1 h]

end Sys2Proof.Machine

/-! PROOFS. The statements of Zone Management Send and Receive: a report that waits for a zone, and a Reset whose change finds no room
(12_memory.md R357, 10_granary.md R281, R308). -/

namespace Sys2Proof.Machine

/-! ### A report waits for a zone that is being rebuilt (12_memory.md R357) -/

/-- While a zone that a report may list is being rebuilt, REPORT_ZONES changes nothing. -/
theorem exec_reportZones_of_rebuilding {s : State} {c k : Nat} {x : Ctx} (hx : Safety.IoRuns s c x 0x7A)
    (hk : k ∈ zonesFrom s x.e.nsid (eSlba x.e / zoneLbas)) (hreb : (zoneOf s k).rebuilding = true) :
    exec (.reportZones c) s = .next s := by
  obtain ⟨⟨hctx, hopc, hst, htun, -⟩, hsq⟩ := hx
  have hany : (zonesFrom s x.e.nsid (eSlba x.e / zoneLbas)).any (fun k => (zoneOf s k).rebuilding) = true :=
    List.any_eq_true.2 ⟨k, hk, hreb⟩
  simp [exec, execReportZones, zmrRow, onIo, onStarted, startedWith, hctx, hopc, hst, htun, hsq, hany]

/-- A Report Zones of namespace 1 from its first LBA on. -/
def reportCmd : Ctx := { st := .started, sqid := 1, e := { opc := 0x7A, nsid := 1 } }

/-- The report runs in context 4096 while the table entry of zone 0 is being rebuilt. -/
def reportHeld : State :=
  { ce := { ctxs := [(4096, reportCmd)] },
    ze := { nss := [(1, { zones := 4, attached := some 0 })], zones := [(zKey 1 0, { rebuilding := true })] } }

/-- Refutes O41: its clause on Zone Management Receive does not except a report that waits for a zone table entry to be rebuilt
(12_memory.md R357). In `reportHeld` the command is still started after REPORT_ZONES. -/
theorem not_zonesAreShapedReportedAndCheckpointed : ¬ Obligations.ZonesAreShapedReportedAndCheckpointed := by
  unfold Obligations.ZonesAreShapedReportedAndCheckpointed
  rintro ⟨-, -, -, reportAnswered, -⟩
  have hruns : Safety.IoRuns reportHeld 4096 reportCmd 0x7A := ⟨⟨rfl, rfl, rfl, rfl, rfl⟩, by decide⟩
  obtain ⟨t, ht, ⟨y, hy, hdone, -⟩, -⟩ := reportAnswered reportHeld 4096 reportCmd (.reportZones 4096) 0 (by simp) hruns rfl
  have hwaits : exec (.reportZones 4096) reportHeld = .next reportHeld :=
    exec_reportZones_of_rebuilding (k := zKey 1 0) hruns (by decide) rfl
  obtain rfl : reportHeld = t := by injection hwaits.symm.trans ht
  obtain rfl : reportCmd = y := Option.some.inj hy
  exact absurd hdone (by decide)

/-! ### A Reset whose change finds no room (10_granary.md R281, R308) -/

/-- A Reset of zone 0 of namespace 1. -/
def resetCmd : Ctx := { st := .started, sqid := 1, e := { opc := 0x79, nsid := 1, cdw13 := zsaReset } }

/-- A Full zone with four LBAs, each in a segment of its own. -/
def mirroredZone : Zone := { st := .full, units := (List.range 4).map (fun i => (i, { seg := some i })) }

/-- A Granary of 16 segments in mirror mode, half of them the device's own. Eight P_5 buffers are in use and four segments count as the
partner's, so that the device's own items may take four segments more; the four are those of the zone's LBAs. -/
def resetCrowded : State :=
  { pw := { mode := mRun },
    ce := { ctxs := [(4096, resetCmd)] },
    ze := { nss := [(1, { zones := 4, attached := some 0 })], zones := [(zKey 1 0, mirroredZone)] },
    gr := { size := 16, mirEn := true, mirLost := true, segs := (List.range 4).map (fun i => (i, { kind := 5, live := 1 })), nextSeg := 4 },
    lr := { bufs := (List.range 8).map (fun i => (bufKey 5 i, { st := 1 })) } }

/-- The Reset is in its turn, and the Granary takes four segments more. -/
theorem resetCrowded_acts : Safety.ActsOn resetCrowded 4096 resetCmd zsaReset (zKey 1 0) := by
  unfold Safety.ActsOn Safety.IoRuns Safety.Runnable Safety.GranaryFree
  decide +kernel

/-- Once the zone's segments are released, all eight buffers in use count as the device's own: the zone's delta waits for room, and the
command, its change made, waits for the delta. -/
theorem exec_zoneReset_resetCrowded :
    ∃ t, exec (.zoneReset 4096) resetCrowded = .next t ∧ t.gr.late.length = 1 ∧ (ctxOf t 4096).map Ctx.st = some .committed :=
  ⟨_, rfl, by decide +kernel⟩

/-- Refutes O40: `Safety.GranaryFree` asks for room as it stands before the Reset, and not that the zone's data lie in segments of the
device's own. In `resetCrowded` they count as the partner's, and with their release the room that is the device's goes (R308): the command
does not end. -/
theorem not_zoneActionsChangeTheZone : ¬ Obligations.ZoneActionsChangeTheZone := by
  unfold Obligations.ZoneActionsChangeTheZone
  rintro ⟨-, -, -, -, -, -, resetEnds, -⟩
  obtain ⟨t, ht, ⟨y, hy, hdone, -⟩, -⟩ := resetEnds resetCrowded 4096 resetCmd (zKey 1 0) resetCrowded_acts (by decide) (by decide)
  obtain ⟨t', ht', -, hwaits⟩ := exec_zoneReset_resetCrowded
  obtain rfl : t = t' := by injection ht.symm.trans ht'
  rw [hy, Option.map_some, hdone] at hwaits
  exact absurd hwaits (by decide)

end Sys2Proof.Machine

/-! PROOFS. Rules of the command engine's tables and of its registers: what a change of a queue, a context or a function gives and leaves, when an
event source is pending, and what fixing a status does where it freezes no queue (03_queues.md R78, R97; 14_control.md R401). -/

namespace Sys2Proof.Machine

/-! ### Queues, contexts and functions (03_queues.md R75 to R78) -/

@[simp] theorem sqOf_modSq_same (fn q : Nat) (f : Sq → Sq) (s : State) : sqOf (modSq fn q f s) fn q = (sqOf s fn q).map f := by
  simp [sqOf, modSq, tfind_talter_same]

theorem sqOf_modSq_other {fn q fn' q' : Nat} (h : qKey fn' q' ≠ qKey fn q) (f : Sq → Sq) (s : State) :
    sqOf (modSq fn q f s) fn' q' = sqOf s fn' q' := by
  simp [sqOf, modSq, tfind_talter_other h]

@[simp] theorem cqOf_modCq_same (fn q : Nat) (f : Cq → Cq) (s : State) : cqOf (modCq fn q f s) fn q = (cqOf s fn q).map f := by
  simp [cqOf, modCq, tfind_talter_same]

theorem cqOf_modCq_other {fn q fn' q' : Nat} (h : qKey fn' q' ≠ qKey fn q) (f : Cq → Cq) (s : State) :
    cqOf (modCq fn q f s) fn' q' = cqOf s fn' q' := by
  simp [cqOf, modCq, tfind_talter_other h]

@[simp] theorem fnOf_modFn_same (fn : Nat) (f : Fn → Fn) (s : State) : fnOf (modFn fn f s) fn = f (fnOf s fn) := by
  simp [fnOf, modFn]

theorem fnOf_modFn_other {g fn : Nat} (h : g ≠ fn) (f : Fn → Fn) (s : State) : fnOf (modFn fn f s) g = fnOf s g := by
  have hput (v : Fn) : tfind (tput (fnDflt fn) fn v s.ce.fns) g = tfind s.ce.fns g := by
    unfold tput
    split
    · exact tfind_tdel_other h _
    · exact tfind_tset_other h _ _
  simp [fnOf, modFn, tget, hput]

@[simp] theorem ctxOf_modSq (fn q : Nat) (f : Sq → Sq) (s : State) (c : Nat) : ctxOf (modSq fn q f s) c = ctxOf s c := rfl
@[simp] theorem ctxOf_modCq (fn q : Nat) (f : Cq → Cq) (s : State) (c : Nat) : ctxOf (modCq fn q f s) c = ctxOf s c := rfl
@[simp] theorem ctxOf_modFn (fn : Nat) (f : Fn → Fn) (s : State) (c : Nat) : ctxOf (modFn fn f s) c = ctxOf s c := rfl
@[simp] theorem sqOf_modCtx (c : Nat) (f : Ctx → Ctx) (s : State) (fn q : Nat) : sqOf (modCtx c f s) fn q = sqOf s fn q := rfl
@[simp] theorem sqOf_modCq (fn' q' : Nat) (f : Cq → Cq) (s : State) (fn q : Nat) : sqOf (modCq fn' q' f s) fn q = sqOf s fn q := rfl
@[simp] theorem sqOf_modFn (g : Nat) (f : Fn → Fn) (s : State) (fn q : Nat) : sqOf (modFn g f s) fn q = sqOf s fn q := rfl
@[simp] theorem cqOf_modCtx (c : Nat) (f : Ctx → Ctx) (s : State) (fn q : Nat) : cqOf (modCtx c f s) fn q = cqOf s fn q := rfl
@[simp] theorem cqOf_modSq (fn' q' : Nat) (f : Sq → Sq) (s : State) (fn q : Nat) : cqOf (modSq fn' q' f s) fn q = cqOf s fn q := rfl
@[simp] theorem fnOf_modCtx (c : Nat) (f : Ctx → Ctx) (s : State) (fn : Nat) : fnOf (modCtx c f s) fn = fnOf s fn := rfl
@[simp] theorem fnOf_modSq (fn' q' : Nat) (f : Sq → Sq) (s : State) (fn : Nat) : fnOf (modSq fn' q' f s) fn = fnOf s fn := rfl
@[simp] theorem fnOf_modCq (fn' q' : Nat) (f : Cq → Cq) (s : State) (fn : Nat) : fnOf (modCq fn' q' f s) fn = fnOf s fn := rfl

theorem sqOf_of_ce {s t : State} (h : t.ce = s.ce) (fn q : Nat) : sqOf t fn q = sqOf s fn q := by simp [sqOf, h]
theorem cqOf_of_ce {s t : State} (h : t.ce = s.ce) (fn q : Nat) : cqOf t fn q = cqOf s fn q := by simp [cqOf, h]
theorem fnOf_of_ce {s t : State} (h : t.ce = s.ce) (fn : Nat) : fnOf t fn = fnOf s fn := by simp [fnOf, h]

@[simp] theorem ctxOf_raise (src sev : Nat) (ps : List Nat) (s : State) (c : Nat) : ctxOf (raise src sev ps s) c = ctxOf s c :=
  ctxOf_of_ce (raise_ce src sev ps s) c
@[simp] theorem sqOf_raise (src sev : Nat) (ps : List Nat) (s : State) (fn q : Nat) : sqOf (raise src sev ps s) fn q = sqOf s fn q :=
  sqOf_of_ce (raise_ce src sev ps s) fn q
@[simp] theorem cqOf_raise (src sev : Nat) (ps : List Nat) (s : State) (fn q : Nat) : cqOf (raise src sev ps s) fn q = cqOf s fn q :=
  cqOf_of_ce (raise_ce src sev ps s) fn q
@[simp] theorem fnOf_raise (src sev : Nat) (ps : List Nat) (s : State) (fn : Nat) : fnOf (raise src sev ps s) fn = fnOf s fn :=
  fnOf_of_ce (raise_ce src sev ps s) fn

/-- A context is fresh or not by its function's generation alone. -/
theorem ctxFresh_of_fnOf {s t : State} {x : Ctx} (h : fnOf t x.fn = fnOf s x.fn) : ctxFresh t x = ctxFresh s x := by
  simp [ctxFresh, h]

/-! ### Fields of register values -/

/-- Below, in and above a field replaced. -/
theorem setBits_eq (v hi lo x : Nat) :
    setBits v hi lo x = 2 ^ lo * (2 ^ (hi + 1 - lo) * (v / 2 ^ lo / 2 ^ (hi + 1 - lo)) + x % 2 ^ (hi + 1 - lo)) + v % 2 ^ lo := by
  have hlow := Nat.div_add_mod v (2 ^ lo)
  have hhigh := Nat.div_add_mod (v / 2 ^ lo) (2 ^ (hi + 1 - lo))
  have hv : v = 2 ^ lo * (2 ^ (hi + 1 - lo) * (v / 2 ^ lo / 2 ^ (hi + 1 - lo))) + v % 2 ^ lo + bits v hi lo * 2 ^ lo := by
    calc v = 2 ^ lo * (v / 2 ^ lo) + v % 2 ^ lo := hlow.symm
      _ = 2 ^ lo * (2 ^ (hi + 1 - lo) * (v / 2 ^ lo / 2 ^ (hi + 1 - lo)) + v / 2 ^ lo % 2 ^ (hi + 1 - lo)) + v % 2 ^ lo := by rw [hhigh]
      _ = _ := by rw [bits]; ring
  have hrest : v - bits v hi lo * 2 ^ lo = 2 ^ lo * (2 ^ (hi + 1 - lo) * (v / 2 ^ lo / 2 ^ (hi + 1 - lo))) + v % 2 ^ lo := by omega
  rw [setBits, hrest]
  ring

/-- A bit of a value with a field replaced is the field's new bit, or what it was. -/
theorem testBit_setBits (v hi lo x j : Nat) :
    (setBits v hi lo x).testBit j = if lo ≤ j ∧ j < lo + (hi + 1 - lo) then x.testBit (j - lo) else v.testBit j := by
  rw [setBits_eq, Nat.testBit_two_pow_mul_add _ (Nat.mod_lt _ (Nat.two_pow_pos lo))]
  by_cases hlow : j < lo
  · simp [hlow, Nat.not_le.2 hlow, Nat.testBit_mod_two_pow]
  · rw [if_neg hlow, Nat.testBit_two_pow_mul_add _ (Nat.mod_lt _ (Nat.two_pow_pos _))]
    have hle : lo ≤ j := not_lt.1 hlow
    by_cases hin : j - lo < hi + 1 - lo
    · rw [if_pos hin, if_pos ⟨hle, by omega⟩, Nat.testBit_mod_two_pow, decide_eq_true hin, Bool.true_and]
    · rw [if_neg hin, if_neg (by omega), Nat.testBit_div_two_pow, Nat.testBit_div_two_pow]
      congr 1
      omega

theorem bit_eq_testBit (v i : Nat) : bit v i = v.testBit i := by
  rw [bit, Nat.testBit_eq_decide_div_mod_eq]
  rfl

/-- Fields that do not overlap leave each other. -/
theorem bits_setBits_other {hi lo hi' lo' : Nat} (h : hi < lo' ∨ hi' < lo) (v x : Nat) : bits (setBits v hi lo x) hi' lo' = bits v hi' lo' := by
  refine Nat.eq_of_testBit_eq fun j => ?_
  simp only [bits, Nat.testBit_mod_two_pow, Nat.testBit_div_two_pow, testBit_setBits]
  by_cases hj : j < hi' + 1 - lo'
  · rw [if_neg (by omega)]
  · simp [hj]

theorem rdb_wrb_same (r : Ref) (i : Nat) (b : Bool) (s : State) : rdb (wrb r i b s) r i = b := by
  simp only [rdb, wrb_eq, rd_wr_same, bit_eq_testBit, testBit_setBits]
  cases b <;> simp

theorem rdb_wrb_other {i j : Nat} (h : j ≠ i) (r : Ref) (b : Bool) (s : State) : rdb (wrb r i b s) r j = rdb s r j := by
  simp only [rdb, wrb_eq, rd_wr_same, bit_eq_testBit, testBit_setBits]
  rw [if_neg (by omega)]

/-- Registers at other addresses are left. -/
theorem rdb_wrb_other_reg {r q : Ref} (h : q.addr ≠ r.addr) (i j : Nat) (b : Bool) (s : State) : rdb (wrb r i b s) q j = rdb s q j := by
  simp [rdb, wrb_eq, rd_wr_other h]

/-! ### Pending event sources (14_control.md R401) -/

theorem pending?_setPend_same (src : Nat) (s : State) : pending? (setPend src s) src = true :=
  rdb_wrb_same _ _ _ _

/-- A pending bit set leaves the others. -/
theorem pending?_setPend_other {k src : Nat} (h : k ≠ src) (s : State) : pending? (setPend src s) k = pending? s k := by
  by_cases hw : k / 32 = src / 32
  · rw [pending?, setPend, hw, rdb_wrb_other (by omega)]
    rw [pending?, hw]
  · exact rdb_wrb_other_reg (by simp only [R.evPend]; omega) _ _ _ _

theorem pending?_setPend_mono {k : Nat} (src : Nat) {s : State} (h : pending? s k = true) : pending? (setPend src s) k = true := by
  by_cases hk : k = src
  · rw [hk, pending?_setPend_same]
  · rw [pending?_setPend_other hk, h]

/-- A source that a chapter lists is pending once its event is raised. -/
theorem pending?_raise_same {src : Nat} (h : listedSource src = true) (sev : Nat) (ps : List Nat) (s : State) :
    pending? (raise src sev ps s) src = true := by
  have hset := pending?_setPend_same src s
  simp only [raise, raiseCode, h, Bool.not_true, Bool.false_eq_true, if_false]
  split
  · split
    · split
      · exact pending?_setPend_mono 491 hset
      · exact pending?_setPend_mono 491 hset
    · exact hset
  · exact hset

/-! ### A status fixed that freezes no queue (03_queues.md R78, R97) -/

/-- What fixing a status makes of a context. -/
def withStatus (st : Status) (dw0 dw1 : Nat) (x : Ctx) : Ctx :=
  { x with st := .completed, status := st, dw0 := dw0, dw1 := dw1, inFw := false }

/-- A queue stays as it is behind a command whose status freezes nothing, and behind one of an admin queue. -/
theorem freezeQueue_of_quiet {s : State} {c : Nat} {x : Ctx} (hc : ctxOf s c = some x) (h : freezing x.status = false ∨ x.sqid = 0) :
    freezeQueue c s = s := by
  rcases h with h | h <;> simp [freezeQueue, hc, h]

/-- A command of the present generation takes its status, and then its queue is looked at. -/
theorem complete_of_fresh {s : State} {c : Nat} {x : Ctx} (hc : ctxOf s c = some x) (ht : x.tunnel = false) (hf : ctxFresh s x = true)
    (hst : x.st ≠ .completed) (st : Status) (dw0 dw1 : Nat) :
    complete c st dw0 dw1 s = freezeQueue c (modCtx c (withStatus st dw0 dw1) s) := by
  simp only [complete, hc, ht, hf, hst, Bool.false_eq_true, Bool.not_true, if_false]
  rfl

/-- A command of the present generation ends, and nothing else changes, where its status freezes nothing or its queue is an admin queue. -/
theorem complete_of_quiet {s : State} {c : Nat} {x : Ctx} {st : Status} (hc : ctxOf s c = some x) (ht : x.tunnel = false)
    (hf : ctxFresh s x = true) (hst : x.st ≠ .completed) (h : freezing st = false ∨ x.sqid = 0) (dw0 dw1 : Nat) :
    complete c st dw0 dw1 s = modCtx c (withStatus st dw0 dw1) s := by
  rw [complete_of_fresh hc ht hf hst, freezeQueue_of_quiet (x := withStatus st dw0 dw1 x) (by rw [ctxOf_modCtx_same, hc]; rfl) h]

theorem freezing_stOk : freezing stOk = false := by decide
theorem freezing_stAborted : freezing stAborted = false := by decide

/-- What a context's status fixed says of its end. -/
theorem ended_withStatus {t : State} {c : Nat} {x : Ctx} {st : Status} {dw0 dw1 : Nat} (h : ctxOf t c = some (withStatus st dw0 dw1 x)) :
    Safety.Ended t c st dw0 :=
  ⟨_, h, rfl, rfl, rfl⟩

/-! ### Admin commands that run (03_queues.md R110) -/

section
variable {s : State} {c opc : Nat} {x : Ctx}

/-- The meaning of an admin command acts on the context that runs it. -/
theorem onAdmin_of_runs (hx : Safety.AdminRuns s c x opc) (f : Ctx → State → State) : onAdmin c opc f s = f x s := by
  obtain ⟨⟨hctx, hopc, hst, -⟩, hadm⟩ := hx
  simp [onAdmin, onStarted, startedWith, hctx, hopc, hst, hadm]

/-- A running admin command ends, and nothing else changes, in every state that keeps its context and its function's generation. -/
theorem complete_of_adminRuns {t : State} (hx : Safety.AdminRuns s c x opc) (hc : ctxOf t c = some x) (hf : (fnOf t x.fn).gen = (fnOf s x.fn).gen)
    (st : Status) (dw0 dw1 : Nat) : complete c st dw0 dw1 t = modCtx c (withStatus st dw0 dw1) t := by
  obtain ⟨⟨-, -, hst, htun, hfresh⟩, hadm⟩ := hx
  refine complete_of_quiet hc htun ?_ (by simp [hst]) (.inr hadm) dw0 dw1
  simpa [ctxFresh, hf] using hfresh

theorem succeed_of_adminRuns {t : State} (hx : Safety.AdminRuns s c x opc) (hc : ctxOf t c = some x)
    (hf : (fnOf t x.fn).gen = (fnOf s x.fn).gen) : succeed c t = modCtx c (withStatus stOk 0 0) t :=
  complete_of_adminRuns hx hc hf stOk 0 0

theorem ended_modCtx_withStatus {t : State} (hc : ctxOf t c = some x) (st : Status) (dw0 dw1 : Nat) :
    Safety.Ended (modCtx c (withStatus st dw0 dw1) t) c st dw0 :=
  ended_withStatus (x := x) (by rw [ctxOf_modCtx_same, hc]; rfl)

end

end Sys2Proof.Machine

/-! PROOFS. The statements of doorbells, of freezing statuses, and of queues created, deleted and re-homed (03_queues.md R75, R82, R97, R105, R109). -/

namespace Sys2Proof.Machine

/-! ### Doorbells (03_queues.md R82) -/

theorem exec_sqTailDoorbell {s : State} {fn q tail : Nat} {sq : Sq} (es : List Entry) (hq : sqOf s fn q = some sq) (hon : bellOn s fn = true)
    (ht : tail < sq.size) :
    exec (.sqTailDoorbell fn q tail es) s = .next (modSq fn q (fun p => { p with
      tail := tail, entries := p.entries ++ padEntries ((tail + p.size - p.tail) % p.size) es }) s) := by
  simp [exec, execSqTailDoorbell, hq, hon, ht]

theorem exec_cqHeadDoorbell {s : State} {fn q head : Nat} {cq : Cq} (hq : cqOf s fn q = some cq) (hon : bellOn s fn = true)
    (hh : head < cq.size) : exec (.cqHeadDoorbell fn q head) s = .next (modCq fn q (fun p => { p with head := head }) s) := by
  simp [exec, execCqHeadDoorbell, hq, hon, hh]

/-- Settles O6, by the one change of the queue's entry that each doorbell makes. -/
theorem doorbellsAreRecorded : Obligations.DoorbellsAreRecorded := by
  unfold Obligations.DoorbellsAreRecorded
  refine ⟨fun s fn q tail es sq hq hon ht => ?_, fun s fn q head cq hq hon hh => ?_⟩
  · exact ⟨_, exec_sqTailDoorbell es hq hon ht, by rw [sqOf_modSq_same, hq]; rfl, fun fn' q' h => sqOf_modSq_other h _ _, rfl⟩
  · exact ⟨_, exec_cqHeadDoorbell hq hon hh, by rw [cqOf_modCq_same, hq]; rfl, fun fn' q' h => cqOf_modCq_other h _ _, rfl⟩

/-! ### Freezing statuses (03_queues.md R97) -/

theorem freezing_iff (st : Status) :
    freezing st = true ↔ st ≠ { sct := 0, sc := 0 } ∧ st ≠ { sct := 0, sc := 0x07 } ∧ st ≠ { sct := 7, sc := 0xC7 } := by
  simp [freezing, stOk, stAborted, stReplayed, and_assoc]

/-- An asynchronous event touches no submission queue. -/
@[simp] theorem sendAsync_sqs (fn : Nat) (ev : Nat × Nat × Nat) (s : State) : (sendAsync fn ev s).ce.sqs = s.ce.sqs := by
  unfold sendAsync
  split <;> rfl

/-- The mark of a queue frozen by a context's status. -/
def freezeMark (s : State) (c : Nat) (x : Ctx) (p : Sq) : Sq :=
  { p with frozen := some { freezeEntry s c x with refrozen := p.continuing.contains c } }

/-- A freezing status freezes the I/O queue of its command, which was neither frozen nor being deleted, and no other queue changes. -/
theorem freezeQueue_sqs_of_freezing {s : State} {c : Nat} {x : Ctx} {q : Sq} (hc : ctxOf s c = some x) (ht : x.tunnel = false) (hio : x.sqid ≠ 0)
    (hfz : freezing x.status = true) (hq : sqOf s x.fn x.sqid = some q) (hdel : q.deleting = none) (hfr : q.frozen = none) :
    (freezeQueue c s).ce.sqs = (modSq x.fn x.sqid (freezeMark s c x) s).ce.sqs := by
  simp only [freezeQueue, hc, ht, hio, hfz, hq, hdel, hfr, decide_false, Bool.false_eq_true, Bool.or_false, Bool.not_true, if_false,
    Option.isSome_none]
  split
  · rw [raise_ce]; rfl
  · rw [sendAsync_sqs]
    simp only [modFn, onCe_ce, raise_ce]
    rfl

/-- Settles O58: `complete` fixes the status, and `freezeQueue` freezes the queue of an I/O command exactly for the statuses of R97. -/
theorem freezingStatuses : Obligations.FreezingStatuses := by
  unfold Obligations.FreezingStatuses
  refine ⟨fun s c dw0 dw1 x st q hc ht hf hst hio hq hdel hfr => ?_, fun s c dw0 dw1 x st hc ht hf hadm => ?_⟩
  · simp only [← freezing_iff]
    by_cases hfz : freezing st = true
    · have hsqs := freezeQueue_sqs_of_freezing (s := modCtx c (withStatus st dw0 dw1) s) (x := withStatus st dw0 dw1 x)
        (by rw [ctxOf_modCtx_same, hc]; rfl) ht hio hfz hq hdel hfr
      rw [complete_of_fresh hc ht hf hst, sqOf, hsqs]
      exact ⟨_, (sqOf_modSq_same _ _ _ _).trans (congrArg _ hq), iff_of_true rfl hfz, fun k hk => tfind_talter_other hk _ _⟩
    · rw [complete_of_quiet hc ht hf hst (.inl (by simpa using hfz))]
      exact ⟨q, hq, iff_of_false (by simp [hfr]) hfz, fun _ _ => rfl⟩
  · by_cases hst : x.st = .completed
    · simp [complete, hc, ht, hf, hst]
    · rw [complete_of_quiet hc ht hf hst (.inr hadm)]
      rfl

end Sys2Proof.Machine

namespace Sys2Proof.Machine

/-! ### Queues created and deleted (03_queues.md R75, R105) -/

section
variable {s : State} {c : Nat} {x : Ctx}

/-- CREATE_IO_SUBMISSION_QUEUE with admissible fields: an empty queue, whose home firmware chooses, and the command's end. -/
theorem exec_createIoSubmissionQueue (hx : Safety.AdminRuns s c x 0x01) (hcq : bits x.e.cdw11 31 16 ≠ 0)
    (hc : (cqOf s x.fn (bits x.e.cdw11 31 16)).isSome = true) (hid : eQid x.e ≠ 0) (hmax : eQid x.e ≤ (fnOf s x.fn).nvq)
    (hnew : sqOf s x.fn (eQid x.e) = none) (hsize : eQsize x.e ≠ 0) (hpc : bit x.e.cdw11 0 = true) :
    exec (.createIoSubmissionQueue c) s = .next (modCtx c (withStatus stOk 0 0) (tookFree (onCe (fun e => { e with
      sqs := tset (qKey x.fn (eQid x.e)) { cqid := bits x.e.cdw11 31 16, size := eQsize x.e + 1, home := freeVal s % 4 } e.sqs }) s))) := by
  rw [exec, execCreateIoSubmissionQueue, onAdmin_of_runs hx]
  simp only [hcq, Option.isNone_eq_false_iff.2 hc, hid, not_lt.2 hmax, hnew, hsize, hpc, decide_false, Bool.or_false, Bool.false_eq_true,
    Bool.not_true, if_false, Option.isSome_none]
  exact congrArg Host.Outcome.next (succeed_of_adminRuns hx (by exact hx.1.1) (by rfl))

theorem exec_createIoCompletionQueue (hx : Safety.AdminRuns s c x 0x05) (hid : eQid x.e ≠ 0) (hmax : eQid x.e ≤ (fnOf s x.fn).nvq)
    (hnew : cqOf s x.fn (eQid x.e) = none) (hsize : eQsize x.e ≠ 0) (hpc : bit x.e.cdw11 0 = true)
    (hiv : bits x.e.cdw11 31 16 < (fnOf s x.fn).nvi) :
    exec (.createIoCompletionQueue c) s = .next (modCtx c (withStatus stOk 0 0) (onCe (fun e => { e with
      cqs := tset (qKey x.fn (eQid x.e)) {
        size := eQsize x.e + 1, irq := if bit x.e.cdw11 1 then some (bits x.e.cdw11 31 16) else none } e.cqs }) s)) := by
  rw [exec, execCreateIoCompletionQueue, onAdmin_of_runs hx]
  simp only [hid, not_lt.2 hmax, hnew, hsize, hpc, not_le.2 hiv, decide_false, Bool.or_false, Bool.and_false, Bool.false_eq_true,
    Bool.not_true, if_false, Option.isSome_none]
  exact congrArg Host.Outcome.next (succeed_of_adminRuns hx (by exact hx.1.1) (by rfl))

/-- DELETE_IO_SUBMISSION_QUEUE of a queue with nothing live: nothing is to be posted, and the queue goes at once (R105). -/
theorem exec_deleteIoSubmissionQueue_of_empty {q : Sq} (hx : Safety.AdminRuns s c x 0x00) (hq : sqOf s x.fn (eQid x.e) = some q) (hid : eQid x.e ≠ 0)
    (hdel : q.deleting = none) (hdis : q.discarding = none) (hres : q.resuming = none) (hlive : q.live = []) :
    ∃ f, exec (.deleteIoSubmissionQueue c) s = .next (modCtx c (withStatus stOk 0 0) (onCe (fun e => { e with
      sqs := tdel (qKey x.fn (eQid x.e)) e.sqs }) (modSq x.fn (eQid x.e) f (modCtx c (fun y => { y with st := .committed }) s)))) := by
  obtain ⟨⟨hctx, -, hst, htun, hfresh⟩, hadm⟩ := id hx
  refine ⟨fun p => { p with
    frozen := none, deleting := some c, entries := [], drain := [], continuing := [], discarding := none, resuming := none }, ?_⟩
  rw [exec, execDeleteIoSubmissionQueue, onAdmin_of_runs hx]
  simp only [hq, hid, hdel, hdis, hres, hlive, decide_false, Bool.false_eq_true, Bool.or_false, if_false, Option.isSome_none, whenSome_none,
    List.filter_nil, forEach_nil, settleDelete, sqOf_modSq_same, sqOf_modCtx, Option.map_some, List.isEmpty_nil, if_true, succeed]
  refine congrArg Host.Outcome.next (complete_of_quiet (x := { x with st := .committed }) ?_ htun (by exact hfresh) (by simp) (.inr hadm) 0 0)
  exact (ctxOf_modCtx_same c _ s).trans (congrArg _ hctx)

theorem exec_deleteIoCompletionQueue_of_unused (hx : Safety.AdminRuns s c x 0x04) (hid : eQid x.e ≠ 0) (hc : (cqOf s x.fn (eQid x.e)).isSome = true)
    (hun : s.ce.sqs.any (fun p => p.1 / 65536 == x.fn && p.2.cqid == eQid x.e) = false) :
    exec (.deleteIoCompletionQueue c) s = .next (modCtx c (withStatus stOk 0 0) (onCe (fun e => { e with
      cqs := tdel (qKey x.fn (eQid x.e)) e.cqs }) s)) := by
  rw [exec, execDeleteIoCompletionQueue, onAdmin_of_runs hx]
  simp only [hid, Option.isNone_eq_false_iff.2 hc, hun, decide_false, Bool.or_false, Bool.false_eq_true, if_false]
  exact congrArg Host.Outcome.next (succeed_of_adminRuns hx (by exact hx.1.1) (by rfl))

end

/-! ### Re-homing (03_queues.md R109) -/

/-- A message that a mailbox takes touches no submission queue. -/
@[simp] theorem mbPut_ce (m : Nat) (data : List Byte) (tag : Nat) (s : State) : (mbPut m data tag s).ce = s.ce := by
  have hdata : (forEach (List.range 16) (fun w => wr (R.mbData m w) (fieldAt data (4 * w) 4)) s).ce = s.ce :=
    forEach_keeps State.ce _ (fun w t => wr_ce _ _ t) _ s
  simp [mbPut, setFull, hdata]

@[simp] theorem mbPump_sqs (cluster : Nat) (s : State) : (mbPump cluster s).ce.sqs = s.ce.sqs := by
  unfold mbPump
  split
  · rfl
  split
  · simp
  · split <;> simp [modCtx]

@[simp] theorem redeliver_sqs (fn q : Nat) (s : State) : (redeliver fn q s).ce.sqs = s.ce.sqs := by
  unfold redeliver
  split <;> simp

/-- A queue re-homed has its new home and the next epoch (R109). -/
theorem sqOf_rehome {s : State} {fn q cluster : Nat} {sq : Sq} (hq : sqOf s fn q = some sq) (hst : staleMail s fn q = false) :
    sqOf (rehome fn q cluster s) fn q = some { sq with epoch := (sq.epoch + 1) % 65536, home := cluster, rehomeTo := none } := by
  have hrun : sqOf (rehome fn q cluster s) fn q =
      sqOf (modSq fn q (fun p => { p with epoch := (p.epoch + 1) % 65536, home := cluster, rehomeTo := none }) s) fn q := by
    simp only [rehome, hst, Bool.false_eq_true, if_false, sqOf, redeliver_sqs, raise_ce]
  rw [hrun, sqOf_modSq_same, hq]
  rfl

theorem exec_queueReHoming {s : State} {fn q cluster : Nat} {sq : Sq} (hq : sqOf s fn q = some sq) (hcl : cluster < 4) :
    exec (.queueReHoming fn q cluster) s = .next (rehome fn q cluster s) := by
  simp [exec, execQueueReHoming, hq, hcl]

/-- Settles O10, from what each creation and deletion makes of the queue tables, and from `rehome`. -/
theorem queuesAreCreatedAndDeleted : Obligations.QueuesAreCreatedAndDeleted := by
  unfold Obligations.QueuesAreCreatedAndDeleted
  refine ⟨?_, ?_, ?_, ?_, ?_⟩
  · intro s c x hx hcq hc hid hmax hnew hsize hpc
    refine ⟨_, _, exec_createIoSubmissionQueue hx hcq hc hid hmax hnew hsize hpc, ended_modCtx_withStatus (x := x) hx.1.1 _ _ _,
      tfind_tset_same _ _ _, rfl, rfl, rfl, rfl, rfl, rfl, rfl, rfl⟩
  · intro s c x hx hid hmax hnew hsize hpc hiv
    exact ⟨_, _, exec_createIoCompletionQueue hx hid hmax hnew hsize hpc hiv, ended_modCtx_withStatus (x := x) hx.1.1 _ _ _,
      tfind_tset_same _ _ _, rfl, rfl, rfl, rfl, rfl, rfl⟩
  · intro s c x q hx hq hid hdel hdis hres hlive
    obtain ⟨f, hexec⟩ := exec_deleteIoSubmissionQueue_of_empty hx hq hid hdel hdis hres hlive
    exact ⟨_, hexec, ended_modCtx_withStatus ((ctxOf_modCtx_same c _ s).trans (congrArg _ hx.1.1)) _ _ _, tfind_tdel_same _ _, rfl⟩
  · intro s c x hx hid hc hun
    exact ⟨_, exec_deleteIoCompletionQueue_of_unused hx hid hc hun, ended_modCtx_withStatus (x := x) hx.1.1 _ _ _, tfind_tdel_same _ _, rfl⟩
  · intro s fn q cluster sq hq hcl
    refine ⟨fun hst => ⟨_, exec_queueReHoming hq hcl, ?_⟩, fun hst => ⟨_, _, exec_queueReHoming hq hcl, sqOf_rehome hq hst, rfl, rfl, rfl, rfl⟩⟩
    rw [rehome, if_pos hst]
    exact ⟨by rw [sqOf_modSq_same, hq]; rfl, rfl⟩

end Sys2Proof.Machine

/-! PROOFS. The statement of Abort and of Asynchronous Event Requests (03_queues.md R106, R110). -/

namespace Sys2Proof.Machine

/-! ### Abort (03_queues.md R106) -/

/-- Where no Resume Queue is in progress, none is settled. -/
theorem settleResumes_of_none {s : State} (h : ∀ p, p ∈ s.ce.sqs → p.2.resuming = none) : settleResumes s = s := by
  have hnone : s.ce.sqs.filterMap (fun p => if p.2.resuming.isSome then some p.1 else none) = [] := by
    simp only [List.filterMap_eq_nil_iff]
    intro p hp
    simp [h p hp]
  rw [settleResumes, hnone, forEach_nil]

section
variable {s : State} {c k : Nat} {x y : Ctx}

/-- The commands of a queue that an Abort looks for. -/
def abortsTo (s : State) (c : Nat) (x : Ctx) (i : Nat) : Bool :=
  i != c && ((ctxOf s i).map (fun z => z.e.cid == bits x.e.cdw10 31 16)).getD false

/-- ABORT of a fetched target: the target ends with 0x0/0x07, event source 99 is raised, and the Abort ends with DW0 0. -/
theorem exec_abortCmd_of_fetched {q : Sq} (hx : Safety.AdminRuns s c x 0x08) (hq : sqOf s x.fn (eQid x.e) = some q)
    (hk : q.live.find? (abortsTo s c x) = some k) (hy : ctxOf s k = some y) (hst : y.st = .fetched) (ht : y.tunnel = false)
    (hfw : y.inFw = false) (hf : ctxFresh s y = true) (hres : ∀ p, p ∈ s.ce.sqs → p.2.resuming = none) :
    exec (.abortCmd c) s = .next (modCtx c (withStatus stOk 0 0) (raise 99 sevInfo [x.fn, eQid x.e, bits x.e.cdw10 31 16]
      (modCtx k (withStatus stAborted 0 0) s))) := by
  have hck : c ≠ k := by
    have hne := List.find?_some hk
    rw [abortsTo, Bool.and_eq_true, bne_iff_ne] at hne
    exact hne.1.symm
  unfold abortsTo at hk
  rw [exec, execAbortCmd, onAdmin_of_runs hx]
  simp only [hq, Option.map_some, Option.getD_some, hk, hy, abortable, hst, beq_self_eq_true, Bool.true_or, if_true, noticeAbort, hfw,
    Bool.false_and, Bool.not_false, abortTarget, complete_of_quiet hy ht hf (by simp [hst]) (.inl freezing_stAborted) 0 0]
  rw [settleResumes_of_none (by exact hres), complete_of_adminRuns hx ?_ (by simp)]
  rw [ctxOf_raise, ctxOf_modCtx_other hck, hx.1.1]

/-- ABORT of a target that is not there: nothing but its own end, with DW0 1. -/
theorem exec_abortCmd_of_absent (hx : Safety.AdminRuns s c x 0x08)
    (hk : (((sqOf s x.fn (eQid x.e)).map (fun q => q.live)).getD []).find? (abortsTo s c x) = none) :
    exec (.abortCmd c) s = .next (modCtx c (withStatus stOk 1 0) s) := by
  unfold abortsTo at hk
  rw [exec, execAbortCmd, onAdmin_of_runs hx]
  simp only [hk]
  rw [complete_of_adminRuns hx hx.1.1 rfl]

end

/-! ### Asynchronous Event Requests (03_queues.md R110) -/

section
variable {s : State} {c : Nat} {x : Ctx} {q : Sq}

/-- A request itself, and fifteen more at most: of 16 commands live, fewer than 16 others wait. -/
theorem waiting_lt (p : Nat → Ctx → Bool) (hlen : q.live.length ≤ 16) (hc : c ∈ q.live) :
    ¬ 16 ≤ (q.live.filter (fun i => ((ctxOf s i).map (fun y => p i y && i != c)).getD false)).length := by
  have hlt : (q.live.filter (fun i => ((ctxOf s i).map (fun y => p i y && i != c)).getD false)).length < q.live.length := by
    refine List.length_filter_lt_length_iff_exists.2 ⟨c, hc, ?_⟩
    cases ctxOf s c <;> simp
  omega

theorem exec_asynchronousEventRequest (hx : Safety.AdminRuns s c x 0x0C) (hq : sqOf s x.fn 0 = some q) (hlen : q.live.length ≤ 16)
    (hc : c ∈ q.live) :
    exec (.asynchronousEventRequest c) s = .next (match (fnOf s x.fn).asyncEvents with
      | ev :: rest => modCtx c (withStatus stOk (asyncDw0 ev) 0) (modFn x.fn (fun f => { f with asyncEvents := rest }) s)
      | [] => s) := by
  rw [exec, execAsynchronousEventRequest, onAdmin_of_runs hx]
  simp only [hq, Option.map_some, Option.getD_some, if_neg (waiting_lt (s := s) (fun _ y => y.e.opc == 0x0C && y.st == .started) hlen hc)]
  cases (fnOf s x.fn).asyncEvents with
  | nil => rfl
  | cons ev rest => exact congrArg Host.Outcome.next (complete_of_adminRuns hx (by exact hx.1.1) (by simp) _ _ _)

end

/-- Settles O11: the target of an Abort is found or not, and an event waits or not. -/
theorem abortAndEventRequests : Obligations.AbortAndEventRequests := by
  unfold Obligations.AbortAndEventRequests
  refine ⟨?_, ?_, ?_, ?_⟩
  · intro s c k x y q hx hq hk hy hst ht hfw hf hres
    have hck : k ≠ c := by
      have hne := List.find?_some hk
      rw [Bool.and_eq_true, bne_iff_ne] at hne
      exact hne.1
    refine ⟨_, exec_abortCmd_of_fetched hx hq hk hy hst ht hfw hf hres, ended_withStatus (x := y) (dw1 := 0) ?_,
      ended_modCtx_withStatus (x := x) ?_ _ _ _, ?_⟩
    · rw [ctxOf_modCtx_other hck, ctxOf_raise, ctxOf_modCtx_same, hy]
      rfl
    · rw [ctxOf_raise, ctxOf_modCtx_other hck.symm, hx.1.1]
    · obtain ⟨regs, rec', hraise⟩ := raise_only 99 sevInfo [x.fn, eQid x.e, bits x.e.cdw10 31 16] (modCtx k (withStatus stAborted 0 0) s)
      rw [hraise]
      rfl
  · intro s c x hx hall
    refine ⟨_, exec_abortCmd_of_absent hx (List.find?_eq_none.2 fun i hi => ?_), ended_modCtx_withStatus hx.1.1 _ _ _,
      fun i hi => ctxOf_modCtx_other hi _ _, rfl⟩
    have hone := List.all_eq_true.1 hall i hi
    cases hz : ctxOf s i with
    | none => simp [abortsTo, hz]
    | some z => simpa [abortsTo, hz, or_iff_not_imp_left] using hone
  · intro s c x ev rest q hx hq hlen hc hev
    have hexec := exec_asynchronousEventRequest hx hq hlen hc
    rw [hev] at hexec
    exact ⟨_, hexec, ended_modCtx_withStatus (x := x) hx.1.1 _ _ _, by simp, rfl⟩
  · intro s c x q hx hq hlen hc hev
    rw [exec_asynchronousEventRequest hx hq hlen hc, hev]

end Sys2Proof.Machine

/-! PROOFS. The statements of commands started and of completions posted (03_queues.md R78 to R82, R98, R110, R111). -/

namespace Sys2Proof.Machine

/-! ### Commands in firmware (03_queues.md R79) -/

/-- A mailbox served may mark a context's message sent, and changes nothing else of it. -/
theorem ctxOf_mbPump (cluster : Nat) (s : State) (c : Nat) :
    ctxOf (mbPump cluster s) c = ctxOf s c ∨ ctxOf (mbPump cluster s) c = (ctxOf s c).map (fun x => { x with mbSent := true }) := by
  unfold mbPump
  split
  · exact .inl rfl
  split
  · exact .inl (by simp [ctxOf])
  split
  · exact .inl rfl
  · next d y _ =>
    by_cases hd : c = d
    · subst hd
      exact .inr (by rw [ctxOf_modCtx_same, ctxOf_of_ce (mbPut_ce _ _ _ s)])
    · exact .inl (by rw [ctxOf_modCtx_other hd, ctxOf_of_ce (mbPut_ce _ _ _ s)])

/-- A command handed to firmware is held by it, with its state and entry. -/
theorem ctxOf_toFirmware {s : State} {c : Nat} {x : Ctx} (hc : ctxOf s c = some x) :
    ∃ sent, ctxOf (toFirmware c s) c = some { x with inFw := true, mbSent := sent } := by
  have hset : ctxOf (modCtx c (fun x => { x with inFw := true, mbSent := false }) s) c = some { x with inFw := true, mbSent := false } := by
    rw [ctxOf_modCtx_same, hc, Option.map_some]
  simp only [toFirmware, hc]
  rcases ctxOf_mbPump (((sqOf s x.fn x.sqid).map (fun q => q.home)).getD 0)
      (modCtx c (fun x => { x with inFw := true, mbSent := false }) s) c with h | h
  · exact ⟨false, h.trans hset⟩
  · exact ⟨true, by rw [h, hset]; rfl⟩

@[simp] theorem toFirmware_sqs (c : Nat) (s : State) : (toFirmware c s).ce.sqs = s.ce.sqs := by
  unfold toFirmware
  split
  · rfl
  · rw [mbPump_sqs]; rfl

/-! ### Commands started (03_queues.md R80, R110, R111) -/

theorem settleResume_of_none {s : State} {fn sqid : Nat} (h : ∀ q, sqOf s fn sqid = some q → q.resuming = none) :
    settleResume fn sqid s = s := by
  unfold settleResume
  split
  · rfl
  · next q hq => rw [h q hq]

section
variable {s : State} {c : Nat} {x : Ctx} {q : Sq}

/-- A start changes its command's state, and settles no Resume Queue where none is in progress. -/
theorem exec_commandStarted (hx : ctxOf s c = some x) (hq : sqOf s x.fn x.sqid = some q) (hst : x.st = .fetched) (ht : x.tunnel = false)
    (hf : ctxFresh s x = true) (hfz : q.frozen = none) (hres : q.resuming = none) (hup : s.gr.holdup = false) (hord : earlierStarted s c x = true)
    (hsqs : sqOf (startCommand c x s) x.fn x.sqid = sqOf s x.fn x.sqid) :
    exec (.commandStarted c) s = .next (startCommand c x s) := by
  have hsettle : settleResume x.fn x.sqid (startCommand c x s) = startCommand c x s := by
    refine settleResume_of_none fun p hp => ?_
    rw [hsqs, hq, Option.some.injEq] at hp
    rw [← hp, hres]
  simp [exec, execCommandStarted, hx, hq, hst, ht, hf, hfz, hup, hord, hsettle]

/-- The namespaces that an admin command may name: those attached to its function. -/
def namedBy (s : State) (fn : Nat) : List Nat := s.ze.nss.filterMap (fun p => if p.2.attached = some fn then some p.1 else none)

/-- An admin command with no fault starts in firmware. -/
theorem startCommand_admin (hadm : x.sqid = 0) (hok : adminFault s x = none) :
    startCommand c x s = toFirmware c (modCtx c (fun y => { y with st := .started })
      (modCtx c (fun y => { y with named := some (namedBy s x.fn) }) s)) := by
  rw [startCommand, if_pos hadm, hok]
  rfl

/-- A fast-path I/O command whose checks pass starts, and nothing else of it changes. -/
theorem startCommand_fastPath (hio : x.sqid ≠ 0) (hop : ioOpcodes.contains x.e.opc = true) (hfw : fwRun x.e.opc = false) (hfuse : x.e.fuse = 0)
    (hns : nsGranted s x.fn x.e.nsid = true) (hsafe : safeBars s x.e = false) (hsgl : sglFault x.e = none) (hfield : ioFieldFault s x.e = none) :
    startCommand c x s = modCtx c (fun y => { y with st := .started }) s := by
  simp only [startCommand, if_neg hio, hop, hfuse, hns, hsafe, hsgl, hfield, hfw, bne_self_eq_false, Bool.not_true, Bool.true_or,
    Bool.false_eq_true, if_false, Option.or_none, onlyIf_false]

end

/-- Settles O8: an admin command goes through `toFirmware`, a fast-path command changes its state alone. -/
theorem commandsStartInOrder : Obligations.CommandsStartInOrder := by
  unfold Obligations.CommandsStartInOrder
  refine ⟨?_, ?_⟩
  · intro s c x q hx hq hst ht hf hfz hres hup hord hadm hok
    have hstart := startCommand_admin (c := c) hadm hok
    have hsqs : sqOf (startCommand c x s) x.fn x.sqid = sqOf s x.fn x.sqid := by
      rw [hstart, sqOf, toFirmware_sqs]
      rfl
    obtain ⟨sent, hfw⟩ := ctxOf_toFirmware (x := { x with named := some (namedBy s x.fn), st := .started })
      (s := modCtx c (fun y => { y with st := .started }) (modCtx c (fun y => { y with named := some (namedBy s x.fn) }) s))
      (by rw [ctxOf_modCtx_same, ctxOf_modCtx_same, hx]; rfl)
    rw [← hstart] at hfw
    exact ⟨_, _, exec_commandStarted hx hq hst ht hf hfz hres hup hord hsqs, hfw, rfl, rfl, rfl⟩
  · intro s c x q hx hq hst ht hf hfz hres hup hord hio hop hfw hfuse hns hsafe hsgl hfield
    have hstart := startCommand_fastPath (c := c) hio hop hfw hfuse hns hsafe hsgl hfield
    refine ⟨_, exec_commandStarted hx hq hst ht hf hfz hres hup hord (by rw [hstart]; rfl), ?_, fun i hi => ?_, ?_⟩
    · rw [hstart, ctxOf_modCtx_same, hx]
      rfl
    · rw [hstart, ctxOf_modCtx_other hi]
    · rw [hstart]
      rfl

/-! ### Completions posted (03_queues.md R78, R82) -/

section
variable {s : State} {fn sqid c : Nat} {q : Sq} {cq : Cq} {x : Ctx}

/-- The command whose entry is next is live. -/
theorem ctxOf_of_nextPost (h : nextPost s sqid q = some (c, x)) : ctxOf s c = some x := by
  have hlive {p : Nat × Ctx} {t : (Nat × Ctx) → Bool}
      (hp : (q.live.filterMap (fun i => (ctxOf s i).map (fun y => (i, y)))).find? t = some p) : ctxOf s p.1 = some p.2 := by
    obtain ⟨i, -, hi⟩ := List.mem_filterMap.1 (List.mem_of_find?_eq_some hp)
    obtain ⟨y, hy, rfl⟩ := Option.map_eq_some_iff.1 hi
    exact hy
  simp only [nextPost] at h
  split at h
  · next p hp =>
    obtain rfl : p = (c, x) := Option.some.inj h
    exact hlive hp
  split at h
  · next p hp =>
    obtain ⟨-, hpost⟩ := Option.ite_none_right_eq_some.1 h
    obtain rfl : p = (c, x) := Option.some.inj hpost
    exact hlive hp
  · cases h

/-- The state in which a command's entry stands in the completion queue (R82). -/
def posted (s : State) (fn sqid : Nat) (q : Sq) (x : Ctx) : State :=
  postEntry fn q.cqid { sqid := sqid, sqHead := q.head, cid := x.e.cid, status := x.status, dw0 := x.dw0, dw1 := x.dw1 } s

@[simp] theorem ctxOf_posted (i : Nat) : ctxOf (posted s fn sqid q x) i = ctxOf s i := rfl
@[simp] theorem sqOf_posted (fn' q' : Nat) : sqOf (posted s fn sqid q x) fn' q' = sqOf s fn' q' := rfl
@[simp] theorem fnOf_posted (g : Nat) : fnOf (posted s fn sqid q x) g = fnOf s g := rfl

theorem cqOf_postEntry {cqid : Nat} (h : cqOf s fn cqid = some cq) (e : Cqe) : cqOf (postEntry fn cqid e s) fn cqid = some { cq with
    posted := { e with phase := cq.phase, irq := cq.irq.isSome, rid := pcieFunction s fn } :: cq.posted,
    tail := (cq.tail + 1) % cq.size, phase := if cq.tail + 1 = cq.size then !cq.phase else cq.phase } := by
  rw [postEntry, cqOf_modCq_same, h, Option.map_some]

theorem acceptWrite_of_not_write (hw : isWriteOpc x.e.opc = false) (s : State) : acceptWrite x s = s := by
  simp [acceptWrite, hw]

theorem noteFlushes_of_not_write (hw : isWriteOpc x.e.opc = false) (s : State) : noteFlushes fn sqid c x s = s := by
  have hcover (t : State) (f : Ctx) : writeCover t f x = none := by simp [writeCover, hw]
  have hpart : notePartial fn sqid x s = s := by simp [notePartial, hw]
  simp only [noteFlushes, hcover, whenSome_none, hpart]
  split
  · rfl
  · refine forEach_keeps id _ (fun i t => ?_) _ s
    dsimp only [id]
    split
    · rfl
    · split <;> rfl

theorem settleDiscard_of_none (h : ∀ q, sqOf s fn sqid = some q → q.discarding = none) : settleDiscard fn sqid s = s := by
  unfold settleDiscard
  split
  · rfl
  · next q hq => rw [h q hq]

theorem settleDelete_of_none (h : ∀ q, sqOf s fn sqid = some q → q.deleting = none) : settleDelete fn sqid s = s := by
  unfold settleDelete
  split
  · rfl
  · next q hq => rw [h q hq]

/-- No command waits for the posting of others: no Namespace Attachment or Management is COMMITTED (03_queues.md R110). -/
def noDetach (s : State) : Bool := s.ce.ctxs.all (fun p => !(p.2.e.opc == 0x15 || p.2.e.opc == 0x0D) || p.2.st != .committed)

theorem settleDetach_of_none (h : noDetach s = true) : settleDetach s = s := by
  have hnone : s.ce.ctxs.filterMap (fun p =>
      if (p.2.e.opc = 0x15 || p.2.e.opc = 0x0D) && p.2.st = .committed && (p.1 < ioCtx || p.2.tunnel) then some (p.1, p.2) else none) = [] := by
    refine List.filterMap_eq_nil_iff.2 fun p hp => if_neg fun hw => ?_
    have hp := List.all_eq_true.1 h p hp
    simp only [Bool.or_eq_true, Bool.and_eq_true, Bool.not_eq_true', Bool.or_eq_false_iff, beq_eq_false_iff_ne, decide_eq_true_eq,
      bne_iff_ne] at hw hp
    obtain ⟨⟨hopc, hst⟩, -⟩ := hw
    rcases hp with ⟨h15, h0d⟩ | hp
    · exact hopc.elim h15 h0d
    · exact hp hst
  rw [settleDetach, hnone, forEach_nil]

/-- A change of one queue is the change of that queue, or none. -/
theorem sqOf_modSq_cases {fn' q' : Nat} {f : Sq → Sq} {p : Sq} (h : sqOf (modSq fn' q' f s) fn sqid = some p) :
    ∃ r, sqOf s fn sqid = some r ∧ (p = r ∨ p = f r) := by
  by_cases hk : qKey fn sqid = qKey fn' q'
  · have hsame : sqOf (modSq fn' q' f s) fn sqid = (sqOf s fn sqid).map f := by
      simp [sqOf, modSq, hk, tfind_talter_same]
    obtain ⟨r, hr, rfl⟩ := Option.map_eq_some_iff.1 (hsame.symm.trans h)
    exact ⟨r, hr, .inr rfl⟩
  · exact ⟨p, (sqOf_modSq_other hk f s).symm.trans h, .inl rfl⟩

/-- A context freed leaves its queue without it; nothing else of a queue changes. -/
theorem sqOf_freeCtx_cases {p : Sq} (h : sqOf (freeCtx c s) fn sqid = some p) :
    ∃ r, sqOf s fn sqid = some r ∧ ∃ l l', p = { r with live := l, continuing := l' } := by
  unfold freeCtx at h
  split at h
  · exact ⟨p, h, p.live, p.continuing, rfl⟩
  · obtain ⟨r, hr, rfl | rfl⟩ := sqOf_modSq_cases h
    · exact ⟨p, hr, p.live, p.continuing, rfl⟩
    · exact ⟨r, hr, _, _, rfl⟩

/-- The posting of the next command's entry, of no write: the entry, the context freed, and what waits for it looked at again. -/
theorem exec_completionPosted_of_next (hq : sqOf s fn sqid = some q) (hcq : cqOf s fn q.cqid = some cq) (hup : s.gr.holdup = false)
    (hroom : cqRoom cq = true) (hnext : nextPost s sqid q = some (c, x)) (hf : ctxFresh s x = true) (hw : isWriteOpc x.e.opc = false) :
    exec (.completionPosted fn sqid) s = .next (settleDetach (settleDelete fn sqid (settleResume fn sqid (settleDiscard fn sqid
      (freeCtx c (posted s fn sqid q x)))))) := by
  simp only [exec, execCompletionPosted, hq, hcq, hup, hroom, hnext, hf, Bool.not_true, Bool.or_self, Bool.false_eq_true, if_false,
    acceptWrite_of_not_write hw, noteFlushes_of_not_write hw]
  rfl

/-- A context freed commits no command. -/
theorem noDetach_freeCtx (h : noDetach s = true) : noDetach (freeCtx c s) = true := by
  unfold freeCtx
  split
  · exact h
  · simp only [noDetach, modSq, onCe_ce, tdel, List.all_filter]
    exact List.all_eq_true.2 fun p hp => by rw [List.all_eq_true.1 h p hp, Bool.or_true]

/-- Where nothing waits for the posting of an entry, nothing goes on behind it. -/
theorem exec_completionPosted (hq : sqOf s fn sqid = some q) (hcq : cqOf s fn q.cqid = some cq) (hup : s.gr.holdup = false)
    (hroom : cqRoom cq = true) (hnext : nextPost s sqid q = some (c, x)) (hf : ctxFresh s x = true) (hw : isWriteOpc x.e.opc = false)
    (hdel : q.deleting = none) (hdis : q.discarding = none) (hres : q.resuming = none) (hdet : noDetach s = true) :
    exec (.completionPosted fn sqid) s = .next (freeCtx c (posted s fn sqid q x)) := by
  have hleft (p : Sq) (hp : sqOf (freeCtx c (posted s fn sqid q x)) fn sqid = some p) :
      p.deleting = none ∧ p.discarding = none ∧ p.resuming = none := by
    obtain ⟨r, hr, l, l', rfl⟩ := sqOf_freeCtx_cases hp
    obtain rfl : q = r := Option.some.inj (hq.symm.trans hr)
    exact ⟨hdel, hdis, hres⟩
  rw [exec_completionPosted_of_next hq hcq hup hroom hnext hf hw, settleDiscard_of_none fun p hp => (hleft p hp).2.1,
    settleResume_of_none fun p hp => (hleft p hp).2.2, settleDelete_of_none fun p hp => (hleft p hp).1,
    settleDetach_of_none (noDetach_freeCtx (by exact hdet))]

theorem ctxOf_freeCtx_same (c : Nat) (s : State) : ctxOf (freeCtx c s) c = none := by
  unfold freeCtx
  split
  · next h => exact h
  · exact tfind_tdel_same c _

theorem ctxOf_freeCtx_other {i : Nat} (h : i ≠ c) (s : State) : ctxOf (freeCtx c s) i = ctxOf s i := by
  unfold freeCtx
  split
  · rfl
  · exact tfind_tdel_other h _

@[simp] theorem cqOf_freeCtx (c : Nat) (s : State) (fn q : Nat) : cqOf (freeCtx c s) fn q = cqOf s fn q := by
  unfold freeCtx
  split <;> rfl

theorem freeCtx_only_ce (c : Nat) (s : State) : freeCtx c s = { s with ce := (freeCtx c s).ce } := by
  unfold freeCtx
  split <;> rfl

end

/-- Settles O9: the entry is posted and the context freed, and a full completion queue raises event source 101. -/
theorem completionsPost : Obligations.CompletionsPost := by
  unfold Obligations.CompletionsPost
  refine ⟨?_, ?_⟩
  · intro s fn sqid c q cq x hq hcq hup hroom hnext hf hw hdel hdis hres hdet
    exact ⟨_, _, exec_completionPosted hq hcq hup hroom hnext hf hw hdel hdis hres hdet, ctxOf_freeCtx_same c _,
      (cqOf_freeCtx c _ fn q.cqid).trans (cqOf_postEntry hcq _), rfl, rfl, fun i hi => ctxOf_freeCtx_other hi _, freeCtx_only_ce c _⟩
  · intro s fn sqid q cq hq hcq hroom hnext
    refine ⟨raise 101 sevWarning [] s, ?_, pending?_raise_same (by decide) _ _ s, ?_⟩
    · simp [exec, execCompletionPostingWait, hq, hcq, hroom, hnext]
    · obtain ⟨regs, rec', hraise⟩ := raise_only 101 sevWarning [] s
      rw [hraise]

end Sys2Proof.Machine

/-! PROOFS. The statement of log pages, refuted (09_tail_latency.md R274, R275). -/

namespace Sys2Proof.Machine

/-- A Get Log Page for the first 64 bytes of the read margin histogram of namespace 1, whose command names that namespace twice. -/
def histogramCmd : Ctx := { st := .started, e := { opc := 0x02, nsid := 1, cdw10 := 0xC6 + 15 * 65536 }, named := some [1, 1] }

/-- One codeword has been read in namespace 1. -/
def histogramNs : Ns := { zones := 4, attached := some 0, hist := { codewords := 1 } }

/-- The Get Log Page runs in context 1. -/
def histogramAsked : State := { ce := { ctxs := [(1, histogramCmd)] }, ze := { nss := [(1, histogramNs)] } }

/-- The page answered sums the histogram of each namespace named, and counts the codeword twice. -/
theorem exec_readMarginHistogramLog_histogramAsked :
    ∃ t, exec (.readMarginHistogramLog 1) histogramAsked = .next t ∧ (ctxOf t 1).map (fun y => y.out[8]?) = some (some 2#8) :=
  ⟨_, rfl, by decide +kernel⟩

/-- Refutes O36: its clause on the read margin histogram asks that the namespace be named, and not that it be named once. In `histogramAsked`
it is named twice, and the page gives the sum of two histograms. -/
theorem not_logPagesAnswer : ¬ Obligations.LogPagesAnswer := by
  unfold Obligations.LogPagesAnswer
  intro h
  obtain ⟨-, -, -, -, -, -, -, -, -, -, -, -, -, histogram⟩ := h histogramAsked 1 histogramCmd
  have hruns : Safety.LogRuns histogramAsked 1 histogramCmd 0xC6 := by
    unfold Safety.LogRuns Safety.AdminRuns Safety.Runnable
    decide +kernel
  obtain ⟨t, ht, ⟨y, hy, -, -, hout⟩, -⟩ := histogram histogramNs hruns rfl rfl (by decide) (by decide)
  obtain ⟨t', ht', hpage⟩ := exec_readMarginHistogramLog_histogramAsked
  obtain rfl : t = t' := by injection ht.symm.trans ht'
  rw [hy, Option.map_some, hout] at hpage
  exact absurd hpage (by decide +kernel)

end Sys2Proof.Machine

/-! PROOFS. The statement of Flush, Copy and Peer Copy, refuted (02_zones.md R56, 03_queues.md R92). -/

namespace Sys2Proof.Machine

/-- A Copy of the first LBA of zone 1 of namespace 1 to the first LBA of zone 0. -/
def crossedCmd : Ctx := { st := .started, sqid := 1, e := { opc := 0x19, nsid := 1, ranges := [(zoneLbas, 1)] } }

/-- A Full zone whose LBA 0 lies on band 0. -/
def crossedSource : Zone := { st := .full, shape := some {}, band := some 0, wp := 1, units := [(0, {})] }

/-- The Copy runs in context 4096. Its destination is Empty, and band 0 is the free band that the destination would be bound to, though the
zone of its source still names it. -/
def crossedBands : State :=
  { ce := { ctxs := [(4096, crossedCmd)] },
    ze := { nss := [(1, { zones := 4, attached := some 0 })], zones := [(zKey 1 0, { shape := some {} }), (zKey 1 1, crossedSource)],
            bands := [(0, { erased := true })], rows := [(0, { domain := some 0, use := some 0 })], domains := [(0, { fbl := [0] })] },
    ci := { slots := [(0, { loaded := true })] } }

theorem crossedBands_runs : Safety.IoRuns crossedBands 4096 crossedCmd 0x19 := by
  unfold Safety.IoRuns Safety.Runnable
  decide +kernel

theorem crossedBands_sources : Safety.SourcesUsable crossedBands crossedCmd := by
  unfold Safety.SourcesUsable
  decide +kernel

/-- Before the Copy reads its source, its destination may be bound to band 0. -/
theorem crossedBands_takes : Safety.TakesWrites crossedBands 0 (zKey 1 0) false (some 0) := by
  have hleaves : Safety.LeavesEmpty crossedBands 0 (zKey 1 0) false 0 := by
    unfold Safety.LeavesEmpty Safety.RoomActive
    decide +kernel
  have hroom : Safety.RoomOpen crossedBands (zNsid (zKey 1 0)) := by
    unfold Safety.RoomOpen
    decide +kernel
  exact ⟨by decide +kernel, by decide +kernel, by decide +kernel, by decide +kernel, .inr (.inr ⟨0, hleaves, hroom, rfl⟩)⟩

theorem crossedBands_fits : Safety.Fits crossedBands (zKey 1 0) (some 0) crossedCmd.e 0 := by
  unfold Safety.Fits
  decide +kernel

/-- Once it reads its source, band 0 is being read and cannot be bound (R56): the Copy waits for another band. -/
theorem exec_copy_crossedBands : ∃ t, exec (.copy 4096) crossedBands = .next t ∧ (ctxOf t 4096).map Ctx.validated = some false :=
  ⟨_, rfl, by decide +kernel⟩

/-- Refutes O42: its clause on Copy asks for a band for the destination as the bands stand before the sources are looked up. In `crossedBands`
the source lies on that band, so that the read of it holds the band back, and the Copy is not validated. -/
theorem not_flushCopyAndPeerCopyRun : ¬ Obligations.FlushCopyAndPeerCopyRun := by
  unfold Obligations.FlushCopyAndPeerCopyRun
  rintro ⟨-, copyRuns, -⟩
  obtain ⟨t, ht, -, ⟨⟨y, hy, hval, -⟩, -⟩, -⟩ := copyRuns crossedBands 4096 (zKey 1 0) 0 crossedCmd (some 0) crossedBands_runs (by decide +kernel)
    (by decide +kernel) (by decide +kernel) rfl rfl crossedBands_sources (by decide +kernel) crossedBands_takes crossedBands_fits
  obtain ⟨t', ht', hwaits⟩ := exec_copy_crossedBands
  obtain rfl : t = t' := by injection ht.symm.trans ht'
  rw [hy, Option.map_some, hval] at hwaits
  exact absurd hwaits (by decide)

end Sys2Proof.Machine

/-! PROOFS. Rules of the bookkeeping of zones, bands, the Granary and the links: what of it reaches the command engine, the board and mirror mode
(10_granary.md R281, R286 to R288, R307; 05_transforms.md R148), and which commands look at what reaches flash (02_zones.md R64, R86, R88). -/

namespace Sys2Proof.Machine

/-! ### What the bookkeeping leaves -/

/-- Mirror mode as it was set. -/
def mirrorMode (g : Granary) : Bool × Nat × Nat × Nat := (g.mirEn, g.mirPolicy, g.mirPartner, g.mirTmo)

/-- What the bookkeeping of zones, bands, the Granary and the links never changes. -/
def hostSide (s : State) : Engine × Board × (Bool × Nat × Nat × Nat) := (s.ce, s.board, mirrorMode s.gr)

theorem ce_of_hostSide {s t : State} (h : hostSide t = hostSide s) : t.ce = s.ce := congrArg Prod.fst h

@[simp] theorem hostSide_onPb (f : Balwen → Balwen) (s : State) : hostSide (onPb f s) = hostSide s := rfl
@[simp] theorem hostSide_onLr (f : Larder → Larder) (s : State) : hostSide (onLr f s) = hostSide s := rfl
@[simp] theorem hostSide_onFl (f : Flash → Flash) (s : State) : hostSide (onFl f s) = hostSide s := rfl
@[simp] theorem hostSide_onZe (f : ZoneEngine → ZoneEngine) (s : State) : hostSide (onZe f s) = hostSide s := rfl
@[simp] theorem hostSide_setBuf (k : Nat) (b : Buf) (s : State) : hostSide (setBuf k b s) = hostSide s := rfl
@[simp] theorem hostSide_tookFree (s : State) : hostSide (tookFree s) = hostSide s := rfl
@[simp] theorem hostSide_modZone (key : Nat) (f : Zone → Zone) (s : State) : hostSide (modZone key f s) = hostSide s := rfl
@[simp] theorem hostSide_modBand (b : Nat) (f : Band → Band) (s : State) : hostSide (modBand b f s) = hostSide s := rfl
@[simp] theorem hostSide_modRow (r : Nat) (f : Row → Row) (s : State) : hostSide (modRow r f s) = hostSide s := rfl
@[simp] theorem hostSide_modBlk (dk i : Nat) (f : DieBlk → DieBlk) (s : State) : hostSide (modBlk dk i f s) = hostSide s := rfl

/-- A change of the Granary that leaves mirror mode as it was set. -/
theorem hostSide_onGr {f : Granary → Granary} (h : ∀ g, mirrorMode (f g) = mirrorMode g) (s : State) : hostSide (onGr f s) = hostSide s := by
  simp only [hostSide, onGr_ce, onGr_board, onGr_gr, h]

theorem hostSide_of_offLink {s t : State} (h : offLink t = offLink s) : hostSide t = hostSide s :=
  (congrArg hostSide h :)
theorem hostSide_of_offCipher {s t : State} (h : offCipher t = offCipher s) : hostSide t = hostSide s :=
  (congrArg hostSide h :)

@[simp] theorem hostSide_count (cnt ovf : Ref) (i n : Nat) (s : State) : hostSide (count cnt ovf i n s) = hostSide s :=
  hostSide_of_offLink (offLink_count cnt ovf i n s)
@[simp] theorem hostSide_raise (src sev : Nat) (ps : List Nat) (s : State) : hostSide (raise src sev ps s) = hostSide s :=
  hostSide_of_offLink (offLink_raise src sev ps s)
@[simp] theorem hostSide_sendMsg (typ dst len : Nat) (msg : List Nat) (block : Block) (s : State) :
    hostSide (sendMsg typ dst len msg block s).1 = hostSide s :=
  hostSide_of_offLink (offLink_sendFrame _ s)
@[simp] theorem hostSide_settleSlot (k : Nat) (s : State) : hostSide (settleSlot k s) = hostSide s :=
  hostSide_of_offCipher (offCipher_settleSlot k s)

/-! ### Buffers of the Larder (13_larder.md R373, R376) -/

@[simp] theorem hostSide_grantBuf (p owner : Nat) (s : State) : hostSide (grantBuf p owner s) = hostSide s := by
  unfold grantBuf
  split
  · rfl
  · exact (onlyIf_keeps hostSide _ _ _ (fun t => hostSide_raise _ _ _ t)).trans (by simp)

@[simp] theorem hostSide_lrServe (p : Nat) (s : State) : hostSide (lrServe p s) = hostSide s := by
  simp only [lrServe]
  split
  · rfl
  · simp

@[simp] theorem hostSide_lrOp (op issuer handle arg : Nat) (s : State) : hostSide (lrOp op issuer handle arg s) = hostSide s := by
  simp only [lrOp]
  split
  · simp [lrRefuse]
  split
  · rfl
  · rw [onlyIf_keeps hostSide _ _ _ (fun t => hostSide_lrServe _ t), onlyIf_keeps hostSide _ _ _ (fun t => by simp), hostSide_setBuf]

/-! ### Items of the Granary (10_granary.md R281, R287) -/

@[simp] theorem hostSide_putItem_fresh (kind bytes a b n : Nat) (s : State) : hostSide (putItem.fresh kind bytes a b n s).2 = hostSide s :=
  (hostSide_onGr (fun _ => rfl) _).trans (hostSide_grantBuf 5 _ s)

@[simp] theorem hostSide_putItem (kind bytes a b : Nat) (s : State) : hostSide (putItem kind bytes a b s).2 = hostSide s := by
  unfold putItem
  dsimp only
  split
  · split
    · exact hostSide_onGr (fun _ => rfl) s
    · simp
  · simp

@[simp] theorem hostSide_putState (kind bytes a b : Nat) (s : State) : hostSide (putState kind bytes a b s) = hostSide s := by
  simp only [putState]
  split
  · simp
  · exact hostSide_onGr (fun _ => rfl) s

@[simp] theorem hostSide_placeItem (kind bytes a b : Nat) (s : State) : hostSide (placeItem kind bytes a b s).2 = hostSide s := by
  rw [placeItem, apply_ite Prod.snd, apply_ite hostSide, hostSide_putItem]
  exact ite_self _

@[simp] theorem hostSide_placeLate (s : State) : hostSide (placeLate s) = hostSide s := by
  simp only [placeLate]
  split
  · rfl
  · exact (forEach_keeps hostSide _ (fun _ t => hostSide_putState _ _ _ _ t) _ _).trans (hostSide_onGr (fun _ => rfl) s)

/-- What each step of a fold keeps of the state that it carries along, the fold keeps. -/
theorem foldl_snd_keeps {α β γ : Type} (g : State → γ) (f : β × State → α → β × State) (h : ∀ acc a, g (f acc a).2 = g acc.2) (l : List α) :
    ∀ acc, g (l.foldl f acc).2 = g acc.2 := by
  induction l with
  | nil => intro acc; rfl
  | cons a l ih => intro acc; rw [List.foldl_cons, ih, h]

@[simp] theorem hostSide_placeRest (s : State) : hostSide (placeRest s) = hostSide s := by
  simp only [placeRest]
  split
  · rfl
  rw [forEach_keeps hostSide _ (fun o t => ?_), forEach_keeps hostSide _ (fun z t => ?_)]
  · rfl
  · rw [hostSide_modZone, foldl_snd_keeps hostSide _ (fun acc f => ?_), forEach_keeps hostSide _ (fun u t => ?_)]
    · simp
    · split <;> simp
  · rw [hostSide_onPb, foldl_snd_keeps hostSide _ (fun acc p => ?_)]
    split <;> simp

@[simp] theorem hostSide_freeItem (k : Nat) (s : State) : hostSide (freeItem k s) = hostSide s := by
  have hdrop : hostSide (dropSeg k s) = hostSide s := by
    unfold dropSeg
    split
    · rfl
    · rw [hostSide_lrOp]
      rfl
  unfold freeItem
  split
  · rfl
  split
  · exact hostSide_onGr (fun _ => rfl) s
  · simp [segsFreed, hdrop]

/-! ### The journal and the zones' deltas (10_granary.md R281) -/

@[simp] theorem hostSide_sendRecord (item : Nat × Nat) (f : TxFrame) (s : State) : hostSide (sendRecord item f s) = hostSide s := by
  simp only [sendRecord]
  split
  · exact (hostSide_of_offLink (offLink_sendFrame _ _)).trans (hostSide_onGr (fun _ => rfl) s)
  · rfl

@[simp] theorem hostSide_journal (r : JRec) (s : State) : hostSide (journal r s) = hostSide s := by
  simp only [journal, journalAll]
  rw [onlyIf_keeps hostSide _ _ _ (fun t => ?_)]
  · simp
  · exact forEach_keeps hostSide _ (fun p t => hostSide_sendRecord _ _ t) _ t

@[simp] theorem hostSide_noteDelta (key : Nat) (s : State) : hostSide (noteDelta key s) = hostSide s := by
  obtain ⟨f, h⟩ := noteDelta_eq key s
  have hplace : hostSide (placeDelta key s) = hostSide s := by
    unfold placeDelta
    split <;> simp
  rw [h, hostSide_sendRecord, ← hplace]
  unfold journalDelta
  split <;> simp

/-! ### Bands unbound (02_zones.md R64, R65) -/

@[simp] theorem hostSide_freeBand (b : Nat) (noData : Bool) (s : State) : hostSide (freeBand b noData s) = hostSide s := by
  have hrow (r : Nat) (t : State) : hostSide (settleRow r t) = hostSide t := by
    simp only [settleRow]
    split <;> simp
  simp only [freeBand, hrow]
  split
  · simp
  · exact (forEach_keeps hostSide _ (fun dk t => hostSide_modBlk _ _ _ t) _ _).trans (hostSide_modBand b _ s)

@[simp] theorem hostSide_unbind (key : Nat) (noData : Bool) (s : State) : hostSide (unbind key noData s) = hostSide s := by
  unfold unbind
  split <;> simp

@[simp] theorem hostSide_dropMove (key reason : Nat) (s : State) : hostSide (dropMove key reason s) = hostSide s := by
  simp only [dropMove]
  split
  · rfl
  · rw [hostSide_raise, forEach_keeps hostSide _ (fun k t => hostSide_settleSlot k t)]
    simp [nextRelGen]

@[simp] theorem hostSide_releaseCopies (gone : List (Nat × Nat)) (s : State) : hostSide (releaseCopies gone s) = hostSide s := by
  simp only [releaseCopies]
  split
  · rfl
  split
  · exact (forEach_keeps hostSide _ (fun l t => hostSide_sendMsg _ _ _ _ _ t) _ _).trans (hostSide_onGr (fun _ => rfl) s)
  · exact hostSide_onGr (fun _ => rfl) s

@[simp] theorem hostSide_dropZoneData (key : Nat) (s : State) : hostSide (dropZoneData key s) = hostSide s := by
  simp only [dropZoneData, hostSide_modZone, hostSide_releaseCopies]
  exact forEach_keeps hostSide _ (fun k t => hostSide_freeItem k t) _ s

/-! ### Stripes forced (05_transforms.md R148, 10_granary.md R288, R289) -/

@[simp] theorem hostSide_forceOut (key slot : Nat) (s : State) : hostSide (forceOut key slot s) = hostSide s := by
  simp only [forceOut]
  split <;> simp

@[simp] theorem hostSide_forceStripe (key w : Nat) (why : Force) (s : State) : hostSide (forceStripe key w why s) = hostSide s := by
  have hcount (t : State) : hostSide (countForce why t) = hostSide t := hostSide_onGr (fun g => by cases why <;> rfl) t
  simp only [forceStripe]
  split
  · rfl
  · rw [apply_ite hostSide, hostSide_noteDelta, hcount]
    exact ite_self _

@[simp] theorem hostSide_forceTo (key e : Nat) (why : Force) (s : State) : hostSide (forceTo key e why s) = hostSide s := by
  have hout : hostSide (if why = .fua || why = .flush then forceOutBelow key e s else forceOutAll key s) = hostSide s := by
    split
    · exact forEach_keeps hostSide _ (fun k t => hostSide_forceOut key k t) _ s
    · exact forEach_keeps hostSide _ (fun k t => hostSide_forceOut key k t) _ s
  simp only [forceTo]
  generalize (if why = .fua || why = .flush then forceOutBelow key e s else forceOutAll key s) = t at hout ⊢
  split
  · exact hout
  split
  · rw [apply_ite hostSide, hostSide_forceStripe, ite_self, hout]
  · exact hout

@[simp] theorem hostSide_forceFor (c : Nat) (s : State) : hostSide (forceFor c s) = hostSide s := by
  unfold forceFor
  split
  · rfl
  split_ifs <;> simp

/-! ### Commands that wait for flash or for the partner looked at again (02_zones.md R64, R86, R88) -/

/-- What a change made for every element keeps true each time, the repeated change keeps true. -/
theorem forEach_inv {α : Type} {P : State → Prop} {f : α → State → State} (h : ∀ a t, P t → P (f a t)) (l : List α) :
    ∀ s, P s → P (forEach l f s) := by
  induction l with
  | nil => exact fun s hs => hs
  | cons a l ih => exact fun s hs => ih _ (h a s hs)

/-- What a command's end or a queue's posting looks at: one context, the functions, and the Resume Queue in progress on one queue. -/
def engineView (c fn q : Nat) (s : State) : Option Ctx × List (Nat × Fn) × Option (Option (Nat × (List Nat × List Nat))) :=
  (ctxOf s c, s.ce.fns, (sqOf s fn q).map Sq.resuming)

theorem engineView_modCtx_other {c d : Nat} (h : c ≠ d) (f : Ctx → Ctx) (fn q : Nat) (s : State) :
    engineView c fn q (modCtx d f s) = engineView c fn q s := by
  rw [engineView, ctxOf_modCtx_other h]
  rfl

theorem engineView_modSq {f : Sq → Sq} (h : ∀ p, (f p).resuming = p.resuming) (c fn q fn' q' : Nat) (s : State) :
    engineView c fn q (modSq fn' q' f s) = engineView c fn q s := by
  have hsq : (sqOf (modSq fn' q' f s) fn q).map Sq.resuming = (sqOf s fn q).map Sq.resuming := by
    by_cases hk : qKey fn q = qKey fn' q'
    · have hsame : sqOf (modSq fn' q' f s) fn q = (sqOf s fn q).map f := by simp [sqOf, modSq, hk, tfind_talter_same]
      rw [hsame, Option.map_map]
      exact congrArg (fun g => (sqOf s fn q).map g) (funext h)
    · rw [sqOf_modSq_other hk]
  rw [engineView, hsq]
  rfl

/-- The end of another command with Success changes nothing of this. -/
theorem engineView_complete_other {c d : Nat} (h : c ≠ d) (fn q dw0 dw1 : Nat) (s : State) :
    engineView c fn q (complete d stOk dw0 dw1 s) = engineView c fn q s := by
  have hdel (t : State) : engineView c fn q (onCe (fun e => { e with ctxs := tdel d e.ctxs }) t) = engineView c fn q t := by
    have hctx : ctxOf (onCe (fun e => { e with ctxs := tdel d e.ctxs }) t) c = ctxOf t c := tfind_tdel_other h _
    rw [engineView, hctx]
    rfl
  unfold complete
  split
  · rfl
  next x hx =>
  split
  · rw [hdel]
    unfold tunnelReply miRespond
    split <;> rfl
  split
  · simp only [freeCtx, hx]
    refine (engineView_modSq ?_ _ _ _ _ _ _).trans (hdel s)
    exact fun _ => rfl
  split
  · rfl
  · rw [freezeQueue_of_quiet (x := withStatus stOk dw0 dw1 x) (by exact (ctxOf_modCtx_same d _ s).trans (congrArg _ hx)) (.inl freezing_stOk),
      engineView_modCtx_other h]

/-- A command that waits for nothing on flash or at the partner: it is not committed, and is no started I/O command. -/
def Unwaiting (x : Ctx) : Prop := x.st ≠ .committed ∧ (x.st = .started → x.sqid = 0)

section
variable {s : State} {c : Nat} (h : ∀ x, ctxOf s c = some x → Unwaiting x)
include h

theorem settleWrite_of_unwaiting : settleWrite c s = s := by
  unfold settleWrite
  split
  · rfl
  · next x hx => simp [(h x hx).1]

theorem settleZone_of_unwaiting : settleZone c s = s := by
  unfold settleZone
  split
  · rfl
  · next x hx => simp [(h x hx).1]

theorem settleFlush_of_unwaiting : settleFlush c s = s := by
  unfold settleFlush onIo onStarted startedWith
  cases hx : ctxOf s c with
  | none => rfl
  | some x =>
    by_cases hst : x.st = .started
    · by_cases hop : x.e.opc = 0x00
      · simp [hst, hop, (h x hx).2 hst]
      · simp [hop]
    · simp [hst]

end

theorem engineView_settleWrite_other {c d : Nat} (h : c ≠ d) (fn q : Nat) (s : State) :
    engineView c fn q (settleWrite d s) = engineView c fn q s := by
  unfold settleWrite
  split
  · rfl
  split
  · rfl
  dsimp only
  split
  · exact engineView_modCtx_other h _ _ _ _
  · rw [engineView_complete_other h, engineView_modCtx_other h]

theorem engineView_settleZone_other {c d : Nat} (h : c ≠ d) (fn q : Nat) (s : State) :
    engineView c fn q (settleZone d s) = engineView c fn q s := by
  unfold settleZone
  split
  · rfl
  split
  · exact engineView_complete_other h _ _ _ _ _
  · rfl

/-- A Flush looked at again keeps what is not on flash, and ends where nothing is left. -/
theorem settleFlush_cases (d : Nat) (s : State) : settleFlush d s = s ∨ ∃ left : List (Nat × (Nat × Nat)),
    settleFlush d s = modCtx d (fun x => { x with cover := left }) s ∨
    settleFlush d s = succeed d (modCtx d (fun x => { x with cover := left }) s) := by
  unfold settleFlush onIo onStarted
  split
  · exact .inl rfl
  dsimp only
  split
  · exact .inl rfl
  split
  · exact .inl rfl
  split
  · exact .inr ⟨_, .inr rfl⟩
  · exact .inr ⟨_, .inl rfl⟩

theorem engineView_settleFlush_other {c d : Nat} (h : c ≠ d) (fn q : Nat) (s : State) :
    engineView c fn q (settleFlush d s) = engineView c fn q s := by
  obtain he | ⟨left, he | he⟩ := settleFlush_cases d s
  · rw [he]
  · rw [he, engineView_modCtx_other h]
  · rw [he, succeed, engineView_complete_other h, engineView_modCtx_other h]

/-- The look at what waits changes nothing of a command that waits for nothing. -/
theorem engineView_settleAll {s : State} {c : Nat} (h : ∀ x, ctxOf s c = some x → Unwaiting x) (fn q : Nat) :
    engineView c fn q (settleAll s) = engineView c fn q s := by
  have hun {t : State} (ht : engineView c fn q t = engineView c fn q s) (x : Ctx) (hx : ctxOf t c = some x) : Unwaiting x :=
    h x ((congrArg Prod.fst ht).symm.trans hx)
  have hboth (d : Nat) (t : State) (ht : engineView c fn q t = engineView c fn q s) :
      engineView c fn q (settleZone d (settleWrite d t)) = engineView c fn q s := by
    by_cases hd : c = d
    · subst hd
      rw [settleWrite_of_unwaiting (hun ht), settleZone_of_unwaiting (hun ht), ht]
    · rw [engineView_settleZone_other hd, engineView_settleWrite_other hd, ht]
  have hflush (d : Nat) (t : State) (ht : engineView c fn q t = engineView c fn q s) :
      engineView c fn q (settleFlush d t) = engineView c fn q s := by
    by_cases hd : c = d
    · subst hd
      rw [settleFlush_of_unwaiting (hun ht), ht]
    · rw [engineView_settleFlush_other hd, ht]
  exact forEach_inv hflush _ _ (forEach_inv hboth _ _ rfl)

/-- The look at what waits changes nothing beside the command engine, the events and the management endpoint. -/
@[simp] theorem offEngine_settleAll (s : State) : offEngine (settleAll s) = offEngine s := by
  have hwrite (d : Nat) (t : State) : offEngine (settleWrite d t) = offEngine t := by
    unfold settleWrite
    split
    · rfl
    split
    · rfl
    dsimp only
    split <;> simp
  have hzone (d : Nat) (t : State) : offEngine (settleZone d t) = offEngine t := by
    unfold settleZone
    split
    · rfl
    split <;> simp [succeed]
  have hflush (d : Nat) (t : State) : offEngine (settleFlush d t) = offEngine t := by
    obtain he | ⟨left, he | he⟩ := settleFlush_cases d t <;> simp [he, succeed]
  exact (forEach_keeps offEngine _ hflush _ _).trans (forEach_keeps offEngine _ (fun d t => (hzone d _).trans (hwrite d t)) _ s)

end Sys2Proof.Machine

/-! PROOFS. The statement of frozen queues resumed (03_queues.md R102 to R104). -/

namespace Sys2Proof.Machine

/-! ### A Resume Queue on a frozen queue (03_queues.md R102) -/

section
variable {s : State} {c : Nat} {x : Ctx} {q : Sq} {f : Freeze}

/-- On a frozen queue where no Resume Queue is in progress and no held command runs, a Resume Queue acts. -/
theorem resume_of_frozen {discard : Bool} (act : Ctx → Nat → Sq → List Nat → State → State) (hx : Safety.AdminRuns s c x 0xC0)
    (hbit : bit x.e.cdw11 0 = discard) (hdrain : (bit x.e.cdw11 1 && !discard) = false) (hq : sqOf s x.fn (eQid x.e) = some q)
    (hf : q.frozen = some f) (hdis : q.discarding = none) (hres : q.resuming = none) (hrun : (heldOf q f).any (running s) = false) :
    resume c discard act s = act x (eQid x.e) q (heldOf q f) s := by
  rw [resume, onAdmin_of_runs hx]
  simp only [hbit, bne_self_eq_false, hq, hf, hdrain, hdis, hres, hrun, Option.isSome_none, Bool.or_false, Bool.false_eq_true, if_false]

/-- No held command remains to be posted or started: the Resume Queue in progress ends with their number (R103). -/
theorem settleResume_of_done {fn sqid r : Nat} {held starts : List Nat} (hq : sqOf s fn sqid = some q) (hres : q.resuming = some (r, held, starts))
    {n : Nat} (hdone : resumeDone s q held starts = (n, true)) :
    settleResume fn sqid s = complete r stOk n 0 (modSq fn sqid (fun q => { q with resuming := none }) s) := by
  simp only [settleResume, hq, hres, hdone, if_true]

theorem settleResume_of_waits {fn sqid r : Nat} {held starts : List Nat} (hq : sqOf s fn sqid = some q) (hres : q.resuming = some (r, held, starts))
    (hwaits : (resumeDone s q held starts).2 = false) : settleResume fn sqid s = s := by
  simp only [settleResume, hq, hres, hwaits, Bool.false_eq_true, if_false]

/-- A held command of an unfrozen queue that is live, and that is still to be started where it has to be, keeps the Continue waiting. -/
theorem resumeDone_of_held {i : Nat} {held starts : List Nat} (hi : i ∈ held) (hlive : i ∈ q.live) (hfz : q.frozen = none)
    (hstart : i ∈ starts → ∃ y, ctxOf s i = some y ∧ y.st = .fetched) : (resumeDone s q held starts).2 = false := by
  refine List.all_eq_false.2 ⟨i, hi, ?_⟩
  by_cases hs : i ∈ starts
  · obtain ⟨y, hy, hst⟩ := hstart hs
    simp [hlive, hfz, hy, hst]
  · simp [hlive, hfz, hs]

/-- The entries of a Discard are not all posted, or the freeze's own is not: the queue stays frozen (R104). -/
theorem settleDiscard_of_waits {fn sqid r : Nat} {held : List Nat} (hq : sqOf s fn sqid = some q) (hdis : q.discarding = some (r, held))
    (hwaits : (held.any (fun c => q.live.contains c) || !q.drain.isEmpty || (q.frozen.map (fun f => q.live.contains f.ctx)).getD false) = true) :
    settleDiscard fn sqid s = s := by
  simp only [settleDiscard, hq, hdis, hwaits, if_true]

/-- A queue unfrozen at the end of a Discard of `n` held commands, and its Resume Queue ended (R104). -/
def unfrozen (fn sqid r n : Nat) (s : State) : State :=
  modCtx r (withStatus stOk n 0) (raise 98 sevInfo [] (modSq fn sqid (fun q => { q with frozen := none, discarding := none }) s))

/-- None is left to post: the queue is unfrozen, event source 98 is raised, and the Resume Queue ends with the number of held commands (R104). -/
theorem settleDiscard_of_done {fn sqid r : Nat} {held : List Nat} {y : Ctx} (hq : sqOf s fn sqid = some q) (hdis : q.discarding = some (r, held))
    (hlive : q.live = []) (hdrain : q.drain = []) (hr : ctxOf s r = some y) (hst : y.st ≠ .completed) (htun : y.tunnel = false)
    (hf : ctxFresh s y = true) : settleDiscard fn sqid s = unfrozen fn sqid r held.length s := by
  have hposted : (held.any (fun c => q.live.contains c) || !q.drain.isEmpty ||
      (q.frozen.map (fun f => q.live.contains f.ctx)).getD false) = false := by
    cases hf : q.frozen <;> simp [hlive, hdrain]
  simp only [settleDiscard, hq, hdis, hposted, Bool.false_eq_true, if_false]
  refine complete_of_quiet (x := y) ?_ htun ((ctxFresh_of_fnOf (by simp)).trans hf) hst (.inl freezing_stOk) _ 0
  rw [ctxOf_raise, ctxOf_modSq, hr]

theorem ended_unfrozen {fn sqid r n : Nat} {y : Ctx} (hr : ctxOf s r = some y) : Safety.Ended (unfrozen fn sqid r n s) r stOk n :=
  ended_modCtx_withStatus (x := y) (by rw [ctxOf_raise, ctxOf_modSq, hr]) _ _ _

theorem pending?_unfrozen {fn sqid r n : Nat} : pending? (unfrozen fn sqid r n s) 98 = true :=
  pending?_raise_same (by decide) _ _ _

theorem sqOf_unfrozen {fn sqid r n : Nat} (hq : sqOf s fn sqid = some q) :
    sqOf (unfrozen fn sqid r n s) fn sqid = some { q with frozen := none, discarding := none } := by
  rw [unfrozen, sqOf_modCtx, sqOf_raise, sqOf_modSq_same, hq, Option.map_some]

theorem cqOf_unfrozen (fn sqid r n fn' q' : Nat) : cqOf (unfrozen fn sqid r n s) fn' q' = cqOf s fn' q' := by
  rw [unfrozen, cqOf_modCtx, cqOf_raise, cqOf_modSq]

end

/-! ### Continue (03_queues.md R103) -/

section
variable {s : State} {c : Nat} {x : Ctx} {q : Sq} {f : Freeze}

/-- The held commands that a Continue has to start. -/
def toStart (s : State) (held : List Nat) : List Nat := held.filter (fun i => ((ctxOf s i).map (fun y => y.st == .fetched)).getD false)

/-- The queue unfrozen by a Continue, and the state in which the Continue looks at its held commands. -/
def resumed (s : State) (c : Nat) (x : Ctx) (held : List Nat) : State :=
  modSq x.fn (eQid x.e) (fun q => { q with frozen := none, continuing := held, resuming := some (c, held, toStart s held) })
    (modCtx c (fun y => { y with st := .committed }) s)
def continuing (s : State) (c : Nat) (x : Ctx) (held : List Nat) : State := raise 98 sevInfo [] (resumed s c x held)

theorem exec_resumeContinue (hx : Safety.AdminRuns s c x 0xC0) (hbit : bit x.e.cdw11 0 = false) (hdrain : bit x.e.cdw11 1 = false)
    (hq : sqOf s x.fn (eQid x.e) = some q) (hf : q.frozen = some f) (hdis : q.discarding = none) (hres : q.resuming = none)
    (hrun : (heldOf q f).any (running s) = false)
    (hok : (heldOf q f).all (fun i => ((ctxOf s i).map (fun y => !(y.st == .completed && freezing y.status))).getD true) = true) :
    exec (.resumeContinue c) s = .next (settleResume x.fn (eQid x.e) (continuing s c x (heldOf q f))) := by
  have hagain : (heldOf q f).find? (fun i => ((ctxOf s i).map (fun y => y.st == .completed && freezing y.status)).getD false) = none := by
    refine List.find?_eq_none.2 fun i hi => ?_
    have hone := List.all_eq_true.1 hok i hi
    cases hy : ctxOf s i with
    | none => simp
    | some y => simpa [hy, imp_iff_not_or] using hone
  rw [exec, execResumeContinue, resume_of_frozen _ hx hbit (by rw [hdrain]; rfl) hq hf hdis hres hrun]
  simp only [hagain, whenSome_none]
  rfl

theorem sqOf_continuing (hq : sqOf s x.fn (eQid x.e) = some q) (held : List Nat) : sqOf (continuing s c x held) x.fn (eQid x.e) =
    some { q with frozen := none, continuing := held, resuming := some (c, held, toStart s held) } := by
  rw [continuing, sqOf_raise, resumed, sqOf_modSq_same, sqOf_modCtx, hq, Option.map_some]

theorem ctxOf_continuing_same (hx : ctxOf s c = some x) (held : List Nat) : ctxOf (continuing s c x held) c = some { x with st := .committed } := by
  rw [continuing, ctxOf_raise, resumed, ctxOf_modSq, ctxOf_modCtx_same, hx, Option.map_some]

theorem ctxOf_continuing_other {i : Nat} (hi : i ≠ c) (held : List Nat) : ctxOf (continuing s c x held) i = ctxOf s i := by
  rw [continuing, ctxOf_raise, resumed, ctxOf_modSq, ctxOf_modCtx_other hi]

/-- A command that is held is one of its queue. -/
theorem mem_live_of_held {i : Nat} (hi : i ∈ heldOf q f) : i ∈ q.live := by
  unfold heldOf at hi
  split at hi
  · exact (List.dropWhile_sublist _).subset (List.mem_of_mem_tail hi)
  · exact hi

/-- With a command held, a Continue waits. -/
theorem settleResume_continuing_of_held {i : Nat} (hx : Safety.AdminRuns s c x 0xC0) (hq : sqOf s x.fn (eQid x.e) = some q) (hi : i ∈ heldOf q f) :
    settleResume x.fn (eQid x.e) (continuing s c x (heldOf q f)) = continuing s c x (heldOf q f) := by
  refine settleResume_of_waits (sqOf_continuing hq _) rfl (resumeDone_of_held hi (mem_live_of_held hi) rfl fun hs => ?_)
  have hfetched := (List.mem_filter.1 hs).2
  cases hy : ctxOf s i with
  | none => simp [hy] at hfetched
  | some y =>
    have hic : i ≠ c := by
      rintro rfl
      obtain ⟨⟨hctx, -, hst, -⟩, -⟩ := hx
      simp [hctx, hst] at hfetched
    exact ⟨y, (ctxOf_continuing_other hic _).trans hy, by simpa [hy] using hfetched⟩

/-- With none held, a Continue ends at once. -/
theorem settleResume_continuing_of_none (hx : Safety.AdminRuns s c x 0xC0) (hq : sqOf s x.fn (eQid x.e) = some q) :
    settleResume x.fn (eQid x.e) (continuing s c x []) =
      modCtx c (withStatus stOk 0 0) (modSq x.fn (eQid x.e) (fun q => { q with resuming := none }) (continuing s c x [])) := by
  obtain ⟨⟨hctx, -, -, htun, hfresh⟩, hadm⟩ := hx
  rw [settleResume_of_done (sqOf_continuing hq []) rfl (n := 0) rfl]
  refine complete_of_quiet (x := { x with st := .committed }) (by exact ctxOf_continuing_same hctx []) htun ?_ (by simp) (.inr hadm) 0 0
  refine (ctxFresh_of_fnOf ?_).trans hfresh
  simp [continuing, resumed]

end

/-! ### Discard (03_queues.md R104) -/

section
variable {s : State} {c : Nat} {x : Ctx} {q : Sq} {f : Freeze}

/-- The state in which a Discard looks at what is left to post; `u` is the state in which its held commands have ended. -/
def discarding (u : State) (c : Nat) (x : Ctx) (q : Sq) (held : List Nat) : State :=
  modCtx c (fun y => { y with st := .committed }) (modSq x.fn (eQid x.e) (fun p => { p with
    discarding := some (c, held), continuing := [], drain := if bit x.e.cdw11 1 then q.entries else [],
    entries := if bit x.e.cdw11 1 then [] else p.entries }) u)

theorem exec_resumeDiscard (hx : Safety.AdminRuns s c x 0xC0) (hbit : bit x.e.cdw11 0 = true) (hq : sqOf s x.fn (eQid x.e) = some q)
    (hf : q.frozen = some f) (hdis : q.discarding = none) (hres : q.resuming = none) (hrun : (heldOf q f).any (running s) = false) :
    exec (.resumeDiscard c) s = .next (settleDiscard x.fn (eQid x.e)
      (discarding (forEach (toStart s (heldOf q f)) (fun i => fail i stDiscard) s) c x q (heldOf q f))) := by
  rw [exec, execResumeDiscard, resume_of_frozen _ hx hbit (by simp) hq hf hdis hres hrun]
  rfl

/-- With no command held, nothing ends before the Discard looks at what is left to post. -/
theorem exec_resumeDiscard_of_none (hx : Safety.AdminRuns s c x 0xC0) (hbit : bit x.e.cdw11 0 = true) (hq : sqOf s x.fn (eQid x.e) = some q)
    (hf : q.frozen = some f) (hdis : q.discarding = none) (hres : q.resuming = none) (hheld : heldOf q f = []) :
    exec (.resumeDiscard c) s = .next (settleDiscard x.fn (eQid x.e) (discarding s c x q [])) := by
  have hexec := exec_resumeDiscard hx hbit hq hf hdis hres (by rw [hheld]; rfl)
  rwa [hheld] at hexec

/-- The held command of a queue frozen by another, not yet started, ends with 0x7/0xC0, and the freeze stays where it is. -/
theorem fail_stDiscard_of_held {i : Nat} {y : Ctx} (hy : ctxOf s i = some y) (hst : y.st = .fetched) (htun : y.tunnel = false)
    (hfresh : ctxFresh s y = true) (hq : sqOf s y.fn y.sqid = some q) (hf : q.frozen = some f) (hdel : q.deleting = none)
    (hlive : q.live = [f.ctx, i]) :
    fail i stDiscard s = modCtx i (withStatus stDiscard 0 0) (modCtx i (fun z => { z with cause := 0, errZone := none, errLba := none }) s) := by
  have hmod : ctxOf (modCtx i (fun z => { z with cause := 0, errZone := none, errLba := none }) s) i =
      some { y with cause := 0, errZone := none, errLba := none } := by rw [ctxOf_modCtx_same, hy, Option.map_some]
  have hbefore : before [f.ctx, i] i f.ctx = false := by simp [before]
  rw [fail, failAt, complete_of_fresh hmod htun hfresh (by simp [hst])]
  simp only [freezeQueue, ctxOf_modCtx_same, hy, Option.map_some, withStatus, sqOf_modCtx, hq, hdel, hf, hlive, hbefore, Bool.and_false,
    Option.isSome_none, Bool.false_eq_true, if_false, ite_self]

theorem sqOf_discarding {u : State} {p : Sq} (hp : sqOf u x.fn (eQid x.e) = some p) (held : List Nat) :
    sqOf (discarding u c x q held) x.fn (eQid x.e) = some { p with
      discarding := some (c, held), continuing := [], drain := if bit x.e.cdw11 1 then q.entries else [],
      entries := if bit x.e.cdw11 1 then [] else p.entries } := by
  rw [discarding, sqOf_modCtx, sqOf_modSq_same, hp, Option.map_some]

theorem ctxOf_discarding_same {u : State} (hx : ctxOf u c = some x) (held : List Nat) :
    ctxOf (discarding u c x q held) c = some { x with st := .committed } := by
  rw [discarding, ctxOf_modCtx_same, ctxOf_modSq, hx, Option.map_some]

theorem ctxOf_discarding_other {u : State} {i : Nat} (hi : i ≠ c) (held : List Nat) : ctxOf (discarding u c x q held) i = ctxOf u i := by
  rw [discarding, ctxOf_modCtx_other hi, ctxOf_modSq]

end

/-! ### Entries posted while a Resume Queue waits (03_queues.md R103, R104) -/

/-- A command freed from its own queue, the last one live there. -/
theorem sqOf_freeCtx_last {s : State} {i : Nat} {y : Ctx} {q : Sq} (hy : ctxOf s i = some y) (hq : sqOf s y.fn y.sqid = some q)
    (hlive : q.live = [i]) : sqOf (freeCtx i s) y.fn y.sqid = some { q with live := [], continuing := q.continuing.filter (fun k => k != i) } := by
  simp only [freeCtx, hy, sqOf_modSq_same]
  exact (congrArg _ hq).trans (by simp [hlive])

@[simp] theorem fnOf_freeCtx (i : Nat) (s : State) (fn : Nat) : fnOf (freeCtx i s) fn = fnOf s fn := by
  unfold freeCtx
  split <;> rfl

section
variable {s : State} {c i : Nat} {x y : Ctx} {q : Sq}

/-- A Continue behind the last of its held commands, which has been posted. -/
def continued (s : State) (c i : Nat) (y : Ctx) : State :=
  modCtx c (withStatus stOk 1 0) (modSq y.fn y.sqid (fun q => { q with resuming := none }) (freeCtx i s))

theorem settleResume_freeCtx_last (hy : ctxOf s i = some y) (hq : sqOf s y.fn y.sqid = some q) (hlive : q.live = [i])
    (hres : q.resuming = some (c, [i], [])) (hx : ctxOf s c = some x) (hci : c ≠ i) (hst : x.st = .committed) (htun : x.tunnel = false)
    (hf : ctxFresh s x = true) : settleResume y.fn y.sqid (freeCtx i s) = continued s c i y := by
  rw [settleResume_of_done (sqOf_freeCtx_last hy hq hlive) hres (n := 1) (by simp [resumeDone])]
  refine complete_of_quiet (x := x) ?_ htun ((ctxFresh_of_fnOf (by simp)).trans hf) (by simp [hst]) (.inl freezing_stOk) 1 0
  rw [ctxOf_modSq, ctxOf_freeCtx_other hci, hx]

theorem ctxOf_continued_freed (hci : c ≠ i) : ctxOf (continued s c i y) i = none := by
  rw [continued, ctxOf_modCtx_other hci.symm, ctxOf_modSq, ctxOf_freeCtx_same]

theorem ctxOf_continued_same (hx : ctxOf s c = some x) (hci : c ≠ i) : ctxOf (continued s c i y) c = some (withStatus stOk 1 0 x) := by
  rw [continued, ctxOf_modCtx_same, ctxOf_modSq, ctxOf_freeCtx_other hci, hx, Option.map_some]

theorem sqOf_continued (hy : ctxOf s i = some y) (hq : sqOf s y.fn y.sqid = some q) (hlive : q.live = [i]) : sqOf (continued s c i y) y.fn y.sqid =
    some { q with live := [], continuing := q.continuing.filter (fun k => k != i), resuming := none } := by
  rw [continued, sqOf_modCtx, sqOf_modSq_same, sqOf_freeCtx_last hy hq hlive, Option.map_some]

end

/-- The state in which the last drained entry of a queue is posted with 0x7/0xC0 (R104). -/
def lastDrained (s : State) (fn sqid : Nat) (q : Sq) (e : Entry) : State :=
  postEntry fn q.cqid { sqid := sqid, sqHead := (q.head + 1) % q.size, cid := e.cid, status := stDiscard }
    (modSq fn sqid (fun p => { p with drain := [], head := (p.head + 1) % p.size }) s)

section
variable {s : State} {fn sqid : Nat} {q : Sq} {cq : Cq} {e : Entry}

theorem exec_completionPosted_of_drained (hq : sqOf s fn sqid = some q) (hcq : cqOf s fn q.cqid = some cq) (hup : s.gr.holdup = false)
    (hroom : cqRoom cq = true) (hlive : q.live = []) (hdrain : q.drain = [e]) :
    exec (.completionPosted fn sqid) s = .next (settleDiscard fn sqid (lastDrained s fn sqid q e)) := by
  have hnext : nextPost s sqid q = none := by simp [nextPost, hlive]
  simp only [exec, execCompletionPosted, hq, hcq, hup, hroom, hnext, hdrain, hlive, List.isEmpty_nil, Bool.not_true, Bool.or_self,
    Bool.false_eq_true, if_false, if_true]
  rfl

theorem sqOf_lastDrained (hq : sqOf s fn sqid = some q) :
    sqOf (lastDrained s fn sqid q e) fn sqid = some { q with drain := [], head := (q.head + 1) % q.size } :=
  (sqOf_modSq_same _ _ _ _).trans (congrArg _ hq)

theorem cqOf_lastDrained (hcq : cqOf s fn q.cqid = some cq) : cqOf (lastDrained s fn sqid q e) fn q.cqid = some { cq with
    posted := { sqid := sqid, sqHead := (q.head + 1) % q.size, cid := e.cid, status := stDiscard, phase := cq.phase, irq := cq.irq.isSome,
                rid := pcieFunction s fn } :: cq.posted,
    tail := (cq.tail + 1) % cq.size, phase := if cq.tail + 1 = cq.size then !cq.phase else cq.phase } :=
  cqOf_postEntry hcq _

end

/-! ### Namespaces deleted behind a command's end (03_queues.md R110, 04_tenants.md R124) -/

/-- A command of the present generation has ended, a context is free, and no Resume Queue is in progress on a queue. -/
def ResumeOver (c i fn sqid dw0 : Nat) (t : State) : Prop :=
  (∃ y, ctxOf t c = some y ∧ (y.st = .completed ∧ y.status = stOk ∧ y.dw0 = dw0) ∧ y.tunnel = false ∧ ctxFresh t y = true) ∧ ctxOf t i = none ∧
  ∃ p, sqOf t fn sqid = some p ∧ p.resuming = none

section
variable {c i fn sqid dw0 : Nat}

theorem ended_of_resumeOver {s : State} (hs : ResumeOver c i fn sqid dw0 s) : Safety.Ended s c stOk dw0 := by
  obtain ⟨⟨y, hy, hend, -⟩, -⟩ := hs
  exact ⟨y, hy, hend⟩

theorem resumeOver_of_ce {s t : State} (h : t.ce = s.ce) (hs : ResumeOver c i fn sqid dw0 s) : ResumeOver c i fn sqid dw0 t := by
  simpa only [ResumeOver, ctxFresh, fnOf, ctxOf, sqOf, h] using hs

/-- What leaves the views of both contexts leaves a Resume Queue over. -/
theorem resumeOver_of_view {s t : State} (hc : engineView c fn sqid t = engineView c fn sqid s) (hi : engineView i fn sqid t = engineView i fn sqid s)
    (hs : ResumeOver c i fn sqid dw0 s) : ResumeOver c i fn sqid dw0 t := by
  obtain ⟨⟨y, hy, hend, htun, hfresh⟩, hfree, p, hp, hres⟩ := hs
  obtain ⟨hctx, hrest⟩ := Prod.mk.inj hc
  obtain ⟨hfns, hsq⟩ := Prod.mk.inj hrest
  obtain ⟨p', hp', hres'⟩ := Option.map_eq_some_iff.1 (hsq.trans (by rw [hp, Option.map_some, hres]))
  exact ⟨⟨y, hctx.trans hy, hend, htun, (ctxFresh_of_fnOf (by rw [fnOf, fnOf, hfns])).trans hfresh⟩, (Prod.mk.inj hi).1.trans hfree, p', hp', hres'⟩

theorem resumeOver_settleAll {s : State} (hs : ResumeOver c i fn sqid dw0 s) : ResumeOver c i fn sqid dw0 (settleAll s) := by
  obtain ⟨⟨y, hy, ⟨hst, -⟩, -⟩, hfree, -⟩ := id hs
  refine resumeOver_of_view (engineView_settleAll (fun x hx => ?_) fn sqid) (engineView_settleAll (fun x hx => ?_) fn sqid) hs
  · obtain rfl : y = x := Option.some.inj (hy.symm.trans hx)
    exact ⟨by simp [hst], by simp [hst]⟩
  · rw [hfree] at hx
    cases hx

/-- A command whose data in a zone is discarded, and a queue without what is not yet on flash there (02_zones.md R64). -/
def discardedCtx (key : Nat) (x : Ctx) : Ctx :=
  { x with
    discarded := x.discarded || (x.validated && x.nlb != 0 && zKey x.nsid x.zone == key && x.applied == x.nlb),
    cover := x.cover.filter (fun p => p.1 != key) }
def discardedSq (key : Nat) (q : Sq) : Sq := { q with partials := q.partials.filter (fun p => p.1 != key) }

def discardMarks (key : Nat) (s : State) : State :=
  onCe (fun e => { e with ctxs := tmap (fun _ x => discardedCtx key x) e.ctxs, sqs := tmap (fun _ q => discardedSq key q) e.sqs }) s

theorem ctxOf_discardMarks (key : Nat) (s : State) (i : Nat) : ctxOf (discardMarks key s) i = (ctxOf s i).map (discardedCtx key) := by
  simp only [ctxOf, discardMarks, onCe_ce, tfind_tmap]

theorem sqOf_discardMarks (key : Nat) (s : State) (fn q : Nat) : sqOf (discardMarks key s) fn q = (sqOf s fn q).map (discardedSq key) := by
  simp only [sqOf, discardMarks, onCe_ce, tfind_tmap]

theorem discardZone_eq (key : Nat) (s : State) :
    discardZone key s = settleAll (unbind key false (dropZoneData key (dropMove key 2 (discardMarks key s)))) := rfl

/-- The data of a zone discarded ends no command that has ended, and takes no context. -/
theorem resumeOver_discardZone {s : State} (key : Nat) (hs : ResumeOver c i fn sqid dw0 s) : ResumeOver c i fn sqid dw0 (discardZone key s) := by
  have hmarks : ResumeOver c i fn sqid dw0 (discardMarks key s) := by
    obtain ⟨⟨y, hy, hend, htun, hfresh⟩, hfree, p, hp, hres⟩ := hs
    exact ⟨⟨discardedCtx key y, by rw [ctxOf_discardMarks, hy, Option.map_some], hend, htun, hfresh⟩,
      by rw [ctxOf_discardMarks, hfree, Option.map_none], discardedSq key p, by rw [sqOf_discardMarks, hp, Option.map_some], hres⟩
  rw [discardZone_eq]
  exact resumeOver_settleAll (resumeOver_of_ce (ce_of_hostSide (by simp)) hmarks)

theorem resumeOver_deleteNs {s : State} (nsid : Nat) (hs : ResumeOver c i fn sqid dw0 s) : ResumeOver c i fn sqid dw0 (deleteNs nsid s) :=
  resumeOver_of_ce rfl (forEach_inv (fun key _ ht => resumeOver_discardZone key ht) _ _ hs)

/-- The end of any command with Success leaves a Resume Queue over: the one that has ended does not end again, and a free context has no command. -/
theorem resumeOver_succeed {s : State} (d : Nat) (hs : ResumeOver c i fn sqid dw0 s) : ResumeOver c i fn sqid dw0 (succeed d s) := by
  by_cases hc : c = d
  · obtain ⟨⟨y, hy, ⟨hst, -⟩, htun, hfresh⟩, -⟩ := id hs
    subst hc
    simpa [succeed, complete, hy, hst, htun, hfresh] using hs
  by_cases hi : i = d
  · obtain ⟨-, hfree, -⟩ := id hs
    subst hi
    simpa [succeed, complete, hfree] using hs
  · exact resumeOver_of_view (engineView_complete_other hc _ _ _ _ _) (engineView_complete_other hi _ _ _ _ _) hs

/-- Namespace Attachments and Managements that go on leave a Resume Queue over. -/
theorem resumeOver_settleDetach {s : State} (hs : ResumeOver c i fn sqid dw0 s) : ResumeOver c i fn sqid dw0 (settleDetach s) := by
  refine forEach_inv (fun d t ht => ?_) _ _ hs
  split
  · exact ht
  · exact resumeOver_succeed _ (forEach_inv (fun n _ hu => resumeOver_deleteNs n hu) _ _ ht)

end

/-! ### The statements of Continue and Discard -/

section
variable {s : State} {c : Nat} {x : Ctx} {q : Sq} {f : Freeze}

/-- A Continue that acts changes the command engine, and by its event the registers and the recorder. -/
theorem continuing_only (s : State) (c : Nat) (x : Ctx) (held : List Nat) : ∃ regs rec', continuing s c x held =
    { resumed s c x held with rf := { s.rf with regs := regs }, att := { s.att with evrec := rec' } } :=
  raise_only 98 sevInfo [] (resumed s c x held)

/-- A Continue unfreezes its queue; it ends at once where no command is held, and waits otherwise (R103). -/
theorem queue_continued (hx : Safety.AdminRuns s c x 0xC0) (hbit : bit x.e.cdw11 0 = false) (hdrain : bit x.e.cdw11 1 = false)
    (hq : sqOf s x.fn (eQid x.e) = some q) (hf : q.frozen = some f) (hdis : q.discarding = none) (hres : q.resuming = none)
    (hrun : (heldOf q f).any (running s) = false)
    (hok : (heldOf q f).all (fun i => ((ctxOf s i).map (fun y => !(y.st == .completed && freezing y.status))).getD true) = true) :
    ∃ t y, exec (.resumeContinue c) s = .next t ∧ ctxOf t c = some y ∧ pending? t 98 = true ∧
      (heldOf q f = [] → Safety.Ended t c stOk 0 ∧ sqOf t x.fn (eQid x.e) = some { q with frozen := none, continuing := [] }) ∧
      (heldOf q f ≠ [] → y.st = .committed ∧ ∃ starts, sqOf t x.fn (eQid x.e) =
        some { q with frozen := none, continuing := heldOf q f, resuming := some (c, heldOf q f, starts) }) ∧
      t = { s with ce := t.ce, rf := t.rf, att := { s.att with evrec := t.att.evrec } } := by
  have hexec := exec_resumeContinue hx hbit hdrain hq hf hdis hres hrun hok
  have hpend : pending? (continuing s c x (heldOf q f)) 98 = true := pending?_raise_same (by decide) _ _ _
  have hctx := ctxOf_continuing_same hx.1.1 (heldOf q f)
  obtain ⟨regs, rec', honly⟩ := continuing_only s c x (heldOf q f)
  cases hheld : heldOf q f with
  | nil =>
    rw [hheld] at hexec hpend hctx honly
    rw [settleResume_continuing_of_none hx hq] at hexec
    refine ⟨_, withStatus stOk 0 0 { x with st := .committed }, hexec, ?_, hpend, fun _ => ⟨ended_modCtx_withStatus hctx _ _ _, ?_⟩,
      fun h => absurd rfl h, ?_⟩
    · exact (ctxOf_modCtx_same _ _ _).trans (congrArg _ hctx)
    · rw [sqOf_modCtx, sqOf_modSq_same, sqOf_continuing hq, Option.map_some, ← hres]
    · rw [honly]
      rfl
  | cons i rest =>
    rw [settleResume_continuing_of_held hx hq (i := i) (by simp [hheld])] at hexec
    refine ⟨_, _, hexec, hctx, hpend, fun h => absurd h (List.cons_ne_nil _ _), fun _ => ⟨rfl, toStart s (heldOf q f), ?_⟩, ?_⟩
    · rw [← hheld]
      exact sqOf_continuing hq _
    · rw [honly]
      rfl

/-- With the freezing command's own entry not yet posted a Discard that holds nothing waits; with nothing live or drained it ends (R104). -/
theorem queue_discarded_of_none_held (hx : Safety.AdminRuns s c x 0xC0) (hbit : bit x.e.cdw11 0 = true)
    (hq : sqOf s x.fn (eQid x.e) = some q) (hf : q.frozen = some f) (hdis : q.discarding = none) (hres : q.resuming = none) :
    (q.live = [f.ctx] → ∃ t y, exec (.resumeDiscard c) s = .next t ∧ ctxOf t c = some y ∧ y.st = .committed ∧
      sqOf t x.fn (eQid x.e) = some { q with
        discarding := some (c, []), continuing := [], drain := (if bit x.e.cdw11 1 then q.entries else []),
        entries := (if bit x.e.cdw11 1 then [] else q.entries) } ∧
      t = { s with ce := t.ce }) ∧
    (q.live = [] → (bit x.e.cdw11 1 = false ∨ q.entries = []) → ∃ t, exec (.resumeDiscard c) s = .next t ∧ Safety.Ended t c stOk 0 ∧
      pending? t 98 = true ∧ sqOf t x.fn (eQid x.e) = some { q with frozen := none, continuing := [], drain := [] } ∧
      t = { s with ce := t.ce, rf := t.rf, att := { s.att with evrec := t.att.evrec } }) := by
  have hsq := sqOf_discarding (c := c) (q := q) hq []
  have hctx := ctxOf_discarding_same (q := q) hx.1.1 []
  refine ⟨fun hlive => ?_, fun hlive hdrain => ?_⟩
  · have hexec := exec_resumeDiscard_of_none hx hbit hq hf hdis hres (by simp [heldOf, hlive])
    rw [settleDiscard_of_waits hsq rfl (by simp [hf, hlive])] at hexec
    exact ⟨_, _, hexec, hctx, rfl, hsq, rfl⟩
  · have hexec := exec_resumeDiscard_of_none hx hbit hq hf hdis hres (by simp [heldOf, hlive])
    have hempty : (if bit x.e.cdw11 1 then q.entries else []) = [] := by
      rcases hdrain with h | h <;> simp [h]
    have hkept : (if bit x.e.cdw11 1 then [] else q.entries) = q.entries := by
      rcases hdrain with h | h <;> simp [h]
    obtain ⟨⟨-, -, -, htun, hfresh⟩, -⟩ := id hx
    rw [settleDiscard_of_done hsq rfl hlive hempty hctx (by simp) htun hfresh] at hexec
    refine ⟨_, hexec, ended_unfrozen hctx, pending?_unfrozen, (sqOf_unfrozen hsq).trans ?_, ?_⟩
    · rw [hempty, hkept, ← hdis]
    · obtain ⟨regs, rec', hraise⟩ := raise_only 98 sevInfo [] (modSq x.fn (eQid x.e) (fun q => { q with frozen := none, discarding := none })
        (discarding s c x q []))
      rw [unfrozen, hraise]
      rfl

/-- A Discard ends the command held, and waits with the queue frozen until its entry is posted (R104). -/
theorem queue_discarded_of_one_held {i : Nat} {y : Ctx} (hx : Safety.AdminRuns s c x 0xC0) (hbit : bit x.e.cdw11 0 = true)
    (hq : sqOf s x.fn (eQid x.e) = some q) (hf : q.frozen = some f) (hdis : q.discarding = none) (hres : q.resuming = none)
    (hdel : q.deleting = none) (hlive : q.live = [f.ctx, i]) (hic : i ≠ c) (hy : ctxOf s i = some y) (hst : y.st = .fetched)
    (htun : y.tunnel = false) (hfresh : ctxFresh s y = true) (hyfn : y.fn = x.fn) (hysq : y.sqid = eQid x.e) :
    ∃ t p, exec (.resumeDiscard c) s = .next t ∧ Safety.Ended t i stDiscard 0 ∧ sqOf t x.fn (eQid x.e) = some p ∧
      p.discarding = some (c, [i]) ∧ p.frozen.isSome = true := by
  have hheld : heldOf q f = [i] := by simp [heldOf, hlive]
  have hexec := exec_resumeDiscard hx hbit hq hf hdis hres (by simp [hheld, running, hy, hst])
  have hfail := fail_stDiscard_of_held hy hst htun hfresh (by rw [hyfn, hysq, hq]) hf hdel hlive
  have hstart : toStart s [i] = [i] := by simp [toStart, hy, hst]
  rw [hheld, hstart, forEach_cons, forEach_nil, hfail] at hexec
  have hsq := sqOf_discarding (c := c) (q := q) (p := q)
    (u := modCtx i (withStatus stDiscard 0 0) (modCtx i (fun z => { z with cause := 0, errZone := none, errLba := none }) s)) hq [i]
  rw [settleDiscard_of_waits hsq rfl (by simp [hlive])] at hexec
  refine ⟨_, _, hexec, ended_withStatus (x := { y with cause := 0, errZone := none, errLba := none }) (dw1 := 0) ?_, hsq, rfl, by rw [hf]; rfl⟩
  rw [ctxOf_discarding_other hic, ctxOf_modCtx_same, ctxOf_modCtx_same, hy, Option.map_some, Option.map_some]

end

section
variable {s : State} {fn sqid c : Nat} {x : Ctx} {q : Sq} {cq : Cq}

/-- The posting of the last held command's entry ends a Continue with one command held (R103). -/
theorem continue_ends_with_last_entry {i : Nat} {y : Ctx} (hq : sqOf s fn sqid = some q) (hcq : cqOf s fn q.cqid = some cq)
    (hup : s.gr.holdup = false) (hroom : cqRoom cq = true) (hnext : nextPost s sqid q = some (i, y)) (hlive : q.live = [i])
    (hdis : q.discarding = none) (hdel : q.deleting = none) (hres : q.resuming = some (c, [i], [])) (hf : ctxFresh s y = true)
    (hw : isWriteOpc y.e.opc = false) (hyfn : y.fn = fn) (hysq : y.sqid = sqid) (hx : ctxOf s c = some x) (hci : c ≠ i)
    (hst : x.st = .committed) (htun : x.tunnel = false) (hxf : ctxFresh s x = true) :
    ∃ t p, exec (.completionPosted fn sqid) s = .next t ∧ ctxOf t i = none ∧ Safety.Ended t c stOk 1 ∧ sqOf t fn sqid = some p ∧
      p.resuming = none := by
  subst hyfn hysq
  have hy : ctxOf (posted s y.fn y.sqid q y) i = some y := ctxOf_of_nextPost hnext
  have hpq : sqOf (posted s y.fn y.sqid q y) y.fn y.sqid = some q := hq
  have hpx : ctxOf (posted s y.fn y.sqid q y) c = some x := hx
  have hsettle := settleResume_freeCtx_last hy hpq hlive hres hpx hci hst htun (by exact hxf)
  have hleft := sqOf_freeCtx_last hy hpq hlive
  have hcont := sqOf_continued (c := c) hy hpq hlive
  have hexec := exec_completionPosted_of_next hq hcq hup hroom hnext hf hw
  rw [settleDiscard_of_none fun p hp => (by rw [← Option.some.inj (hleft.symm.trans hp)]; exact hdis), hsettle,
    settleDelete_of_none fun p hp => (by rw [← Option.some.inj (hcont.symm.trans hp)]; exact hdel)] at hexec
  have hover : ResumeOver c i y.fn y.sqid 1 (continued (posted s y.fn y.sqid q y) c i y) :=
    ⟨⟨_, ctxOf_continued_same hpx hci, ⟨rfl, rfl, rfl⟩, htun, (ctxFresh_of_fnOf (by simp [continued])).trans hxf⟩,
      ctxOf_continued_freed hci, _, hcont, rfl⟩
  have hend := resumeOver_settleDetach hover
  obtain ⟨-, hfree, p, hp, hnone⟩ := id hend
  exact ⟨_, p, hexec, hfree, ended_of_resumeOver hend, hp, hnone⟩

/-- The posting of the last drained entry, with 0x7/0xC0, unfreezes the queue and ends the Discard (R104). -/
theorem discard_ends_with_last_entry {e : Entry} {held : List Nat} (hq : sqOf s fn sqid = some q) (hcq : cqOf s fn q.cqid = some cq)
    (hup : s.gr.holdup = false) (hroom : cqRoom cq = true) (hlive : q.live = []) (hdrain : q.drain = [e])
    (hdis : q.discarding = some (c, held)) (hx : ctxOf s c = some x) (hst : x.st = .committed) (htun : x.tunnel = false)
    (hf : ctxFresh s x = true) :
    ∃ t r, exec (.completionPosted fn sqid) s = .next t ∧ Safety.Ended t c stOk held.length ∧ pending? t 98 = true ∧
      sqOf t fn sqid = some { q with frozen := none, discarding := none, drain := [], head := (q.head + 1) % q.size } ∧
      cqOf t fn q.cqid = some r ∧ r.posted.head?.map (fun p => (p.sqid, p.cid, p.status)) = some (sqid, e.cid, stDiscard) := by
  have hexec := exec_completionPosted_of_drained hq hcq hup hroom hlive hdrain
  have hsq := sqOf_lastDrained (e := e) hq
  have hctx : ctxOf (lastDrained s fn sqid q e) c = some x := hx
  rw [settleDiscard_of_done hsq hdis hlive rfl hctx (by simp [hst]) htun (by exact hf)] at hexec
  exact ⟨_, _, hexec, ended_unfrozen hctx, pending?_unfrozen, sqOf_unfrozen hsq, (cqOf_unfrozen ..).trans (cqOf_lastDrained hcq), rfl⟩

end

/-- Settles O12: Continue by what is still held, Discard by what is still to be posted, and the posting of the last entry of either. -/
theorem frozenQueuesResume : Obligations.FrozenQueuesResume := by
  unfold Obligations.FrozenQueuesResume
  refine ⟨fun _ _ _ _ _ => queue_continued, ?_, fun _ _ _ _ _ => queue_discarded_of_none_held, ?_, ?_⟩
  · intro s fn sqid c i x y q cq hq hcq hup hroom hnext hlive _ hdis hdel hres hf hw hyfn hysq hx hci hst _
    exact continue_ends_with_last_entry hq hcq hup hroom hnext hlive hdis hdel hres hf hw hyfn hysq hx hci hst
  · intro s c i x y q f hx hbit hq _ hf hdis hres hdel hlive hic _
    exact queue_discarded_of_one_held hx hbit hq hf hdis hres hdel hlive hic
  · intro s fn sqid c x e q cq held hq hcq hup hroom hlive hdrain hdis _
    exact discard_ends_with_last_entry hq hcq hup hroom hlive hdrain hdis

end Sys2Proof.Machine

/-! PROOFS. The statement of the features (03_queues.md R87, R93, R112; 04_tenants.md R133; 09_tail_latency.md R263, R264; 10_granary.md R307;
16_power_thermal.md R444, R448, R450, R451). -/

namespace Sys2Proof.Machine

/-! ### Features set (03_queues.md R112) -/

section
variable {s : State} {c fid : Nat} {x : Ctx}

theorem onSet_of_runs (hx : Safety.SetRuns s c x fid) (f : Ctx → State → State) : onSet c fid f s = f x s := by
  obtain ⟨hrun, hfid⟩ := hx
  rw [onSet, onAdmin_of_runs hrun, if_pos (by exact hfid)]

theorem pfSet_of_pf (hpf : isPf x.fn = true) (f : State → State) (s : State) : pfSet c x f s = f s := by
  simp [pfSet, pfRights, hpf]

/-- A command that fails with no cause of its own and names no place. -/
def noCause (x : Ctx) : Ctx := { x with cause := 0, errZone := none, errLba := none }

/-- A running admin command that fails ends, and nothing else changes. -/
theorem fail_of_adminRuns {opc : Nat} (hx : Safety.AdminRuns s c x opc) (st : Status) :
    fail c st s = modCtx c (withStatus st 0 0) (modCtx c noCause s) := by
  obtain ⟨⟨hctx, -, hst, htun, hfresh⟩, hadm⟩ := hx
  exact complete_of_quiet (x := noCause x) (by rw [ctxOf_modCtx_same, hctx]; rfl) htun (by exact hfresh) (by simp [noCause, hst]) (.inr hadm) 0 0

theorem ended_fail_of_adminRuns {opc : Nat} (hx : Safety.AdminRuns s c x opc) (st : Status) :
    Safety.Ended (modCtx c (withStatus st 0 0) (modCtx c noCause s)) c st 0 :=
  ended_modCtx_withStatus (x := noCause x) (by rw [ctxOf_modCtx_same, hx.1.1, Option.map_some]) _ _ _

end

/-! ### Tenant Share (04_tenants.md R133) -/

theorem fnOf_modFn_gen {f : Fn → Fn} (h : ∀ y, (f y).gen = y.gen) (fn g : Nat) (s : State) : (fnOf (modFn fn f s) g).gen = (fnOf s g).gen := by
  by_cases hg : g = fn
  · rw [hg, fnOf_modFn_same, h]
  · rw [fnOf_modFn_other hg]

section
variable {s : State} {c f : Nat} {x : Ctx}

/-- A share in force from its Set on, with event source 103. -/
def shared (s : State) (f : Nat) (x : Ctx) : State := raise 103 sevInfo [f] (modFn f (fun y => { y with share := shareFrom x.e.payload }) s)

theorem exec_setTenantShare_of_valid (hx : Safety.SetRuns s c x 0xD0) (hpf : isPf x.fn = true) (hf : shareTarget x = some f)
    (hok : shareValid x.e.payload = true) : exec (.setTenantShare c) s = .next (modCtx c (withStatus stOk 0 0) (shared s f x)) := by
  rw [exec, execSetTenantShare, onSet_of_runs hx, pfSet_of_pf hpf]
  simp only [hf, hok, Bool.not_true, Bool.false_eq_true, if_false]
  refine congrArg Host.Outcome.next (succeed_of_adminRuns (t := shared s f x) hx.1 ?_ ?_)
  · rw [shared, ctxOf_raise, ctxOf_modFn, hx.1.1.1]
  · rw [shared, fnOf_raise]
    exact fnOf_modFn_gen (fun _ => by rfl) f x.fn s

theorem exec_setTenantShare_of_invalid (hx : Safety.SetRuns s c x 0xD0) (hpf : isPf x.fn = true) (hf : shareTarget x = some f)
    (hbad : shareValid x.e.payload = false) :
    exec (.setTenantShare c) s = .next (modCtx c (withStatus stBadField 0 0) (modCtx c noCause s)) := by
  rw [exec, execSetTenantShare, onSet_of_runs hx, pfSet_of_pf hpf]
  simp only [hf, hbad, Bool.not_false, if_true, fail_of_adminRuns hx.1]

end

/-! ### Thermal Grace (16_power_thermal.md R451) -/

/-- Outside GRACE a new grace time is stored, and nothing is enforced. -/
theorem graceSet_of_not_grace {s : State} (h : s.pw.th ≠ .grace) (sec : Nat) : graceSet sec s = wrf R.thCfg 29 24 sec s := by
  unfold graceSet
  generalize hu : wrf R.thCfg 29 24 sec s = u
  have hth : u.pw.th ≠ .grace := by rwa [← hu, wrf_pw]
  simp [hth]

/-- With SV the saved grace time follows. -/
def savedGrace (x : Ctx) (s : State) : State :=
  onlyIf (eSv x.e) (onBoard (fun b => { b with graceSaved := x.e.cdw11 })) (wrf R.thCfg 29 24 x.e.cdw11 s)

theorem savedGrace_eq (x : Ctx) (s : State) : ∃ regs, wrf R.thCfg 29 24 x.e.cdw11 s = { s with rf := { s.rf with regs := regs } } ∧
    savedGrace x s = { s with rf := { s.rf with regs := regs }, board := { s.board with
      graceSaved := if eSv x.e then x.e.cdw11 else s.board.graceSaved } } := by
  obtain ⟨regs, hregs⟩ : ∃ regs, wrf R.thCfg 29 24 x.e.cdw11 s = { s with rf := { s.rf with regs := regs } } := ⟨_, rfl⟩
  refine ⟨regs, hregs, ?_⟩
  rw [savedGrace, hregs]
  cases eSv x.e <;> rfl

theorem rdf_savedGrace {x : Ctx} (hmax : x.e.cdw11 ≤ 60) (s : State) : rdf (savedGrace x s) R.thCfg 29 24 = x.e.cdw11 := by
  obtain ⟨regs, hregs, hsaved⟩ := savedGrace_eq x s
  have hrd : rdf (savedGrace x s) R.thCfg 29 24 = rdf (wrf R.thCfg 29 24 x.e.cdw11 s) R.thCfg 29 24 := by
    rw [hsaved, hregs]
    rfl
  rw [hrd, rdf_wrf_same]
  exact Nat.mod_eq_of_lt (by omega)

theorem exec_setThermalGrace {s : State} {c : Nat} {x : Ctx} (hx : Safety.SetRuns s c x 0xD1) (hpf : isPf x.fn = true) (hmax : x.e.cdw11 ≤ 60)
    (hth : s.pw.th ≠ .grace) : exec (.setThermalGrace c) s = .next (modCtx c (withStatus stOk 0 0) (savedGrace x s)) := by
  rw [exec, execSetThermalGrace, onSet_of_runs hx, pfSet_of_pf hpf, if_neg (by omega), graceSet_of_not_grace hth]
  have hce : (savedGrace x s).ce = s.ce := (onlyIf_keeps State.ce _ _ _ fun _ => onBoard_ce _ _).trans (wrf_ce ..)
  exact congrArg Host.Outcome.next (succeed_of_adminRuns (t := savedGrace x s) hx.1 ((ctxOf_of_ce hce c).trans hx.1.1.1) (by rw [fnOf_of_ce hce]))

/-! ### Features of namespaces (03_queues.md R93, 09_tail_latency.md R264) -/

section
variable {F : Ns → Ns} {k : Nat} {l : List Nat}

theorem nsOf_modNs_same (F : Ns → Ns) (k : Nat) (s : State) : nsOf (modNs k F s) k = (nsOf s k).map F := by
  simp [nsOf, modNs, tfind_talter_same]

theorem nsOf_modNs_other {j : Nat} (h : j ≠ k) (F : Ns → Ns) (s : State) : nsOf (modNs k F s) j = nsOf s j := by
  simp [nsOf, modNs, tfind_talter_other h]

/-- A setting made once or more of one namespace is made of it. -/
theorem nsOf_forEach_modNs_same (hidem : ∀ y, F (F y) = F y) (hall : ∀ n ∈ l, n = k) (hne : l ≠ []) (s : State) :
    nsOf (forEach l (fun n => modNs n F) s) k = (nsOf s k).map F := by
  induction l generalizing s with
  | nil => exact absurd rfl hne
  | cons n r ih =>
    obtain rfl : n = k := hall n (by simp)
    rw [forEach_cons]
    by_cases hr : r = []
    · rw [hr, forEach_nil, nsOf_modNs_same]
    · rw [ih (fun m hm => hall m (by simp [hm])) hr, nsOf_modNs_same, Option.map_map]
      exact congrArg (fun g => (nsOf s n).map g) (funext hidem)

theorem nsOf_forEach_modNs_other (hall : ∀ n ∈ l, n = k) {j : Nat} (h : j ≠ k) (s : State) :
    nsOf (forEach l (fun n => modNs n F) s) j = nsOf s j := by
  induction l generalizing s with
  | nil => rfl
  | cons n r ih =>
    obtain rfl : n = k := hall n (by simp)
    rw [forEach_cons, ih fun m hm => hall m (by simp [hm]), nsOf_modNs_other h]

theorem forEach_modNs_only (l : List Nat) (s : State) : ∃ nss, forEach l (fun n => modNs n F) s = { s with ze := { s.ze with nss := nss } } := by
  induction l generalizing s with
  | nil => exact ⟨s.ze.nss, rfl⟩
  | cons n r ih =>
    obtain ⟨nss, h⟩ := ih (modNs n F s)
    exact ⟨nss, by rw [forEach_cons, h]; rfl⟩

end

@[simp] theorem nsOf_modCtx (c : Nat) (f : Ctx → Ctx) (s : State) (k : Nat) : nsOf (modCtx c f s) k = nsOf s k := rfl
@[simp] theorem nsOf_raise (src sev : Nat) (ps : List Nat) (s : State) (k : Nat) : nsOf (raise src sev ps s) k = nsOf s k := by
  rw [nsOf, raise_ze, nsOf]

/-- The namespaces that a command with an NSID names are that one. -/
theorem eq_of_mem_namedNs {s : State} {x : Ctx} (h : x.e.nsid ≠ 0xFFFFFFFF) {n : Nat} (hn : n ∈ namedNs s x) : n = x.e.nsid := by
  simp only [namedNs, if_neg h] at hn
  simpa using (List.mem_filter.1 hn).2

section
variable {s : State} {c : Nat} {x : Ctx}

/-- A read deadline set for each namespace named, with event source 431. -/
def deadlineSet (s : State) (x : Ctx) : State :=
  raise 431 sevInfo [0, x.e.nsid, bits x.e.cdw11 13 0] (forEach (namedNs s x) (fun n => modNs n (fun y => { y with
    deadline := bits x.e.cdw11 13 0, deadlineSaved := if eSv x.e then bits x.e.cdw11 13 0 else y.deadlineSaved })) s)

theorem exec_setDetourPolicy_deadline (hx : Safety.SetRuns s c x 0xD2) (hsel : bit x.e.cdw11 31 = false) (hrsv : bits x.e.cdw11 30 14 = 0)
    (hval : bits x.e.cdw11 13 0 = 0 ∨ 100 ≤ bits x.e.cdw11 13 0 ∧ bits x.e.cdw11 13 0 ≤ 10000) (hn : x.e.nsid ∈ namedNs s x) :
    exec (.setDetourPolicy c) s = .next (modCtx c (withStatus stOk 0 0) (deadlineSet s x)) := by
  have hne : (namedNs s x).isEmpty = false := List.isEmpty_eq_false_iff.2 (List.ne_nil_of_mem hn)
  have hok : (bits x.e.cdw11 13 0 == 0 || decide (100 ≤ bits x.e.cdw11 13 0 ∧ bits x.e.cdw11 13 0 ≤ 10000)) = true := by simpa using hval
  rw [exec, execSetDetourPolicy, onSet_of_runs hx]
  simp only [hsel, hrsv, hne, hok, bne_self_eq_false, Bool.not_false, Bool.not_true, Bool.false_and, Bool.or_self, Bool.false_eq_true,
    if_true, if_false]
  have hce : (deadlineSet s x).ce = s.ce := (raise_ce ..).trans (forEach_keeps State.ce _ (fun _ _ => by rfl) _ s)
  exact congrArg Host.Outcome.next (succeed_of_adminRuns (t := deadlineSet s x) hx.1 ((ctxOf_of_ce hce c).trans hx.1.1.1) (by rw [fnOf_of_ce hce]))

/-- Ticketed append set for each namespace named. -/
def ticketedSet (s : State) (x : Ctx) : State :=
  forEach (namedNs s x) (fun n => modNs n (fun y => { y with
    ticketed := bit x.e.cdw11 0, ticketedSaved := if eSv x.e then bit x.e.cdw11 0 else y.ticketedSaved })) s

theorem exec_setTicketedAppend (hx : Safety.SetRuns s c x 0xD3) (hn : x.e.nsid ∈ namedNs s x) :
    exec (.setTicketedAppend c) s = .next (modCtx c (withStatus stOk 0 0) (ticketedSet s x)) := by
  have hne : (namedNs s x).isEmpty = false := List.isEmpty_eq_false_iff.2 (List.ne_nil_of_mem hn)
  rw [exec, execSetTicketedAppend, onSet_of_runs hx]
  simp only [hne, Bool.false_and, Bool.false_eq_true, if_false]
  have hce : (ticketedSet s x).ce = s.ce := forEach_keeps State.ce _ (fun _ _ => by rfl) _ s
  exact congrArg Host.Outcome.next (succeed_of_adminRuns (t := ticketedSet s x) hx.1 ((ctxOf_of_ce hce c).trans hx.1.1.1) (by rw [fnOf_of_ce hce]))

end

/-! ### Detour budgets (09_tail_latency.md R263) -/

@[simp] theorem domOf_modDom_same (d : Nat) (f : Domain → Domain) (s : State) : domOf (modDom d f s) d = f (domOf s d) := by
  simp [domOf, modDom]

theorem domOf_modDom_other {j d : Nat} (h : j ≠ d) (f : Domain → Domain) (s : State) : domOf (modDom d f s) j = domOf s j := by
  simp [domOf, modDom, tget_tmod_other h]

section
variable {s : State} {c : Nat} {x : Ctx}

/-- A domain's detour budget as a Set resolves it, and as it stands filled no higher than before. -/
def budgetRate (s : State) (x : Ctx) : State :=
  modDom (bits x.e.cdw11 7 0) (fun y => { y with
    rate := rateIn s (bits x.e.cdw11 7 0) (bits x.e.cdw12 15 0), depth := depthIn s (bits x.e.cdw11 7 0) (bits x.e.cdw12 31 16),
    rateSaved := if eSv x.e then bits x.e.cdw12 15 0 else y.rateSaved, depthSaved := if eSv x.e then bits x.e.cdw12 31 16 else y.depthSaved }) s
def budgetPut (s : State) (x : Ctx) : State :=
  modDom (bits x.e.cdw11 7 0) (fun y => { y with
    level := some (Nat.min (domLevel s (bits x.e.cdw11 7 0)) (1000 * domDepth (budgetRate s x) (bits x.e.cdw11 7 0))), lvAt := s.ck.tb })
    (budgetRate s x)
def budgetSet (s : State) (x : Ctx) : State := raise 431 sevInfo [1, bits x.e.cdw11 7 0, x.e.cdw12] (budgetPut s x)

theorem domOf_budgetSet_same : domOf (budgetSet s x) (bits x.e.cdw11 7 0) = { domOf (budgetRate s x) (bits x.e.cdw11 7 0) with
    level := some (Nat.min (domLevel s (bits x.e.cdw11 7 0)) (1000 * domDepth (budgetRate s x) (bits x.e.cdw11 7 0))), lvAt := s.ck.tb } := by
  rw [budgetSet, domOf, raise_ze, ← domOf, budgetPut, domOf_modDom_same]

theorem domOf_budgetSet_other {d : Nat} (hd : d ≠ bits x.e.cdw11 7 0) : domOf (budgetSet s x) d = domOf s d := by
  rw [budgetSet, domOf, raise_ze, ← domOf, budgetPut, domOf_modDom_other hd, budgetRate, domOf_modDom_other hd]

theorem exec_setDetourPolicy_budget (hx : Safety.SetRuns s c x 0xD2) (hsel : bit x.e.cdw11 31 = true) (hrsv : bits x.e.cdw11 30 8 = 0)
    (hpf : isPf x.fn = true) (hdep : bits x.e.cdw12 31 16 ≠ 0) (hex : domExists s (bits x.e.cdw11 7 0) = true)
    (hgr : domGranted (fnOf s x.fn) (bits x.e.cdw11 7 0) = true) :
    exec (.setDetourPolicy c) s = .next (modCtx c (withStatus stOk 0 0) (budgetSet s x)) := by
  rw [exec, execSetDetourPolicy, onSet_of_runs hx]
  simp only [hsel, Bool.not_true, Bool.false_eq_true, if_false, pfSet_of_pf hpf, hrsv, hdep, hex, hgr, bne_self_eq_false, decide_false,
    Bool.and_self, Bool.or_self]
  have hce : (budgetSet s x).ce = s.ce := raise_ce ..
  exact congrArg Host.Outcome.next (succeed_of_adminRuns (t := budgetSet s x) hx.1 ((ctxOf_of_ce hce c).trans hx.1.1.1) (by rw [fnOf_of_ce hce]))

/-- The budget's level does not rise with a Set. -/
theorem domLevel_budgetSet : domLevel (budgetSet s x) (bits x.e.cdw11 7 0) ≤ domLevel s (bits x.e.cdw11 7 0) := by
  have htb : (budgetSet s x).ck.tb = s.ck.tb := by rw [budgetSet, raise_ck]; rfl
  have hmin : Nat.min (domLevel s (bits x.e.cdw11 7 0)) (1000 * domDepth (budgetRate s x) (bits x.e.cdw11 7 0)) ≤ domLevel s (bits x.e.cdw11 7 0) :=
    Nat.min_le_left _ _
  rw [domLevel, domOf_budgetSet_same]
  simp only [htb, Nat.sub_self, Nat.zero_mul, Nat.zero_div, Nat.add_zero]
  exact (Nat.min_le_right _ _).trans hmin

end

/-! ### Mirror mode (10_granary.md R86, R307 to R309) -/

/-- A started admin command of the present generation in a context. -/
def AdminStarted (c : Nat) (t : State) : Prop :=
  ∃ y, ctxOf t c = some y ∧ y.st = .started ∧ y.sqid = 0 ∧ y.tunnel = false ∧ ctxFresh t y = true

section
variable {c : Nat}

theorem adminStarted_of_ce {s t : State} (h : t.ce = s.ce) (hs : AdminStarted c s) : AdminStarted c t := by
  simpa only [AdminStarted, ctxFresh, fnOf, ctxOf, h] using hs

theorem adminStarted_settleAll {s : State} (hs : AdminStarted c s) : AdminStarted c (settleAll s) := by
  obtain ⟨y, hy, hst, hadm, htun, hf⟩ := hs
  have hview := engineView_settleAll (c := c) (s := s) (fun x hx => by
    obtain rfl : y = x := Option.some.inj (hy.symm.trans hx)
    exact ⟨by simp [hst], fun _ => hadm⟩) 0 0
  obtain ⟨hctx, hrest⟩ := Prod.mk.inj hview
  exact ⟨y, hctx.trans hy, hst, hadm, htun, (ctxFresh_of_fnOf (by rw [fnOf, fnOf, (Prod.mk.inj hrest).1])).trans hf⟩

/-- Writes that write-through takes hold of end no admin command. -/
theorem adminStarted_forceWaiting {s : State} (hs : AdminStarted c s) : AdminStarted c (forceWaiting s) := by
  have hmark (d : Nat) (t : State) (ht : AdminStarted c t) :
      AdminStarted c (modCtx d (fun x => { x with through := x.through || x.st == .completed }) t) := by
    by_cases hd : c = d
    · obtain ⟨y, hy, hrest⟩ := ht
      subst hd
      exact ⟨{ y with through := y.through || y.st == .completed }, by rw [ctxOf_modCtx_same, hy, Option.map_some], hrest⟩
    · obtain ⟨y, hy, hrest⟩ := ht
      exact ⟨y, (ctxOf_modCtx_other hd _ t).trans hy, hrest⟩
  exact adminStarted_settleAll (forEach_inv (fun d t ht => adminStarted_of_ce (ce_of_hostSide (hostSide_forceFor d t)) ht) _ _
    (forEach_inv hmark _ _ hs))

end

/-- The board, and mirror mode as it was set. -/
def mirrorBoard (s : State) : Board × (Bool × Nat × Nat × Nat) := (s.board, mirrorMode s.gr)

theorem mirrorBoard_of_offEngine {s t : State} (h : offEngine t = offEngine s) : mirrorBoard t = mirrorBoard s := (congrArg mirrorBoard h :)

theorem mirrorBoard_forceWaiting (s : State) : mirrorBoard (forceWaiting s) = mirrorBoard s :=
  (mirrorBoard_of_offEngine (offEngine_settleAll _)).trans
    ((forEach_keeps mirrorBoard _ (fun d t => congrArg Prod.snd (hostSide_forceFor d t)) _ _).trans
      (forEach_keeps mirrorBoard _ (fun _ _ => by rfl) _ s))

/-- A change that may take write-through into force or out of it keeps the board, and mirror mode as the change sets it. -/
theorem mirrorBoard_withWt (f : State → State) (s : State) : mirrorBoard (withWt f s) = mirrorBoard (f s) := by
  simp only [withWt]
  split
  · rfl
  split
  · exact (mirrorBoard_forceWaiting _).trans (by rfl)
  · exact (mirrorBoard_of_offEngine (offEngine_settleAll _)).trans (by rfl)

theorem adminStarted_withWt {c : Nat} {f : State → State} {s : State} (h : (f s).ce = s.ce) (hs : AdminStarted c s) :
    AdminStarted c (withWt f s) := by
  have hf : AdminStarted c (f s) := adminStarted_of_ce h hs
  simp only [withWt]
  split
  · exact hf
  split
  · exact adminStarted_forceWaiting (adminStarted_of_ce (by rfl) hf)
  · exact adminStarted_settleAll (adminStarted_of_ce (by rfl) hf)

/-- Mirror mode as a Set puts it, before the writes follow. -/
def mirrorPut (en : Bool) (policy partner tmo : Nat) (s : State) : State :=
  onGr (fun g => { g with
    mirEn := en, mirPolicy := policy, mirPartner := partner, mirTmo := tmo, mirLost := (en && s.gr.mirEn && s.gr.mirPartner == partner) && g.mirLost,
    mirOut := if en && s.gr.mirEn && s.gr.mirPartner == partner then g.mirOut else [],
    mirHeld := if en && s.gr.mirEn && s.gr.mirPartner == partner then g.mirHeld else [],
    mirLbas := if en && s.gr.mirEn && s.gr.mirPartner == partner then g.mirLbas else [] }) s

section
variable (en : Bool) (policy partner tmo : Nat) (s : State)

theorem mirrorSet_eq : mirrorSet en policy partner tmo s = settleAll (withWt (mirrorPut en policy partner tmo) s) := rfl

theorem mirrorBoard_mirrorSet : mirrorBoard (mirrorSet en policy partner tmo s) = (s.board, en, policy, partner, tmo) := by
  rw [mirrorSet_eq, mirrorBoard_of_offEngine (offEngine_settleAll _), mirrorBoard_withWt]
  rfl

/-- While the partner is there, a Set of mirror mode does not touch write-through: nothing is forced. -/
theorem offEngine_mirrorSet (hlost : s.gr.mirLost = false) :
    offEngine (mirrorSet en policy partner tmo s) = offEngine (mirrorPut en policy partner tmo s) := by
  have hwt : writeThrough s = writeThrough (mirrorPut en policy partner tmo s) := by
    simp [writeThrough, healthBad, mirrorPut, hlost]
  rw [mirrorSet_eq, offEngine_settleAll, withWt, ← hwt]
  simp

end

section
variable {s : State} {c : Nat} {x : Ctx}

/-- With SV mirror mode's saved settings follow. -/
def savedMirror (x : Ctx) (s : State) : State :=
  onlyIf (eSv x.e) (onBoard (fun b => { b with
    mirSaved := bit x.e.cdw11 0, mirSavedPolicy := bits x.e.cdw11 1 1, mirSavedPartner := x.e.cdw12, mirSavedTmo := bits x.e.cdw13 15 0 }))
    (mirrorSet (bit x.e.cdw11 0) (bits x.e.cdw11 1 1) x.e.cdw12 (bits x.e.cdw13 15 0) s)

theorem mirrorMode_savedMirror (x : Ctx) (s : State) :
    (savedMirror x s).gr.mirEn = bit x.e.cdw11 0 ∧ (savedMirror x s).gr.mirPolicy = bits x.e.cdw11 1 1 ∧
    (savedMirror x s).gr.mirPartner = x.e.cdw12 ∧ (savedMirror x s).gr.mirTmo = bits x.e.cdw13 15 0 := by
  have hgr : (savedMirror x s).gr = (mirrorSet (bit x.e.cdw11 0) (bits x.e.cdw11 1 1) x.e.cdw12 (bits x.e.cdw13 15 0) s).gr :=
    onlyIf_keeps State.gr _ _ _ fun _ => onBoard_gr _ _
  have hset := congrArg Prod.snd (mirrorBoard_mirrorSet (bit x.e.cdw11 0) (bits x.e.cdw11 1 1) x.e.cdw12 (bits x.e.cdw13 15 0) s)
  rw [hgr]
  simpa [mirrorBoard, mirrorMode] using hset

/-- What a Set of mirror mode saves on the board. -/
theorem board_savedMirror (x : Ctx) (s : State) : (savedMirror x s).board = if eSv x.e then { s.board with
    mirSaved := bit x.e.cdw11 0, mirSavedPolicy := bits x.e.cdw11 1 1, mirSavedPartner := x.e.cdw12, mirSavedTmo := bits x.e.cdw13 15 0 }
    else s.board := by
  have hset : (mirrorSet (bit x.e.cdw11 0) (bits x.e.cdw11 1 1) x.e.cdw12 (bits x.e.cdw13 15 0) s).board = s.board :=
    congrArg Prod.fst (mirrorBoard_mirrorSet _ _ _ _ s)
  unfold savedMirror
  cases eSv x.e <;> simp [hset]

theorem savedMirror_storage {x : Ctx} {s : State} (hlost : s.gr.mirLost = false) : (savedMirror x s).ze = s.ze ∧ (savedMirror x s).fl = s.fl := by
  have hoff := offEngine_mirrorSet (bit x.e.cdw11 0) (bits x.e.cdw11 1 1) x.e.cdw12 (bits x.e.cdw13 15 0) s hlost
  exact ⟨(onlyIf_keeps State.ze _ _ _ fun _ => onBoard_ze _ _).trans (congrArg State.ze hoff :),
    (onlyIf_keeps State.fl _ _ _ fun _ => onBoard_fl _ _).trans (congrArg State.fl hoff :)⟩

theorem exec_setMirrorMode (hx : Safety.SetRuns s c x 0xD4) (hpf : isPf x.fn = true) (hmode : x.e.cdw11 ≤ 3) (hpart : x.e.cdw12 ≤ 262143)
    (hlow : 1 ≤ bits x.e.cdw13 15 0) (hhigh : bits x.e.cdw13 15 0 ≤ 1000) :
    exec (.setMirrorMode c) s = .next (succeed c (savedMirror x s)) := by
  have hok : (decide (3 < x.e.cdw11) || decide (262143 < x.e.cdw12) || decide (bits x.e.cdw13 15 0 = 0) ||
      decide (1000 < bits x.e.cdw13 15 0)) = false := by
    simp only [Bool.or_eq_false_iff, decide_eq_false_iff_not]
    omega
  rw [exec, execSetMirrorMode, onSet_of_runs hx, pfSet_of_pf hpf]
  simp only [hok, Bool.false_eq_true, if_false]
  rfl

theorem adminStarted_savedMirror {opc : Nat} (hx : Safety.AdminRuns s c x opc) : AdminStarted c (savedMirror x s) := by
  obtain ⟨⟨hctx, -, hst, htun, hfresh⟩, hadm⟩ := hx
  refine adminStarted_of_ce (onlyIf_keeps State.ce _ _ _ fun _ => onBoard_ce _ _) ?_
  rw [mirrorSet_eq]
  exact adminStarted_settleAll (adminStarted_withWt (by rfl) ⟨x, hctx, hst, hadm, htun, hfresh⟩)

end

/-! ### The write cache (03_queues.md R87) -/

section
variable {s : State} {c : Nat} {x : Ctx}

theorem exec_setVolatileWriteCache (hx : Safety.SetRuns s c x 0x06) (h : eSv x.e = false ∨ bit x.e.cdw11 0 = false) :
    exec (.setVolatileWriteCache c) s = .next (if bit x.e.cdw11 0 then modCtx c (withStatus stOk 0 0) s
      else modCtx c (withStatus stBadField 0 0) (modCtx c noCause s)) := by
  rw [exec, execSetVolatileWriteCache, onSet_of_runs hx]
  by_cases hon : bit x.e.cdw11 0 = true
  · have hsv : eSv x.e = false := h.resolve_right (by simp [hon])
    simp only [hon, hsv, Bool.not_true, Bool.false_eq_true, if_false, if_true, succeed_of_adminRuns hx.1 hx.1.1.1 rfl]
  · simp only [hon, Bool.not_false, Bool.false_eq_true, if_false, if_true, fail_of_adminRuns hx.1]

end

/-! ### The power state and its cap (16_power_thermal.md R436, R444) -/

/-- What the mode controller's window and an event leave in this part of the device: the command engine, the mode and the power state. -/
def capView (s : State) : Engine × Nat × Nat × Nat := (s.ce, s.pw.mode, s.pw.capPs, s.pw.capMgmt)

/-- No domain that is on goes off in CAPPED. -/
theorem capView_setDoms_capped (s : State) : capView (setDoms mCapped s) = capView s ∧ (setDoms mCapped s).rf.regs = s.rf.regs := by
  have hstep (k : Nat) (t : State) : setDom k (domIn mCapped k (domState t k)) t =
      winSet (pwSwOff k) (domIn mCapped k (domState t k)) (onPw (fun p => { p with doms := tput 0 k (domIn mCapped k (domState t k)) p.doms }) t) := by
    have hon : (domIn mCapped k (domState t k) == 0 && domState t k != 0) = false := by
      by_cases h0 : domState t k = 0
      · simp [h0]
      · have hdom : domIn mCapped k (domState t k) = 2 := by simp [domIn, mCapped, mOff, mBoot, mSelftest, h0]
        simp [hdom]
    rw [setDom, hon, onlyIf_false]
  refine ⟨forEach_keeps capView _ (fun k t => ?_) _ s, forEach_keeps (fun t => t.rf.regs) _ (fun k t => ?_) _ s⟩
  · rw [hstep]; rfl
  · simp only [hstep]; rfl

/-- A register beside the pending words of the event's source and of source 491 is left by the event. -/
theorem rd_raise_other {r : Ref} {src : Nat} (h : r.addr ≠ (R.evPend (src / 32)).addr) (h491 : r.addr ≠ (R.evPend (491 / 32)).addr) (sev : Nat)
    (ps : List Nat) (s : State) : rd (raise src sev ps s) r = rd s r := by
  have hset (t : State) : rd (setPend src t) r = rd t r := rd_wr_other h _ _
  have hlost (t : State) : rd (setPend 491 t) r = rd t r := rd_wr_other h491 _ _
  simp only [raise, raiseCode]
  split
  · rfl
  split
  · split
    · split
      · exact (hlost _).trans (hset s)
      · exact (hlost _).trans (hset s)
    · exact hset s
  · exact hset s

theorem capView_raise (src sev : Nat) (ps : List Nat) (s : State) : capView (raise src sev ps s) = capView s := by
  obtain ⟨regs, rec', h⟩ := raise_only src sev ps s
  rw [h]; rfl

/-- From RUN a device enters CAPPED with its command engine and power state as they were. -/
theorem capView_setMode_capped (cause : Nat) (s : State) : capView (setMode mCapped cause s) = (s.ce, mCapped, s.pw.capPs, s.pw.capMgmt) := by
  simp only [setMode, (capView_setDoms_capped _).1, capView_raise]
  rfl

theorem rd_setMode_capped {r : Ref} (h : r.addr ≠ (R.evPend (10 / 32)).addr) (h491 : r.addr ≠ (R.evPend (491 / 32)).addr)
    (cause : Nat) (s : State) : rd (setMode mCapped cause s) r = rd s r := by
  have hregs (t : State) : rd (setDoms mCapped t) r = rd t r := by rw [rd, (capView_setDoms_capped t).2, rd]
  simp only [setMode, hregs, rd_raise_other h h491]
  rfl

theorem lesserLimit_lt {a b n : Nat} (ha : a < n) (hb : b < n) : lesserLimit a b < n := by
  unfold lesserLimit
  split
  · exact hb
  split
  · exact ha
  · exact (Nat.min_le_left a b).trans_lt ha

section
variable {s : State} {c : Nat} {x : Ctx}

/-- The limit of a power state, and the state with it and the power state put in force. -/
def capOf (s : State) (ps : Nat) : Nat := lesserLimit ([0, 24000, 16000].getD ps 0) s.pw.capMgmt
def capPut (s : State) (ps : Nat) : State := wrf R.ftCapLim 16 0 (capOf s ps) (onPw (fun p => { p with capPs := ps }) s)

theorem rdf_capPut {ps : Nat} (hps : ps ≤ 2) (hm : s.pw.capMgmt < 131072) : rdf (capPut s ps) R.ftCapLim 16 0 = capOf s ps := by
  have hlim : [0, 24000, 16000].getD ps 0 < 131072 := by interval_cases ps <;> simp
  rw [capPut, rdf_wrf_same]
  exact Nat.mod_eq_of_lt (lesserLimit_lt hlim hm)

/-- From RUN the cap's act enters CAPPED exactly where there is a limit, and keeps FT_CAP_LIM. -/
theorem ftCapAct_of_run {t : State} {v : Nat} (n : Nat) (hv : rdf t R.ftCapLim 16 0 = v) (hrun : t.pw.mode = mRun) :
    capView (ftCapAct n t) = (t.ce, (if v = 0 then mRun else mCapped), t.pw.capPs, t.pw.capMgmt) ∧ rdf (ftCapAct n t) R.ftCapLim 16 0 = v := by
  by_cases h0 : v = 0
  · have hact : ftCapAct n t = t := by simp [ftCapAct, hv, h0, hrun, mRun, mCapped]
    rw [hact]
    exact ⟨by rw [if_pos h0, ← hrun]; rfl, hv⟩
  · have hact : ftCapAct n t = raise 19 sevInfo [v] (setMode mCapped cCap t) := by simp [ftCapAct, hv, h0, hrun]
    rw [hact]
    refine ⟨by rw [capView_raise, capView_setMode_capped, if_neg h0], ?_⟩
    rw [rdf, rd_raise_other (by decide) (by decide), rd_setMode_capped (by decide) (by decide), ← hv, rdf]

theorem exec_setPowerManagement (hx : Safety.SetRuns s c x 0x02) (hsv : eSv x.e = false) (hps : bits x.e.cdw11 4 0 ≤ 2) :
    exec (.setPowerManagement c) s = .next (succeed c (ftCapAct (capOf s (bits x.e.cdw11 4 0)) (capPut s (bits x.e.cdw11 4 0)))) := by
  rw [exec, execSetPowerManagement, onSet_of_runs hx]
  simp only [hsv, Bool.false_eq_true, if_false, if_neg (not_lt.2 hps)]
  rfl

end

/-! ### Host controlled thermal management (16_power_thermal.md R450) -/

section
variable {s : State} {c : Nat} {x : Ctx}

/-- The two temperatures put in force, in the state and in TH_HCTM. -/
def hctmPut (s : State) (t1 t2 : Nat) : State :=
  wrf R.thHctm 31 16 t2 (wrf R.thHctm 15 0 t1 (onPw (fun p => { p with hctmT1 := t1, hctmT2 := t2 }) s))

theorem hctmPut_only (s : State) (t1 t2 : Nat) : ∃ regs, hctmPut s t1 t2 =
    { s with rf := { s.rf with regs := regs }, pw := { s.pw with hctmT1 := t1, hctmT2 := t2 } } := ⟨_, rfl⟩

/-- The update of the thermal management's state changes the power controller's alone, and neither temperature. -/
theorem hctmUpdate_only (ns : Nat) (t : State) :
    ∃ pw, hctmUpdate ns t = { t with pw := pw } ∧ pw.hctmT1 = t.pw.hctmT1 ∧ pw.hctmT2 = t.pw.hctmT2 := ⟨_, rfl, rfl, rfl⟩

theorem bits_lt (v hi lo : Nat) : bits v hi lo < 2 ^ (hi + 1 - lo) := Nat.mod_lt _ (Nat.two_pow_pos _)

theorem rdf_hctmPut_low (t1 t2 : Nat) (h : t1 < 65536) : rdf (hctmPut s t1 t2) R.thHctm 15 0 = t1 := by
  rw [hctmPut, rdf, wrf, rd_wr_same, bits_setBits_other (.inr (by omega)), ← rdf, rdf_wrf_same]
  exact Nat.mod_eq_of_lt h

theorem rdf_hctmPut_high (t1 t2 : Nat) (h : t2 < 65536) : rdf (hctmPut s t1 t2) R.thHctm 31 16 = t2 := by
  rw [hctmPut, rdf_wrf_same]
  exact Nat.mod_eq_of_lt h

theorem exec_setHostControlledThermalManagement (hx : Safety.SetRuns s c x 0x10) (hsv : eSv x.e = false)
    (h1 : tmtOk (bits x.e.cdw11 31 16) = true) (h2 : tmtOk (bits x.e.cdw11 15 0) = true) (hlt : bits x.e.cdw11 31 16 < bits x.e.cdw11 15 0) :
    exec (.setHostControlledThermalManagement c) s =
      .next (modCtx c (withStatus stOk 0 0) (hctmUpdate 0 (hctmPut s (bits x.e.cdw11 31 16) (bits x.e.cdw11 15 0)))) := by
  rw [exec, execSetHostControlledThermalManagement, onSet_of_runs hx]
  simp only [hsv, h1, h2, not_le.2 hlt, decide_false, Bool.and_self, Bool.and_false, Bool.not_true, Bool.or_self, Bool.false_eq_true, if_false]
  exact congrArg Host.Outcome.next (succeed_of_adminRuns hx.1 (by exact hx.1.1.1) (by rfl))

end

/-! ### Temperature thresholds (16_power_thermal.md R448) -/

/-- An event takes an Asynchronous Event Request, and no other command. -/
theorem ctxOf_sendAsync_of_not_aer {c : Nat} {s : State} {x : Ctx} (hc : ctxOf s c = some x) (hopc : x.e.opc ≠ 0x0C) (fn : Nat)
    (ev : Nat × Nat × Nat) : ctxOf (sendAsync fn ev s) c = some x := by
  unfold sendAsync
  split
  · next d hd =>
    have hne : c ≠ d := by
      rintro rfl
      have hw := List.find?_some hd
      simp [hc, hopc] at hw
    rw [ctxOf_modCtx_other hne, hc]
  · exact hc

/-- What a look at the thresholds leaves of a state: a command, a function's generation and threshold, and all but the command engine. -/
def Beside (c g : Nat) (x : Ctx) (s t : State) : Prop :=
  ctxOf t c = some x ∧ ((fnOf t g).gen = (fnOf s g).gen ∧ (fnOf t g).tempThreshold = (fnOf s g).tempThreshold) ∧ t = { s with ce := t.ce }

section
variable {s t : State} {c g : Nat} {x : Ctx}

theorem beside_modFn {f : Fn → Fn} (hgen : ∀ y, (f y).gen = y.gen) (htemp : ∀ y, (f y).tempThreshold = y.tempThreshold) (fn : Nat)
    (ht : Beside c g x s t) : Beside c g x s (modFn fn f t) := by
  obtain ⟨hctx, ⟨hg, hh⟩, hframe⟩ := ht
  refine ⟨hctx, ?_, by rw [hframe]; rfl⟩
  by_cases hfn : g = fn
  · subst hfn
    rw [fnOf_modFn_same, hgen, htemp]
    exact ⟨hg, hh⟩
  · rw [fnOf_modFn_other hfn]
    exact ⟨hg, hh⟩

theorem beside_sendAsync (hopc : x.e.opc ≠ 0x0C) (fn : Nat) (ev : Nat × Nat × Nat) (ht : Beside c g x s t) : Beside c g x s (sendAsync fn ev t) := by
  have hctx := ctxOf_sendAsync_of_not_aer ht.1 hopc fn ev
  unfold sendAsync at hctx ⊢
  split at hctx
  · obtain ⟨-, hfn, hframe⟩ := ht
    exact ⟨hctx, hfn, by rw [hframe]; rfl⟩
  · exact beside_modFn (fun _ => by rfl) (fun _ => by rfl) fn ht

theorem beside_thresholds (hc : ctxOf s c = some x) (hopc : x.e.opc ≠ 0x0C) : Beside c g x s (thresholds s) := by
  refine forEach_inv (fun p t ht => ?_) _ s ⟨hc, ⟨rfl, rfl⟩, rfl⟩
  have hfn := beside_modFn (f := fun f => { f with tempCrossed := decide (s.pw.comp + 273 ≥ (p.2.tempThreshold : Int)) })
    (fun _ => by rfl) (fun _ => by rfl) p.1 ht
  dsimp only
  cases decide (s.pw.comp + 273 ≥ (p.2.tempThreshold : Int)) && !p.2.tempCrossed with
  | false => exact hfn
  | true => exact beside_sendAsync hopc p.1 (1, 1, 2) hfn

/-- A function's threshold put in force, and looked at. -/
def thresholdSet (s : State) (x : Ctx) : State := thresholds (modFn x.fn (fun f => { f with tempThreshold := bits x.e.cdw11 15 0 }) s)

theorem beside_thresholdSet (hx : Safety.SetRuns s c x 0x04) :
    Beside c x.fn x (modFn x.fn (fun f => { f with tempThreshold := bits x.e.cdw11 15 0 }) s) (thresholdSet s x) := by
  obtain ⟨⟨⟨hctx, hopc, -⟩, -⟩, -⟩ := hx
  exact beside_thresholds hctx (by rw [hopc]; decide)

theorem exec_setTemperatureThreshold (hx : Safety.SetRuns s c x 0x04) (hsv : eSv x.e = false) (hsel : bits x.e.cdw11 21 16 = 0) :
    exec (.setTemperatureThreshold c) s = .next (modCtx c (withStatus stOk 0 0) (thresholdSet s x)) := by
  rw [exec, execSetTemperatureThreshold, onSet_of_runs hx]
  simp only [hsv, hsel, bne_self_eq_false, Bool.false_eq_true, if_false]
  obtain ⟨hctx, ⟨hgen, -⟩, -⟩ := beside_thresholdSet hx
  refine congrArg Host.Outcome.next (succeed_of_adminRuns hx.1 (t := thresholdSet s x) hctx (hgen.trans ?_))
  rw [fnOf_modFn_same]

end

/-! ### Features read (03_queues.md R112) -/

section
variable {s : State} {c : Nat} {x : Ctx}

/-- With SEL 0 a feature with a value in DW0 answers its current one. -/
theorem exec_getFeatures_current (hx : Safety.AdminRuns s c x 0x0A) (hsel : bits x.e.cdw10 10 8 = 0) {v : Nat}
    (hv : (bits x.e.cdw10 7 0, v) ∈ [(0x02, s.pw.capPs), (0x04, (fnOf s x.fn).tempThreshold), (0x06, 1), (0x10, s.pw.hctmT1 * 65536 + s.pw.hctmT2),
      (0xD1, rdf s R.thCfg 29 24), (0xD4, s.gr.mirEn.toNat + 2 * s.gr.mirPolicy)]) :
    exec (.getFeatures c) s = .next (modCtx c (withStatus stOk v 0) s) := by
  rw [exec, execGetFeatures, onAdmin_of_runs hx]
  have hcur (cur dflt saved caps : Nat) : complete c stOk (bySel (eSel x.e) cur dflt saved caps) 0 s = modCtx c (withStatus stOk cur 0) s := by
    rw [bySel, if_pos (by exact hsel), complete_of_adminRuns hx hx.1.1 rfl]
  simp only [List.mem_cons, Prod.mk.injEq, List.not_mem_nil, or_false] at hv
  rcases hv with ⟨hfid, rfl⟩ | ⟨hfid, rfl⟩ | ⟨hfid, rfl⟩ | ⟨hfid, rfl⟩ | ⟨hfid, rfl⟩ | ⟨hfid, rfl⟩
  all_goals
    have hfid' : eFid x.e = _ := hfid
    simp only [hfid', hcur, mirDw0]

/-- A running admin command answers with its data, and nothing else changes. -/
theorem answer_of_adminRuns {opc : Nat} (hx : Safety.AdminRuns s c x opc) (data : List Byte) :
    answer c data s = modCtx c (withStatus stOk 0 0) (modCtx c (fun y => { y with out := data }) s) := by
  obtain ⟨⟨hctx, -, hst, htun, hfresh⟩, hadm⟩ := hx
  exact complete_of_quiet (x := { x with out := data }) (by rw [ctxOf_modCtx_same, hctx, Option.map_some]) htun (by exact hfresh) (by simp [hst])
    (.inr hadm) 0 0

theorem answered_of_adminRuns {opc : Nat} (hx : Safety.AdminRuns s c x opc) (data : List Byte) :
    Safety.Answered (modCtx c (withStatus stOk 0 0) (modCtx c (fun y => { y with out := data }) s)) c data :=
  ⟨withStatus stOk 0 0 { x with out := data }, by rw [ctxOf_modCtx_same, ctxOf_modCtx_same, hx.1.1, Option.map_some, Option.map_some], rfl, rfl, rfl⟩

/-- A share is answered to its own function. -/
theorem exec_getFeatures_share (hx : Safety.AdminRuns s c x 0x0A) (hsel : bits x.e.cdw10 10 8 = 0) (hfid : bits x.e.cdw10 7 0 = 0xD0)
    (hpf : isPf x.fn = false) (htun : x.tunnel = false) :
    exec (.getFeatures c) s = .next (modCtx c (withStatus stOk 0 0) (modCtx c (fun y => { y with out := shareBytes (fnOf s x.fn).share }) s)) := by
  have hfid' : eFid x.e = 0xD0 := hfid
  have hsel' : eSel x.e = 0 := hsel
  rw [exec, execGetFeatures, onAdmin_of_runs hx]
  simp only [hfid', hsel', pfRights, hpf, htun, Bool.or_self, Bool.false_eq_true, if_false, answer_of_adminRuns hx]
  rfl

end

/-! ### The statements of each feature -/

/-- A valid share is in force from its Set on, with event source 103 (R133). -/
theorem tenantShare_set {s : State} {c f : Nat} {x : Ctx} (hx : Safety.SetRuns s c x 0xD0) (hpf : isPf x.fn = true) (hf : shareTarget x = some f)
    (hok : shareValid x.e.payload = true) :
    ∃ t, exec (.setTenantShare c) s = .next t ∧ Safety.Ended t c stOk 0 ∧ fnOf t f = { fnOf s f with share := shareFrom x.e.payload } ∧
      (∀ g, g ≠ f → fnOf t g = fnOf s g) ∧ pending? t 103 = true ∧
      t = { s with ce := { s.ce with ctxs := t.ce.ctxs, fns := t.ce.fns }, rf := t.rf, att := { s.att with evrec := t.att.evrec } } := by
  refine ⟨_, exec_setTenantShare_of_valid hx hpf hf hok, ended_modCtx_withStatus (x := x) ?_ _ _ _, ?_, fun g hg => ?_,
    pending?_raise_same (by decide) _ _ _, ?_⟩
  · rw [shared, ctxOf_raise, ctxOf_modFn, hx.1.1.1]
  · rw [fnOf_modCtx, shared, fnOf_raise, fnOf_modFn_same]
  · rw [fnOf_modCtx, shared, fnOf_raise, fnOf_modFn_other hg]
  · obtain ⟨regs, rec', hraise⟩ := raise_only 103 sevInfo [f] (modFn f (fun y => { y with share := shareFrom x.e.payload }) s)
    rw [shared, hraise]
    rfl

/-- A share that fails its checks changes nothing but its command (R133). -/
theorem tenantShare_refused {s : State} {c f : Nat} {x : Ctx} (hx : Safety.SetRuns s c x 0xD0) (hpf : isPf x.fn = true)
    (hf : shareTarget x = some f) (hbad : shareValid x.e.payload = false) :
    ∃ t, exec (.setTenantShare c) s = .next t ∧ Safety.Ended t c stBadField 0 ∧ t = { s with ce := { s.ce with ctxs := t.ce.ctxs } } :=
  ⟨_, exec_setTenantShare_of_invalid hx hpf hf hbad, ended_fail_of_adminRuns hx.1 _, rfl⟩

/-- The grace time goes to TH_CFG, and with SV to its saved value (R451). -/
theorem thermalGrace_set {s : State} {c : Nat} {x : Ctx} (hx : Safety.SetRuns s c x 0xD1) (hpf : isPf x.fn = true) (hmax : x.e.cdw11 ≤ 60)
    (hth : s.pw.th ≠ .grace) :
    ∃ t, exec (.setThermalGrace c) s = .next t ∧ Safety.Ended t c stOk 0 ∧ rdf t R.thCfg 29 24 = x.e.cdw11 ∧
      t.board.graceSaved = (if eSv x.e then x.e.cdw11 else s.board.graceSaved) ∧
      t = { s with ce := { s.ce with ctxs := t.ce.ctxs }, rf := { s.rf with regs := t.rf.regs },
                   board := { s.board with graceSaved := t.board.graceSaved } } := by
  have hce : (savedGrace x s).ce = s.ce := (onlyIf_keeps State.ce _ _ _ fun _ => onBoard_ce _ _).trans (wrf_ce ..)
  refine ⟨_, exec_setThermalGrace hx hpf hmax hth, ended_modCtx_withStatus (x := x) ((ctxOf_of_ce hce c).trans hx.1.1.1) _ _ _, ?_, ?_, ?_⟩
  · exact rdf_savedGrace hmax s
  · obtain ⟨regs, -, hsaved⟩ := savedGrace_eq x s
    rw [hsaved]
    rfl
  · obtain ⟨regs, -, hsaved⟩ := savedGrace_eq x s
    rw [hsaved]
    rfl

/-- A read deadline is set in the namespace named (R264). -/
theorem readDeadline_set {s : State} {c : Nat} {x : Ctx} {n : Ns} (hx : Safety.SetRuns s c x 0xD2) (hsel : bit x.e.cdw11 31 = false)
    (hrsv : bits x.e.cdw11 30 14 = 0) (hval : bits x.e.cdw11 13 0 = 0 ∨ 100 ≤ bits x.e.cdw11 13 0 ∧ bits x.e.cdw11 13 0 ≤ 10000)
    (hns : nsOf s x.e.nsid = some n) (hn : x.e.nsid ∈ namedNs s x) (hall : x.e.nsid ≠ 0xFFFFFFFF) :
    ∃ t, exec (.setDetourPolicy c) s = .next t ∧ Safety.Ended t c stOk 0 ∧ pending? t 431 = true ∧
      nsOf t x.e.nsid = some { n with deadline := bits x.e.cdw11 13 0, deadlineSaved := if eSv x.e then bits x.e.cdw11 13 0 else n.deadlineSaved } ∧
      (∀ k, k ≠ x.e.nsid → nsOf t k = nsOf s k) ∧
      t = { s with ce := { s.ce with ctxs := t.ce.ctxs }, ze := { s.ze with nss := t.ze.nss }, rf := t.rf, att := { s.att with evrec := t.att.evrec } } := by
  have hmem : ∀ k ∈ namedNs s x, k = x.e.nsid := fun k hk => eq_of_mem_namedNs hall hk
  have hce : (deadlineSet s x).ce = s.ce := (raise_ce ..).trans (forEach_keeps State.ce _ (fun _ _ => by rfl) _ s)
  refine ⟨_, exec_setDetourPolicy_deadline hx hsel hrsv hval hn, ended_modCtx_withStatus (x := x) ((ctxOf_of_ce hce c).trans hx.1.1.1) _ _ _,
    pending?_raise_same (by decide) _ _ _, ?_, fun k hk => ?_, ?_⟩
  · rw [nsOf_modCtx, deadlineSet, nsOf_raise, nsOf_forEach_modNs_same (fun y => by cases eSv x.e <;> rfl) hmem (List.ne_nil_of_mem hn), hns]
    rfl
  · rw [nsOf_modCtx, deadlineSet, nsOf_raise, nsOf_forEach_modNs_other hmem hk]
  · obtain ⟨nss, hset⟩ := forEach_modNs_only (F := fun y => { y with
      deadline := bits x.e.cdw11 13 0, deadlineSaved := if eSv x.e then bits x.e.cdw11 13 0 else y.deadlineSaved }) (namedNs s x) s
    obtain ⟨regs, rec', hraise⟩ := raise_only 431 sevInfo [0, x.e.nsid, bits x.e.cdw11 13 0] { s with ze := { s.ze with nss := nss } }
    rw [deadlineSet, hset, hraise]
    rfl

/-- A detour budget is set in the domain named, and its level does not rise (R263). -/
theorem detourBudget_set {s : State} {c : Nat} {x : Ctx} (hx : Safety.SetRuns s c x 0xD2) (hsel : bit x.e.cdw11 31 = true)
    (hrsv : bits x.e.cdw11 30 8 = 0) (hpf : isPf x.fn = true) (hdep : bits x.e.cdw12 31 16 ≠ 0) (hex : domExists s (bits x.e.cdw11 7 0) = true)
    (hgr : domGranted (fnOf s x.fn) (bits x.e.cdw11 7 0) = true) :
    ∃ t, exec (.setDetourPolicy c) s = .next t ∧ Safety.Ended t c stOk 0 ∧ pending? t 431 = true ∧
      (domOf t (bits x.e.cdw11 7 0)).rate = rateIn s (bits x.e.cdw11 7 0) (bits x.e.cdw12 15 0) ∧
      (domOf t (bits x.e.cdw11 7 0)).depth = depthIn s (bits x.e.cdw11 7 0) (bits x.e.cdw12 31 16) ∧
      domLevel t (bits x.e.cdw11 7 0) ≤ domLevel s (bits x.e.cdw11 7 0) ∧ (∀ d, d ≠ bits x.e.cdw11 7 0 → domOf t d = domOf s d) ∧
      t = { s with ce := { s.ce with ctxs := t.ce.ctxs }, ze := { s.ze with domains := t.ze.domains }, rf := t.rf,
                   att := { s.att with evrec := t.att.evrec } } := by
  have hce : (budgetSet s x).ce = s.ce := raise_ce ..
  refine ⟨_, exec_setDetourPolicy_budget hx hsel hrsv hpf hdep hex hgr, ended_modCtx_withStatus (x := x) ((ctxOf_of_ce hce c).trans hx.1.1.1) _ _ _,
    pending?_raise_same (by decide) _ _ _, ?_, ?_, domLevel_budgetSet, fun d hd => domOf_budgetSet_other hd, ?_⟩
  · exact (congrArg Domain.rate domOf_budgetSet_same).trans (by rw [budgetRate, domOf_modDom_same])
  · exact (congrArg Domain.depth domOf_budgetSet_same).trans (by rw [budgetRate, domOf_modDom_same])
  · obtain ⟨regs, rec', hraise⟩ := raise_only 431 sevInfo [1, bits x.e.cdw11 7 0, x.e.cdw12] (budgetPut s x)
    rw [budgetSet, hraise]
    rfl

/-- Ticketed append is set in the namespace named (R93). -/
theorem ticketedAppend_set {s : State} {c : Nat} {x : Ctx} {n : Ns} (hx : Safety.SetRuns s c x 0xD3) (hns : nsOf s x.e.nsid = some n)
    (hn : x.e.nsid ∈ namedNs s x) (hall : x.e.nsid ≠ 0xFFFFFFFF) :
    ∃ t, exec (.setTicketedAppend c) s = .next t ∧ Safety.Ended t c stOk 0 ∧
      nsOf t x.e.nsid = some { n with ticketed := bit x.e.cdw11 0, ticketedSaved := if eSv x.e then bit x.e.cdw11 0 else n.ticketedSaved } ∧
      (∀ k, k ≠ x.e.nsid → nsOf t k = nsOf s k) ∧ t = { s with ce := { s.ce with ctxs := t.ce.ctxs }, ze := { s.ze with nss := t.ze.nss } } := by
  have hmem : ∀ k ∈ namedNs s x, k = x.e.nsid := fun k hk => eq_of_mem_namedNs hall hk
  have hce : (ticketedSet s x).ce = s.ce := forEach_keeps State.ce _ (fun _ _ => by rfl) _ s
  refine ⟨_, exec_setTicketedAppend hx hn, ended_modCtx_withStatus (x := x) ((ctxOf_of_ce hce c).trans hx.1.1.1) _ _ _, ?_, fun k hk => ?_, ?_⟩
  · rw [nsOf_modCtx, ticketedSet, nsOf_forEach_modNs_same (fun y => by cases eSv x.e <;> rfl) hmem (List.ne_nil_of_mem hn), hns]
    rfl
  · rw [nsOf_modCtx, ticketedSet, nsOf_forEach_modNs_other hmem hk]
  · obtain ⟨nss, hset⟩ := forEach_modNs_only (F := fun y => { y with
      ticketed := bit x.e.cdw11 0, ticketedSaved := if eSv x.e then bit x.e.cdw11 0 else y.ticketedSaved }) (namedNs s x) s
    rw [ticketedSet, hset]
    rfl

/-- Mirror mode is set, and with SV its saved values; while the partner is there nothing is forced (R307). -/
theorem mirrorMode_set {s : State} {c : Nat} {x : Ctx} (hx : Safety.SetRuns s c x 0xD4) (hpf : isPf x.fn = true) (hmode : x.e.cdw11 ≤ 3)
    (hpart : x.e.cdw12 ≤ 262143) (hlow : 1 ≤ bits x.e.cdw13 15 0) (hhigh : bits x.e.cdw13 15 0 ≤ 1000) :
    ∃ t, exec (.setMirrorMode c) s = .next t ∧ Safety.Ended t c stOk 0 ∧ t.gr.mirEn = bit x.e.cdw11 0 ∧ t.gr.mirPolicy = bits x.e.cdw11 1 1 ∧
      t.gr.mirPartner = x.e.cdw12 ∧ t.gr.mirTmo = bits x.e.cdw13 15 0 ∧ (eSv x.e = true → t.board.mirSaved = bit x.e.cdw11 0 ∧
        t.board.mirSavedPartner = x.e.cdw12) ∧ (eSv x.e = false → t.board = s.board) ∧ (s.gr.mirLost = false → t.ze = s.ze ∧ t.fl = s.fl) := by
  obtain ⟨y, hy, hst, hadm, htun, hf⟩ := adminStarted_savedMirror hx.1
  refine ⟨_, exec_setMirrorMode hx hpf hmode hpart hlow hhigh, complete_ended hy htun hf hst stOk 0 0, ?_⟩
  have hoff : offEngine (complete c stOk 0 0 (savedMirror x s)) = offEngine (savedMirror x s) := offEngine_complete ..
  have hgr : (complete c stOk 0 0 (savedMirror x s)).gr = (savedMirror x s).gr := (congrArg State.gr hoff :)
  have hboard : (complete c stOk 0 0 (savedMirror x s)).board = (savedMirror x s).board := (congrArg State.board hoff :)
  have hze : (complete c stOk 0 0 (savedMirror x s)).ze = (savedMirror x s).ze := (congrArg State.ze hoff :)
  have hfl : (complete c stOk 0 0 (savedMirror x s)).fl = (savedMirror x s).fl := (congrArg State.fl hoff :)
  obtain ⟨hen, hpol, hpartner, htmo⟩ := mirrorMode_savedMirror x s
  rw [succeed, hgr, hboard, hze, hfl]
  refine ⟨hen, hpol, hpartner, htmo, fun hsv => ?_, fun hsv => ?_, fun hlost => savedMirror_storage hlost⟩
  · rw [board_savedMirror, if_pos hsv]
    exact ⟨rfl, rfl⟩
  · rw [board_savedMirror, hsv]
    rfl

/-- The write cache can be set on only (R87). -/
theorem writeCache_set {s : State} {c : Nat} {x : Ctx} (hx : Safety.SetRuns s c x 0x06) (h : eSv x.e = false ∨ bit x.e.cdw11 0 = false) :
    ∃ t, exec (.setVolatileWriteCache c) s = .next t ∧ Safety.Ended t c (if bit x.e.cdw11 0 then stOk else stBadField) 0 ∧
      t = { s with ce := { s.ce with ctxs := t.ce.ctxs } } := by
  refine ⟨_, exec_setVolatileWriteCache hx h, ?_, ?_⟩
  · split
    · exact ended_modCtx_withStatus hx.1.1.1 _ _ _
    · exact ended_fail_of_adminRuns hx.1 _
  · split <;> rfl

/-- The power state's cap is put in force, and RUN gives way to CAPPED where there is one (R444). -/
theorem powerState_set {s : State} {c : Nat} {x : Ctx} (hx : Safety.SetRuns s c x 0x02) (hsv : eSv x.e = false) (hps : bits x.e.cdw11 4 0 ≤ 2)
    (hm : s.pw.capMgmt < 131072) (hrun : s.pw.mode = mRun) :
    ∃ t, exec (.setPowerManagement c) s = .next t ∧ Safety.Ended t c stOk 0 ∧ t.pw.capPs = bits x.e.cdw11 4 0 ∧
      rdf t R.ftCapLim 16 0 = lesserLimit ([0, 24000, 16000].getD (bits x.e.cdw11 4 0) 0) s.pw.capMgmt ∧
      t.pw.mode = (if lesserLimit ([0, 24000, 16000].getD (bits x.e.cdw11 4 0) 0) s.pw.capMgmt = 0 then mRun else mCapped) := by
  obtain ⟨hview, hlim⟩ := ftCapAct_of_run (capOf s (bits x.e.cdw11 4 0)) (rdf_capPut hps hm) (by exact hrun)
  obtain ⟨hce, hrest⟩ := Prod.mk.inj hview
  obtain ⟨hmode, hrest⟩ := Prod.mk.inj hrest
  have hend := succeed_of_adminRuns hx.1 ((ctxOf_of_ce hce c).trans hx.1.1.1) (by rw [fnOf_of_ce hce]; rfl)
  refine ⟨_, (exec_setPowerManagement hx hsv hps).trans (congrArg _ hend),
    ended_modCtx_withStatus (x := x) ((ctxOf_of_ce hce c).trans hx.1.1.1) _ _ _, (Prod.mk.inj hrest).1, hlim, hmode⟩

/-- The thermal management temperatures are set in the state and in TH_HCTM (R450). -/
theorem thermalTemperatures_set {s : State} {c : Nat} {x : Ctx} (hx : Safety.SetRuns s c x 0x10) (hsv : eSv x.e = false)
    (h1 : tmtOk (bits x.e.cdw11 31 16) = true) (h2 : tmtOk (bits x.e.cdw11 15 0) = true) (hlt : bits x.e.cdw11 31 16 < bits x.e.cdw11 15 0) :
    ∃ t, exec (.setHostControlledThermalManagement c) s = .next t ∧ Safety.Ended t c stOk 0 ∧ t.pw.hctmT1 = bits x.e.cdw11 31 16 ∧
      t.pw.hctmT2 = bits x.e.cdw11 15 0 ∧ rdf t R.thHctm 15 0 = bits x.e.cdw11 31 16 ∧ rdf t R.thHctm 31 16 = bits x.e.cdw11 15 0 ∧
      t = { s with ce := { s.ce with ctxs := t.ce.ctxs }, rf := { s.rf with regs := t.rf.regs }, pw := t.pw } := by
  have hlow := rdf_hctmPut_low (s := s) (bits x.e.cdw11 31 16) (bits x.e.cdw11 15 0) (bits_lt _ 31 16)
  have hhigh := rdf_hctmPut_high (s := s) (bits x.e.cdw11 31 16) (bits x.e.cdw11 15 0) (bits_lt _ 15 0)
  have hexec := exec_setHostControlledThermalManagement hx hsv h1 h2 hlt
  obtain ⟨regs, hput⟩ := hctmPut_only s (bits x.e.cdw11 31 16) (bits x.e.cdw11 15 0)
  obtain ⟨pw, hup, ht1, ht2⟩ := hctmUpdate_only 0 (hctmPut s (bits x.e.cdw11 31 16) (bits x.e.cdw11 15 0))
  rw [hup, hput] at hexec
  rw [hput] at hlow hhigh ht1 ht2
  exact ⟨_, hexec, ended_modCtx_withStatus (x := x) (by exact hx.1.1.1) _ _ _, ht1, ht2, hlow, hhigh, rfl⟩

/-- A function's temperature threshold is set (R448). -/
theorem temperatureThreshold_set {s : State} {c : Nat} {x : Ctx} (hx : Safety.SetRuns s c x 0x04) (hsv : eSv x.e = false)
    (hsel : bits x.e.cdw11 21 16 = 0) :
    ∃ t, exec (.setTemperatureThreshold c) s = .next t ∧ Safety.Ended t c stOk 0 ∧ (fnOf t x.fn).tempThreshold = bits x.e.cdw11 15 0 ∧
      t = { s with ce := t.ce } := by
  obtain ⟨hctx, ⟨-, htemp⟩, hframe⟩ := beside_thresholdSet hx
  refine ⟨_, exec_setTemperatureThreshold hx hsv hsel, ended_modCtx_withStatus hctx _ _ _, ?_, ?_⟩
  · rw [fnOf_modCtx, htemp, fnOf_modFn_same]
  · rw [hframe]
    rfl

/-- Get Features answers the current value (R112). -/
theorem features_read {s : State} {c : Nat} {x : Ctx} (hx : Safety.AdminRuns s c x 0x0A) (hsel : bits x.e.cdw10 10 8 = 0) :
    (∀ v, (bits x.e.cdw10 7 0, v) ∈ [(0x02, s.pw.capPs), (0x04, (fnOf s x.fn).tempThreshold), (0x06, 1), (0x10, s.pw.hctmT1 * 65536 + s.pw.hctmT2),
        (0xD1, rdf s R.thCfg 29 24), (0xD4, s.gr.mirEn.toNat + 2 * s.gr.mirPolicy)] →
      ∃ t, exec (.getFeatures c) s = .next t ∧ Safety.Ended t c stOk v ∧ t = { s with ce := { s.ce with ctxs := t.ce.ctxs } }) ∧
    (bits x.e.cdw10 7 0 = 0xD0 → isPf x.fn = false → x.tunnel = false →
      ∃ t, exec (.getFeatures c) s = .next t ∧ Safety.Answered t c (shareBytes (fnOf s x.fn).share) ∧
        t = { s with ce := { s.ce with ctxs := t.ce.ctxs } }) := by
  refine ⟨fun v hv => ⟨_, exec_getFeatures_current hx hsel hv, ended_modCtx_withStatus hx.1.1 _ _ _, rfl⟩, fun hfid hpf htun => ?_⟩
  exact ⟨_, exec_getFeatures_share hx hsel hfid hpf htun, answered_of_adminRuns hx _, rfl⟩

/-- Settles O35, feature by feature: what each Set makes of the state before its command's end, and what Get Features answers. -/
theorem featuresAreSetAndRead : Obligations.FeaturesAreSetAndRead := by
  unfold Obligations.FeaturesAreSetAndRead
  exact ⟨fun _ _ _ _ => tenantShare_set, fun _ _ _ _ => tenantShare_refused, fun _ _ _ => thermalGrace_set, fun _ _ _ _ => readDeadline_set,
    fun _ _ _ => detourBudget_set, fun _ _ _ _ => ticketedAppend_set, fun _ _ _ => mirrorMode_set, fun _ _ _ => writeCache_set,
    fun _ _ _ => powerState_set, fun _ _ _ => thermalTemperatures_set, fun _ _ _ => temperatureThreshold_set, fun _ _ _ => features_read⟩

end Sys2Proof.Machine

/-! PROOFS. The statement of Virtualization Management (04_tenants.md R117, R118). -/

namespace Sys2Proof.Machine

/-! ### Virtualization Management of a secondary (04_tenants.md R118) -/

section
variable {s : State} {c fn act : Nat} {x : Ctx}

/-- An action on a secondary of the issuing PF acts on the function that CDW10 names. -/
theorem onSecondary_of_runs (hx : Safety.AdminRuns s c x 0x1C) (hact : bits x.e.cdw10 3 0 = act) (hsec : secOf x = some fn)
    (f : Ctx → Nat → State → State) : onSecondary c act f s = f x fn s := by
  rw [onSecondary, onAdmin_of_runs hx]
  simp [hact, hsec]

/-- A secondary changed in anything but its generation, perhaps after a change of the shared pool, and the command's end. -/
theorem complete_secondary (hx : Safety.AdminRuns s c x 0x1C) {f : Fn → Fn} (hgen : ∀ y, (f y).gen = y.gen) {u : State} (hctxs : u.ce.ctxs = s.ce.ctxs)
    (hfns : u.ce.fns = s.ce.fns) (dw0 : Nat) :
    complete c stOk dw0 0 (modFn fn f u) = modCtx c (withStatus stOk dw0 0) (modFn fn f u) := by
  refine complete_of_adminRuns hx ?_ ?_ stOk dw0 0
  · rw [ctxOf_modFn, ctxOf, hctxs]
    exact hx.1.1
  · rw [fnOf_modFn_gen hgen, fnOf, fnOf, hfns]

/-- A secondary changed and the command's end: what both leave. -/
theorem ended_secondary (hx : Safety.AdminRuns s c x 0x1C) {f : Fn → Fn} {u : State} (hctxs : u.ce.ctxs = s.ce.ctxs) (dw0 : Nat) :
    Safety.Ended (modCtx c (withStatus stOk dw0 0) (modFn fn f u)) c stOk dw0 :=
  ended_modCtx_withStatus (x := x) (by rw [ctxOf_modFn, ctxOf, hctxs]; exact hx.1.1) _ _ _

/-- VQ resources assigned to a secondary, taken from the shared pool or given back to it. -/
def vqAssigned (s : State) (fn n : Nat) : State :=
  modFn fn (fun f => { f with nvq := n }) (onCe (fun e => { e with vqPool := e.vqPool + (fnOf s fn).nvq - n }) s)

/-- VI resources assigned to a secondary, taken from the shared pool or given back to it. -/
def viAssigned (s : State) (fn n : Nat) : State :=
  modFn fn (fun f => { f with nvi := n }) (onCe (fun e => { e with viPool := e.viPool + (fnOf s fn).nvi - n }) s)

theorem exec_secondaryControllerAssign_vq (hx : Safety.AdminRuns s c x 0x1C) (hact : bits x.e.cdw10 3 0 = 8) (hsec : secOf x = some fn)
    (hp : (fnOf s fn).present = false) (hoff : (fnOf s fn).online = false) (hrt : bits x.e.cdw10 10 8 = 0) (hmax : bits x.e.cdw11 15 0 ≤ 256)
    (hpool : bits x.e.cdw11 15 0 ≤ s.ce.vqPool + (fnOf s fn).nvq) :
    exec (.secondaryControllerAssign c) s =
      .next (modCtx c (withStatus stOk (bits x.e.cdw11 15 0) 0) (vqAssigned s fn (bits x.e.cdw11 15 0))) := by
  rw [exec, execSecondaryControllerAssign, onSecondary_of_runs hx hact hsec, vqAssigned,
    ← complete_secondary hx (by exact fun _ => rfl) (by rfl) (by rfl)]
  simp [hp, hoff, hrt, hmax, hpool]

theorem exec_secondaryControllerAssign_vi (hx : Safety.AdminRuns s c x 0x1C) (hact : bits x.e.cdw10 3 0 = 8) (hsec : secOf x = some fn)
    (hp : (fnOf s fn).present = false) (hoff : (fnOf s fn).online = false) (hrt : bits x.e.cdw10 10 8 = 1) (hmax : bits x.e.cdw11 15 0 ≤ 257)
    (hpool : bits x.e.cdw11 15 0 ≤ s.ce.viPool + (fnOf s fn).nvi) :
    exec (.secondaryControllerAssign c) s =
      .next (modCtx c (withStatus stOk (bits x.e.cdw11 15 0) 0) (viAssigned s fn (bits x.e.cdw11 15 0))) := by
  rw [exec, execSecondaryControllerAssign, onSecondary_of_runs hx hact hsec, viAssigned,
    ← complete_secondary hx (by exact fun _ => rfl) (by rfl) (by rfl)]
  simp [hp, hoff, hrt, hmax, hpool]

theorem exec_secondaryControllerOnline (hx : Safety.AdminRuns s c x 0x1C) (hact : bits x.e.cdw10 3 0 = 9) (hsec : secOf x = some fn)
    (hvq : (fnOf s fn).nvq ≠ 0) (hvi : (fnOf s fn).nvi ≠ 0) :
    exec (.secondaryControllerOnline c) s = .next (modCtx c (withStatus stOk 0 0)
      (modFn fn (fun f => { f with online := true, rdy := f.rdy || (f.en && f.squash.isNone && deviceIsReady s) }) s)) := by
  rw [exec, execSecondaryControllerOnline, onSecondary_of_runs hx hact hsec, ← complete_secondary hx (by exact fun _ => rfl) rfl rfl]
  simp [hvq, hvi, succeed]

theorem exec_secondaryControllerOffline (hx : Safety.AdminRuns s c x 0x1C) (hact : bits x.e.cdw10 3 0 = 7) (hsec : secOf x = some fn)
    (hen : ((fnOf s fn).present && (fnOf s fn).en) = false) :
    exec (.secondaryControllerOffline c) s =
      .next (modCtx c (withStatus stOk 0 0) (modFn fn (fun f => { f with online := false }) s)) := by
  rw [exec, execSecondaryControllerOffline, onSecondary_of_runs hx hact hsec, ← complete_secondary hx (by exact fun _ => rfl) rfl rfl]
  simp only [hen, Bool.false_eq_true, if_false, succeed]

end

/-- Settles O16, from what each action makes of the secondary and of the shared pool before its command's end. -/
theorem secondaryControllersAreManaged : Obligations.SecondaryControllersAreManaged := by
  unfold Obligations.SecondaryControllersAreManaged
  refine ⟨?_, ?_, ?_, ?_⟩
  · intro s c fn x hx hact hsec hp hoff hrt hmax hpool
    refine ⟨_, exec_secondaryControllerAssign_vq hx hact hsec hp hoff hrt hmax hpool, ended_secondary hx (by rfl) _, ?_, ?_, rfl, rfl⟩
    · rw [fnOf_modCtx, vqAssigned, fnOf_modFn_same]
    · exact Nat.sub_add_cancel hpool
  · intro s c fn x hx hact hsec hp hoff hrt hmax hpool
    refine ⟨_, exec_secondaryControllerAssign_vi hx hact hsec hp hoff hrt hmax hpool, ended_secondary hx (by rfl) _, ?_, ?_, rfl, rfl⟩
    · rw [fnOf_modCtx, viAssigned, fnOf_modFn_same]
    · exact Nat.sub_add_cancel hpool
  · intro s c fn x hx hact hsec hvq hvi
    exact ⟨_, exec_secondaryControllerOnline hx hact hsec hvq hvi, ended_secondary hx rfl _, by rw [fnOf_modCtx, fnOf_modFn_same], rfl⟩
  · intro s c fn x hx hact hsec hen
    exact ⟨_, exec_secondaryControllerOffline hx hact hsec hen, ended_secondary hx rfl _, by rw [fnOf_modCtx, fnOf_modFn_same], rfl⟩

end Sys2Proof.Machine

/-! PROOFS. The statement of an arbitration round (03_queues.md R76, R77; 04_tenants.md R122, R128 to R131). -/

namespace Sys2Proof.Machine

/-! ### What a round leaves (04_tenants.md R128) -/

/-- A state without what a round changes: the command engine, the registers, the event record and the free-value counter. -/
def offRound (s : State) : State := { s with ce := {}, rf := {}, att := { s.att with evrec := {} }, free := 0 }

theorem eq_of_offRound {s t : State} (h : offRound t = offRound s) :
    t = { s with ce := t.ce, rf := t.rf, att := { s.att with evrec := t.att.evrec }, free := t.free } :=
  (congrArg (fun u : State => { u with ce := t.ce, rf := t.rf, att := { u.att with evrec := t.att.evrec }, free := t.free }) h :)

/-- Entries fetched: no share in force changes, and nothing outside of what a round changes. -/
def Fetches (s t : State) : Prop := (∀ g, (fnOf t g).inForce = (fnOf s g).inForce) ∧ offRound t = offRound s

theorem fetches_refl (s : State) : Fetches s s := ⟨fun _ => rfl, rfl⟩

theorem fetches_trans {s t u : State} (hst : Fetches s t) (htu : Fetches t u) : Fetches s u :=
  ⟨fun g => (htu.1 g).trans (hst.1 g), htu.2.trans hst.2⟩

theorem fetches_fetchOne (fn q : Nat) (s : State) : Fetches s (fetchOne fn q s) := by
  unfold fetchOne
  split
  · exact fetches_refl s
  split
  · exact ⟨fun _ => rfl, rfl⟩
  · exact fetches_refl s

theorem fetches_pauseClass (cls : Nat) (s : State) : Fetches s (pauseClass cls s) := by
  unfold pauseClass
  split
  · exact fetches_refl s
  · obtain ⟨regs, rec', hraise⟩ := raise_only 96 sevInfo [cls] (onCe (fun e => { e with paused := e.paused ++ [cls] }) s)
    rw [hraise]
    exact ⟨fun _ => rfl, rfl⟩

/-- A function's own fields changed, the share in force apart. -/
theorem fetches_modFn {f : Fn → Fn} (h : ∀ y, (f y).inForce = y.inForce) (fn : Nat) (s : State) : Fetches s (modFn fn f s) := by
  refine ⟨fun g => ?_, rfl⟩
  by_cases hg : g = fn
  · rw [hg, fnOf_modFn_same, h]
  · rw [fnOf_modFn_other hg]

theorem fetches_fetchAdmin (n fn : Nat) (s : State) : Fetches s (fetchAdmin n fn s).2 := by
  induction n generalizing s with
  | zero => exact fetches_refl s
  | succ n ih =>
    unfold fetchAdmin
    split
    · exact fetches_refl s
    split_ifs
    · exact fetches_refl s
    · exact fetches_pauseClass 1 s
    · exact fetches_trans (fetches_fetchOne fn 0 s) (ih _)

theorem fetches_fetchTurn (n fn : Nat) (s : State) : Fetches s (fetchTurn n fn s).2 := by
  induction n generalizing s with
  | zero => exact fetches_refl s
  | succ n ih =>
    unfold fetchTurn
    dsimp only
    split
    · exact fetches_refl s
    · next q sq _ =>
      split_ifs
      · exact fetches_refl s
      · exact fetches_pauseClass 0 s
      all_goals
        refine fetches_trans (fetches_fetchOne fn q s) (fetches_trans (fetches_modFn ?_ fn _) (ih _))
        exact fun _ => rfl

theorem fetches_fetchAll {pass : Nat → Nat → State → Nat × State} (h : ∀ n fn s, Fetches s (pass n fn s).2) (mark : Bool) (l : List Nat) (n : Nat)
    (s : State) : Fetches s (fetchAll pass mark l n s).2 := by
  induction l generalizing n s with
  | nil => exact fetches_refl s
  | cons fn rest ih =>
    cases n with
    | zero =>
      simp only [fetchAll]
      split
      · exact ⟨fun _ => rfl, rfl⟩
      · exact ih 0 s
    | succ n =>
      have hpass := h (n + 1) fn s
      simp only [fetchAll]
      split
      · next t heq =>
        rw [heq] at hpass
        split
        · exact fetches_trans hpass ⟨fun _ => rfl, rfl⟩
        · exact fetches_trans hpass (ih 0 t)
      · next k t heq =>
        rw [heq] at hpass
        exact fetches_trans hpass (ih (k + 1) t)

/-! ### A round's beginning (04_tenants.md R128 to R130) -/

/-- The functions with queues, and all that the command engine lists besides. -/
def queueFns (s : State) : List Nat := (s.ce.sqs.map (fun p => p.1 / 65536)).eraseDups
def knownFns (s : State) : List Nat := (queueFns s ++ s.ce.fns.map (fun p => p.1)).eraseDups

/-- New settings, refilled buckets and gained weights of some functions. -/
def settingsTaken (l : List Nat) (s : State) : State := forEach l (fun fn t => modFn fn (roundFn t fn) t) s

/-- What the round's turns start from. -/
def roundBegun (s : State) : State :=
  onCe (fun e => { e with
    paused := e.paused.filter (fun k => if k = 0 then ioFree s == 0 else admFree s == 0) })
    (settingsTaken (knownFns s) s)

theorem exec_arbitrationRound (s : State) : exec .arbitrationRound s = .next (if fetching (roundBegun s) then
      (fetchAll fetchTurn true (turnOrder (fetchAll fetchAdmin false (queueFns s) (roundLimit (roundBegun s)) (roundBegun s)).2.ce.turn (queueFns s))
        (fetchAll fetchAdmin false (queueFns s) (roundLimit (roundBegun s)) (roundBegun s)).1
        (fetchAll fetchAdmin false (queueFns s) (roundLimit (roundBegun s)) (roundBegun s)).2).2
    else roundBegun s) := rfl

/-- Taking settings changes the functions alone. -/
theorem settingsTaken_only (l : List Nat) (s : State) : ∃ fns, settingsTaken l s = onCe (fun e => { e with fns := fns }) s := by
  induction l generalizing s with
  | nil => exact ⟨s.ce.fns, rfl⟩
  | cons fn rest ih =>
    obtain ⟨fns, h⟩ := ih (modFn fn (roundFn s fn) s)
    exact ⟨fns, h⟩

/-- What a round's settings keep of a function, they keep of each. -/
theorem settingsTaken_keeps {β : Type} {p : Fn → β} (h : ∀ t fn f, p (roundFn t fn f) = p f) (l : List Nat) (g : Nat) (s : State) :
    p (fnOf (settingsTaken l s) g) = p (fnOf s g) := by
  refine forEach_keeps (fun t => p (fnOf t g)) _ (fun fn t => ?_) l s
  by_cases hg : g = fn
  · simp only [hg, fnOf_modFn_same, h]
  · simp only [fnOf_modFn_other hg]

/-- The share that was set is in force after its function took its settings, and stays. -/
theorem inForce_settingsTaken {l : List Nat} {g : Nat} {s : State} (h : g ∈ l ∨ (fnOf s g).inForce = (fnOf s g).share) :
    (fnOf (settingsTaken l s) g).inForce = (fnOf s g).share := by
  induction l generalizing s with
  | nil => exact h.resolve_left (by simp)
  | cons fn rest ih =>
    have hstep : (fnOf (modFn fn (roundFn s fn) s) g).share = (fnOf s g).share :=
      settingsTaken_keeps (fun _ _ _ => rfl) [fn] g s
    refine (ih (s := modFn fn (roundFn s fn) s) ?_).trans hstep
    by_cases hg : g = fn
    · right
      rw [hg, fnOf_modFn_same]
      rfl
    · rw [fnOf_modFn_other hg]
      exact h.imp_left fun hm => (List.mem_cons.1 hm).resolve_left hg

/-- After any round, the share that was set of a function that the command engine lists is in force. -/
theorem share_in_force {s : State} {fn : Nat} {f : Fn} (hf : tfind s.ce.fns fn = some f) :
    ∃ t, exec .arbitrationRound s = .next t ∧ (fnOf t fn).inForce = f.share ∧
      t = { s with ce := t.ce, rf := t.rf, att := { s.att with evrec := t.att.evrec }, free := t.free } := by
  have hknown : fn ∈ knownFns s := by
    rw [knownFns, List.mem_eraseDups]
    exact List.mem_append_right _ (List.mem_map.2 ⟨(fn, f), mem_of_tfind hf, rfl⟩)
  have hshare : (fnOf s fn).share = f.share := by simp [fnOf, tget, hf]
  have hbegun : (fnOf (roundBegun s) fn).inForce = f.share := (inForce_settingsTaken (.inl hknown)).trans hshare
  have hoff : offRound (roundBegun s) = offRound s := by
    obtain ⟨fns, h⟩ := settingsTaken_only (knownFns s) s
    simp only [roundBegun, h]
    rfl
  refine ⟨_, exec_arbitrationRound s, ?_⟩
  split
  · obtain ⟨hforce, hrest⟩ := fetches_trans (fetches_fetchAll fetches_fetchAdmin false (queueFns s) (roundLimit (roundBegun s)) (roundBegun s))
      (fetches_fetchAll fetches_fetchTurn true _ _ _)
    exact ⟨(hforce fn).trans hbegun, eq_of_offRound (hrest.trans hoff)⟩
  · exact ⟨hbegun, eq_of_offRound hoff⟩

/-! ### One entry of an admin queue fetched (03_queues.md R76, R77) -/

/-- A round's beginning keeps the queues, the contexts and what fetching depends on. -/
theorem roundBegun_keeps (s : State) : (roundBegun s).ce.sqs = s.ce.sqs ∧ (roundBegun s).ce.ctxs = s.ce.ctxs ∧
    fetching (roundBegun s) = fetching s ∧ roundLimit (roundBegun s) = roundLimit s ∧ ∀ q, fetchable (roundBegun s) q = fetchable s q := by
  obtain ⟨fns, h⟩ := settingsTaken_only (knownFns s) s
  simp only [roundBegun, h]
  exact ⟨rfl, rfl, rfl, rfl, fun _ => rfl⟩

theorem fnLive_roundBegun (s : State) (g : Nat) : fnLive (fnOf (roundBegun s) g) = fnLive (fnOf s g) :=
  settingsTaken_keeps (p := fnLive) (fun _ _ _ => rfl) (knownFns s) g s

theorem gen_roundBegun (s : State) (g : Nat) : (fnOf (roundBegun s) g).gen = (fnOf s g).gen :=
  settingsTaken_keeps (p := Fn.gen) (fun _ _ _ => rfl) (knownFns s) g s

/-- A pass over one function is that function's pass. -/
theorem fetchAll_single (pass : Nat → Nat → State → Nat × State) (fn n : Nat) (s : State) :
    fetchAll pass false [fn] (n + 1) s = pass (n + 1) fn s := by
  simp only [fetchAll]
  split
  · next h => exact h.symm
  · next h => exact h.symm

/-- No I/O entry is fetched of a function with no I/O queue. -/
theorem fetchAll_of_no_io {fn : Nat} {s : State} (h : ioReady s fn = []) (n : Nat) : fetchAll fetchTurn true [fn] n s = (n, s) := by
  cases n with
  | zero => simp [fetchAll, h]
  | succ n => simp [fetchAll, fetchTurn, nextQueue, h]

theorem turnOrder_single (turn fn : Nat) : turnOrder turn [fn] = [fn] := by
  by_cases h : turn ≤ fn
  · simp [turnOrder, h]
  · simp [turnOrder, h, not_le.1 h]

section
variable {s : State} {fn : Nat} {e : Entry} {q : Sq}

/-- The entry of a function's admin queue, its only one, in a context of that class. -/
theorem fetchOne_of_only (hsqs : s.ce.sqs = [(qKey fn 0, q)]) (hent : q.entries = [e]) (hctxs : s.ce.ctxs = []) :
    ∃ c, c < ioCtx ∧ (fetchOne fn 0 s).ce.ctxs = [(c, { fn := fn, sqid := 0, fgen := (fnOf s fn).gen, epoch := q.epoch, e := e })] ∧
      (fetchOne fn 0 s).ce.sqs = [(qKey fn 0, { q with entries := [], head := (q.head + 1) % q.size, live := q.live ++ [c] })] := by
  have hq : sqOf s fn 0 = some q := by simp [sqOf, hsqs, tfind]
  have hfree : pickFree s.ce.ctxs 0 ioCtx (freeVal s) = some (freeVal s % ioCtx) := by simp [pickFree, hctxs, ioCtx]
  refine ⟨freeVal s % ioCtx, Nat.mod_lt _ (by decide), ?_, ?_⟩
  · simp only [fetchOne, hq, hent, if_true, hfree]
    simp [hctxs, modSq, tset, tdel, tins]
  · simp only [fetchOne, hq, hent, if_true, hfree]
    simp [hsqs, modSq, talter, tfind, tset, tdel, tins]

/-- A queue of which nothing is left to fetch ends a function's admin pass. -/
theorem fetchAdmin_of_empty (hq : sqOf s fn 0 = some q) (hent : q.entries = []) (n : Nat) : fetchAdmin n fn s = (n, s) := by
  cases n with
  | zero => rfl
  | succ n => simp [fetchAdmin, hq, fetchable, hent]

/-- The round of a function that has one admin entry and nothing else. -/
theorem exec_arbitrationRound_of_only (hsqs : s.ce.sqs = [(qKey fn 0, q)]) (hent : q.entries = [e]) (hon : fetching s = true)
    (hq : fetchable s q = true) (hlive : fnLive (fnOf s fn) = true) (hctxs : s.ce.ctxs = []) (hlim : 0 < roundLimit s) :
    exec .arbitrationRound s = .next (fetchOne fn 0 (roundBegun s)) := by
  obtain ⟨hsqs', hctxs', hon', hlim', hq'⟩ := roundBegun_keeps s
  rw [hsqs] at hsqs'
  rw [hctxs] at hctxs'
  obtain ⟨c, -, -, hleft⟩ := fetchOne_of_only hsqs' hent hctxs'
  have hfns : queueFns s = [fn] := by simp [queueFns, hsqs, qKey, List.eraseDups_cons]
  obtain ⟨n, hn⟩ : ∃ n, roundLimit (roundBegun s) = n + 1 := ⟨roundLimit s - 1, by omega⟩
  have hadm : fetchAll fetchAdmin false (queueFns s) (roundLimit (roundBegun s)) (roundBegun s) = (n, fetchOne fn 0 (roundBegun s)) := by
    have hsq : sqOf (roundBegun s) fn 0 = some q := by simp [sqOf, hsqs', tfind]
    have hroom : admFree (roundBegun s) ≠ 0 := by simp [admFree, hctxs', ioCtx]
    rw [hfns, hn, fetchAll_single, fetchAdmin, hsq]
    simp only [hq', hq, fnLive_roundBegun, hlive, hroom, Bool.and_self, Bool.not_true, Bool.false_eq_true, if_false]
    exact fetchAdmin_of_empty (q := { q with entries := [], head := (q.head + 1) % q.size, live := q.live ++ [c] })
      (by simp [sqOf, hleft, tfind]) rfl n
  have hio : ioReady (fetchOne fn 0 (roundBegun s)) fn = [] := by simp [ioReady, hleft, qKey]
  rw [exec_arbitrationRound, hadm, hon', hon, if_pos rfl, hfns, turnOrder_single, fetchAll_of_no_io hio]

end

/-- Settles O7: taking the settings brings each share into force and the fetches leave it; one entry alone is fetched by the admin pass. -/
theorem roundBringsSettingsIntoForce : Obligations.RoundBringsSettingsIntoForce := by
  unfold Obligations.RoundBringsSettingsIntoForce
  refine ⟨fun s fn f hf => share_in_force hf, ?_⟩
  intro s fn e q hsqs hent hon hq hlive hctxs hlim
  obtain ⟨hsqs', hctxs', -⟩ := roundBegun_keeps s
  rw [hsqs] at hsqs'
  rw [hctxs] at hctxs'
  obtain ⟨c, hc, hctx, hleft⟩ := fetchOne_of_only hsqs' hent hctxs'
  rw [gen_roundBegun] at hctx
  exact ⟨_, c, exec_arbitrationRound_of_only hsqs hent hon hq hlive hctxs hlim, hc, by simp [ctxOf, hctx, tfind], by simp [sqOf, hleft, tfind]⟩

end Sys2Proof.Machine

/-! PROOFS. Rules of the work that ends when a function is taken away: what of it reaches the functions, the queues and the contexts of the command
engine (04_tenants.md R134 to R136). -/

namespace Sys2Proof.Machine

/-! ### Nothing added to the command engine -/

/-- A function without the two fields that a frozen queue and an asynchronous event change (03_queues.md R82, R98). -/
def fnCore (f : Fn) : Fn := { f with freezeMasked := false, asyncEvents := [] }

/-- From one state to another no context and no submission queue appears, no function changes but in its freeze mask and its events, and the ports
stay. -/
structure AddsNothing (s t : State) : Prop where
  fns : ∀ g, fnCore (fnOf t g) = fnCore (fnOf s g)
  ctxs : ∀ c, ctxOf s c = none → ctxOf t c = none
  sqs : ∀ fn q, sqOf s fn q = none → sqOf t fn q = none
  ports : t.ce.ports = s.ce.ports

theorem AddsNothing.refl (s : State) : AddsNothing s s := ⟨fun _ => rfl, fun _ h => h, fun _ _ h => h, rfl⟩

theorem AddsNothing.trans {s t u : State} (h : AddsNothing s t) (k : AddsNothing t u) : AddsNothing s u :=
  ⟨fun g => (k.fns g).trans (h.fns g), fun c hc => k.ctxs c (h.ctxs c hc), fun fn q hq => k.sqs fn q (h.sqs fn q hq), k.ports.trans h.ports⟩

theorem addsNothing_of_ce {s t : State} (h : t.ce = s.ce) : AddsNothing s t :=
  ⟨fun g => by rw [fnOf_of_ce h], fun c hc => by rw [ctxOf_of_ce h, hc], fun fn q hq => by rw [sqOf_of_ce h, hq], by rw [h]⟩

theorem addsNothing_of_hostSide {s t : State} (h : hostSide t = hostSide s) : AddsNothing s t := addsNothing_of_ce (ce_of_hostSide h)

theorem addsNothing_forEach {α : Type} {f : α → State → State} (h : ∀ a t, AddsNothing t (f a t)) (l : List α) (s : State) :
    AddsNothing s (forEach l f s) :=
  forEach_inv (P := AddsNothing s) (fun a t ht => ht.trans (h a t)) l s (.refl s)

theorem addsNothing_onlyIf {f : State → State} (h : ∀ t, AddsNothing t (f t)) (b : Bool) (s : State) : AddsNothing s (onlyIf b f s) := by
  cases b
  · exact .refl s
  · exact h s

/-! ### Changes of the command engine's tables -/

theorem addsNothing_modCtx (c : Nat) (f : Ctx → Ctx) (s : State) : AddsNothing s (modCtx c f s) := by
  refine ⟨fun _ => rfl, fun d hd => ?_, fun _ _ h => h, rfl⟩
  by_cases h : d = c
  · rw [h] at hd ⊢
    rw [ctxOf_modCtx_same, hd, Option.map_none]
  · rw [ctxOf_modCtx_other h, hd]

theorem addsNothing_modSq (fn q : Nat) (f : Sq → Sq) (s : State) : AddsNothing s (modSq fn q f s) := by
  refine ⟨fun _ => rfl, fun _ h => h, fun fn' q' hq => ?_, rfl⟩
  by_cases h : qKey fn' q' = qKey fn q
  · rw [sqOf] at hq ⊢
    rw [h] at hq ⊢
    rw [modSq, onCe_ce, tfind_talter_same, hq, Option.map_none]
  · rw [sqOf_modSq_other h, hq]

/-- A function changed in its freeze mask or its events. -/
theorem addsNothing_modFn {f : Fn → Fn} (h : ∀ y, fnCore (f y) = fnCore y) (fn : Nat) (s : State) : AddsNothing s (modFn fn f s) := by
  refine ⟨fun g => ?_, fun _ h => h, fun _ _ h => h, rfl⟩
  by_cases hg : g = fn
  · rw [hg, fnOf_modFn_same, h]
  · rw [fnOf_modFn_other hg]

/-- Contexts that leave the table. -/
theorem addsNothing_delCtx (c : Nat) (s : State) : AddsNothing s (onCe (fun e => { e with ctxs := tdel c e.ctxs }) s) := by
  refine ⟨fun _ => rfl, fun d hd => ?_, fun _ _ h => h, rfl⟩
  by_cases h : d = c
  · rw [h]
    exact tfind_tdel_same c _
  · exact (tfind_tdel_other h _).trans hd

theorem addsNothing_freeCtx (c : Nat) (s : State) : AddsNothing s (freeCtx c s) := by
  unfold freeCtx
  split
  · exact .refl s
  · exact (addsNothing_delCtx c s).trans (addsNothing_modSq _ _ _ _)

/-! ### A command's end (03_queues.md R78, R97, R98) -/

theorem addsNothing_raise (src sev : Nat) (ps : List Nat) (s : State) : AddsNothing s (raise src sev ps s) :=
  addsNothing_of_ce (raise_ce src sev ps s)

theorem addsNothing_sendAsync (fn : Nat) (ev : Nat × Nat × Nat) (s : State) : AddsNothing s (sendAsync fn ev s) := by
  unfold sendAsync
  split
  · exact addsNothing_modCtx _ _ s
  · refine addsNothing_modFn ?_ fn s
    exact fun _ => rfl

/-- A queue newly frozen tells its function's host of it, once. -/
theorem addsNothing_freezeMask (fn : Nat) (s : State) :
    AddsNothing s (sendAsync fn (7, 0xC0, 0xC0) (modFn fn (fun f => { f with freezeMasked := true }) s)) := by
  refine (addsNothing_modFn ?_ fn s).trans (addsNothing_sendAsync _ _ _)
  exact fun _ => rfl

theorem addsNothing_freezeQueue (c : Nat) (s : State) : AddsNothing s (freezeQueue c s) := by
  have hfrozen (fn q : Nat) (f : Sq → Sq) (b : Bool) (ps : List Nat) :
      AddsNothing s (raise 97 sevWarning ps (wrb R.ceFrozen 31 b (modSq fn q f s))) :=
    ((addsNothing_modSq fn q f s).trans (addsNothing_of_ce (wrb_ce _ _ _ _))).trans (addsNothing_raise _ _ _ _)
  unfold freezeQueue
  split
  · exact .refl s
  split
  · exact .refl s
  split
  · exact .refl s
  dsimp only
  split
  · exact .refl s
  split
  · split
    · exact hfrozen _ _ _ _ _
    · exact (hfrozen _ _ _ _ _).trans (addsNothing_freezeMask _ _)
  · split
    · exact (addsNothing_modSq _ _ _ s).trans (addsNothing_raise _ _ _ _)
    · exact .refl s

theorem addsNothing_tunnelReply (x : Ctx) (s : State) : AddsNothing s (tunnelReply x s) := by
  refine addsNothing_of_ce ?_
  unfold tunnelReply miRespond
  split <;> rfl

theorem addsNothing_complete (c : Nat) (st : Status) (dw0 dw1 : Nat) (s : State) : AddsNothing s (complete c st dw0 dw1 s) := by
  unfold complete
  split
  · exact .refl s
  split_ifs
  · exact (addsNothing_tunnelReply _ s).trans (addsNothing_delCtx c _)
  · exact addsNothing_freeCtx c s
  · exact .refl s
  · exact (addsNothing_modCtx c _ s).trans (addsNothing_freezeQueue c _)

theorem addsNothing_succeed (c : Nat) (s : State) : AddsNothing s (succeed c s) := addsNothing_complete c stOk 0 0 s

theorem addsNothing_failAt (c : Nat) (st : Status) (cause : Nat) (zone lba : Option Nat) (s : State) :
    AddsNothing s (failAt c st cause zone lba s) :=
  (addsNothing_modCtx c _ s).trans (addsNothing_complete c st 0 0 _)

theorem addsNothing_mbPump (cluster : Nat) (s : State) : AddsNothing s (mbPump cluster s) := by
  unfold mbPump
  split
  · exact .refl s
  split
  · exact ⟨fun g => by simp [fnOf], fun c hc => by simpa [ctxOf] using hc, fun fn q hq => by simpa [sqOf] using hq, by simp⟩
  split
  · exact .refl s
  · exact (addsNothing_of_ce (mbPut_ce _ _ _ s)).trans (addsNothing_modCtx _ _ _)

theorem addsNothing_toFirmware (c : Nat) (s : State) : AddsNothing s (toFirmware c s) := by
  unfold toFirmware
  split
  · exact .refl s
  · exact (addsNothing_modCtx c _ s).trans (addsNothing_mbPump _ _)

/-! ### Commands that wait for flash or for the partner (02_zones.md R64, R86, R88) -/

theorem addsNothing_settleWrite (c : Nat) (s : State) : AddsNothing s (settleWrite c s) := by
  unfold settleWrite
  split
  · exact .refl s
  split
  · exact .refl s
  dsimp only
  split
  · exact addsNothing_modCtx c _ s
  · exact (addsNothing_modCtx c _ s).trans (addsNothing_complete c stOk _ _ _)

theorem addsNothing_settleZone (c : Nat) (s : State) : AddsNothing s (settleZone c s) := by
  unfold settleZone
  split
  · exact .refl s
  split
  · exact addsNothing_succeed c s
  · exact .refl s

theorem addsNothing_settleFlush (c : Nat) (s : State) : AddsNothing s (settleFlush c s) := by
  obtain h | ⟨left, h | h⟩ := settleFlush_cases c s <;> rw [h]
  · exact .refl s
  · exact addsNothing_modCtx c _ s
  · exact (addsNothing_modCtx c _ s).trans (addsNothing_succeed c _)

theorem addsNothing_settleAll (s : State) : AddsNothing s (settleAll s) :=
  (addsNothing_forEach (fun c t => (addsNothing_settleWrite c t).trans (addsNothing_settleZone c _)) _ s).trans
    (addsNothing_forEach addsNothing_settleFlush _ _)

theorem addsNothing_discardMarks (key : Nat) (s : State) : AddsNothing s (discardMarks key s) :=
  ⟨fun _ => rfl, fun c hc => by rw [ctxOf_discardMarks, hc, Option.map_none], fun fn q hq => by rw [sqOf_discardMarks, hq, Option.map_none], rfl⟩

theorem addsNothing_discardZone (key : Nat) (s : State) : AddsNothing s (discardZone key s) := by
  rw [discardZone_eq]
  exact ((addsNothing_discardMarks key s).trans (addsNothing_of_hostSide (by simp))).trans (addsNothing_settleAll _)

/-! ### Detaches and deletes that go on (04_tenants.md R125) -/

theorem addsNothing_deleteNs (nsid : Nat) (s : State) : AddsNothing s (deleteNs nsid s) :=
  (addsNothing_forEach addsNothing_discardZone _ s).trans (addsNothing_of_ce rfl)

theorem addsNothing_settleDetach (s : State) : AddsNothing s (settleDetach s) := by
  refine addsNothing_forEach (fun d t => ?_) _ s
  split
  · exact .refl t
  · exact (addsNothing_forEach addsNothing_deleteNs _ t).trans (addsNothing_succeed _ _)

/-! ### Changes of zones and bands (02_zones.md R62 to R65) -/

@[simp] theorem hostSide_forceOutAll (key : Nat) (s : State) : hostSide (forceOutAll key s) = hostSide s :=
  forEach_keeps hostSide _ (hostSide_forceOut key) _ s

@[simp] theorem hostSide_forceOpen (key : Nat) (why : Force) (s : State) : hostSide (forceOpen key why s) = hostSide s :=
  hostSide_forceTo key zoneLbas why s

@[simp] theorem hostSide_makeFull (key : Nat) (s : State) : hostSide (makeFull key s) = hostSide s := by simp [makeFull]

@[simp] theorem hostSide_closeZone (key : Nat) (s : State) : hostSide (closeZone key s) = hostSide s := by
  simp only [closeZone]
  split <;> simp

@[simp] theorem hostSide_zoneFilled (key : Nat) (s : State) : hostSide (zoneFilled key s) = hostSide s := by
  unfold zoneFilled
  exact onlyIf_keeps hostSide _ _ s (fun t => by rw [hostSide_forceOpen, hostSide_makeFull])

@[simp] theorem hostSide_drainStopped (key : Nat) (s : State) : hostSide (drainStopped key s) = hostSide s := by
  simp only [drainStopped]
  split
  · split <;> simp [finishedByController, makeReadOnly]
  · rfl

/-- An episode of pressure as it stands after it may have begun, and one step of the episode in progress (10_granary.md R291). -/
def pressBegun (s : State) : State :=
  if !s.gr.pressing && (decide (pressHigh s * s.gr.size ≤ segCount s * 100) || !s.gr.waiters.isEmpty) then
    onlyIf (decide (pressHigh s * s.gr.size ≤ segCount s * 100)) (raise 352 sevInfo []) (onGr (fun g => { g with pressing := true, pressCount := 0 }) s)
  else s
def pressStep (occ : Nat) (s : State) : State :=
  if !s.gr.pressing then s
  else if occ ≤ pressLow s * s.gr.size && s.gr.waiters.isEmpty then
    onGr (fun g => { g with pressing := false, pressCount := 0 }) (raise 353 sevWarning [s.gr.pressCount] s)
  else match pressZone s with
    | some key => onGr (fun g => { g with pressCount := g.pressCount + 1 }) (forceOpen key .press s)
    | none => s

theorem pressure_eq (s : State) : pressure s = if s.gr.size = 0 then s else pressStep (segCount s * 100) (pressBegun s) := rfl

theorem hostSide_pressBegun (s : State) : hostSide (pressBegun s) = hostSide s := by
  unfold pressBegun
  split
  · exact (onlyIf_keeps hostSide _ _ _ (hostSide_raise 352 sevInfo [])).trans (hostSide_onGr (fun _ => rfl) s)
  · rfl

theorem hostSide_pressStep (occ : Nat) (s : State) : hostSide (pressStep occ s) = hostSide s := by
  unfold pressStep
  split_ifs
  · rfl
  · exact (hostSide_onGr (fun _ => rfl) _).trans (hostSide_raise _ _ _ s)
  · split
    · exact (hostSide_onGr (fun _ => rfl) _).trans (hostSide_forceOpen _ _ s)
    · rfl

@[simp] theorem hostSide_pressure (s : State) : hostSide (pressure s) = hostSide s := by
  rw [pressure_eq]
  split
  · rfl
  · rw [hostSide_pressStep, hostSide_pressBegun]

@[simp] theorem hostSide_bindBand (key b : Nat) (s : State) : hostSide (bindBand key b s) = hostSide s :=
  (congrArg hostSide (offBands_bindBand key b s) :)

theorem addsNothing_zoneDone (c : Nat) (s : State) : AddsNothing s (zoneDone c s) := by
  unfold zoneDone
  split
  · exact ((addsNothing_modCtx c _ s).trans (addsNothing_settleZone c _)).trans (addsNothing_of_hostSide (hostSide_pressure _))
  · exact (addsNothing_succeed c s).trans (addsNothing_of_hostSide (hostSide_pressure _))

theorem addsNothing_noteDelta (key : Nat) (s : State) : AddsNothing s (noteDelta key s) := addsNothing_of_hostSide (hostSide_noteDelta key s)

theorem addsNothing_modZone (key : Nat) (f : Zone → Zone) (s : State) : AddsNothing s (modZone key f s) := addsNothing_of_ce rfl

theorem addsNothing_bindBand (key b : Nat) (s : State) : AddsNothing s (bindBand key b s) := addsNothing_of_hostSide (hostSide_bindBand key b s)

/-- A zone changed, and its delta noted. -/
theorem addsNothing_zoneNoted (key : Nat) (f : Zone → Zone) (s : State) : AddsNothing s (noteDelta key (modZone key f s)) :=
  (addsNothing_modZone key f s).trans (addsNothing_noteDelta key _)

/-! ### Attempts to act on a zone (02_zones.md R49, R56, R58, R62) -/

/-- The state that an attempt leaves, whether it succeeds, fails or waits. -/
def ZRes.left : ZRes → State
  | .ok s => s
  | .fail _ _ s => s
  | .wait s => s

theorem addsNothing_ok {s t : State} (h : AddsNothing s t) : AddsNothing s (ZRes.ok t).left := h

theorem addsNothing_waitAt (key c : Nat) (s : State) : AddsNothing s (waitAt key c s).left := addsNothing_of_ce rfl

section
variable {s : State} {k : State → ZRes} (hk : ∀ t, AddsNothing s t → AddsNothing s (k t).left)
include hk

theorem addsNothing_leaveGrants (c fn key : Nat) : AddsNothing s (leaveGrants c fn key s k).left := by
  have hs : AddsNothing s (k s).left := hk s (.refl s)
  have hkept (v : Nat × (Nat × Nat)) : AddsNothing s (match k s with
      | .wait t => ZRes.wait (modCtx c (fun x => { x with passed := some v }) t)
      | r => r).left := by
    generalize k s = r at hs
    cases r with
    | ok t => exact hs
    | fail st cause t => exact hs
    | wait t => exact hs.trans (addsNothing_modCtx c _ t)
  unfold leaveGrants
  dsimp only
  split_ifs
  · exact hs
  · exact hkept _
  · exact addsNothing_raise _ _ _ s
  · exact addsNothing_raise _ _ _ s
  · exact hkept _

theorem addsNothing_withResources (c key : Nat) (needOpen : Bool) : AddsNothing s (withResources c key needOpen s k).left := by
  unfold withResources
  dsimp only
  split
  · exact .refl s
  split
  · split
    · exact .refl s
    · next v _ =>
      split
      · exact hk _ (addsNothing_of_hostSide (hostSide_closeZone v s))
      · exact addsNothing_waitAt v c s
  · exact hk s (.refl s)

end

/-- A transition that finds no band to bind fails, or waits for firmware. -/
theorem addsNothing_bandless {s t : State} (ht : AddsNothing s t) (c d : Nat) (ps : List Nat) (b : Bool) :
    AddsNothing s (if domFree t d = 0 then ZRes.fail stDomainFull 0 (raise 418 sevWarning ps t)
      else .wait (onlyIf b (toFirmware c) (onZe (fun z => { z with
        bandWait := if z.bandWait.contains c then z.bandWait else z.bandWait ++ [c] }) t))).left := by
  split
  · exact ht.trans (addsNothing_raise _ _ _ t)
  · refine AddsNothing.trans ?_ (addsNothing_onlyIf (addsNothing_toFirmware c) b _)
    exact ht.trans (addsNothing_of_ce rfl)

theorem addsNothing_withBand {s : State} {k : Nat → State → ZRes} (hk : ∀ b t, AddsNothing s t → AddsNothing s (k b t).left)
    (c fn key : Nat) (fw implicit : Bool) : AddsNothing s (withBand c fn key fw implicit s k).left := by
  unfold withBand
  dsimp only
  split
  · exact hk _ s (.refl s)
  split
  · exact addsNothing_bandless (addsNothing_of_ce (by rw [raise_ce, wrb_ce])) c _ _ _
  · exact addsNothing_bandless (.refl s) c _ _ _

/-! ### Writes tried (02_zones.md R59) -/

theorem hostSide_of_reserve {k n ctr : Nat} {s t : State} (h : reserve k n s = some (ctr, t)) : hostSide t = hostSide s := by
  unfold reserve at h
  dsimp only at h
  split at h
  · cases h
  · obtain ⟨-, rfl⟩ := Prod.mk.inj (Option.some.inj h)
    exact hostSide_of_offCipher ((offCipher_markSlot k _).trans (offCipher_modSlot k _ s))

theorem addsNothing_validateIn {s t : State} (ht : AddsNothing s t) (c key : Nat) (append : Bool) (first nlb ticket : Nat) (band : Option Nat) :
    AddsNothing s (validateIn c key append first nlb ticket band t).left := by
  unfold validateIn
  dsimp only
  generalize (if append = true then (zoneOf t key).vp else first) = start
  split
  · exact ht
  split
  · exact ht
  split
  · exact ht
  split
  · exact ht
  · next ctr r hr =>
    have hreserved : AddsNothing s r := ht.trans (addsNothing_of_hostSide (hostSide_of_reserve hr))
    refine AddsNothing.trans ?_ (addsNothing_of_hostSide (hostSide_noteDelta key _))
    refine AddsNothing.trans ?_ (addsNothing_onlyIf (addsNothing_raise 267 sevWarning _) _ _)
    refine AddsNothing.trans ?_ (addsNothing_modCtx c _ _)
    cases band with
    | none => exact hreserved.trans (addsNothing_of_ce rfl)
    | some b => exact (hreserved.trans (addsNothing_bindBand key b r)).trans (addsNothing_of_ce rfl)

theorem addsNothing_validate (c fn key : Nat) (append : Bool) (first nlb ticket : Nat) (fw : Bool) (s : State) :
    AddsNothing s (validate c fn key append first nlb ticket fw s).left := by
  unfold validate
  dsimp only
  split
  · exact addsNothing_waitAt key c s
  split
  · exact .refl s
  · exact .refl s
  · exact .refl s
  split
  · exact .refl s
  refine addsNothing_leaveGrants (fun t ht => ?_) c fn key
  split
  · exact addsNothing_validateIn ht _ _ _ _ _ _ _
  have hplaced : AddsNothing t (withResources c key true t (fun u =>
      if (zoneOf s key).st == .empty then withBand c fn key fw true u (fun b v => validateIn c key append first nlb ticket (some b) v)
      else validateIn c key append first nlb ticket none u)).left := by
    refine addsNothing_withResources (fun u hu => ?_) c key true
    split
    · exact hu.trans (addsNothing_withBand (fun b v hv => addsNothing_validateIn hv _ _ _ _ _ _ _) _ _ _ _ _)
    · exact addsNothing_validateIn hu _ _ _ _ _ _ _
  exact ht.trans hplaced

theorem addsNothing_dropKeys (c : Nat) (s : State) : AddsNothing s (dropKeys c s) := by
  unfold dropKeys
  split
  · exact .refl s
  · exact (addsNothing_modCtx c _ s).trans (addsNothing_of_hostSide (forEach_keeps hostSide _ hostSide_settleSlot _ _))

theorem addsNothing_tryWrite (c : Nat) (fw : Bool) (s : State) : AddsNothing s (tryWrite c fw s) := by
  unfold tryWrite
  split
  · exact .refl s
  split
  · exact .refl s
  split
  · exact addsNothing_failAt _ _ _ _ _ s
  split
  · split_ifs
    · exact addsNothing_modCtx c _ s
    · exact addsNothing_failAt _ _ _ _ _ s
    · exact addsNothing_complete _ _ _ _ s
  · next x _ _ _ key _ _ _ =>
    have hleft := addsNothing_validate c x.fn key (x.e.opc == 0x7D) (eSlba x.e % zoneLbas) (writeNlb x.e) (ticketOf s x) fw s
    split
    · next heq =>
      rw [heq] at hleft
      exact hleft.trans (addsNothing_modCtx c _ _)
    · next heq =>
      rw [heq] at hleft
      exact (hleft.trans (addsNothing_dropKeys c _)).trans (addsNothing_failAt _ _ _ _ _ _)
    · next heq =>
      rw [heq] at hleft
      exact hleft.trans (addsNothing_modCtx c _ _)

/-! ### Zone Management Send tried (02_zones.md R62, R64, R535) -/

theorem addsNothing_actOpen (c fn key : Nat) (fw : Bool) (s : State) : AddsNothing s (actOpen c fn key fw s).left := by
  unfold actOpen
  dsimp only
  split
  · refine addsNothing_leaveGrants (fun t ht => ht.trans ?_) c fn key
    refine addsNothing_withResources (fun u hu => hu.trans ?_) c key true
    refine addsNothing_withBand (fun b v hv => ?_) _ _ _ _ _
    exact addsNothing_ok ((hv.trans (addsNothing_bindBand key b v)).trans (addsNothing_zoneNoted key _ _))
  · exact addsNothing_ok (addsNothing_zoneNoted key _ s)
  · exact addsNothing_withResources (fun t ht => addsNothing_ok (ht.trans (addsNothing_zoneNoted key _ t))) c key true
  · exact .refl s

theorem addsNothing_actExt (c fn key : Nat) (ext : List Byte) (fw : Bool) (s : State) : AddsNothing s (actExt c fn key ext fw s).left := by
  unfold actExt
  split
  · refine addsNothing_leaveGrants (fun t ht => ht.trans ?_) c fn key
    refine addsNothing_withResources (fun u hu => hu.trans ?_) c key false
    refine addsNothing_withBand (fun b v hv => ?_) _ _ _ _ _
    exact addsNothing_ok ((hv.trans (addsNothing_bindBand key b v)).trans (addsNothing_zoneNoted key _ _))
  · exact .refl s

theorem addsNothing_actClose (key : Nat) (s : State) : AddsNothing s (actClose key s).left := by
  have hclosed : AddsNothing s (ZRes.ok (closeZone key s)).left := addsNothing_ok (addsNothing_of_hostSide (hostSide_closeZone key s))
  unfold actClose
  split
  · exact hclosed
  · exact hclosed
  · exact .refl s
  · exact .refl s

theorem addsNothing_actFinish (key : Nat) (s : State) : AddsNothing s (actFinish key s).left := by
  have hforced : AddsNothing s (forceOpen key .finish (makeFull key s)) := addsNothing_of_hostSide (by simp)
  have hfull : AddsNothing s (ZRes.ok (noteDelta key (forceOpen key .finish (makeFull key s)))).left :=
    addsNothing_ok (hforced.trans (addsNothing_noteDelta key _))
  unfold actFinish
  split
  · exact addsNothing_ok (addsNothing_zoneNoted key _ s)
  · exact hfull
  · exact hfull
  · exact hfull
  · exact .refl s
  · exact .refl s

theorem addsNothing_resetZone (key : Nat) (s : State) : AddsNothing s (resetZone key s) :=
  (addsNothing_discardZone key s).trans (addsNothing_zoneNoted key _ _)

theorem addsNothing_actReset (key : Nat) (s : State) : AddsNothing s (actReset key s).left := by
  have hreset : AddsNothing s (ZRes.ok (resetZone key s)).left := addsNothing_ok (addsNothing_resetZone key s)
  unfold actReset
  split
  · exact hreset
  · exact hreset
  · exact hreset
  · exact hreset
  · exact hreset
  · exact .refl s

theorem addsNothing_actOffline (key : Nat) (s : State) : AddsNothing s (actOffline key s).left := by
  unfold actOffline
  split
  · exact addsNothing_ok ((addsNothing_discardZone key s).trans (addsNothing_zoneNoted key _ _))
  · exact .refl s

theorem addsNothing_zoneAct (c fn key act : Nat) (ext : List Byte) (fw : Bool) (s : State) : AddsNothing s (zoneAct c fn key act ext fw s).left := by
  unfold zoneAct
  split_ifs
  · exact addsNothing_waitAt key c s
  · exact addsNothing_actOpen c fn key fw s
  · exact addsNothing_actClose key s
  · exact addsNothing_actFinish key s
  · exact addsNothing_actReset key s
  · exact addsNothing_actOffline key s
  · exact addsNothing_actExt c fn key ext fw s
  · exact .refl s

theorem addsNothing_selectFrom (c fn act : Nat) (fw : Bool) (l : List Nat) (s : State) : AddsNothing s (selectFrom c fn act fw l s).left := by
  induction l generalizing s with
  | nil => exact .refl s
  | cons key rest ih =>
    unfold selectFrom
    split
    · exact ih s
    have hact := addsNothing_zoneAct c fn key act [] fw s
    split
    · next heq =>
      rw [heq] at hact
      exact (hact.trans (addsNothing_modCtx c _ _)).trans (ih _)
    · next heq =>
      rw [heq] at hact
      exact (hact.trans (addsNothing_modCtx c _ _)).trans (ih _)
    · next heq =>
      rw [heq] at hact
      exact hact

theorem addsNothing_endAct {s : State} {r : ZRes} (h : AddsNothing s r.left) (c key : Nat) : AddsNothing s (endAct c key r) := by
  unfold endAct
  split
  · split
    · split
      · exact h.trans (addsNothing_zoneDone c _)
      · exact h.trans (addsNothing_failAt _ _ _ _ _ _)
    · exact h
  · exact h.trans (addsNothing_failAt _ _ _ _ _ _)
  · exact h

theorem addsNothing_tryZms (c : Nat) (fw : Bool) (s : State) : AddsNothing s (tryZms c fw s) := by
  unfold tryZms
  split
  · exact .refl s
  split
  · exact .refl s
  split
  · exact addsNothing_endAct (addsNothing_selectFrom _ _ _ _ _ s) c 0
  split
  · exact addsNothing_failAt _ _ _ _ _ s
  split
  · exact addsNothing_failAt _ _ _ _ _ s
  · exact addsNothing_endAct (addsNothing_zoneAct _ _ _ _ _ _ s) c _

/-! ### Commands that waited (02_zones.md R64) -/

theorem addsNothing_tryCmd (c : Nat) (fw : Bool) (s : State) : AddsNothing s (tryCmd c fw s) := by
  unfold tryCmd
  split
  · exact .refl s
  split_ifs
  · exact addsNothing_tryZms c true s
  · exact addsNothing_tryWrite c fw s
  · exact .refl s

theorem addsNothing_runWaiting (key : Nat) (s : State) : AddsNothing s (runWaiting key s) := by
  unfold runWaiting
  dsimp only
  split
  · exact .refl s
  · exact (addsNothing_of_hostSide (hostSide_modZone key _ s)).trans (addsNothing_forEach (fun c t => addsNothing_tryCmd c false t) _ _)

theorem addsNothing_runHeld (s : State) : AddsNothing s (runHeld s) := addsNothing_forEach addsNothing_runWaiting _ s

/-! ### A context squashed (04_tenants.md R134, R135) -/

theorem addsNothing_leaveZone (c : Nat) (x : Ctx) (s : State) : AddsNothing s (leaveZone c x s) := by
  unfold leaveZone
  dsimp only
  split
  · exact addsNothing_dropKeys c s
  · refine AddsNothing.trans ?_ (addsNothing_dropKeys c _)
    exact addsNothing_of_ce rfl

theorem addsNothing_failBehind (key : Nat) (cs : List Nat) (s : State) : AddsNothing s (failBehind key cs s) := by
  unfold failBehind
  refine addsNothing_forEach (fun c t => ?_) cs s
  split
  · exact .refl t
  · exact (addsNothing_leaveZone c _ t).trans (addsNothing_failAt _ _ _ _ _ _)

theorem addsNothing_applyPacked (c : Nat) (s : State) : AddsNothing s (applyPacked c s) := by
  unfold applyPacked
  split
  · exact .refl s
  split
  · exact .refl s
  · refine AddsNothing.trans ?_ (addsNothing_of_hostSide (hostSide_zoneFilled _ _))
    exact (addsNothing_modCtx c _ s).trans (addsNothing_zoneNoted _ _ _)

/-- Descriptors taken back change the dies alone (07_flash_channels.md R203, R537). -/
@[simp] theorem hostSide_dropDescs (dk st : Nat) (p : Desc × Issuer → Bool) (s : State) : hostSide (dropDescs dk st p s) = hostSide s := by
  have hfcpl (e : Desc × Issuer) (t : State) : hostSide (fcpl (dk / 64) e.1 e.2 st t) = hostSide t :=
    onlyIf_keeps hostSide _ _ t (fun u => hostSide_onFl _ u)
  have hun (t : State) : hostSide (unchoose dk t) = hostSide t := by
    unfold unchoose
    dsimp only
    split <;> rfl
  unfold dropDescs
  dsimp only
  split
  · rfl
  · rw [pumpPosts, modDie, hostSide_onFl, forEach_keeps hostSide _ hfcpl, modDie, hostSide_onFl, onlyIf_keeps hostSide _ _ s hun]

@[simp] theorem hostSide_cancelTags (ts : List Nat) (s : State) : hostSide (cancelTags ts s) = hostSide s := by
  unfold cancelTags
  dsimp only
  split
  · rfl
  · rw [forEach_keeps hostSide _ (fun dk t => hostSide_dropDescs dk 5 _ t), hostSide_onFl]

@[simp] theorem hostSide_cancelCopy (c : Nat) (x : Ctx) (s : State) : hostSide (cancelCopy c x s) = hostSide s := by
  unfold cancelCopy
  split
  · exact hostSide_sendMsg _ _ _ _ _ s
  · rfl

theorem addsNothing_stopWork (c : Nat) (s : State) : AddsNothing s (stopWork c s) := by
  unfold stopWork
  split
  · exact .refl s
  · next x _ =>
    have hstopped : hostSide (cancelCopy c x (cancelTags (jobTags s c) (leaveZone c x s))) = hostSide (leaveZone c x s) := by simp
    exact ((addsNothing_leaveZone c x s).trans (addsNothing_of_hostSide hstopped)).trans (addsNothing_of_ce rfl)

/-- What a squash does before and after it frees its context. -/
theorem squashCtx_eq (c : Nat) (s : State) : ∃ key cs, squashCtx c s =
    runHeld (drainStopped key (failBehind key cs (freeCtx c (stopWork c (applyPacked c s))))) := ⟨_, _, rfl⟩

theorem addsNothing_afterFree (key : Nat) (cs : List Nat) (s : State) : AddsNothing s (runHeld (drainStopped key (failBehind key cs s))) :=
  ((addsNothing_failBehind key cs s).trans (addsNothing_of_hostSide (hostSide_drainStopped key _))).trans (addsNothing_runHeld _)

theorem addsNothing_squashCtx (c : Nat) (s : State) : AddsNothing s (squashCtx c s) := by
  obtain ⟨key, cs, h⟩ := squashCtx_eq c s
  rw [h]
  exact (((addsNothing_applyPacked c s).trans (addsNothing_stopWork c _)).trans (addsNothing_freeCtx c _)).trans (addsNothing_afterFree key cs _)

/-- A squashed context is FREE. -/
theorem ctxOf_squashCtx_same (c : Nat) (s : State) : ctxOf (squashCtx c s) c = none := by
  obtain ⟨key, cs, h⟩ := squashCtx_eq c s
  rw [h]
  exact (addsNothing_afterFree key cs _).ctxs c (ctxOf_freeCtx_same c _)

/-- Of contexts squashed one after the other, each is FREE. -/
theorem ctxOf_forEach_squashCtx {c : Nat} {l : List Nat} (h : c ∈ l) (s : State) : ctxOf (forEach l squashCtx s) c = none := by
  induction l generalizing s with
  | nil => cases h
  | cons d rest ih =>
    rw [forEach_cons]
    by_cases hd : c = d
    · subst hd
      exact (addsNothing_forEach addsNothing_squashCtx rest _).ctxs c (ctxOf_squashCtx_same c s)
    · exact ih ((List.mem_cons.1 h).resolve_left hd) _

end Sys2Proof.Machine

/-! PROOFS. The statements of functions taken away and given back (04_tenants.md R119, R120, R134, R135; 18_bring_up.md R502; 19_package.md R529). -/

namespace Sys2Proof.Machine

/-! ### A squash begun (04_tenants.md R134) -/

/-- The function's next generation begun, for a kind of squash. -/
def generationBegun (fn : Nat) (kind : SquashKind) (s : State) : State :=
  modFn fn (fun f => { f with gen := (f.gen + 1) % 256, squash := some kind }) s

/-- A function's generation has incremented, and its squash is under way. -/
def TakenAway (kind : SquashKind) (s t : State) (g : Nat) : Prop :=
  (fnOf t g).gen = ((fnOf s g).gen + 1) % 256 ∧ (fnOf t g).squash = some kind

theorem takenAway_generationBegun (fn : Nat) (kind : SquashKind) (s : State) : TakenAway kind s (generationBegun fn kind s) fn := by
  simp [TakenAway, generationBegun]

/-- What leaves a function alone but for its freeze mask and its events, before its squash or after it has begun, leaves it taken away. -/
theorem takenAway_of_core {kind : SquashKind} {s s' t t' : State} {g : Nat} (hs : fnCore (fnOf s' g) = fnCore (fnOf s g))
    (ht : fnCore (fnOf t' g) = fnCore (fnOf t g)) (h : TakenAway kind s' t g) : TakenAway kind s t' g := by
  have hgen : (fnOf s' g).gen = (fnOf s g).gen := (congrArg Fn.gen hs :)
  have hgen' : (fnOf t' g).gen = (fnOf t g).gen := (congrArg Fn.gen ht :)
  have hsq' : (fnOf t' g).squash = (fnOf t g).squash := (congrArg Fn.squash ht :)
  exact ⟨by rw [hgen', h.1, hgen], by rw [hsq', h.2]⟩

theorem squash_of_core {s t : State} {g : Nat} (h : fnCore (fnOf t g) = fnCore (fnOf s g)) : (fnOf t g).squash = (fnOf s g).squash :=
  (congrArg Fn.squash h :)

/-- From one state to another no context appears, and no function but those of a list changes, the freeze mask and the events apart. -/
structure Spares (l : List Nat) (s t : State) : Prop where
  fns : ∀ g, g ∉ l → fnCore (fnOf t g) = fnCore (fnOf s g)
  ctxs : ∀ c, ctxOf s c = none → ctxOf t c = none

theorem AddsNothing.spares {s t : State} (h : AddsNothing s t) (l : List Nat) : Spares l s t := ⟨fun g _ => h.fns g, h.ctxs⟩

theorem Spares.trans {l : List Nat} {s t u : State} (h : Spares l s t) (k : Spares l t u) : Spares l s u :=
  ⟨fun g hg => (k.fns g hg).trans (h.fns g hg), fun c hc => k.ctxs c (h.ctxs c hc)⟩

theorem Spares.mono {l m : List Nat} {s t : State} (h : Spares l s t) (hlm : ∀ g, g ∈ l → g ∈ m) : Spares m s t :=
  ⟨fun g hg => h.fns g (fun hl => hg (hlm g hl)), h.ctxs⟩

theorem spares_modFn (fn : Nat) (f : Fn → Fn) (s : State) : Spares [fn] s (modFn fn f s) :=
  ⟨fun g hg => by rw [fnOf_modFn_other (by simpa using hg)], fun _ h => h⟩

/-- The data that had arrived, noted of a write that a squash finds past its commit point (04_tenants.md R135). -/
def arrivalNoted (c : Nat) (t : State) : State :=
  match ctxOf t c with
  | none => t
  | some x =>
    if !isWriteOpc x.e.opc || x.sqid = 0 then t
    else tookFree (cancelCopy c x (modCtx c (fun y => { y with arrived := arrivedAtSquash t x }) t))

theorem addsNothing_arrivalNoted (c : Nat) (t : State) : AddsNothing t (arrivalNoted c t) := by
  unfold arrivalNoted
  split
  · exact .refl t
  split
  · exact .refl t
  · refine AddsNothing.trans ?_ (addsNothing_of_ce (tookFree_ce _))
    refine AddsNothing.trans ?_ (addsNothing_of_hostSide (hostSide_cancelCopy _ _ _))
    exact addsNothing_modCtx c _ t

/-- The contexts of a function's old generations that have no work past their commit point. -/
def idleOld (s : State) (fn : Nat) : List Nat := (oldCtxs s fn).filterMap (fun p => if worksOn p.2 then none else some p.1)

section
variable {s : State} {fn : Nat} {kind : SquashKind}

/-- A squash begins the next generation, squashes the contexts without work, and notes the data that had arrived for the others. -/
theorem squashBegin_of_none (h : (fnOf s fn).squash = none) : ∃ works u, u.ce = (generationBegun fn kind s).ce ∧
    squashBegin fn kind s = forEach works arrivalNoted (forEach (idleOld (generationBegun fn kind s) fn) squashCtx u) := by
  simp only [squashBegin, h, Option.isSome_none, Bool.false_eq_true, if_false]
  refine ⟨_, _, ?_, rfl⟩
  rfl

/-- After the generation has begun, a squash adds nothing. -/
theorem addsNothing_squashBegin (h : (fnOf s fn).squash = none) : AddsNothing (generationBegun fn kind s) (squashBegin fn kind s) := by
  obtain ⟨works, u, hu, hrun⟩ := squashBegin_of_none (kind := kind) h
  rw [hrun]
  exact ((addsNothing_of_ce hu).trans (addsNothing_forEach addsNothing_squashCtx _ u)).trans (addsNothing_forEach addsNothing_arrivalNoted works _)

/-- A function that is being taken away already is left but for the kind of its squash. -/
theorem squashBegin_of_some (h : (fnOf s fn).squash ≠ none) : squashBegin fn kind s = s ∨
    squashBegin fn kind s = modFn fn (fun f => { f with squash := some kind }) s := by
  simp only [squashBegin, Option.isSome_iff_ne_none.2 h, if_true]
  split
  · exact .inr rfl
  · exact .inl rfl

theorem takenAway_squashBegin (h : (fnOf s fn).squash = none) : TakenAway kind s (squashBegin fn kind s) fn :=
  takenAway_of_core rfl ((addsNothing_squashBegin h).fns fn) (takenAway_generationBegun fn kind s)

theorem spares_squashBegin (fn : Nat) (kind : SquashKind) (s : State) : Spares [fn] s (squashBegin fn kind s) := by
  by_cases h : (fnOf s fn).squash = none
  · exact (spares_modFn fn _ s).trans ((addsNothing_squashBegin h).spares _)
  · obtain hs | hs := squashBegin_of_some (kind := kind) h <;> rw [hs]
    · exact (AddsNothing.refl s).spares _
    · exact spares_modFn fn _ s

theorem squashBegin_ports (fn : Nat) (kind : SquashKind) (s : State) : (squashBegin fn kind s).ce.ports = s.ce.ports := by
  by_cases h : (fnOf s fn).squash = none
  · exact (addsNothing_squashBegin h).ports
  · obtain hs | hs := squashBegin_of_some (kind := kind) h <;> rw [hs]
    rfl

/-- The contexts of the function with no internal work past their commit point are FREE once its squash has begun. -/
theorem ctxOf_squashBegin {c : Nat} {x : Ctx} (h : (fnOf s fn).squash = none) (hx : ctxOf s c = some x) (hfn : x.fn = fn) (ht : x.tunnel = false)
    (hf : ctxFresh s x = true) (hw : worksOn x = false) : ctxOf (squashBegin fn kind s) c = none := by
  have hgen : x.fgen = (fnOf s fn).gen := by simpa [ctxFresh, hfn] using hf
  have hold : (c, x) ∈ oldCtxs (generationBegun fn kind s) fn := by
    refine List.mem_filter.2 ⟨mem_of_tfind hx, ?_⟩
    simp only [hfn, ht, hgen, (takenAway_generationBegun fn kind s).1, beq_self_eq_true, Bool.not_false, Bool.true_and, bne_iff_ne]
    omega
  have hidle : c ∈ idleOld (generationBegun fn kind s) fn := List.mem_filterMap.2 ⟨(c, x), hold, by simp [hw]⟩
  obtain ⟨works, u, -, hrun⟩ := squashBegin_of_none (kind := kind) h
  rw [hrun]
  exact (addsNothing_forEach addsNothing_arrivalNoted works _).ctxs c (ctxOf_forEach_squashCtx hidle u)

end

/-! ### Ports and VFs (04_tenants.md R115, R119, R120) -/

@[simp] theorem portState_modPort_same (p : Nat) (f : Port → Port) (s : State) : portState (modPort p f s) p = f (portState s p) := by
  simp [portState, modPort]

theorem portState_modPort_other {q p : Nat} (h : q ≠ p) (f : Port → Port) (s : State) : portState (modPort p f s) q = portState s q := by
  simp [portState, modPort, tget_tmod_other h]

theorem portState_of_ports {s t : State} (h : t.ce.ports = s.ce.ports) (p : Nat) : portState t p = portState s p := by simp [portState, h]

theorem spares_modPort (l : List Nat) (p : Nat) (f : Port → Port) (s : State) : Spares l s (modPort p f s) := ⟨fun _ _ => rfl, fun _ h => h⟩

theorem four_le_of_mem_vfsAbove {s : State} {port n g : Nat} (h : g ∈ vfsAbove s port n) : 4 ≤ g := by
  unfold vfsAbove at h
  dsimp only at h
  split at h
  · obtain ⟨i, -, rfl⟩ := List.mem_map.1 h
    simp only [vfFn]
    omega
  · cases h

theorem nodup_vfsAbove (s : State) (port n : Nat) : (vfsAbove s port n).Nodup := by
  unfold vfsAbove
  dsimp only
  split
  · refine List.nodup_range.map (fun i j h => ?_)
    simp only [vfFn] at h
    omega
  · exact List.nodup_nil

/-- What VF Enable and NumVFs are once the VFs above a number are disabled. -/
def disabledAbove (n : Nat) (p : Port) : Port :=
  { p with vfEnable := p.vfEnable && n != 0, numVfs := if p.vfEnable then Nat.min p.numVfs n else p.numVfs }

/-- VFs disabled: the port's own entry, an event perhaps, a squash of each, and what waited for their commands. -/
theorem disableVfs_eq (port n : Nat) (s : State) : ∃ u, u.ce = (modPort port (disabledAbove n) s).ce ∧ AddsNothing
    (forEach (vfsAbove s port n) (fun fn => squashBegin fn .vfDisable) u) (disableVfs port n s) := by
  unfold disableVfs
  dsimp only
  split
  · next h =>
    rw [h]
    exact ⟨_, rfl, .refl _⟩
  · next v rest h =>
    rw [h]
    exact ⟨_, raise_ce _ _ _ _, addsNothing_settleDetach _⟩

/-- Functions squashed one after the other spare the others. -/
theorem spares_forEach_squashBegin (kind : SquashKind) (l : List Nat) (s : State) : Spares l s (forEach l (fun fn => squashBegin fn kind) s) := by
  induction l generalizing s with
  | nil => exact (AddsNothing.refl s).spares _
  | cons fn rest ih =>
    exact ((spares_squashBegin fn kind s).mono (by simp)).trans ((ih _).mono (fun g hg => List.mem_cons_of_mem fn hg))

/-- Of functions squashed one after the other, each that was not being taken away is taken away. -/
theorem takenAway_forEach_squashBegin {kind : SquashKind} {l : List Nat} (hl : l.Nodup) {g : Nat} (hg : g ∈ l) {s : State}
    (h : (fnOf s g).squash = none) : TakenAway kind s (forEach l (fun fn => squashBegin fn kind) s) g := by
  induction l generalizing s with
  | nil => cases hg
  | cons fn rest ih =>
    obtain ⟨hfn, hrest⟩ := List.nodup_cons.1 hl
    by_cases heq : g = fn
    · subst heq
      exact takenAway_of_core rfl ((spares_forEach_squashBegin kind rest _).fns g hfn) (takenAway_squashBegin h)
    · have hcore := (spares_squashBegin fn kind s).fns g (by simpa using heq)
      exact takenAway_of_core hcore rfl (ih hrest ((List.mem_cons.1 hg).resolve_left heq) ((squash_of_core hcore).trans h))

theorem spares_disableVfs (port n : Nat) (s : State) : Spares (vfsAbove s port n) s (disableVfs port n s) := by
  obtain ⟨u, hu, hrest⟩ := disableVfs_eq port n s
  have hport := (spares_modPort (vfsAbove s port n) port (disabledAbove n) s).trans ((addsNothing_of_ce hu).spares _)
  exact (hport.trans (spares_forEach_squashBegin _ _ u)).trans (hrest.spares _)

theorem portState_disableVfs (port n q : Nat) (s : State) : portState (disableVfs port n s) q = portState (modPort port (disabledAbove n) s) q := by
  obtain ⟨u, hu, hrest⟩ := disableVfs_eq port n s
  have hsquashed : (forEach (vfsAbove s port n) (fun fn => squashBegin fn .vfDisable) u).ce.ports = u.ce.ports :=
    forEach_keeps (fun t => t.ce.ports) _ (fun fn t => squashBegin_ports fn .vfDisable t) _ u
  exact portState_of_ports (hrest.ports.trans (hsquashed.trans (by rw [hu]))) q

theorem takenAway_disableVfs {port n g : Nat} {s : State} (hg : g ∈ vfsAbove s port n) (h : (fnOf s g).squash = none) :
    TakenAway .vfDisable s (disableVfs port n s) g := by
  obtain ⟨u, hu, hrest⟩ := disableVfs_eq port n s
  have hsame : fnOf u g = fnOf s g := fnOf_of_ce hu g
  exact takenAway_of_core (congrArg fnCore hsame) (hrest.fns g)
    (takenAway_forEach_squashBegin (nodup_vfsAbove s port n) hg ((congrArg Fn.squash hsame).trans h))

/-! ### Resets of a function (04_tenants.md R120, R134; 18_bring_up.md R502) -/

/-- A function-level reset of a PF takes the VFs of its port away behind it. -/
def vfsAfterPf (fn : Nat) (s : State) : State :=
  onlyIf (isPf fn) (fun t => modPort fn (fun p => { p with vfEnable := false, numVfs := 0 }) (disableVfs fn 0 t)) s

theorem flr_of_present {s : State} {fn : Nat} (hp : (fnOf s fn).present = true) (hon : ((fnOf s fn).online || isPf fn) = true) :
    flr fn s = settleDetach (vfsAfterPf fn (squashBegin fn .flr
      (onlyIf ((fnOf s fn).squash.isNone || (fnOf s fn).squash == some .parity) (raise 64 sevInfo [fn]) s))) := by
  simp only [flr, hp, hon, Bool.not_true, Bool.or_self, Bool.false_eq_true, if_false]
  rfl

theorem flr_of_absent {s : State} {fn : Nat} (h : (fnOf s fn).present = false) : flr fn s = s := by
  simp [flr, h]

/-- A PF's VFs are taken away without a change of any other PF, or of the function reset. -/
theorem core_vfsAfterPf {fn g : Nat} (h : g < 4 ∨ isPf fn = false) (s : State) : fnCore (fnOf (vfsAfterPf fn s) g) = fnCore (fnOf s g) := by
  unfold vfsAfterPf
  cases hpf : isPf fn with
  | false => rfl
  | true =>
    rw [onlyIf_true]
    refine ((spares_modPort [] fn _ _).fns g (by simp)).trans ((spares_disableVfs fn 0 s).fns g (fun hm => ?_))
    have hvf := four_le_of_mem_vfsAbove hm
    simp [hpf] at h
    omega

theorem ctxOf_vfsAfterPf {fn c : Nat} {s : State} (h : ctxOf s c = none) : ctxOf (vfsAfterPf fn s) c = none := by
  unfold vfsAfterPf
  cases isPf fn with
  | false => exact h
  | true => exact (spares_disableVfs fn 0 s).ctxs c h

theorem portState_vfsAfterPf_other {fn q : Nat} (h : q ≠ fn) (s : State) : portState (vfsAfterPf fn s) q = portState s q := by
  unfold vfsAfterPf
  cases isPf fn with
  | false => rfl
  | true => rw [onlyIf_true, portState_modPort_other h, portState_disableVfs, portState_modPort_other h]

section
variable {s : State} {fn : Nat}

/-- A function-level reset, of a function present and not being taken away. -/
theorem takenAway_flr (hp : (fnOf s fn).present = true) (hon : ((fnOf s fn).online || isPf fn) = true) (hsq : (fnOf s fn).squash = none) :
    TakenAway .flr s (flr fn s) fn := by
  rw [flr_of_present hp hon, hsq, Option.isNone_none, Bool.true_or, onlyIf_true]
  have hpf : fn < 4 ∨ isPf fn = false := by
    by_cases h : fn < 4 <;> simp [isPf, h]
  refine takenAway_of_core rfl (((addsNothing_settleDetach _).fns fn).trans (core_vfsAfterPf hpf _)) ?_
  exact takenAway_of_core (s' := raise 64 sevInfo [fn] s) (by rw [fnOf_raise]) rfl (takenAway_squashBegin (by rw [fnOf_raise, hsq]))

theorem ctxOf_flr {c : Nat} {x : Ctx} (hp : (fnOf s fn).present = true) (hon : ((fnOf s fn).online || isPf fn) = true)
    (hsq : (fnOf s fn).squash = none) (hx : ctxOf s c = some x) (hfn : x.fn = fn) (ht : x.tunnel = false) (hf : ctxFresh s x = true)
    (hw : worksOn x = false) : ctxOf (flr fn s) c = none := by
  rw [flr_of_present hp hon, hsq, Option.isNone_none, Bool.true_or, onlyIf_true]
  refine (addsNothing_settleDetach _).ctxs c (ctxOf_vfsAfterPf (ctxOf_squashBegin ?_ ?_ hfn ht ?_ hw))
  · rw [fnOf_raise, hsq]
  · rw [ctxOf_raise, hx]
  · rw [ctxFresh_of_fnOf (fnOf_raise _ _ _ _ _), hf]

/-- CC.EN cleared on an enabled controller. -/
theorem exec_controllerReset (hp : (fnOf s fn).present = true) (hen : (fnOf s fn).en = true) (hsq : (fnOf s fn).squash = none) :
    exec (.controllerReset fn) s = .next (settleDetach (squashBegin fn .controllerReset (raise 64 sevInfo [fn] s))) := by
  simp [exec, execControllerReset, hp, hen, hsq]

theorem takenAway_controllerReset (hsq : (fnOf s fn).squash = none) :
    TakenAway .controllerReset s (settleDetach (squashBegin fn .controllerReset (raise 64 sevInfo [fn] s))) fn := by
  refine takenAway_of_core rfl ((addsNothing_settleDetach _).fns fn) ?_
  exact takenAway_of_core (s' := raise 64 sevInfo [fn] s) (by rw [fnOf_raise]) rfl (takenAway_squashBegin (by rw [fnOf_raise, hsq]))

theorem ctxOf_controllerReset {c : Nat} {x : Ctx} (hsq : (fnOf s fn).squash = none) (hx : ctxOf s c = some x) (hfn : x.fn = fn)
    (ht : x.tunnel = false) (hf : ctxFresh s x = true) (hw : worksOn x = false) :
    ctxOf (settleDetach (squashBegin fn .controllerReset (raise 64 sevInfo [fn] s))) c = none := by
  refine (addsNothing_settleDetach _).ctxs c (ctxOf_squashBegin ?_ ?_ hfn ht ?_ hw)
  · rw [fnOf_raise, hsq]
  · rw [ctxOf_raise, hx]
  · rw [ctxFresh_of_fnOf (fnOf_raise _ _ _ _ _), hf]

end

/-! ### PERST_N (18_bring_up.md R502, 19_package.md R529) -/

/-- The reset of a port's PF leaves the other PFs and the other ports. -/
theorem portReset_other {p q : Nat} (hp : p < 4) (hq : q < 4) (h : q ≠ p) (s : State) :
    fnCore (fnOf (portReset p s) q) = fnCore (fnOf s q) ∧ portState (portReset p s) q = portState s q := by
  have hpf : isPf p = true := by simpa [isPf] using hp
  have hflr : fnCore (fnOf (flr p s) q) = fnCore (fnOf s q) ∧ portState (flr p s) q = portState s q := by
    cases hpres : (fnOf s p).present with
    | false =>
      rw [flr_of_absent hpres]
      exact ⟨rfl, rfl⟩
    | true =>
      rw [flr_of_present hpres (by simp [hpf])]
      generalize hu : onlyIf ((fnOf s p).squash.isNone || (fnOf s p).squash == some .parity) (raise 64 sevInfo [p]) s = u
      have hce : u.ce = s.ce := by rw [← hu, onlyIf_keeps State.ce _ _ s (raise_ce 64 sevInfo [p])]
      have hcore := ((addsNothing_settleDetach _).fns q).trans
        ((core_vfsAfterPf (fn := p) (.inl hq) _).trans ((spares_squashBegin p .flr u).fns q (by simpa using h)))
      have hport : portState (settleDetach (vfsAfterPf p (squashBegin p .flr u))) q = portState u q := by
        rw [portState_of_ports (addsNothing_settleDetach _).ports, portState_vfsAfterPf_other h, portState_of_ports (squashBegin_ports p .flr u)]
      exact ⟨hcore.trans (by rw [fnOf_of_ce hce]), hport.trans (portState_of_ports (by rw [hce]) q)⟩
  exact ⟨hflr.1, (portState_modPort_other h _ _).trans hflr.2⟩

/-- What PERST_N leaves of a port of its link: the PF taken away, where it was there, and the link down. -/
def PortReset (s t : State) (port : Nat) : Prop :=
  ((fnOf s port).present = true → (fnOf s port).squash = none → TakenAway .flr s t port) ∧
  (portState t port).perst = true ∧ (portState t port).linkUp = false

theorem portReset_same {p : Nat} (hp : p < 4) (s : State) : PortReset s (portReset p s) p := by
  have hpf : isPf p = true := by simpa [isPf] using hp
  have hport : (portState (portReset p s) p).perst = true ∧ (portState (portReset p s) p).linkUp = false := by
    simp [portReset]
  exact ⟨fun hpres hsq => takenAway_flr hpres (by simp [hpf]) hsq, hport⟩

theorem portReset_forEach {l : List Nat} (hl : l.Nodup) (hlt : ∀ p ∈ l, p < 4) {port : Nat} (hp : port ∈ l) (s : State) :
    PortReset s (forEach l portReset s) port := by
  have hport := hlt port hp
  have hrest {m : List Nat} (hm : ∀ p ∈ m, p < 4) (hout : port ∉ m) (t : State) :
      (fnCore (fnOf (forEach m portReset t) port), portState (forEach m portReset t) port) = (fnCore (fnOf t port), portState t port) := by
    induction m generalizing t with
    | nil => rfl
    | cons p m ih =>
      obtain ⟨hcore, hstate⟩ := portReset_other (hm p (by simp)) hport (fun h => hout (by simp [h])) t
      rw [forEach_cons, ih (fun r hr => hm r (by simp [hr])) (fun h => hout (by simp [h])), hcore, hstate]
  induction l generalizing s with
  | nil => cases hp
  | cons p m ih =>
    obtain ⟨hout, hm⟩ := List.nodup_cons.1 hl
    have hltm (r : Nat) (hr : r ∈ m) : r < 4 := hlt r (by simp [hr])
    rw [forEach_cons]
    by_cases heq : port = p
    · subst heq
      obtain ⟨hcore, hstate⟩ := Prod.mk.inj (hrest hltm hout (portReset port s))
      obtain ⟨htaken, hperst, hlink⟩ := portReset_same hport s
      exact ⟨fun hpres hsq => takenAway_of_core rfl hcore (htaken hpres hsq), by rw [hstate, hperst], by rw [hstate, hlink]⟩
    · obtain ⟨hcore, -⟩ := portReset_other (hlt p (by simp)) hport heq s
      obtain ⟨htaken, hdown⟩ := ih hm hltm ((List.mem_cons.1 hp).resolve_left heq) (portReset p s)
      have hpres : (fnOf (portReset p s) port).present = (fnOf s port).present := (congrArg Fn.present hcore :)
      exact ⟨fun h hsq => takenAway_of_core hcore rfl (htaken (hpres.trans h) ((squash_of_core hcore).trans hsq)), hdown⟩

theorem linkPorts_lt {s : State} {pin p : Nat} (hpin : pin < 4) (hp : p ∈ linkPorts s pin) : p < 4 := by
  unfold linkPorts at hp
  split_ifs at hp <;> simp at hp <;> omega

theorem nodup_linkPorts (s : State) (pin : Nat) : (linkPorts s pin).Nodup := by
  unfold linkPorts
  split_ifs <;> simp

/-- Settles O13: each reset comes to `squashBegin`, and what follows that changes no function it took away and takes no context. -/
theorem functionsAreTakenAway : Obligations.FunctionsAreTakenAway := by
  unfold Obligations.FunctionsAreTakenAway
  refine ⟨?_, ?_, ?_, ?_⟩
  · intro s fn hp hon hsq
    obtain ⟨hgen, hsquash⟩ := takenAway_flr hp hon hsq
    exact ⟨_, rfl, hgen, hsquash, fun c x hx hfn ht hf hw => ctxOf_flr hp hon hsq hx hfn ht hf hw⟩
  · intro s fn hp hen hsq
    obtain ⟨hgen, hsquash⟩ := takenAway_controllerReset hsq
    exact ⟨_, exec_controllerReset hp hen hsq, hgen, hsquash, fun c x hx hfn ht hf hw => ctxOf_controllerReset hsq hx hfn ht hf hw⟩
  · intro s pin hpin
    refine ⟨fun hnone => by simp [exec, execPerstN, hnone], _, rfl, fun port hport hpres hsq => ?_⟩
    obtain ⟨htaken, hperst, hlink⟩ := portReset_forEach (nodup_linkPorts s pin) (fun p hp => linkPorts_lt hpin hp) hport s
    obtain ⟨hgen, hsquash⟩ := htaken hpres hsq
    exact ⟨hgen, hsquash, hperst, hlink⟩
  · intro s port n hen hn
    refine ⟨_, rfl, ?_, ?_, fun v hv hmax hsq => ?_⟩
    · simp [portState_disableVfs, disabledAbove, hen, hn.le]
    · simp [portState_disableVfs, disabledAbove, hen]
    · have hmem : vfFn port v ∈ vfsAbove s port n := by
        simp only [vfsAbove, hen, if_true]
        exact List.mem_map.2 ⟨v - (n + 1), List.mem_range.2 (by omega), by congr 1; omega⟩
      obtain ⟨hgen, hsquash⟩ := takenAway_disableVfs hmem hsq
      exact ⟨hsquash, hgen⟩

/-! ### A squash ended (04_tenants.md R134, step 5) -/

theorem tfind_eq_none_of_forall_ne {α : Type} {t : List (Nat × α)} {k : Nat} (h : ∀ p ∈ t, p.1 ≠ k) : tfind t k = none := by
  cases hv : tfind t k with
  | none => rfl
  | some v => exact absurd rfl (h (k, v) (mem_of_tfind hv))

section
variable {s : State} {fn : Nat} {k : SquashKind}

/-- The end of a squash that is not of a parity fault leaves none of the function's submission queues. -/
theorem sqOf_squashEnd (h : (fnOf s fn).squash ≠ some .parity) {q : Nat} (hq : q < 65536) : sqOf (squashEnd fn s) fn q = none := by
  simp only [squashEnd, h, if_false]
  refine tfind_eq_none_of_forall_ne (fun p hp hkey => ?_)
  have hother := (List.mem_filter.1 hp).2
  rw [hkey, qKey, bne_iff_ne] at hother
  omega

/-- A function as the end of its squash leaves it. -/
def endedFn (s : State) (fn : Nat) (g : Fn) : Fn :=
  { g with
    en := false, rdy := false, cfs := false, shn := false, shst := 0, squash := none, deficit := 0, rrNext := 0, freezeMasked := false,
    asyncEvents := [], tempThreshold := 368, tempCrossed := false,
    present := g.present && ((fnOf s fn).squash != some .vfDisable || vfCovered s fn) }

theorem fnOf_squashEnd (h : (fnOf s fn).squash ≠ some .parity) : fnOf (squashEnd fn s) fn = endedFn s fn (fnOf s fn) := by
  simp only [squashEnd, h, if_false]
  exact fnOf_modFn_same fn (endedFn s fn) s

theorem squash_ended (hk : (fnOf s fn).squash = some k) (hpar : k ≠ .parity) (hold : oldCtxs s fn = []) :
    ∃ t, exec (.squashDone fn) s = .next t ∧ (fnOf t fn).squash = none ∧ (fnOf t fn).en = false ∧ (fnOf t fn).rdy = false ∧
      (fnOf t fn).present = ((fnOf s fn).present && (k != SquashKind.vfDisable || vfCovered s fn)) ∧ (∀ q, q < 65536 → sqOf t fn q = none) := by
  have hexec : exec (.squashDone fn) s = .next (settleDetach (squashEnd fn s)) := by simp [exec, execSquashDone, hk, hold]
  have hother : (fnOf s fn).squash ≠ some .parity := by simpa [hk] using hpar
  have hadds := addsNothing_settleDetach (squashEnd fn s)
  have hcore : fnCore (fnOf (settleDetach (squashEnd fn s)) fn) = fnCore (endedFn s fn (fnOf s fn)) := by rw [hadds.fns, fnOf_squashEnd hother]
  refine ⟨_, hexec, (congrArg Fn.squash hcore :), (congrArg Fn.en hcore :), (congrArg Fn.rdy hcore :), ?_,
    fun q hq => hadds.sqs fn q (sqOf_squashEnd hother hq)⟩
  have hkind : ((fnOf s fn).squash != some .vfDisable) = (k != .vfDisable) := by rw [hk]; rfl
  rw [← hkind]
  exact (congrArg Fn.present hcore :)

/-! ### The fall-back (04_tenants.md R134, step 4) -/

/-- The fall-back squashes every context of an old generation, and what follows concerns events and commands that wait. -/
theorem exec_fallBackSquash (hsq : (fnOf s fn).squash.isSome = true) (hold : oldCtxs s fn ≠ []) :
    ∃ u t, exec (.fallBackSquash fn) s = .next t ∧ AddsNothing (forEach ((oldCtxs s fn).map (fun p => p.1)) squashCtx u) t := by
  have hnone : (fnOf s fn).squash.isNone = false := by simpa using hsq
  have hsome : ((oldCtxs s fn).map (fun p => p.1)).isEmpty = false := by simpa using hold
  rw [exec, execFallBackSquash]
  simp only [hnone, hsome, Bool.or_self, Bool.false_eq_true, if_false]
  refine ⟨onlyIf ((s.rs.activating.map (fun c => ((oldCtxs s fn).map (fun p => p.1)).contains c)).getD false) activationEnd s, _, rfl, ?_⟩
  refine AddsNothing.trans ?_ (addsNothing_settleDetach _)
  refine AddsNothing.trans ?_ (addsNothing_raise 65 sevWarning _ _)
  exact addsNothing_onlyIf (fun t => addsNothing_forEach (fun h u => addsNothing_of_hostSide (hostSide_lrOp _ _ _ _ u)) [] t) _ _

end

/-! ### VFs enabled (04_tenants.md R119) -/

/-- Functions made present, one after the other, are a change of the functions alone. -/
theorem forEach_present_only (l : List Nat) (s : State) :
    ∃ fns, forEach l (fun fn => modFn fn (fun f => { f with present := true })) s = onCe (fun e => { e with fns := fns }) s := by
  induction l generalizing s with
  | nil => exact ⟨s.ce.fns, rfl⟩
  | cons fn rest ih =>
    obtain ⟨fns, h⟩ := ih (modFn fn (fun f => { f with present := true }) s)
    exact ⟨fns, h⟩

theorem present_forEach {l : List Nat} {g : Nat} {s : State} (h : g ∈ l ∨ (fnOf s g).present = true) :
    (fnOf (forEach l (fun fn => modFn fn (fun f => { f with present := true })) s) g).present = true := by
  induction l generalizing s with
  | nil => exact h.resolve_left (by simp)
  | cons fn rest ih =>
    refine ih (s := modFn fn (fun f => { f with present := true }) s) ?_
    by_cases hg : g = fn
    · right
      rw [hg, fnOf_modFn_same]
    · rw [fnOf_modFn_other hg]
      exact h.imp_left fun hm => (List.mem_cons.1 hm).resolve_left hg

/-- Settles O14: step 5 of R134 by `squashEnd`, the fall-back by the contexts it squashes, and VF Enable by the functions it makes present. -/
theorem squashesEnd : Obligations.SquashesEnd := by
  unfold Obligations.SquashesEnd
  refine ⟨fun s fn k hk hpar hold => squash_ended hk hpar hold, ?_, ?_⟩
  · intro s fn hsq hold
    obtain ⟨u, t, hexec, hadds⟩ := exec_fallBackSquash hsq hold
    exact ⟨t, hexec, fun p hp => hadds.ctxs p.1 (ctxOf_forEach_squashCtx (List.mem_map_of_mem hp) u)⟩
  · intro s port n
    obtain ⟨fns, hfns⟩ := forEach_present_only ((List.range n).map (fun i => vfFn port (i + 1)))
      (modPort port (fun p => { p with vfEnable := true, numVfs := Nat.max n (if p.vfEnable then p.numVfs else 0) }) s)
    have hport := portState_modPort_same port (fun p => { p with vfEnable := true, numVfs := Nat.max n (if p.vfEnable then p.numVfs else 0) }) s
    refine ⟨_, rfl, ?_, ?_, fun v hv hmax => present_forEach (.inl ?_), ?_⟩
    · rw [hfns]
      exact congrArg Port.vfEnable hport
    · rw [hfns]
      exact (Nat.le_max_left _ _).trans_eq (congrArg Port.numVfs hport).symm
    · exact List.mem_map.2 ⟨v - 1, List.mem_range.2 (by omega), by congr 1; omega⟩
    · rw [hfns]
      rfl

end Sys2Proof.Machine

/-! PROOFS. Identify, and namespaces created, attached and detached (03_queues.md R110; 04_tenants.md R117, R118, R123 to R125). -/

namespace Sys2Proof.Machine

/-! ### Structures of fields laid over bytes -/

@[simp] theorem length_leBytes (n v : Nat) : (leBytes n v).length = n := by
  induction n generalizing v with
  | zero => rfl
  | succ n ih => simp [leBytes, ih]

theorem leNat_leBytes {n v : Nat} (h : v < 256 ^ n) : leNat (leBytes n v) = v := by
  induction n generalizing v with
  | zero => simp_all [leBytes, leNat]
  | succ n ih =>
    have hrest : v / 256 < 256 ^ n := Nat.div_lt_of_lt_mul (by rwa [pow_succ'] at h)
    simp only [leBytes, leNat, ih hrest, BitVec.toNat_ofNat]
    omega

@[simp] theorem length_bytesAt (bs : List Byte) (o n : Nat) : (bytesAt bs o n).length = n := by
  simp only [bytesAt, List.length_append, List.length_replicate, List.length_take]
  omega

theorem bytesAt_congr {a b : List Byte} {o n : Nat} (h : (a.drop o).take n = (b.drop o).take n) : bytesAt a o n = bytesAt b o n := by
  simp only [bytesAt, h]

/-- One field put over a structure of `n` bytes. -/
def putField (n : Nat) (b : List Byte) (f : Nat × List Byte) : List Byte := (b.take f.1 ++ f.2 ++ b.drop (f.1 + f.2.length)).take n

section
variable {n : Nat} {b : List Byte} {f : Nat × List Byte}

theorem putField_eq (hb : b.length = n) (hf : f.1 + f.2.length ≤ n) : putField n b f = b.take f.1 ++ f.2 ++ b.drop (f.1 + f.2.length) := by
  refine List.take_of_length_le ?_
  simp only [List.length_append, List.length_take, List.length_drop]
  omega

theorem length_putField (hb : b.length = n) (hf : f.1 + f.2.length ≤ n) : (putField n b f).length = n := by
  rw [putField_eq hb hf]
  simp only [List.length_append, List.length_take, List.length_drop]
  omega

/-- A field put over a structure is read back. -/
theorem bytesAt_putField (hb : b.length = n) (hf : f.1 + f.2.length ≤ n) : bytesAt (putField n b f) f.1 f.2.length = f.2 := by
  have hlen : (b.take f.1).length = f.1 := by simp only [List.length_take]; omega
  have hdrop : (putField n b f).drop f.1 = f.2 ++ b.drop (f.1 + f.2.length) := by
    rw [putField_eq hb hf, List.append_assoc]
    exact List.drop_left' hlen
  simp [bytesAt, hdrop]

/-- What lies before a field stays. -/
theorem bytesAt_putField_before {o k : Nat} (hb : b.length = n) (hf : f.1 + f.2.length ≤ n) (ho : o + k ≤ f.1) :
    bytesAt (putField n b f) o k = bytesAt b o k := by
  have hlen : (b.take f.1).length = f.1 := by simp only [List.length_take]; omega
  refine bytesAt_congr ?_
  rw [putField_eq hb hf, List.append_assoc, List.drop_append_of_le_length (by omega), List.take_append_of_le_length (by simp only [List.length_drop]; omega),
    List.drop_take, List.take_take, Nat.min_eq_left (by omega)]

theorem length_putFields {l : List (Nat × List Byte)} (hb : b.length = n) (hl : ∀ f ∈ l, f.1 + f.2.length ≤ n) : (l.foldl (putField n) b).length = n := by
  induction l generalizing b with
  | nil => exact hb
  | cons f r ih => exact ih (length_putField hb (hl f (by simp))) (fun g hg => hl g (by simp [hg]))

theorem bytesAt_putFields_before {l : List (Nat × List Byte)} {o k : Nat} (hb : b.length = n) (hl : ∀ f ∈ l, f.1 + f.2.length ≤ n)
    (ho : ∀ f ∈ l, o + k ≤ f.1) : bytesAt (l.foldl (putField n) b) o k = bytesAt b o k := by
  induction l generalizing b with
  | nil => rfl
  | cons f r ih =>
    rw [List.foldl_cons, ih (length_putField hb (hl f (by simp))) (fun g hg => hl g (by simp [hg])) (fun g hg => ho g (by simp [hg])),
      bytesAt_putField_before hb (hl f (by simp)) (ho f (by simp))]

end

/-- A field of a structure is read back under the fields that lie after it. -/
theorem fieldAt_putFields {n k v : Nat} {b : List Byte} {o : Nat} {l : List (Nat × List Byte)} (hb : b.length = n) (hv : v < 256 ^ k) (hk : o + k ≤ n)
    (hl : ∀ f ∈ l, o + k ≤ f.1 ∧ f.1 + f.2.length ≤ n) : fieldAt (((o, leBytes k v) :: l).foldl (putField n) b) o k = v := by
  have hfit : o + (leBytes k v).length ≤ n := by rwa [length_leBytes]
  have hread := bytesAt_putField (f := (o, leBytes k v)) hb hfit
  rw [length_leBytes] at hread
  rw [fieldAt, List.foldl_cons, bytesAt_putFields_before (length_putField hb hfit) (fun f hf => (hl f hf).2) (fun f hf => (hl f hf).1), hread,
    leNat_leBytes hv]

/-! ### Identify Controller (03_queues.md R110; 04_tenants.md R117, R118) -/

theorem cntlidOf_lt {fn : Nat} (h : fn < 2052) : cntlidOf fn < 256 ^ 2 := by
  unfold cntlidOf
  split <;> omega

/-- The fields of Identify Controller behind the CNTLID. -/
def idFields : List (Nat × List Byte) :=
  [(84, leBytes 4 30000000), (88, leBytes 4 5000000), (258, leBytes 1 15), (259, leBytes 1 15), (260, leBytes 1 0x16), (263, leBytes 1 2),
   (266, leBytes 2 368), (268, leBytes 2 378), (270, leBytes 2 2), (319, leBytes 1 1), (322, leBytes 2 1), (324, leBytes 2 343),
   (326, leBytes 2 367), (516, leBytes 4 4096), (520, leBytes 2 0x188), (525, leBytes 1 1), (526, leBytes 2 63), (528, leBytes 2 63),
   (2048, leBytes 2 38800), (2080, leBytes 2 30800), (2112, leBytes 2 22800)]

theorem idFields_behind : ∀ f ∈ idFields, 80 ≤ f.1 ∧ f.1 + f.2.length ≤ 4096 := by
  simp [idFields]

theorem idController_eq (fn : Nat) :
    idController fn = ((77, leBytes 1 9) :: (78, leBytes 2 (cntlidOf fn)) :: idFields).foldl (putField 4096) (bytesAt (Config.miBytes 11 fn) 0 4096) := rfl

/-- Identify Controller is 4,096 bytes with the CMIC and the CNTLID at their offsets. -/
theorem idController_fields {fn : Nat} (h : fn < 2052) :
    (idController fn).length = 4096 ∧ fieldAt (idController fn) 77 1 = 9 ∧ fieldAt (idController fn) 78 2 = cntlidOf fn := by
  have hbase : (bytesAt (Config.miBytes 11 fn) 0 4096).length = 4096 := length_bytesAt _ _ _
  have hcmic : (putField 4096 (bytesAt (Config.miBytes 11 fn) 0 4096) (77, leBytes 1 9)).length = 4096 := length_putField hbase (by simp)
  have hcntlid : ∀ f ∈ (78, leBytes 2 (cntlidOf fn)) :: idFields, 78 ≤ f.1 ∧ f.1 + f.2.length ≤ 4096 := by
    refine List.forall_mem_cons.2 ⟨by simp, fun f hf => ?_⟩
    obtain ⟨hlo, hhi⟩ := idFields_behind f hf
    exact ⟨by omega, hhi⟩
  rw [idController_eq]
  refine ⟨?_, fieldAt_putFields hbase (by decide) (by decide) hcntlid, ?_⟩
  · rw [List.foldl_cons]
    exact length_putFields hcmic fun f hf => (hcntlid f hf).2
  · rw [List.foldl_cons]
    exact fieldAt_putFields hcmic (cntlidOf_lt h) (by decide) idFields_behind

/-! ### Identify (03_queues.md R110) -/

section
variable {s : State} {c : Nat} {x : Ctx}

/-- An Identify that is answered with a structure. -/
theorem exec_identify_answered (hx : Safety.AdminRuns s c x 0x06) {data : List Byte} (h : execIdentify c s = .next (answer c data s)) :
    ∃ t, exec (.identify c) s = .next t ∧ Safety.Answered t c data ∧ t = { s with ce := { s.ce with ctxs := t.ce.ctxs } } :=
  ⟨_, h.trans (congrArg Host.Outcome.next (answer_of_adminRuns hx data)), answered_of_adminRuns hx data, rfl⟩

theorem execIdentify_namespace (hx : Safety.AdminRuns s c x 0x06) (hcns : bits x.e.cdw10 7 0 = 0x00) : execIdentify c s = .next
    (if (namedNs s x).contains x.e.nsid then answer c (idNamespace ((nsOf s x.e.nsid).getD {})) s else fail c stBadNs s) := by
  rw [execIdentify, onAdmin_of_runs hx]
  simp only [hcns]

/-- Identify answers with the controller, the attached namespaces, a namespace attached, and a PF's resources and secondaries. -/
theorem identify_answers (hx : Safety.AdminRuns s c x 0x06) :
    (bits x.e.cdw10 7 0 = 0x01 → ∃ t, exec (.identify c) s = .next t ∧ Safety.Answered t c (idController x.fn) ∧
      t = { s with ce := { s.ce with ctxs := t.ce.ctxs } }) ∧
    (bits x.e.cdw10 7 0 = 0x02 → ∃ t, exec (.identify c) s = .next t ∧ Safety.Answered t c (idNsList (ownNss s x.fn) x.e.nsid) ∧
      t = { s with ce := { s.ce with ctxs := t.ce.ctxs } }) ∧
    (∀ n, bits x.e.cdw10 7 0 = 0x00 → nsOf s x.e.nsid = some n → x.e.nsid ∈ namedNs s x →
      ∃ t, exec (.identify c) s = .next t ∧ Safety.Answered t c (idNamespace n) ∧ t = { s with ce := { s.ce with ctxs := t.ce.ctxs } }) ∧
    (bits x.e.cdw10 7 0 = 0x00 → x.e.nsid ∉ namedNs s x →
      ∃ t, exec (.identify c) s = .next t ∧ Safety.Ended t c stBadNs 0 ∧ t = { s with ce := { s.ce with ctxs := t.ce.ctxs } }) ∧
    (bits x.e.cdw10 7 0 = 0x14 → isPf x.fn = true →
      ∃ t, exec (.identify c) s = .next t ∧ Safety.Answered t c (idPrimary s x.fn) ∧ t = { s with ce := { s.ce with ctxs := t.ce.ctxs } }) ∧
    (bits x.e.cdw10 7 0 = 0x15 → isPf x.fn = true →
      ∃ t, exec (.identify c) s = .next t ∧ Safety.Answered t c (idSecondaries s x.fn (bits x.e.cdw10 31 16)) ∧
        t = { s with ce := { s.ce with ctxs := t.ce.ctxs } }) := by
  refine ⟨fun hcns => ?_, fun hcns => ?_, fun n hcns hn hown => ?_, fun hcns hown => ?_, fun hcns hpf => ?_, fun hcns hpf => ?_⟩
  case refine_3 => exact exec_identify_answered hx (by simp [execIdentify_namespace hx hcns, hown, hn])
  case refine_4 =>
    have hrefused : execIdentify c s = .next (fail c stBadNs s) := by simp [execIdentify_namespace hx hcns, hown]
    exact ⟨_, hrefused.trans (congrArg Host.Outcome.next (fail_of_adminRuns hx stBadNs)), ended_fail_of_adminRuns hx _, rfl⟩
  all_goals
    refine exec_identify_answered hx ?_
    rw [execIdentify, onAdmin_of_runs hx]
  · simp only [hcns]
  · simp only [hcns]
  · simp only [hcns, hpf, if_true]
  · simp only [hcns, hpf, if_true]

end

/-! ### Namespaces created (04_tenants.md R123) -/

/-- A key that a table lists is one of its entries'. -/
theorem mem_keys_of_tfind {α : Type} {t : List (Nat × α)} {k : Nat} (h : tfind t k ≠ none) : k ∈ t.map Prod.fst := by
  obtain ⟨v, hv⟩ := Option.ne_none_iff_exists'.1 h
  exact List.mem_map_of_mem (mem_of_tfind hv)

/-- A table of fewer entries than there are keys leaves one free. -/
theorem exists_pickFree {α : Type} {t : List (Nat × α)} {n : Nat} (h : t.length < n) (lo r : Nat) :
    ∃ k, pickFree t lo n r = some k ∧ lo ≤ k ∧ k < lo + n ∧ tfind t k = none := by
  have hmin : Nat.min n (t.length + 1) = t.length + 1 := Nat.min_eq_right h
  rw [pickFree, hmin]
  cases hfind : List.find? (fun k => (tfind t k).isNone) ((List.range (t.length + 1)).map (fun i => lo + (r + i) % n)) with
  | some k =>
    obtain ⟨i, -, rfl⟩ := List.mem_map.1 (List.mem_of_find?_eq_some hfind)
    have hlt : (r + i) % n < n := Nat.mod_lt _ (by omega)
    exact ⟨_, rfl, by omega, by omega, by simpa using List.find?_some hfind⟩
  | none =>
    have hdistinct : ((List.range (t.length + 1)).map (fun i => lo + (r + i) % n)).Nodup := by
      refine List.nodup_range.map_on fun i hi j hj heq => ?_
      have hi' := List.mem_range.1 hi
      have hj' := List.mem_range.1 hj
      have hmod : r + i ≡ r + j [MOD n] := Nat.add_left_cancel heq
      exact (Nat.ModEq.add_left_cancel' r hmod).eq_of_lt_of_lt (by omega) (by omega)
    have hlisted : (List.range (t.length + 1)).map (fun i => lo + (r + i) % n) ⊆ t.map Prod.fst := fun k hk => by
      have hk' := List.find?_eq_none.1 hfind k hk
      exact mem_keys_of_tfind (by simpa using hk')
    simpa using (List.subperm_of_subset hdistinct hlisted).length_le

section
variable {s : State} {c : Nat} {x : Ctx}

/-- The namespace that a Create makes. -/
def createdNs (s : State) (x : Ctx) : Ns :=
  { zones := fieldAt x.e.payload 0 8 / zoneLbas, mor := fieldAt x.e.payload 3840 4 + 1, mar := fieldAt x.e.payload 3844 4 + 1,
    dflt := dfltShape s (pfOf x), hist := { since := s.ck.tb } }

/-- The state with a namespace created. -/
def nsCreated (s : State) (x : Ctx) (n : Nat) : State := tookFree (onZe (fun z => { z with nss := tset n (createdNs s x) z.nss }) s)

theorem reqLimit_of_le {v dev : Nat} (h : v ≤ 16383) : reqLimit v dev = v + 1 := if_neg (by omega)

/-- The fields of a Create that the device can meet. -/
def CreateValid (s : State) (x : Ctx) : Prop :=
  bits x.e.cdw11 31 24 = 2 ∧ fieldAt x.e.payload 26 1 = 0 ∧ fieldAt x.e.payload 0 8 = fieldAt x.e.payload 8 8 ∧ fieldAt x.e.payload 0 8 ≠ 0 ∧
    fieldAt x.e.payload 0 8 % zoneLbas = 0 ∧ fieldAt x.e.payload 3840 4 ≤ 4095 ∧ fieldAt x.e.payload 3844 4 ≤ 16383 ∧
    fieldAt x.e.payload 3840 4 ≤ fieldAt x.e.payload 3844 4 ∧ totalZones s + fieldAt x.e.payload 0 8 / zoneLbas ≤ 819200

theorem exec_namespaceCreate (hx : Safety.AdminRuns s c x 0x0D) (hsel : bits x.e.cdw10 3 0 = 0) (hv : CreateValid s x) {n : Nat}
    (hn : pickFree s.ze.nss 1 4096 (freeVal s) = some n) :
    exec (.namespaceCreate c) s = .next (modCtx c (withStatus stOk n 0) (nsCreated s x n)) := by
  obtain ⟨hcsi, hflags, hcap, hne, hmod, hmor, hmar, hle, hroom⟩ := hv
  rw [exec, execNamespaceCreate, onAdmin_of_runs hx, ← complete_of_adminRuns (t := nsCreated s x n) hx hx.1.1 rfl]
  have hpolicy : bits 0 6 5 = 0 := rfl
  simp [hsel, hcsi, hflags, hpolicy, ← hcap, hne, hmod, hmor, hmar, hle, hn, reqLimit_of_le hmar, reqLimit_of_le (hmor.trans (by omega)),
    Nat.not_lt.2 hroom, nsCreated, createdNs]

/-- A Create takes a free identifier, and its namespace is detached with the limits asked for. -/
theorem namespace_created (hx : Safety.AdminRuns s c x 0x0D) (hsel : bits x.e.cdw10 3 0 = 0) (hv : CreateValid s x) (hfree : s.ze.nss.length < 4096) :
    ∃ t n y, exec (.namespaceCreate c) s = .next t ∧ 1 ≤ n ∧ n ≤ 4096 ∧ nsOf s n = none ∧ Safety.Ended t c stOk n ∧ nsOf t n = some y ∧
      y.zones = fieldAt x.e.payload 0 8 / zoneLbas ∧ y.mor = fieldAt x.e.payload 3840 4 + 1 ∧ y.mar = fieldAt x.e.payload 3844 4 + 1 ∧
      y.attached = none ∧ y.dflt.density = 1 ∧ y.dflt.comp = false ∧ y.dflt.life = 1 ∧ y.hist = { since := s.ck.tb } ∧
      (∀ k, k ≠ n → nsOf t k = nsOf s k) ∧ t = { s with ze := { s.ze with nss := t.ze.nss }, ce := { s.ce with ctxs := t.ce.ctxs }, free := t.free } := by
  obtain ⟨n, hn, hlo, hhi, hnone⟩ := exists_pickFree hfree 1 (freeVal s)
  exact ⟨_, n, createdNs s x, exec_namespaceCreate hx hsel hv hn, hlo, by omega, hnone, ended_modCtx_withStatus (x := x) (by exact hx.1.1) _ _ _,
    tfind_tset_same _ _ _, rfl, rfl, rfl, rfl, rfl, rfl, rfl, rfl, fun k hk => tfind_tset_other hk _ _, rfl⟩

end

/-! ### Namespaces attached and detached (04_tenants.md R124, R125) -/

section
variable {s : State} {c fn : Nat} {x : Ctx} {n : Ns}

/-- A Namespace Attachment with one controller on its list acts on it. -/
theorem onAttach_of_runs {sel : Nat} (hx : Safety.AdminRuns s c x 0x15) (hsel : bits x.e.cdw10 3 0 = sel) (hn : nsOf s x.e.nsid = some n)
    (hlist : attachList x.e = [some fn]) (f : Ctx → List Nat → Ns → State → State) : onAttach c sel f s = f x [fn] n s := by
  rw [onAttach, onAdmin_of_runs hx]
  simp [hsel, hn, hlist]

theorem exec_namespaceAttach (hx : Safety.AdminRuns s c x 0x15) (hsel : bits x.e.cdw10 3 0 = 0) (hn : nsOf s x.e.nsid = some n)
    (hlist : attachList x.e = [some fn]) (hnone : n.attached = none) : exec (.namespaceAttach c) s =
      .next (modCtx c (withStatus stOk 0 0) (modNs x.e.nsid (fun y => { y with attached := some fn }) s)) := by
  rw [exec, execNamespaceAttach, onAttach_of_runs hx hsel hn hlist, ← succeed_of_adminRuns hx (by exact hx.1.1) (by rfl)]
  simp [hnone]

theorem namespace_attached (hx : Safety.AdminRuns s c x 0x15) (hsel : bits x.e.cdw10 3 0 = 0) (hn : nsOf s x.e.nsid = some n)
    (hlist : attachList x.e = [some fn]) (hnone : n.attached = none) :
    ∃ t, exec (.namespaceAttach c) s = .next t ∧ Safety.Ended t c stOk 0 ∧ nsOf t x.e.nsid = some { n with attached := some fn } ∧
      (∀ k, k ≠ x.e.nsid → nsOf t k = nsOf s k) ∧ t = { s with ze := { s.ze with nss := t.ze.nss }, ce := { s.ce with ctxs := t.ce.ctxs } } :=
  ⟨_, exec_namespaceAttach hx hsel hn hlist hnone, ended_modCtx_withStatus (x := x) (by exact hx.1.1) _ _ _,
    by rw [nsOf_modCtx, nsOf_modNs_same, hn, Option.map_some], fun k hk => nsOf_modNs_other hk _ _, rfl⟩

theorem talter_single {α : Type} (k : Nat) (f : α → α) (v : α) : talter k f [(k, v)] = [(k, f v)] := by
  simp [talter, tfind, tset, tdel, tins]

theorem ctxOf_of_alone {u : State} {y : Ctx} (hctxs : u.ce.ctxs = [(c, y)]) : ctxOf u c = some y := by
  simp [ctxOf, hctxs, tfind]

/-- A detach or a delete alone among the commands: it acts at once. -/
theorem settleDetach_of_alone {u : State} {y : Ctx} (hctxs : u.ce.ctxs = [(c, y)]) (hopc : y.e.opc = 0x15 ∨ y.e.opc = 0x0D) (hst : y.st = .committed)
    (hc : c < ioCtx) : settleDetach u = succeed c (forEach (y.covered.map (fun n => n.1)) deleteNs u) := by
  have hidle : nsBusy u c y = false := by simp [nsBusy, hctxs]
  rcases hopc with hopc | hopc <;> simp [settleDetach, hctxs, hopc, hst, hc, hidle, forEach_cons, forEach_nil]

/-- A detach that has taken effect. -/
def detaching (x : Ctx) (fn : Nat) : Ctx := { x with st := .committed, nsid := x.e.nsid, zone := fn }
def nsDetached (s : State) (c : Nat) (x : Ctx) (fn : Nat) : State :=
  modCtx c (fun y => { y with st := .committed, nsid := x.e.nsid, zone := fn }) (modNs x.e.nsid (fun y => { y with attached := none }) s)

theorem exec_namespaceDetach (hx : Safety.AdminRuns s c x 0x15) (hsel : bits x.e.cdw10 3 0 = 1) (hn : nsOf s x.e.nsid = some n)
    (hlist : attachList x.e = [some fn]) (hatt : n.attached = some fn) (hctxs : s.ce.ctxs = [(c, x)]) (hc : c < ioCtx) (hcov : x.covered = []) :
    exec (.namespaceDetach c) s = .next (modCtx c (withStatus stOk 0 0) (nsDetached s c x fn)) := by
  have hctxs' : (nsDetached s c x fn).ce.ctxs = [(c, detaching x fn)] := (congrArg (talter c _) hctxs).trans (talter_single c _ x)
  obtain ⟨⟨-, hopc, -, htun, hfresh⟩, hadm⟩ := id hx
  have hsettle : settleDetach (nsDetached s c x fn) = succeed c (nsDetached s c x fn) := by
    rw [settleDetach_of_alone hctxs' (.inl hopc) rfl hc]
    simp [detaching, hcov, forEach_nil]
  have hend : succeed c (nsDetached s c x fn) = modCtx c (withStatus stOk 0 0) (nsDetached s c x fn) :=
    complete_of_quiet (ctxOf_of_alone hctxs') htun (by exact hfresh) (by simp [detaching]) (.inr hadm) 0 0
  rw [exec, execNamespaceDetach, onAttach_of_runs hx hsel hn hlist, ← hend, ← hsettle]
  simp [hatt, nsDetached]

theorem namespace_detached (hx : Safety.AdminRuns s c x 0x15) (hsel : bits x.e.cdw10 3 0 = 1) (hn : nsOf s x.e.nsid = some n)
    (hlist : attachList x.e = [some fn]) (hatt : n.attached = some fn) (hctxs : s.ce.ctxs = [(c, x)]) (hc : c < ioCtx) (hcov : x.covered = []) :
    ∃ t, exec (.namespaceDetach c) s = .next t ∧ Safety.Ended t c stOk 0 ∧ nsOf t x.e.nsid = some { n with attached := none } ∧
      (∀ k, k ≠ x.e.nsid → nsOf t k = nsOf s k) ∧ t = { s with ze := { s.ze with nss := t.ze.nss }, ce := { s.ce with ctxs := t.ce.ctxs } } := by
  refine ⟨_, exec_namespaceDetach hx hsel hn hlist hatt hctxs hc hcov, ended_modCtx_withStatus (x := detaching x fn) ?_ _ _ _, ?_,
    fun k hk => nsOf_modNs_other hk _ _, rfl⟩
  · rw [nsDetached, ctxOf_modCtx_same]
    exact congrArg (Option.map _) hx.1.1
  · rw [nsOf_modCtx, nsDetached, nsOf_modCtx, nsOf_modNs_same, hn, Option.map_some]

end

end Sys2Proof.Machine

/-! PROOFS. Rules of the data discarded when a zone is reset: of the zone table it changes that zone alone (02_zones.md R62 to R65; 10_granary.md
R287). -/

namespace Sys2Proof.Machine

/-! ### What the bookkeeping leaves of the zone table -/

/-- The namespaces, the zone table, and whether recovered items wait for room in the Granary. -/
def zonePart (s : State) : List (Nat × Ns) × List (Nat × Zone) × Bool := (s.ze.nss, s.ze.zones, s.gr.unplaced)

theorem zonePart_of_offLink {s t : State} (h : offLink t = offLink s) : zonePart t = zonePart s := (congrArg zonePart h :)
theorem zonePart_of_offCipher {s t : State} (h : offCipher t = offCipher s) : zonePart t = zonePart s := (congrArg zonePart h :)
theorem zonePart_of_offEngine {s t : State} (h : offEngine t = offEngine s) : zonePart t = zonePart s := (congrArg zonePart h :)

@[simp] theorem zonePart_raise (src sev : Nat) (ps : List Nat) (s : State) : zonePart (raise src sev ps s) = zonePart s :=
  zonePart_of_offLink (offLink_raise src sev ps s)
@[simp] theorem zonePart_count (cnt ovf : Ref) (i n : Nat) (s : State) : zonePart (count cnt ovf i n s) = zonePart s :=
  zonePart_of_offLink (offLink_count cnt ovf i n s)
@[simp] theorem zonePart_onLr (f : Larder → Larder) (s : State) : zonePart (onLr f s) = zonePart s := rfl
@[simp] theorem zonePart_onFl (f : Flash → Flash) (s : State) : zonePart (onFl f s) = zonePart s := rfl
@[simp] theorem zonePart_setBuf (k : Nat) (b : Buf) (s : State) : zonePart (setBuf k b s) = zonePart s := rfl
@[simp] theorem zonePart_tookFree (s : State) : zonePart (tookFree s) = zonePart s := rfl

@[simp] theorem zonePart_grantBuf (p owner : Nat) (s : State) : zonePart (grantBuf p owner s) = zonePart s := by
  rw [grantBuf]
  cases pickFree (poolBusy s p) (bufKey p 0) (poolCount s p) (freeVal s) with
  | none => rfl
  | some k => exact (onlyIf_keeps zonePart _ _ _ (fun t => zonePart_raise _ _ _ t)).trans (by simp)

@[simp] theorem zonePart_lrServe (p : Nat) (s : State) : zonePart (lrServe p s) = zonePart s := by
  simp only [lrServe]
  split <;> simp

@[simp] theorem zonePart_lrOp (op issuer handle arg : Nat) (s : State) : zonePart (lrOp op issuer handle arg s) = zonePart s := by
  simp only [lrOp]
  split
  · simp [lrRefuse]
  split
  · rfl
  · rw [onlyIf_keeps zonePart _ _ _ (fun t => zonePart_lrServe _ t), onlyIf_keeps zonePart _ _ _ (fun t => by simp), zonePart_setBuf]

@[simp] theorem zonePart_putState (kind bytes a b : Nat) (s : State) : zonePart (putState kind bytes a b s) = zonePart s := by
  have hfresh (n : Nat) : zonePart (putItem.fresh kind bytes a b n s).2 = zonePart s := zonePart_grantBuf 5 _ s
  have hitem : zonePart (putItem kind bytes a b s).2 = zonePart s := by
    unfold putItem
    dsimp only
    split
    · split
      · rfl
      · exact hfresh _
    · exact hfresh _
  simp only [putState]
  split
  · exact hitem
  · rfl

@[simp] theorem zonePart_placeLate (s : State) : zonePart (placeLate s) = zonePart s := by
  simp only [placeLate]
  split
  · rfl
  · exact forEach_keeps zonePart _ (fun _ t => zonePart_putState _ _ _ _ t) _ _

theorem unplaced_of_zonePart {s t : State} (h : zonePart t = zonePart s) : t.gr.unplaced = s.gr.unplaced := congrArg (fun p => p.2.2) h

/-- An item released moves no recovered data where none waits for room. -/
theorem zonePart_freeItem {s : State} (hun : s.gr.unplaced = false) (k : Nat) : zonePart (freeItem k s) = zonePart s := by
  have hdrop : zonePart (placeLate (dropSeg k s)) = zonePart s := by
    rw [zonePart_placeLate, dropSeg]
    split
    · rfl
    · exact zonePart_lrOp _ _ _ _ _
  have hrest : segsFreed (dropSeg k s) = placeLate (dropSeg k s) := by
    simp [segsFreed, placeRest, unplaced_of_zonePart hdrop, hun]
  unfold freeItem
  split
  · rfl
  split
  · rfl
  · rw [hrest, hdrop]

@[simp] theorem zonePart_sendRecord (item : Nat × Nat) (f : TxFrame) (s : State) : zonePart (sendRecord item f s) = zonePart s := by
  simp only [sendRecord]
  split
  · exact (zonePart_of_offLink (offLink_sendFrame _ _)).trans rfl
  · rfl

@[simp] theorem zonePart_journal (r : JRec) (s : State) : zonePart (journal r s) = zonePart s := by
  simp only [journal, journalAll]
  rw [onlyIf_keeps zonePart _ _ _ (fun t => forEach_keeps zonePart _ (fun p t => zonePart_sendRecord _ _ t) _ t)]
  simp

@[simp] theorem zonePart_freeBand (b : Nat) (noData : Bool) (s : State) : zonePart (freeBand b noData s) = zonePart s := by
  have hrow (r : Nat) (t : State) : zonePart (settleRow r t) = zonePart t := by
    simp only [settleRow]
    split
    · rfl
    · rw [zonePart_raise, zonePart_journal]
      rfl
  simp only [freeBand, hrow]
  split
  · rfl
  · exact forEach_keeps zonePart _ (fun dk t => by rfl) _ _

@[simp] theorem zonePart_releaseCopies (gone : List (Nat × Nat)) (s : State) : zonePart (releaseCopies gone s) = zonePart s := by
  simp only [releaseCopies]
  split
  · rfl
  split
  · exact (forEach_keeps zonePart _ (fun l t => zonePart_of_offLink (offLink_sendFrame _ t)) _ _).trans rfl
  · rfl

@[simp] theorem zonePart_settleAll (s : State) : zonePart (settleAll s) = zonePart s := zonePart_of_offEngine (offEngine_settleAll s)

/-! ### One zone of the zone table changed -/

/-- From one state to another no namespace changes and no zone but those of a kind, and no recovered item begins to wait for room. -/
structure ZonesOnly (p : Nat → Prop) (s t : State) : Prop where
  nss : t.ze.nss = s.ze.nss
  unplaced : t.gr.unplaced = s.gr.unplaced
  zones : ∀ k, ¬ p k → zoneOf t k = zoneOf s k

section
variable {p : Nat → Prop} {s t u : State} {key : Nat}

theorem ZonesOnly.refl (p : Nat → Prop) (s : State) : ZonesOnly p s s := ⟨rfl, rfl, fun _ _ => rfl⟩

theorem ZonesOnly.trans (h : ZonesOnly p s t) (h' : ZonesOnly p t u) : ZonesOnly p s u :=
  ⟨h'.nss.trans h.nss, h'.unplaced.trans h.unplaced, fun k hk => (h'.zones k hk).trans (h.zones k hk)⟩

theorem zoneOf_of_zonePart (h : zonePart t = zonePart s) (k : Nat) : zoneOf t k = zoneOf s k :=
  congrArg (fun q : List (Nat × Ns) × List (Nat × Zone) × Bool => tget ({} : Zone) q.2.1 k) h

theorem zonesOnly_of_zonePart (h : zonePart t = zonePart s) : ZonesOnly p s t :=
  ⟨congrArg Prod.fst h, unplaced_of_zonePart h, fun k _ => zoneOf_of_zonePart h k⟩

theorem zonesOnly_modZone (hp : p key) (f : Zone → Zone) (s : State) : ZonesOnly p s (modZone key f s) :=
  ⟨rfl, rfl, fun k hk => zoneOf_modZone_other (k := k) (fun h => hk (by rwa [h])) f s⟩

theorem zonesOnly_forEach {α : Type} {f : α → State → State} (l : List α) (h : ∀ a ∈ l, ∀ t, t.gr.unplaced = false → ZonesOnly p t (f a t))
    (hun : s.gr.unplaced = false) : ZonesOnly p s (forEach l f s) := by
  induction l generalizing s with
  | nil => exact ZonesOnly.refl p s
  | cons a r ih =>
    have ha := h a (by simp) s hun
    exact ha.trans (ih (fun b hb => h b (by simp [hb])) (ha.unplaced.trans hun))

theorem zonesOnly_noteDelta (hp : p key) (s : State) : ZonesOnly p s (noteDelta key s) := by
  obtain ⟨f, h⟩ := noteDelta_eq key s
  have hplace : ZonesOnly p s (placeDelta key s) := by
    unfold placeDelta
    split
    · exact ZonesOnly.refl p s
    · exact (zonesOnly_of_zonePart (zonePart_putState _ _ _ _ s)).trans (zonesOnly_modZone hp _ _)
  have hjournal (t : State) : ZonesOnly p t (journalDelta key t) := by
    unfold journalDelta
    split
    · exact ((zonesOnly_of_zonePart (zonePart_journal _ t)).trans (zonesOnly_modZone hp _ _)).trans (zonesOnly_of_zonePart (by rfl))
    · exact ZonesOnly.refl p t
  rw [h]
  exact (hplace.trans (hjournal _)).trans (zonesOnly_of_zonePart (zonePart_sendRecord _ _ _))

theorem zonesOnly_dropMove (hp : p key) (reason : Nat) (s : State) : ZonesOnly p s (dropMove key reason s) := by
  simp only [dropMove]
  split
  · exact ZonesOnly.refl p s
  · refine ZonesOnly.trans (t := nextRelGen key s) ?_ (ZonesOnly.trans (zonesOnly_modZone hp (fun z => { z with move := none }) _)
      (zonesOnly_of_zonePart ?_))
    · exact (zonesOnly_of_zonePart (zonePart_onFl _ s)).trans (zonesOnly_modZone hp _ _)
    · rw [zonePart_raise, forEach_keeps zonePart _ (fun k t => zonePart_of_offCipher (offCipher_settleSlot k t)), zonePart_freeBand]

theorem zonesOnly_dropZoneData (hp : p key) (hun : s.gr.unplaced = false) : ZonesOnly p s (dropZoneData key s) := by
  simp only [dropZoneData]
  refine ZonesOnly.trans (ZonesOnly.trans ?_ (zonesOnly_of_zonePart (zonePart_releaseCopies _ _))) (zonesOnly_modZone hp _ _)
  exact zonesOnly_forEach _ (fun k _ t ht => zonesOnly_of_zonePart (zonePart_freeItem ht k)) hun

theorem zonesOnly_unbind (hp : p key) (noData : Bool) (s : State) : ZonesOnly p s (unbind key noData s) := by
  cases hband : (zoneOf s key).band with
  | none =>
    rw [show unbind key noData s = s by simp only [unbind, hband]]
    exact ZonesOnly.refl p s
  | some b =>
    rw [show unbind key noData s = freeBand b noData (modZone key (fun z => { z with band := none }) s) by simp only [unbind, hband]]
    exact (zonesOnly_modZone hp _ s).trans (zonesOnly_of_zonePart (zonePart_freeBand _ _ _))

/-- The data of a zone discarded changes no other zone. -/
theorem zonesOnly_discardZone (hp : p key) (hun : s.gr.unplaced = false) : ZonesOnly p s (discardZone key s) := by
  have hmarks : ZonesOnly p s (discardMarks key s) := zonesOnly_of_zonePart (by rfl)
  have hmove := hmarks.trans (zonesOnly_dropMove hp 2 (discardMarks key s))
  have hdata := hmove.trans (zonesOnly_dropZoneData hp (hmove.unplaced.trans hun))
  exact (hdata.trans (zonesOnly_unbind hp false _)).trans (zonesOnly_of_zonePart (zonePart_settleAll _))

/-- A reset changes no other zone. -/
theorem zonesOnly_resetZone (hp : p key) (hun : s.gr.unplaced = false) : ZonesOnly p s (resetZone key s) :=
  ((zonesOnly_discardZone hp hun).trans (zonesOnly_modZone hp _ _)).trans (zonesOnly_noteDelta hp _)

end

/-- A zone without data. -/
def ZoneBlank (z : Zone) : Prop := z.st = .empty ∧ z.wp = 0 ∧ z.units = [] ∧ z.frames = []

theorem zoneBlank_resetZone (key : Nat) (s : State) : ZoneBlank (zoneOf (resetZone key s) key) := by
  obtain ⟨n, hn⟩ := zoneOf_noteDelta_same key
    (modZone key (fun z => { relGen := z.relGen, lastWrite := z.lastWrite, waiting := z.waiting, deltas := z.deltas }) (discardZone key s))
  rw [resetZone, hn]
  simp [ZoneBlank, zoneOf_modZone_same]

/-- A reset ends no admin command that has started. -/
theorem adminStarted_discardZone {c : Nat} {s : State} (key : Nat) (hs : AdminStarted c s) : AdminStarted c (discardZone key s) := by
  have hmarks : AdminStarted c (discardMarks key s) := by
    obtain ⟨y, hy, hst, hadm, htun, hfresh⟩ := hs
    exact ⟨discardedCtx key y, by rw [ctxOf_discardMarks, hy, Option.map_some], hst, hadm, htun, hfresh⟩
  rw [discardZone_eq]
  exact adminStarted_settleAll (adminStarted_of_ce (ce_of_hostSide (by simp)) hmarks)

theorem adminStarted_resetZone {c : Nat} {s : State} (key : Nat) (hs : AdminStarted c s) : AdminStarted c (resetZone key s) := by
  rw [resetZone]
  refine adminStarted_of_ce (ce_of_hostSide ?_) (adminStarted_discardZone key hs)
  rw [hostSide_noteDelta, hostSide_modZone]

end Sys2Proof.Machine

/-! PROOFS. The statement of Identify and the management of namespaces: Format and Delete (02_zones.md R48, R64; 03_queues.md R110; 04_tenants.md
R117, R118, R123 to R125). -/

namespace Sys2Proof.Machine

/-! ### The end of an admin command that has started -/

theorem adminStarted_of_adminRuns {s : State} {c opc : Nat} {x : Ctx} (hx : Safety.AdminRuns s c x opc) : AdminStarted c s := by
  obtain ⟨⟨hctx, -, hst, htun, hfresh⟩, hadm⟩ := hx
  exact ⟨x, hctx, hst, hadm, htun, hfresh⟩

theorem succeed_of_adminStarted {c : Nat} {t : State} (h : AdminStarted c t) : succeed c t = modCtx c (withStatus stOk 0 0) t := by
  obtain ⟨y, hy, hst, hadm, htun, hfresh⟩ := h
  exact complete_of_quiet hy htun hfresh (by simp [hst]) (.inr hadm) 0 0

theorem ended_of_adminStarted {c : Nat} {t : State} (h : AdminStarted c t) : Safety.Ended (modCtx c (withStatus stOk 0 0) t) c stOk 0 := by
  obtain ⟨y, hy, -⟩ := h
  exact ended_modCtx_withStatus hy _ _ _

/-! ### Format NVM (02_zones.md R64) -/

theorem mem_zonesFrom {s : State} {n k : Nat} : k ∈ zonesFrom s n 0 ↔ k ∈ s.ze.zones.map Prod.fst ∧ zNsid k = n := by
  simp only [zonesFrom, List.mem_filterMap, List.mem_map]
  constructor
  · rintro ⟨p, hp, hk⟩
    by_cases hn : zNsid p.1 = n
    · obtain rfl : p.1 = k := by simpa [hn] using hk
      exact ⟨⟨p, hp, rfl⟩, hn⟩
    · simp [hn] at hk
  · rintro ⟨⟨p, hp, rfl⟩, hn⟩
    exact ⟨p, hp, by simp [hn]⟩

/-- A zone of a namespace formatted: one that is neither Read Only nor Offline is reset. -/
def formatZone (key : Nat) (t : State) : State :=
  if (zoneOf t key).st == .readOnly || (zoneOf t key).st == .offline then t else resetZone key t

section
variable {p : Nat → Prop} {s : State} {key k : Nat}

theorem formatZone_of_writable (hro : (zoneOf s key).st ≠ .readOnly) (hoff : (zoneOf s key).st ≠ .offline) : formatZone key s = resetZone key s := by
  simp [formatZone, hro, hoff]

theorem zonesOnly_formatZone (hp : p key) (hun : s.gr.unplaced = false) : ZonesOnly p s (formatZone key s) := by
  unfold formatZone
  split
  · exact ZonesOnly.refl p s
  · exact zonesOnly_resetZone hp hun

theorem adminStarted_formatZone {c : Nat} (key : Nat) (hs : AdminStarted c s) : AdminStarted c (formatZone key s) := by
  unfold formatZone
  split
  · exact hs
  · exact adminStarted_resetZone key hs

/-- A zone without data stays so under the format of any zone. -/
theorem zoneBlank_formatZone (hun : s.gr.unplaced = false) (h : ZoneBlank (zoneOf s k)) (key : Nat) : ZoneBlank (zoneOf (formatZone key s) k) := by
  by_cases hk : k = key
  · subst hk
    obtain ⟨hst, -⟩ := id h
    rw [formatZone_of_writable (by simp [hst]) (by simp [hst])]
    exact zoneBlank_resetZone k s
  · rwa [(zonesOnly_formatZone (p := (· = key)) rfl hun).zones k hk]

theorem zoneBlank_forEach_formatZone (l : List Nat) (hun : s.gr.unplaced = false) (h : ZoneBlank (zoneOf s k)) :
    ZoneBlank (zoneOf (forEach l formatZone s) k) := by
  induction l generalizing s with
  | nil => exact h
  | cons key r ih =>
    exact ih ((zonesOnly_formatZone (p := (· = key)) rfl hun).unplaced.trans hun) (zoneBlank_formatZone hun h key)

/-- Each zone of a list of zones formatted that is neither Read Only nor Offline is left without data. -/
theorem forEach_formatZone_blank {l : List Nat} (hk : k ∈ l) (hun : s.gr.unplaced = false) (hro : (zoneOf s k).st ≠ .readOnly)
    (hoff : (zoneOf s k).st ≠ .offline) : ZoneBlank (zoneOf (forEach l formatZone s) k) := by
  induction l generalizing s with
  | nil => simp at hk
  | cons key r ih =>
    have honly := zonesOnly_formatZone (p := (· = key)) rfl hun
    have hun' := honly.unplaced.trans hun
    by_cases heq : k = key
    · subst heq
      refine zoneBlank_forEach_formatZone r hun' ?_
      have hreset := zoneBlank_resetZone k s
      rwa [← formatZone_of_writable hro hoff] at hreset
    · have hsame := honly.zones k heq
      exact ih ((List.mem_cons.1 hk).resolve_left heq) hun' (by rwa [hsame]) (by rwa [hsame])

end

section
variable {s : State} {c : Nat} {x : Ctx} {n : Ns}

/-- The zones that a Format acts on. -/
def formatKeys (s : State) (x : Ctx) : List Nat := (namedNs s x).flatMap (fun n => zonesFrom s n 0)

theorem mem_formatKeys (hown : x.e.nsid ∈ namedNs s x) (hall : x.e.nsid ≠ 0xFFFFFFFF) {k : Nat} :
    k ∈ formatKeys s x ↔ k ∈ s.ze.zones.map Prod.fst ∧ zNsid k = x.e.nsid := by
  simp only [formatKeys, List.mem_flatMap, mem_zonesFrom]
  constructor
  · rintro ⟨m, hm, hk, hnsid⟩
    exact ⟨hk, hnsid.trans (eq_of_mem_namedNs hall hm)⟩
  · exact fun h => ⟨x.e.nsid, hown, h⟩

theorem exec_formatNvm (hx : Safety.AdminRuns s c x 0x80) (hses : bits x.e.cdw10 11 9 = 0) (hlbaf : bits x.e.cdw10 3 0 = 0)
    (hext : bits x.e.cdw10 13 12 = 0) (hown : x.e.nsid ∈ namedNs s x) (hidle : ∀ k ∈ formatKeys s x, (zoneOf s k).queue = []) :
    exec (.formatNvm c) s = .next (succeed c (forEach (formatKeys s x) formatZone s)) := by
  have hne : (namedNs s x).isEmpty = false := by simpa using List.ne_nil_of_mem hown
  have hqueues : (formatKeys s x).any (fun k => !(zoneOf s k).queue.isEmpty) = false := by
    simpa [List.any_eq_false] using hidle
  rw [formatKeys] at hqueues
  rw [exec, execFormatNvm, onAdmin_of_runs hx]
  simp only [hses, hlbaf, hext, hne, hqueues, bne_self_eq_false, Bool.or_self, Bool.false_eq_true, if_false]
  rfl

theorem namespace_formatted (hx : Safety.AdminRuns s c x 0x80) (hses : bits x.e.cdw10 11 9 = 0) (hlbaf : bits x.e.cdw10 3 0 = 0)
    (hext : bits x.e.cdw10 13 12 = 0) (hn : nsOf s x.e.nsid = some n) (hown : x.e.nsid ∈ namedNs s x) (hall : x.e.nsid ≠ 0xFFFFFFFF)
    (hidle : ∀ k z, tfind s.ze.zones k = some z → zNsid k = x.e.nsid → z.queue = []) (hun : s.gr.unplaced = false) :
    ∃ t, exec (.formatNvm c) s = .next t ∧ Safety.Ended t c stOk 0 ∧ nsOf t x.e.nsid = some n ∧
      (∀ k, zNsid k = x.e.nsid → (zoneOf s k).st ≠ .readOnly → (zoneOf s k).st ≠ .offline → (zoneOf t k).st = .empty ∧ (zoneOf t k).wp = 0 ∧
        (zoneOf t k).units = [] ∧ (zoneOf t k).frames = []) ∧
      (∀ k, zNsid k ≠ x.e.nsid → zoneOf t k = zoneOf s k) := by
  have hkeys {k : Nat} := mem_formatKeys hown hall (k := k)
  have hidle' : ∀ k ∈ formatKeys s x, (zoneOf s k).queue = [] := fun k hk => by
    cases hz : tfind s.ze.zones k with
    | none => simp [zoneOf, tget, hz]
    | some z => simpa [zoneOf, tget, hz] using hidle k z hz (hkeys.1 hk).2
  have honly : ZonesOnly (· ∈ formatKeys s x) s (forEach (formatKeys s x) formatZone s) :=
    zonesOnly_forEach _ (fun k hk t ht => zonesOnly_formatZone hk ht) hun
  have hstarted : AdminStarted c (forEach (formatKeys s x) formatZone s) :=
    forEach_inv (fun k t ht => adminStarted_formatZone k ht) _ _ (adminStarted_of_adminRuns hx)
  refine ⟨_, (exec_formatNvm hx hses hlbaf hext hown hidle').trans (congrArg Host.Outcome.next (succeed_of_adminStarted hstarted)),
    ended_of_adminStarted hstarted, (congrArg (fun l => tfind l x.e.nsid) honly.nss).trans hn, fun k hk hro hoff => ?_,
    fun k hk => honly.zones k fun hmem => hk (hkeys.1 hmem).2⟩
  by_cases hmem : k ∈ formatKeys s x
  · exact forEach_formatZone_blank hmem hun hro hoff
  · have hnone : tfind s.ze.zones k = none := by
      by_contra hlisted
      exact hmem (hkeys.2 ⟨mem_keys_of_tfind hlisted, hk⟩)
    have hzone : zoneOf (modCtx c (withStatus stOk 0 0) (forEach (formatKeys s x) formatZone s)) k = {} :=
      (honly.zones k hmem).trans (by simp [zoneOf, tget, hnone])
    rw [hzone]
    exact ⟨rfl, rfl, rfl, rfl⟩

end

/-! ### Namespaces deleted (04_tenants.md R123, R125) -/

/-- The entry of a key in a table from which the keys that fail a test are left out. -/
theorem tfind_filter_key {α : Type} (q : Nat → Bool) (t : List (Nat × α)) (k : Nat) :
    tfind (t.filter (fun p => q p.1)) k = if q k then tfind t k else none := by
  induction t with
  | nil => simp [tfind]
  | cons p r ih =>
    obtain ⟨j, v⟩ := p
    by_cases hj : j = k
    · subst hj
      cases hq : q j <;> simp_all [tfind]
    · cases hq : q j <;> simp_all [tfind]

/-- From one state to another no namespace but one changes, and no zone of another, and no recovered item begins to wait for room. -/
structure NsOnly (n : Nat) (s t : State) : Prop where
  unplaced : t.gr.unplaced = s.gr.unplaced
  nss : ∀ k, k ≠ n → nsOf t k = nsOf s k
  zones : ∀ k, zNsid k ≠ n → zoneOf t k = zoneOf s k

/-- A namespace and all its zones are gone. -/
def NsGone (n : Nat) (t : State) : Prop := nsOf t n = none ∧ ∀ k, zNsid k = n → tfind t.ze.zones k = none

section
variable {n : Nat} {s t u : State} {l : List Nat}

theorem NsOnly.trans (h : NsOnly n s t) (h' : NsOnly n t u) : NsOnly n s u :=
  ⟨h'.unplaced.trans h.unplaced, fun k hk => (h'.nss k hk).trans (h.nss k hk), fun k hk => (h'.zones k hk).trans (h.zones k hk)⟩

theorem zonesOnly_forEach_discardZone (hun : s.gr.unplaced = false) :
    ZonesOnly (fun k => zNsid k = n) s (forEach (zonesFrom s n 0) discardZone s) :=
  zonesOnly_forEach _ (fun _ hk _ ht => zonesOnly_discardZone (mem_zonesFrom.1 hk).2 ht) hun

theorem nsOnly_deleteNs (hun : s.gr.unplaced = false) : NsOnly n s (deleteNs n s) := by
  have honly := zonesOnly_forEach_discardZone (n := n) hun
  refine ⟨honly.unplaced, fun k hk => ?_, fun k hk => ?_⟩
  · exact (tfind_tdel_other hk _).trans (congrArg (fun l => tfind l k) honly.nss)
  · refine Eq.trans ?_ (honly.zones k hk)
    have hkept := tfind_filter_key (fun j => zNsid j != n) (forEach (zonesFrom s n 0) discardZone s).ze.zones k
    rw [if_pos (by simpa using hk)] at hkept
    exact congrArg (fun z => z.getD {}) hkept

theorem nsGone_deleteNs (n : Nat) (s : State) : NsGone n (deleteNs n s) :=
  ⟨tfind_tdel_same n _, fun k hk => (tfind_filter_key (fun j => zNsid j != n) _ k).trans (by simp [hk])⟩

/-- A namespace deleted once or more is gone, and nothing else is. -/
theorem forEach_deleteNs (hall : ∀ m ∈ l, m = n) (hne : l ≠ []) (hun : s.gr.unplaced = false) :
    NsOnly n s (forEach l deleteNs s) ∧ NsGone n (forEach l deleteNs s) := by
  induction l generalizing s with
  | nil => exact absurd rfl hne
  | cons m r ih =>
    obtain rfl : m = n := hall m (by simp)
    have honly := nsOnly_deleteNs (n := m) hun
    by_cases hr : r = []
    · rw [hr, forEach_cons, forEach_nil]
      exact ⟨honly, nsGone_deleteNs m s⟩
    · obtain ⟨hrest, hgone⟩ := ih (fun j hj => hall j (by simp [hj])) hr (honly.unplaced.trans hun)
      exact ⟨honly.trans hrest, hgone⟩

end

/-- A Delete past its commit point is alone among the commands and waits for nothing. -/
def DeletesAlone (c : Nat) (t : State) : Prop :=
  ∃ y, t.ce.ctxs = [(c, y)] ∧ (y.st = .committed ∧ y.e.opc = 0x0D ∧ y.sqid = 0 ∧ y.tunnel = false ∧ y.waitFlash = false ∧ y.waitMirror = false) ∧
    ctxFresh t y = true

section
variable {c : Nat} {t u : State}

theorem deletesAlone_of_ce (h : u.ce = t.ce) (ht : DeletesAlone c t) : DeletesAlone c u := by
  simpa only [DeletesAlone, ctxFresh, fnOf, h] using ht

theorem settleAll_of_deletesAlone (h : DeletesAlone c t) : settleAll t = t := by
  obtain ⟨y, hctxs, ⟨-, hopc, -, -, hwf, hwm⟩, -⟩ := h
  simp [settleAll, hctxs, hopc, hwf, hwm]

theorem deletesAlone_discardZone (key : Nat) (h : DeletesAlone c t) : DeletesAlone c (discardZone key t) := by
  have hmarks : DeletesAlone c (discardMarks key t) := by
    obtain ⟨y, hctxs, hkind, hfresh⟩ := h
    exact ⟨discardedCtx key y, congrArg (tmap (fun _ x => discardedCtx key x)) hctxs, hkind, hfresh⟩
  have hdata : DeletesAlone c (unbind key false (dropZoneData key (dropMove key 2 (discardMarks key t)))) :=
    deletesAlone_of_ce (ce_of_hostSide (by simp)) hmarks
  rwa [discardZone_eq, settleAll_of_deletesAlone hdata]

theorem deletesAlone_deleteNs (n : Nat) (h : DeletesAlone c t) : DeletesAlone c (deleteNs n t) :=
  deletesAlone_of_ce rfl (forEach_inv (fun key _ ht => deletesAlone_discardZone key ht) _ _ h)

theorem succeed_of_deletesAlone (h : DeletesAlone c t) : succeed c t = modCtx c (withStatus stOk 0 0) t := by
  obtain ⟨y, hctxs, ⟨hst, -, hadm, htun, -⟩, hfresh⟩ := h
  exact complete_of_quiet (ctxOf_of_alone hctxs) htun hfresh (by simp [hst]) (.inr hadm) 0 0

theorem ended_of_deletesAlone (h : DeletesAlone c t) : Safety.Ended (modCtx c (withStatus stOk 0 0) t) c stOk 0 := by
  obtain ⟨y, hctxs, -⟩ := h
  exact ended_modCtx_withStatus (ctxOf_of_alone hctxs) _ _ _

end

section
variable {s : State} {c : Nat} {x : Ctx} {n : Ns}

/-- The namespaces that a Delete removes. -/
def deletedNss (s : State) (x : Ctx) : List Nat := (s.ze.nss.map (fun p => p.1)).filter (fun n => x.e.nsid == 0xFFFFFFFF || n == x.e.nsid)

theorem eq_of_mem_deletedNss (hall : x.e.nsid ≠ 0xFFFFFFFF) {m : Nat} (hm : m ∈ deletedNss s x) : m = x.e.nsid := by
  simpa [hall] using (List.mem_filter.1 hm).2

theorem deletedNss_ne_nil (hn : nsOf s x.e.nsid = some n) : deletedNss s x ≠ [] :=
  List.ne_nil_of_mem (List.mem_filter.2 ⟨List.mem_map_of_mem (mem_of_tfind hn), by simp⟩)

/-- The namespaces of a Delete detached. -/
def nssDetached (s : State) (x : Ctx) : State := forEach (deletedNss s x) (fun n => modNs n (fun y => { y with attached := none })) s

/-- A Delete that has taken effect. -/
def deleting (s : State) (x : Ctx) : Ctx := { x with st := .committed, covered := (deletedNss s x).map (fun n => (n, 0)) }
def deleteBegun (s : State) (c : Nat) (x : Ctx) : State :=
  modCtx c (fun y => { y with st := .committed, covered := (deletedNss s x).map (fun n => (n, 0)) }) (nssDetached s x)

theorem nsOnly_deleteBegun (hall : x.e.nsid ≠ 0xFFFFFFFF) : NsOnly x.e.nsid s (deleteBegun s c x) := by
  obtain ⟨nss, h⟩ := forEach_modNs_only (F := fun y => { y with attached := none }) (deletedNss s x) s
  have hdet : nssDetached s x = { s with ze := { s.ze with nss := nss } } := h
  refine ⟨?_, fun k hk => ?_, fun k _ => ?_⟩
  · rw [deleteBegun, hdet]
    rfl
  · exact nsOf_forEach_modNs_other (fun m hm => eq_of_mem_deletedNss hall hm) hk s
  · rw [deleteBegun, hdet]
    rfl

theorem ctxs_deleteBegun (hctxs : s.ce.ctxs = [(c, x)]) : (deleteBegun s c x).ce.ctxs = [(c, deleting s x)] := by
  have hce : (nssDetached s x).ce = s.ce := forEach_keeps State.ce _ (fun n t => by rfl) _ s
  rw [deleteBegun, modCtx, onCe_ce, hce, hctxs, talter_single]
  rfl

theorem deletesAlone_deleteBegun (hx : Safety.AdminRuns s c x 0x0D) (hctxs : s.ce.ctxs = [(c, x)]) (hwf : x.waitFlash = false)
    (hwm : x.waitMirror = false) : DeletesAlone c (deleteBegun s c x) := by
  obtain ⟨⟨-, hopc, -, htun, hfresh⟩, hadm⟩ := hx
  have hfns : (deleteBegun s c x).ce.fns = s.ce.fns := forEach_keeps (fun t => t.ce.fns) _ (fun n t => by rfl) _ s
  exact ⟨deleting s x, ctxs_deleteBegun hctxs, ⟨rfl, hopc, hadm, htun, hwf, hwm⟩, (ctxFresh_of_fnOf (x := x) (by rw [fnOf, fnOf, hfns])).trans hfresh⟩

theorem exec_namespaceDelete (hx : Safety.AdminRuns s c x 0x0D) (hsel : bits x.e.cdw10 3 0 = 1) (hn : nsOf s x.e.nsid = some n)
    (hctxs : s.ce.ctxs = [(c, x)]) (hc : c < ioCtx) :
    exec (.namespaceDelete c) s = .next (succeed c (forEach (deletedNss s x) deleteNs (deleteBegun s c x))) := by
  have hne : (deletedNss s x).isEmpty = false := by simpa using deletedNss_ne_nil hn
  have hsettle := settleDetach_of_alone (ctxs_deleteBegun hctxs) (.inr hx.1.2.1) rfl hc
  have hcov : (deleting s x).covered.map (fun n => n.1) = deletedNss s x := (List.map_map ..).trans (List.map_id _)
  rw [hcov] at hsettle
  rw [exec, execNamespaceDelete, onAdmin_of_runs hx, ← hsettle]
  rw [deletedNss] at hne
  simp only [hsel, hne, bne_self_eq_false, Bool.false_and, Bool.false_eq_true, if_false]
  rfl

theorem namespace_deleted (hx : Safety.AdminRuns s c x 0x0D) (hsel : bits x.e.cdw10 3 0 = 1) (hn : nsOf s x.e.nsid = some n)
    (hall : x.e.nsid ≠ 0xFFFFFFFF) (hctxs : s.ce.ctxs = [(c, x)]) (hc : c < ioCtx) (hwf : x.waitFlash = false) (hwm : x.waitMirror = false)
    (hun : s.gr.unplaced = false) :
    ∃ t, exec (.namespaceDelete c) s = .next t ∧ Safety.Ended t c stOk 0 ∧ nsOf t x.e.nsid = none ∧
      (∀ k, zNsid k = x.e.nsid → tfind t.ze.zones k = none) ∧ (∀ k, k ≠ x.e.nsid → nsOf t k = nsOf s k) ∧
      (∀ k, zNsid k ≠ x.e.nsid → zoneOf t k = zoneOf s k) := by
  have hbegun := nsOnly_deleteBegun (s := s) (c := c) hall
  obtain ⟨hrest, hns, hzones⟩ := forEach_deleteNs (fun m hm => eq_of_mem_deletedNss hall hm) (deletedNss_ne_nil hn) (hbegun.unplaced.trans hun)
  have honly := hbegun.trans hrest
  have halone : DeletesAlone c (forEach (deletedNss s x) deleteNs (deleteBegun s c x)) :=
    forEach_inv (fun m _ ht => deletesAlone_deleteNs m ht) _ _ (deletesAlone_deleteBegun hx hctxs hwf hwm)
  exact ⟨_, (exec_namespaceDelete hx hsel hn hctxs hc).trans (congrArg Host.Outcome.next (succeed_of_deletesAlone halone)), ended_of_deletesAlone halone,
    hns, hzones, honly.nss, honly.zones⟩

end

/-- Settles O32, command by command: Identify, Create, Attach, Detach, Format and Delete. -/
theorem namespacesAreManaged : Obligations.NamespacesAreManaged := by
  unfold Obligations.NamespacesAreManaged
  refine ⟨fun s c x hx => identify_answers hx, fun fn h => idController_fields h, fun s c x hx hsel hcsi hflags hcap hne hmod hmor hmar hle hroom hfree =>
    namespace_created hx hsel ⟨hcsi, hflags, hcap, hne, hmod, hmor, hmar, hle, hroom⟩ hfree, fun _ _ _ _ _ => namespace_attached,
    fun _ _ _ _ _ => namespace_detached, fun _ _ _ _ => namespace_formatted, fun _ _ _ _ => namespace_deleted⟩

end Sys2Proof.Machine

/-! PROOFS. Rules of the key slots that the statements of the cipher go through: Load, Erase and a counter's move change one slot, and beside it only
registers and the recorder (06_cipher.md R170 to R177). -/

namespace Sys2Proof.Machine

/-! ### One key slot changed -/

/-- A state without what a change of a key slot may change: the slots, the registers and the recorder. -/
def offSlots (s : State) : State := { s with ci := { s.ci with slots := [] }, rf := {}, att := { s.att with evrec := {} } }

theorem eq_of_offSlots {s t : State} (h : offSlots t = offSlots s) :
    t = { s with ci := { s.ci with slots := t.ci.slots }, rf := t.rf, att := { s.att with evrec := t.att.evrec } } :=
  (congrArg (fun u : State => { u with ci := { u.ci with slots := t.ci.slots }, rf := t.rf, att := { u.att with evrec := t.att.evrec } }) h :)

/-- An event changes registers and the recorder. -/
theorem raise_eq (src sev : Nat) (ps : List Nat) (s : State) :
    raise src sev ps s = { s with rf := (raise src sev ps s).rf, att := { s.att with evrec := (raise src sev ps s).att.evrec } } := by
  obtain ⟨_, _, h⟩ := raise_only src sev ps s
  rw [h]

@[simp] theorem offSlots_raise (src sev : Nat) (ps : List Nat) (s : State) : offSlots (raise src sev ps s) = offSlots s := by
  obtain ⟨_, _, h⟩ := raise_only src sev ps s
  rw [h]; rfl

@[simp] theorem slotOf_raise (src sev : Nat) (ps : List Nat) (s : State) (k : Nat) : slotOf (raise src sev ps s) k = slotOf s k :=
  slotOf_of_ci (raise_ci src sev ps s) k

theorem slotOf_modSlot_other {j k : Nat} (h : j ≠ k) (f : Slot → Slot) (s : State) : slotOf (modSlot k f s) j = slotOf s j := by
  simp [slotOf, modSlot, tget_tmod_other h]

/-- A slot without the flags that a counter's move sets (R175 to R177). -/
def unflagged (x : Slot) : Slot := { x with exhausted := false, warned := false, floored := false }

/-- From one state to another one key slot alone has changed, and is `x` but for its flags; registers and the recorder may have changed. -/
structure SlotBecomes (s t : State) (k : Nat) (x : Slot) : Prop where
  rest : offSlots t = offSlots s
  slot : unflagged (slotOf t k) = unflagged x
  others : ∀ j, j ≠ k → slotOf t j = slotOf s j

section
variable {s t : State} {k : Nat} {x : Slot}

theorem slotBecomes_modSlot (k : Nat) (f : Slot → Slot) (s : State) : SlotBecomes s (modSlot k f s) k (f (slotOf s k)) :=
  ⟨rfl, by rw [slotOf_modSlot_same], fun _ hj => slotOf_modSlot_other hj f s⟩

/-- A further change of the slot, as far as it does not look at the flags. -/
theorem SlotBecomes.modSlot (h : SlotBecomes s t k x) {f : Slot → Slot} (hf : ∀ y z, unflagged y = unflagged z → unflagged (f y) = unflagged (f z)) :
    SlotBecomes s (modSlot k f t) k (f x) :=
  ⟨h.rest, by rw [slotOf_modSlot_same]; exact hf _ _ h.slot, fun j hj => (slotOf_modSlot_other hj f t).trans (h.others j hj)⟩

theorem SlotBecomes.raise (h : SlotBecomes s t k x) (src sev : Nat) (ps : List Nat) : SlotBecomes s (raise src sev ps t) k x :=
  ⟨(offSlots_raise src sev ps t).trans h.rest, by rw [slotOf_raise]; exact h.slot, fun j hj => (slotOf_raise src sev ps t j).trans (h.others j hj)⟩

/-- A flag set in a slot is none of its other fields. -/
theorem SlotBecomes.flag (h : SlotBecomes s t k x) {f : Slot → Slot} (hf : ∀ y, unflagged (f y) = unflagged y) :
    SlotBecomes s (Machine.modSlot k f t) k x :=
  ⟨h.rest, by rw [slotOf_modSlot_same, hf]; exact h.slot, fun j hj => (slotOf_modSlot_other hj f t).trans (h.others j hj)⟩

/-- A flag that a counter's move may set, with its event. -/
theorem SlotBecomes.flagIf (h : SlotBecomes s t k x) {f : Slot → Slot} (hf : ∀ y, unflagged (f y) = unflagged y) (b : Bool) (src sev : Nat) :
    SlotBecomes s (onlyIf b (fun u => Machine.raise src sev [k] (Machine.modSlot k f u)) t) k x := by
  cases b
  · exact h
  · exact (h.flag hf).raise src sev [k]

/-- WARN and EXHAUSTED are set as the counter stands (R175, R176). -/
theorem SlotBecomes.markSlot (h : SlotBecomes s t k x) : SlotBecomes s (markSlot k t) k x :=
  (h.flagIf (f := fun y => { y with warned := true }) (fun _ => rfl) _ 262 sevWarning).flagIf (f := fun y => { y with exhausted := true })
    (fun _ => rfl) _ 263 sevError

/-- A Load's FLOOR raises the counter (R170, R180). -/
theorem SlotBecomes.floor (h : SlotBecomes s t k x) (floor : Nat) :
    SlotBecomes s (noteFloor k floor (applyFloor k floor t)) k { x with ctr := Nat.max x.ctr floor } := by
  refine SlotBecomes.flag (SlotBecomes.markSlot ?_) (fun _ => rfl)
  exact h.modSlot (f := fun y => { y with ctr := Nat.max y.ctr floor }) fun _ _ hyz =>
    congrArg (fun u : Slot => { u with ctr := Nat.max u.ctr floor }) hyz

end

/-! ### Load and Erase (06_cipher.md R170) -/

section
variable {s : State} {k : Nat}

/-- A Load where nothing holds the slot's key makes the new key current. -/
theorem loadSlotOp_of_free (hsh : (slotOf s k).shadow = none) (hfree : (slotOf s k).loaded = false ∨ holders s k (slotOf s k).keyGen = 0)
    (key salt floor : Nat) : ∃ t, loadSlotOp k key salt floor s = (t, false) ∧ pending? t 264 = true ∧
      SlotBecomes s t k { slotOf s k with
        loaded := true, key := key, salt := salt, keyGen := (slotOf s k).keyGen + 1, ctr := Nat.max (slotOf s k).ctr floor } := by
  have hheld : ((slotOf s k).loaded && holders s k (slotOf s k).keyGen != 0) = false := by
    rcases hfree with h | h <;> simp [h]
  have hload := (slotBecomes_modSlot k (fun x => { x with loaded := true, key := key, salt := salt, keyGen := x.keyGen + 1 }) s).floor floor
  refine ⟨_, ?_, pending?_raise_same (by decide) sevInfo [k, 1] _, hload.raise 264 sevInfo [k, 1]⟩
  simp only [loadSlotOp, hsh, hheld, Option.isSome_none, Bool.false_eq_true, if_false]

/-- A Load where something holds the slot's key goes to the shadow. -/
theorem loadSlotOp_of_held (hsh : (slotOf s k).shadow = none) (hld : (slotOf s k).loaded = true)
    (hheld : holders s k (slotOf s k).keyGen ≠ 0) (key salt floor : Nat) :
    ∃ t, loadSlotOp k key salt floor s = (t, false) ∧ pending? t 264 = true ∧
      SlotBecomes s t k { slotOf s k with shadow := some (key, salt), ctr := Nat.max (slotOf s k).ctr floor } := by
  have hload := (slotBecomes_modSlot k (fun x => { x with shadow := some (key, salt) }) s).floor floor
  refine ⟨_, ?_, pending?_raise_same (by decide) sevInfo [k, 2] _, hload.raise 264 sevInfo [k, 2]⟩
  simp [loadSlotOp, hsh, hld, hheld]

/-- A Load where a shadow is pending is refused. -/
theorem loadSlotOp_of_pending (hsh : (slotOf s k).shadow.isSome = true) (key salt floor : Nat) : loadSlotOp k key salt floor s = (s, true) := by
  simp [loadSlotOp, hsh]

/-- An Erase with no shadow pending ends no command. -/
theorem eraseSlotAll_of_no_shadow (hsh : (slotOf s k).shadow = none) : eraseSlotAll k s = eraseSlotOp k s := by
  simp [eraseSlotAll, hsh, failShadow]

theorem eraseSlotOp_of_empty (hld : (slotOf s k).loaded = false) : eraseSlotOp k s = s := by simp [eraseSlotOp, hld]

/-- What an Erase makes of a slot: the key and the salt zeroed, the old key kept for what holds it, the counter and the ceiling left. -/
def erased (held : Bool) (x : Slot) : Slot :=
  { x with loaded := false, key := 0, salt := 0, shadow := none, keyGen := if x.shadow.isSome then x.keyGen + 1 else x.keyGen,
           old := if held then tset x.keyGen (x.key, x.salt) x.old else x.old }

theorem eraseSlotOp_of_loaded (hld : (slotOf s k).loaded = true) :
    eraseSlotOp k s = raise 264 sevInfo [k, 4] (modSlot k (erased (holders s k (slotOf s k).keyGen != 0)) s) := by
  simp only [eraseSlotOp, hld, Bool.not_true, Bool.false_eq_true, if_false]
  rfl

/-- After an Erase the slot is EMPTY, and its counter and its ceiling are as they were. -/
theorem slotBecomes_eraseSlotOp (k : Nat) (s : State) : ∃ x, SlotBecomes s (eraseSlotOp k s) k x ∧ x.loaded = false ∧
    ((slotOf s k).loaded = true → x.key = 0 ∧ x.salt = 0) ∧ x.ctr = (slotOf s k).ctr ∧ x.ceil = (slotOf s k).ceil := by
  cases hld : (slotOf s k).loaded with
  | false =>
    rw [eraseSlotOp_of_empty hld]
    exact ⟨slotOf s k, ⟨rfl, rfl, fun _ _ => rfl⟩, hld, by simp, rfl, rfl⟩
  | true =>
    rw [eraseSlotOp_of_loaded hld]
    exact ⟨_, (slotBecomes_modSlot k _ s).raise 264 sevInfo [k, 4], rfl, fun _ => ⟨rfl, rfl⟩, rfl, rfl⟩

end

end Sys2Proof.Machine

/-! PROOFS. The statement of the key slots' registers (06_cipher.md R170 to R177, R188). -/

namespace Sys2Proof.Machine

/-! ### A write of a register with one field (14_control.md R386, R388; 00_scope.md R13) -/

/-- The value that a write carries: with a 64-bit register's HI half, the staged LO half too (R388). -/
def writtenValue (m : Master) (d : RegD) (v : Nat) (s : State) : Nat :=
  if d.wide then v * 4294967296 + tget 0 s.rf.stage (masterKey m) else v

/-- A register stored with what its one field takes of a value. -/
def fieldStored (d : RegD) (f : Field) (v : Nat) (s : State) : State :=
  onlyIf (f.store (isLocked s d 0) (rd s (d.at 0 0)) v != rd s (d.at 0 0)) (wr (d.at 0 0) (f.store (isLocked s d 0) (rd s (d.at 0 0)) v)) s

section
variable {s : State} {m : Master} {d : RegD} {f : Field}

/-- A master that reaches a register's block, and whom the register's one field admits, stores what the field takes, and then the register acts. -/
theorem accessOne_of_field (hm : Safety.Reaches s m d.blk 0) (hd : d.fields = [f]) (hlo : f.lo = 0) (hacc : f.acc ≠ .rwl)
    (hw : f.who.admits 0 (masterCls m) = true) (v : Nat) (act : Nat → State → State) :
    accessOne m d v act s = act (bits (writtenValue m d v s) f.hi 0) (fieldStored d f (writtenValue m d v s) s) := by
  have hclass := reaches_not_host_engine hm
  obtain ⟨-, hs, hb⟩ := hm
  have hlock (l : Bool) (old w : Nat) : f.lockHit l old w = false := by simp [Field.lockHit, hacc]
  have hmask : maskTo [f] (writtenValue m d v s) = bits (writtenValue m d v s) f.hi 0 := by simp [maskTo, hlo]
  rw [← hmask]
  simp [accessOne, accessReg, hclass, hs, hb, hd, hw, hlock, fieldStored, maskTo, writtenValue]

/-- A write-only field stores nothing. -/
theorem fieldStored_of_wo (h : f.acc = .wo) (v : Nat) : fieldStored d f v s = s := by simp [fieldStored, Field.store, h]

/-- What is stored for one register changes no register at another address, and nothing beside the registers. -/
theorem fieldStored_only (d : RegD) (f : Field) (v : Nat) (s : State) :
    ∃ regs, fieldStored d f v s = { s with rf := { s.rf with regs := regs } } ∧
      ∀ r : Ref, r.addr ≠ (d.at 0 0).addr → rd (fieldStored d f v s) r = rd s r := by
  unfold fieldStored
  cases f.store (isLocked s d 0) (rd s (d.at 0 0)) v != rd s (d.at 0 0)
  · exact ⟨_, rfl, fun _ _ => rfl⟩
  · exact ⟨_, rfl, fun _ hr => rd_wr_other hr _ s⟩

end

/-! ### CI_KW_CMD (06_cipher.md R170, R173) -/

/-- The state with the staging registers zeroed. -/
def stagingZeroed (s : State) : State := onCi (fun c => { c with kwKey := [], kwSalt := 0, kwFloor := 0 }) s

section
variable {s t : State} {m : Master} {k : Nat} {x : Slot}

theorem accessOne_ciKwCmd (hsec : masterCls m = .secure) (hm : Safety.Reaches s m .cipher 0) {v : Nat} (hv : v < 4) :
    accessOne m D.ciKwCmd v kwCmdAct s = kwCmdAct v s := by
  have hw := accessOne_of_field (d := D.ciKwCmd) hm rfl rfl (by decide) (by rw [hsec]; rfl) v kwCmdAct
  rw [fieldStored_of_wo rfl] at hw
  simpa [writtenValue, D.ciKwCmd, bits, Nat.mod_eq_of_lt hv] using hw

/-- A Load of the slot of CI_KW_SEL with what the staging registers hold. -/
theorem exec_ciKwLoad (hsec : masterCls m = .secure) (hm : Safety.Reaches s m .cipher 0) {no : Bool}
    (hload : loadSlotOp (rdf s R.ciKwSel 12 0) (stagedKey s.ci) s.ci.kwSalt s.ci.kwFloor (stagingZeroed s) = (t, no)) :
    exec (.ciKwLoad m) s = .next (onCi (fun c => { c with kwRefused := no }) t) := by
  rw [exec, execCiKwLoad, accessOne_ciKwCmd hsec hm (by decide), kwCmdAct]
  rw [stagingZeroed] at hload
  simp [hload]

/-- An Erase of the slot of CI_KW_SEL. -/
theorem exec_ciKwErase (hsec : masterCls m = .secure) (hm : Safety.Reaches s m .cipher 0)
    (hsh : (slotOf s (rdf s R.ciKwSel 12 0)).shadow = none) :
    exec (.ciKwErase m) s = .next (eraseSlotOp (rdf s R.ciKwSel 12 0) (stagingZeroed s)) := by
  rw [exec, execCiKwErase, accessOne_ciKwCmd hsec hm (by decide)]
  exact congrArg Host.Outcome.next (eraseSlotAll_of_no_shadow (s := stagingZeroed s) hsh)

/-- Where a slot alone has changed since the staging registers were zeroed, they still are. -/
theorem SlotBecomes.staging (h : SlotBecomes (stagingZeroed s) t k x) : t.ci.kwKey = [] ∧ t.ci.kwSalt = 0 ∧ t.ci.kwFloor = 0 :=
  ⟨(congrArg (fun u => u.ci.kwKey) h.rest :), (congrArg (fun u => u.ci.kwSalt) h.rest :), (congrArg (fun u => u.ci.kwFloor) h.rest :)⟩

/-- A write of CI_KW_CMD changes the cipher block, the registers and the recorder. -/
theorem SlotBecomes.kwFrame (h : SlotBecomes (stagingZeroed s) t k x) (f : Cipher → Cipher) :
    onCi f t = { s with ci := (onCi f t).ci, rf := (onCi f t).rf, att := { s.att with evrec := (onCi f t).att.evrec } } := by
  rw [eq_of_offSlots h.rest]
  rfl

end

/-! ### A record in the journal (10_granary.md R281) -/

@[simp] theorem grantBuf_fl (p owner : Nat) (s : State) : (grantBuf p owner s).fl = s.fl := by
  unfold grantBuf
  split
  · rfl
  · exact (onlyIf_keeps State.fl _ _ _ (fun t => raise_fl _ _ _ t)).trans (by simp [setBuf])

@[simp] theorem putItem_fresh_fl (kind bytes a b n : Nat) (s : State) : (putItem.fresh kind bytes a b n s).2.fl = s.fl := by
  simp [putItem.fresh, takeSegBuf]

@[simp] theorem putItem_fl (kind bytes a b : Nat) (s : State) : (putItem kind bytes a b s).2.fl = s.fl := by
  unfold putItem
  dsimp only
  split
  · split <;> simp
  · simp

/-- An item placed, or one that waits for room, is none of the flash's. -/
@[simp] theorem putState_fl (kind bytes a b : Nat) (s : State) : (putState kind bytes a b s).fl = s.fl := by
  unfold putState
  dsimp only
  split <;> simp

@[simp] theorem sendRecord_fl (item : Nat × Nat) (f : TxFrame) (s : State) : (sendRecord item f s).fl = s.fl := by
  unfold sendRecord
  split
  · exact (congrArg State.fl (offLink_sendFrame _ _) :)
  · rfl

/-- Of the flash, a record journalled changes the journal alone: it stands at its end. -/
theorem journal_fl (r : JRec) (s : State) : (journal r s).fl = { s.fl with journal := s.fl.journal ++ [r] } := by
  unfold journal journalAll
  refine (onlyIf_keeps State.fl _ _ _ (fun t => ?_)).trans (by simp)
  exact forEach_keeps State.fl _ (fun p t => sendRecord_fl _ _ t) _ t

/-! ### CI_KS_CTR and CI_KS_CEIL (06_cipher.md R174, R177) -/

/-- The value that a write of a 64-bit register's HI half commits (R388). -/
def committedValue (m : Master) (hi : Word) (s : State) : Nat := bits (hi.toNat * 4294967296 + tget 0 s.rf.stage (masterKey m)) 63 0

section
variable {s t : State} {m : Master} {hi : Word}

/-- A write of CI_KS_CTR or CI_KS_CEIL stores in registers other than CI_KS_SEL alone, and then the register acts. -/
theorem accessOne_of_wide_rw {d : RegD} (hm : Safety.Reaches s m .cipher 0) (hblk : d.blk = .cipher) (hd : d.fields = [⟨63, 0, .rw, .priv⟩])
    (hwide : d.wide = true) (hsel : R.ciKsSel.addr ≠ (d.at 0 0).addr) (act : Nat → State → State) :
    ∃ regs, accessOne m d hi.toNat act s = act (committedValue m hi s) { s with rf := { s.rf with regs := regs } } ∧
      rdf { s with rf := { s.rf with regs := regs } } R.ciKsSel 12 0 = rdf s R.ciKsSel 12 0 := by
  have hw := accessOne_of_field (f := ⟨63, 0, .rw, .priv⟩) (by rw [hblk]; exact hm) hd rfl (by decide) (reaches_admits_priv hm 0) hi.toNat act
  obtain ⟨regs, hregs, hrd⟩ := fieldStored_only d ⟨63, 0, .rw, .priv⟩ (writtenValue m d hi.toNat s) s
  refine ⟨regs, ?_, ?_⟩
  · rw [hw, hregs, writtenValue, hwide, if_pos rfl]
    rfl
  · rw [← hregs, rdf, hrd _ hsel, rdf]

/-- A counter is written upwards only: a value not above it raises event source 267. -/
theorem exec_ciKsCtrWrite (hm : Safety.Reaches s m .cipher 0) {k v : Nat} (hk : k = rdf s R.ciKsSel 12 0) (hv : v = committedValue m hi s) :
    ∃ regs, exec (.ciKsCtrWrite m hi) s = .next (if (slotOf s k).ctr < v
      then markSlot k (modSlot k (fun x => { x with ctr := v }) { s with rf := { s.rf with regs := regs } })
      else raise 267 sevWarning [k] { s with rf := { s.rf with regs := regs } }) := by
  obtain ⟨regs, hw, hsel⟩ := accessOne_of_wide_rw (d := D.ciKsCtr) hm rfl rfl rfl (by decide) ksCtrAct
  rw [exec, execCiKsCtrWrite, hw, ksCtrAct, hsel, ← hk, ← hv]
  exact ⟨_, rfl⟩

/-- A ceiling is never written downwards: a lower value raises event source 267. Another is journalled and then set. -/
theorem exec_ciKsCeilWrite (hm : Safety.Reaches s m .cipher 0) {k v : Nat} (hk : k = rdf s R.ciKsSel 12 0) (hv : v = committedValue m hi s) :
    ∃ regs, exec (.ciKsCeilWrite m hi) s = .next (if v < (slotOf s k).ceil
      then raise 267 sevWarning [k] { s with rf := { s.rf with regs := regs } }
      else raiseCeil k v (recordCeil k v { s with rf := { s.rf with regs := regs } })) := by
  obtain ⟨regs, hw, hsel⟩ := accessOne_of_wide_rw (d := D.ciKsCeil) hm rfl rfl rfl (by decide) ksCeilAct
  rw [exec, execCiKsCeilWrite, hw, ksCeilAct, hsel, ← hk, ← hv]
  exact ⟨_, rfl⟩

theorem recordCeil_keeps (k v : Nat) (s : State) : (recordCeil k v s).ci = s.ci ∧ (recordCeil k v s).ze = s.ze ∧ (recordCeil k v s).ce = s.ce ∧
    (recordCeil k v s).fl = { s.fl with journal := s.fl.journal ++ [ceilRec k v] } := by
  have hoff : offGranary (recordCeil k v s) = offGranary s := offGranary_journal _ s
  exact ⟨(congrArg State.ci hoff :), (congrArg State.ze hoff :), (congrArg State.ce hoff :), journal_fl _ s⟩

theorem slotOf_raiseCeil_same (k v : Nat) (s : State) : slotOf (raiseCeil k v s) k =
    { slotOf s k with ceil := v, recorded := Nat.max (slotOf s k).recorded v, floored := false } :=
  slotOf_modSlot_same k _ s

theorem slotOf_raiseCeil_other {j k : Nat} (h : j ≠ k) (v : Nat) (s : State) : slotOf (raiseCeil k v s) j = slotOf s j :=
  slotOf_modSlot_other h _ s

end

/-! ### The statements of each register -/

section
variable {s : State} {m : Master} {hi : Word} {k v : Nat}

/-- A Load takes effect at once where nothing holds the slot's key. -/
theorem kwLoad_current (hsec : masterCls m = .secure) (hm : Safety.Reaches s m .cipher 0) (hk : k = rdf s R.ciKwSel 12 0)
    (hsh : (slotOf s k).shadow = none) (hfree : (slotOf s k).loaded = false ∨ holders s k (slotOf s k).keyGen = 0) :
    ∃ t, exec (.ciKwLoad m) s = .next t ∧ (slotOf t k).loaded = true ∧ (slotOf t k).key = stagedKey s.ci ∧ (slotOf t k).salt = s.ci.kwSalt ∧
      (slotOf t k).keyGen = (slotOf s k).keyGen + 1 ∧ (slotOf t k).ctr = Nat.max (slotOf s k).ctr s.ci.kwFloor ∧ pending? t 264 = true ∧
      (∀ j, j ≠ k → slotOf t j = slotOf s j) ∧ t.ci.kwKey = [] ∧ t.ci.kwSalt = 0 ∧ t.ci.kwFloor = 0 ∧ t.ci.kwRefused = false ∧
      t = { s with ci := t.ci, rf := t.rf, att := { s.att with evrec := t.att.evrec } } := by
  obtain ⟨t, hload, hpend, hslot⟩ := loadSlotOp_of_free (s := stagingZeroed s) hsh hfree (stagedKey s.ci) s.ci.kwSalt s.ci.kwFloor
  obtain ⟨hkey, hsalt, hfloor⟩ := hslot.staging
  refine ⟨_, exec_ciKwLoad hsec hm (no := false) (hk ▸ hload), ?_, ?_, ?_, ?_, ?_, hpend, hslot.others, hkey, hsalt, hfloor, rfl, hslot.kwFrame _⟩
  · exact (congrArg Slot.loaded hslot.slot :)
  · exact (congrArg Slot.key hslot.slot :)
  · exact (congrArg Slot.salt hslot.slot :)
  · exact (congrArg Slot.keyGen hslot.slot :)
  · exact (congrArg Slot.ctr hslot.slot :)

/-- A Load goes to the shadow where something holds the slot's key. -/
theorem kwLoad_shadow (hsec : masterCls m = .secure) (hm : Safety.Reaches s m .cipher 0) (hk : k = rdf s R.ciKwSel 12 0)
    (hsh : (slotOf s k).shadow = none) (hld : (slotOf s k).loaded = true) (hheld : holders s k (slotOf s k).keyGen ≠ 0) :
    ∃ t, exec (.ciKwLoad m) s = .next t ∧ (slotOf t k).shadow = some (stagedKey s.ci, s.ci.kwSalt) ∧ (slotOf t k).key = (slotOf s k).key ∧
      (slotOf t k).keyGen = (slotOf s k).keyGen ∧ (∀ j, j ≠ k → slotOf t j = slotOf s j) ∧ t.ci.kwKey = [] ∧ t.ci.kwRefused = false ∧
      t = { s with ci := t.ci, rf := t.rf, att := { s.att with evrec := t.att.evrec } } := by
  obtain ⟨t, hload, -, hslot⟩ := loadSlotOp_of_held (s := stagingZeroed s) hsh hld hheld (stagedKey s.ci) s.ci.kwSalt s.ci.kwFloor
  refine ⟨_, exec_ciKwLoad hsec hm (no := false) (hk ▸ hload), ?_, ?_, ?_, hslot.others, hslot.staging.1, rfl, hslot.kwFrame _⟩
  · exact (congrArg Slot.shadow hslot.slot :)
  · exact (congrArg Slot.key hslot.slot :)
  · exact (congrArg Slot.keyGen hslot.slot :)

/-- A Load is refused where a shadow is pending. -/
theorem kwLoad_refused (hsec : masterCls m = .secure) (hm : Safety.Reaches s m .cipher 0) (hk : k = rdf s R.ciKwSel 12 0)
    (hsh : (slotOf s k).shadow.isSome = true) :
    exec (.ciKwLoad m) s = .next { s with ci := { s.ci with kwKey := [], kwSalt := 0, kwFloor := 0, kwRefused := true } } :=
  exec_ciKwLoad hsec hm (loadSlotOp_of_pending (s := stagingZeroed s) (hk ▸ hsh) _ _ _)

/-- An Erase leaves the slot EMPTY, with its counter and its ceiling. -/
theorem kwErase_empty (hsec : masterCls m = .secure) (hm : Safety.Reaches s m .cipher 0) (hk : k = rdf s R.ciKwSel 12 0)
    (hsh : (slotOf s k).shadow = none) :
    ∃ t, exec (.ciKwErase m) s = .next t ∧ (slotOf t k).loaded = false ∧ ((slotOf s k).loaded = true → (slotOf t k).key = 0 ∧ (slotOf t k).salt = 0) ∧
      (slotOf t k).ctr = (slotOf s k).ctr ∧ (slotOf t k).ceil = (slotOf s k).ceil ∧ (∀ j, j ≠ k → slotOf t j = slotOf s j) ∧
      t.ci.kwKey = [] ∧ t.ci.kwSalt = 0 ∧ t.ci.kwFloor = 0 ∧ t = { s with ci := t.ci, rf := t.rf, att := { s.att with evrec := t.att.evrec } } := by
  obtain ⟨x, hslot, hld, hzero, hctr, hceil⟩ := slotBecomes_eraseSlotOp k (stagingZeroed s)
  obtain ⟨hkey, hsalt, hfloor⟩ := hslot.staging
  have hexec := exec_ciKwErase hsec hm (hk ▸ hsh)
  rw [← hk] at hexec
  refine ⟨_, hexec, ?_, fun h => ⟨?_, ?_⟩, ?_, ?_, hslot.others, hkey, hsalt, hfloor, hslot.kwFrame id⟩
  · exact (congrArg Slot.loaded hslot.slot :).trans hld
  · exact (congrArg Slot.key hslot.slot :).trans (hzero h).1
  · exact (congrArg Slot.salt hslot.slot :).trans (hzero h).2
  · exact (congrArg Slot.ctr hslot.slot :).trans hctr
  · exact (congrArg Slot.ceil hslot.slot :).trans hceil

/-- A value above the counter becomes the counter. -/
theorem ksCtr_raised (hm : Safety.Reaches s m .cipher 0) (hk : k = rdf s R.ciKsSel 12 0) (hv : v = committedValue m hi s) (hlt : (slotOf s k).ctr < v) :
    ∃ t, exec (.ciKsCtrWrite m hi) s = .next t ∧ (slotOf t k).ctr = v ∧ (slotOf t k).key = (slotOf s k).key ∧
      (slotOf t k).ceil = (slotOf s k).ceil ∧ (∀ j, j ≠ k → slotOf t j = slotOf s j) ∧
      t = { s with ci := t.ci, rf := t.rf, att := { s.att with evrec := t.att.evrec } } := by
  obtain ⟨t, hexec, hslot⟩ : ∃ t, exec (.ciKsCtrWrite m hi) s = .next t ∧ SlotBecomes s t k { slotOf s k with ctr := v } := by
    obtain ⟨regs, hexec⟩ := exec_ciKsCtrWrite (hi := hi) hm hk hv
    rw [if_pos hlt] at hexec
    obtain ⟨hrest, hslot, hothers⟩ := (slotBecomes_modSlot k (fun x => { x with ctr := v }) { s with rf := { s.rf with regs := regs } }).markSlot
    exact ⟨_, hexec, hrest, hslot, hothers⟩
  refine ⟨t, hexec, ?_, ?_, ?_, hslot.others, ?_⟩
  · exact (congrArg Slot.ctr hslot.slot :)
  · exact (congrArg Slot.key hslot.slot :)
  · exact (congrArg Slot.ceil hslot.slot :)
  · rw [eq_of_offSlots hslot.rest]

/-- A value that is not below the ceiling is journalled and becomes the ceiling. -/
theorem ksCeil_raised (hm : Safety.Reaches s m .cipher 0) (hk : k = rdf s R.ciKsSel 12 0) (hv : v = committedValue m hi s) (hle : (slotOf s k).ceil ≤ v) :
    ∃ t, exec (.ciKsCeilWrite m hi) s = .next t ∧ (slotOf t k).ceil = v ∧ (slotOf t k).recorded = Nat.max (slotOf s k).recorded v ∧
      (slotOf t k).ctr = (slotOf s k).ctr ∧ (∀ j, j ≠ k → slotOf t j = slotOf s j) ∧ t.ze = s.ze ∧ t.ce.sqs = s.ce.sqs ∧
      t.fl = { s.fl with journal := s.fl.journal ++ [ceilRec k v] } := by
  obtain ⟨regs, hexec⟩ := exec_ciKsCeilWrite (hi := hi) hm hk hv
  rw [if_neg (not_lt.2 hle)] at hexec
  obtain ⟨hci, hze, hce, hfl⟩ := recordCeil_keeps k v { s with rf := { s.rf with regs := regs } }
  have hslots := slotOf_of_ci hci
  refine ⟨_, hexec, ?_, ?_, ?_, fun j hj => ?_, hze, (congrArg Engine.sqs hce :), hfl⟩
  · rw [slotOf_raiseCeil_same]
  · rw [slotOf_raiseCeil_same, hslots]; rfl
  · rw [slotOf_raiseCeil_same, hslots]; rfl
  · rw [slotOf_raiseCeil_other hj, hslots]; rfl

/-- A shadow that still waits at its timeout is reported. -/
theorem shadow_timeout (s : State) (k : Nat) :
    ((slotOf s k).shadow.isSome = true → ∃ t, exec (.shadowPendingTimeout k) s = .next t ∧ pending? t 265 = true ∧
      t = { s with rf := t.rf, att := { s.att with evrec := t.att.evrec } }) ∧
    ((slotOf s k).shadow = none → exec (.shadowPendingTimeout k) s = .next s) := by
  refine ⟨fun hsh => ⟨_, rfl, ?_⟩, fun hsh => ?_⟩
  · rw [if_pos hsh]
    exact ⟨pending?_raise_same (by decide) sevWarning _ s, raise_eq 265 sevWarning _ s⟩
  · rw [exec, execShadowPendingTimeout, hsh]
    rfl

end

/-- Settles O43, operation by operation: Load with and without something that holds the key, Erase, the two counter registers, the timeout. -/
theorem keySlotsAreLoadedErasedAndCounted : Obligations.KeySlotsAreLoadedErasedAndCounted := by
  unfold Obligations.KeySlotsAreLoadedErasedAndCounted
  refine ⟨fun s m hsec hm => ⟨fun _ => kwLoad_current hsec hm, fun _ => kwLoad_shadow hsec hm, fun _ => kwLoad_refused hsec hm,
    fun _ => kwErase_empty hsec hm⟩, fun s m hi hm k v hk hv => ⟨ksCtr_raised hm hk hv, fun hle => ?_, fun hlt => ?_, ksCeil_raised hm hk hv⟩,
    shadow_timeout⟩
  · obtain ⟨regs, hexec⟩ := exec_ciKsCtrWrite hm hk hv
    rw [if_neg (not_lt.2 hle)] at hexec
    exact ⟨_, hexec, pending?_raise_same (by decide) sevWarning [k] _, raise_eq 267 sevWarning [k] _⟩
  · obtain ⟨regs, hexec⟩ := exec_ciKsCeilWrite hm hk hv
    rw [if_pos hlt] at hexec
    exact ⟨_, hexec, pending?_raise_same (by decide) sevWarning [k] _, raise_eq 267 sevWarning [k] _⟩

end Sys2Proof.Machine

/-! PROOFS. The statement of keys loaded through the Attic (06_cipher.md R179 to R184; 17_attic.md R462, R463). -/

namespace Sys2Proof.Machine

/-! ### Security Send (06_cipher.md R179) -/

section
variable {s t : State} {c op : Nat} {x : Ctx}

/-- A Security Send of an operation acts on the context that runs it, where the Attic runs. -/
theorem onSecSend_eq (hadm : ∀ f, onAdmin c 0x81 f s = f x s) (hsecp : bits x.e.cdw10 31 24 = 0xF2) (hop : bits x.e.cdw10 23 21 = op)
    (hatt : atticRuns s = true) (f : Ctx → State → State) : onSecSend c op f s = f x s := by
  rw [onSecSend, hadm]
  simp [eSecp, eSecOp, hsecp, hop, hatt]

theorem onAdmin_of_tunnelled {opc : Nat} (hx : Safety.IsTunnelled s c x opc) (f : Ctx → State → State) : onAdmin c opc f s = f x s := by
  obtain ⟨hctx, hopc, hst, htun⟩ := hx
  simp [onAdmin, onStarted, startedWith, hctx, hopc, hst, htun]

/-! ### Transport keys (06_cipher.md R180, R181, R183) -/

/-- A response of the Attic leaves the transport keys. -/
theorem tunnelReply_keys (x : Ctx) (s : State) :
    (tunnelReply x s).att.rootKey = s.att.rootKey ∧ (tunnelReply x s).att.fnKeys = s.att.fnKeys := by
  unfold tunnelReply miRespond
  split <;> exact ⟨rfl, rfl⟩

/-- A tunnelled command that succeeds answers its endpoint and leaves its context. -/
theorem succeed_of_tunnelled (hctx : ctxOf s c = some x) (htun : x.tunnel = true) :
    succeed c s = onCe (fun e => { e with ctxs := tdel c e.ctxs }) (tunnelReply { x with status := stOk, dw0 := 0, dw1 := 0 } s) := by
  simp only [succeed, complete, hctx, htun, if_true]

/-- The Attic with a root transport key. -/
def rootKeyKept (key : Nat) (s : State) : State := onAtt (fun a => { a with rootKey := some key }) s

/-- A tunnelled Install keeps the root transport key, and the functions' keys as they were. -/
theorem rootTransportKey_installed (hx : Safety.IsTunnelled s c x 0x81) (hsecp : bits x.e.cdw10 31 24 = 0xF2) (hop : bits x.e.cdw10 23 21 = 1)
    (hatt : atticRuns s = true) (htl : eTl x.e = 32) :
    ∃ t, exec (.installRootTransportKey c) s = .next t ∧ t.att.rootKey = some (leNat (bytesAt x.e.payload 0 32)) ∧ ctxOf t c = none ∧
      t.att.fnKeys = s.att.fnKeys ∧ t.ci = s.ci := by
  have hsend := onSecSend_eq (onAdmin_of_tunnelled hx) hsecp hop hatt
  obtain ⟨hctx, -, -, htun⟩ := hx
  refine ⟨succeed c (rootKeyKept (leNat (bytesAt x.e.payload 0 32)) s), ?_, ?_⟩
  · rw [exec, execInstallRootTransportKey, hsend]
    simp only [htun, htl, Bool.not_true, bne_self_eq_false, Bool.or_self, Bool.false_eq_true, if_false]
    rfl
  · rw [succeed_of_tunnelled (by exact hctx) htun]
    obtain ⟨hroot, hfns⟩ := tunnelReply_keys { x with status := stOk, dw0 := 0, dw1 := 0 } (rootKeyKept (leNat (bytesAt x.e.payload 0 32)) s)
    exact ⟨hroot, tfind_tdel_same c _, hfns, (congrArg State.ci (offEngine_tunnelReply _ _) :)⟩

/-- What a command that runs needs is in the command engine. -/
theorem adminRuns_of_ce {opc : Nat} (h : t.ce = s.ce) (hx : Safety.AdminRuns s c x opc) : Safety.AdminRuns t c x opc := by
  obtain ⟨⟨hctx, hopc, hst, htun, hfresh⟩, hadm⟩ := hx
  exact ⟨⟨(ctxOf_of_ce h c).trans hctx, hopc, hst, htun, (ctxFresh_of_fnOf (fnOf_of_ce h x.fn)).trans hfresh⟩, hadm⟩

section
variable {f k : Nat} {blob : Wrapped} (hx : Safety.AdminRuns s c x 0x81) (hsecp : bits x.e.cdw10 31 24 = 0xF2)
  (hop : bits x.e.cdw10 23 21 = 2) (hatt : atticRuns s = true) (hpf : isPf x.fn = true) (htl : eTl x.e = 48)
  (hf : fnOfCntlid (fieldAt x.e.payload 0 2) = some f) (hport : portOf f = x.fn) (hroot : s.att.rootKey = some k)
include hx hsecp hop hatt hpf htl hf hport hroot

/-- A PF's Load of a key of a function of its port comes to the unwrapping (R181, steps 4 and 5). -/
theorem exec_loadFunctionTransportKey : exec (.loadFunctionTransportKey c blob) s = .next (
    if blob.kek != k then keyRefused c 2 4 stAuth x s
    else if blob.plain.length != 32 then keyRefused c 2 5 stBadField x s
    else succeed c (onAtt (fun a => { a with fnKeys := tset f (leNat blob.plain) a.fnKeys }) s)) := by
  have htarget : (some f).filter (fun g => portOf g == pfOf x) = some f := by simp [pfOf, hpf, hport]
  rw [exec, execLoadFunctionTransportKey, onSecSend_eq (onAdmin_of_runs hx) hsecp hop hatt]
  simp only [hpf, htl, hf, htarget, hroot, Bool.true_or, Bool.not_true, bne_self_eq_false, Bool.or_self, Bool.false_eq_true, if_false]

/-- A key wrapped under the root transport key is kept for its function. -/
theorem functionTransportKey_loaded (hkek : blob.kek = k) (hlen : blob.plain.length = 32) :
    ∃ t, exec (.loadFunctionTransportKey c blob) s = .next t ∧ Safety.Ended t c stOk 0 ∧ tfind t.att.fnKeys f = some (leNat blob.plain) ∧
      (∀ g, g ≠ f → tfind t.att.fnKeys g = tfind s.att.fnKeys g) ∧
      t = { s with ce := { s.ce with ctxs := t.ce.ctxs }, att := { s.att with fnKeys := t.att.fnKeys } } := by
  have hexec := exec_loadFunctionTransportKey (blob := blob) hx hsecp hop hatt hpf htl hf hport hroot
  rw [if_neg (by simp [hkek]), if_neg (by simp [hlen]), succeed_of_adminRuns hx (by exact hx.1.1) (by rfl)] at hexec
  exact ⟨_, hexec, ended_modCtx_withStatus (x := x) (by exact hx.1.1) _ _ _, tfind_tset_same f _ _, fun g hg => tfind_tset_other hg _ _, rfl⟩

/-- A key wrapped under another key is refused, with event source 266. -/
theorem functionTransportKey_refused (hkek : blob.kek ≠ k) :
    ∃ t, exec (.loadFunctionTransportKey c blob) s = .next t ∧ Safety.Ended t c stAuth 0 ∧ pending? t 266 = true ∧
      t = { s with ce := { s.ce with ctxs := t.ce.ctxs }, rf := t.rf, att := { s.att with evrec := t.att.evrec } } := by
  have hexec := exec_loadFunctionTransportKey (blob := blob) hx hsecp hop hatt hpf htl hf hport hroot
  have hraise := raise_eq 266 sevWarning [x.fn, 2, 4] s
  have hpend := pending?_raise_same (src := 266) (by decide) sevWarning [x.fn, 2, 4] s
  have hrun := adminRuns_of_ce (raise_ce 266 sevWarning [x.fn, 2, 4] s) hx
  have href : keyRefused c 2 4 stAuth x s = fail c stAuth (raise 266 sevWarning [x.fn, 2, 4] s) := rfl
  rw [if_pos (by simpa using hkek), href, fail_of_adminRuns hrun] at hexec
  refine ⟨_, hexec, ended_fail_of_adminRuns hrun stAuth, hpend, ?_⟩
  rw [hraise]
  rfl

end

/-! ### Slots loaded and erased (06_cipher.md R170, R182) -/

section
variable {k : Nat} {y : Slot} (hx : Safety.AdminRuns s c x 0x81)
include hx

/-- A key operation that has changed a slot ends its command. -/
theorem succeed_of_slotBecomes (h : SlotBecomes s t k y) : succeed c t = modCtx c (withStatus stOk 0 0) t :=
  succeed_of_adminRuns hx ((congrArg (fun u => ctxOf u c) h.rest :).trans hx.1.1) (congrArg (fun u => (fnOf u x.fn).gen) h.rest :)

theorem ended_of_slotBecomes (h : SlotBecomes s t k y) : Safety.Ended (modCtx c (withStatus stOk 0 0) t) c stOk 0 :=
  ended_modCtx_withStatus (x := x) ((congrArg (fun u => ctxOf u c) h.rest :).trans hx.1.1) _ _ _

end

/-- Beside the slots the command's context alone has changed, and registers and the recorder. -/
theorem SlotBecomes.ctxFrame {k : Nat} {y : Slot} (h : SlotBecomes s t k y) (f : Ctx → Ctx) :
    modCtx c f t = { s with
      ce := { s.ce with ctxs := (modCtx c f t).ce.ctxs }, ci := { s.ci with slots := (modCtx c f t).ci.slots }, rf := (modCtx c f t).rf,
      att := { s.att with evrec := (modCtx c f t).att.evrec } } := by
  rw [eq_of_offSlots h.rest]
  rfl

section
variable {k : Nat} {blob : Wrapped} (hx : Safety.AdminRuns s c x 0x81) (hsecp : bits x.e.cdw10 31 24 = 0xF2) (hatt : atticRuns s = true)
  (hgrant : slotGranted (fnOf s x.fn) (eSecSlot x.e) = true)
include hx hsecp hatt hgrant

section
variable (hop : bits x.e.cdw10 23 21 = 3) (htl : eTl x.e = 56) (hkey : tfind s.att.fnKeys x.fn = some k) (hkek : blob.kek = k)
  (hlen : blob.plain.length = 48) (hrsv : fieldAt blob.plain 44 4 = 0)
include hop htl hkey hkek hlen hrsv

/-- A Load of a granted slot, wrapped under the function's key, that the slot takes. -/
theorem exec_loadSlot {y : Slot} (hload : loadSlotOp (eSecSlot x.e) (fieldAt blob.plain 0 32) (fieldAt blob.plain 32 4) (fieldAt blob.plain 36 8) s = (t, false))
    (hslot : SlotBecomes s t (eSecSlot x.e) y) : exec (.loadSlot c blob) s = .next (modCtx c (withStatus stOk 0 0) t) := by
  rw [exec, execLoadSlot, onSecSend_eq (onAdmin_of_runs hx) hsecp hop hatt]
  simp only [htl, hgrant, hkey, hkek, hlen, hrsv, hload, bne_self_eq_false, Bool.not_true, Bool.or_self, Bool.false_eq_true, if_false,
    succeed_of_slotBecomes hx hslot]

/-- An EMPTY slot takes the key, the salt and the FLOOR at once. -/
theorem emptySlot_loaded (hsh : (slotOf s (eSecSlot x.e)).shadow = none) (hld : (slotOf s (eSecSlot x.e)).loaded = false) :
    ∃ t, exec (.loadSlot c blob) s = .next t ∧ Safety.Ended t c stOk 0 ∧ pending? t 264 = true ∧ (slotOf t (eSecSlot x.e)).loaded = true ∧
      (slotOf t (eSecSlot x.e)).key = fieldAt blob.plain 0 32 ∧ (slotOf t (eSecSlot x.e)).salt = fieldAt blob.plain 32 4 ∧
      (slotOf t (eSecSlot x.e)).ctr = Nat.max (slotOf s (eSecSlot x.e)).ctr (fieldAt blob.plain 36 8) ∧
      (slotOf t (eSecSlot x.e)).keyGen = (slotOf s (eSecSlot x.e)).keyGen + 1 ∧ (∀ j, j ≠ eSecSlot x.e → slotOf t j = slotOf s j) ∧
      t = { s with
        ce := { s.ce with ctxs := t.ce.ctxs }, ci := { s.ci with slots := t.ci.slots }, rf := t.rf, att := { s.att with evrec := t.att.evrec } } := by
  obtain ⟨t, hload, hpend, hslot⟩ := loadSlotOp_of_free hsh (.inl hld) (fieldAt blob.plain 0 32) (fieldAt blob.plain 32 4) (fieldAt blob.plain 36 8)
  refine ⟨_, exec_loadSlot hx hsecp hatt hgrant hop htl hkey hkek hlen hrsv hload hslot, ended_of_slotBecomes hx hslot, hpend, ?_, ?_, ?_, ?_, ?_,
    hslot.others, hslot.ctxFrame _⟩
  · exact (congrArg Slot.loaded hslot.slot :)
  · exact (congrArg Slot.key hslot.slot :)
  · exact (congrArg Slot.salt hslot.slot :)
  · exact (congrArg Slot.ctr hslot.slot :)
  · exact (congrArg Slot.keyGen hslot.slot :)

/-- A slot whose key something holds takes the new one as its shadow. -/
theorem heldSlot_shadowed (hsh : (slotOf s (eSecSlot x.e)).shadow = none) (hld : (slotOf s (eSecSlot x.e)).loaded = true)
    (hheld : holders s (eSecSlot x.e) (slotOf s (eSecSlot x.e)).keyGen ≠ 0) :
    ∃ t, exec (.loadSlot c blob) s = .next t ∧ Safety.Ended t c stOk 0 ∧ pending? t 264 = true ∧
      (slotOf t (eSecSlot x.e)).shadow = some (fieldAt blob.plain 0 32, fieldAt blob.plain 32 4) ∧
      (slotOf t (eSecSlot x.e)).key = (slotOf s (eSecSlot x.e)).key ∧ (slotOf t (eSecSlot x.e)).keyGen = (slotOf s (eSecSlot x.e)).keyGen := by
  obtain ⟨t, hload, hpend, hslot⟩ := loadSlotOp_of_held hsh hld hheld (fieldAt blob.plain 0 32) (fieldAt blob.plain 32 4) (fieldAt blob.plain 36 8)
  refine ⟨_, exec_loadSlot hx hsecp hatt hgrant hop htl hkey hkek hlen hrsv hload hslot, ended_of_slotBecomes hx hslot, hpend, ?_, ?_, ?_⟩
  · exact (congrArg Slot.shadow hslot.slot :)
  · exact (congrArg Slot.key hslot.slot :)
  · exact (congrArg Slot.keyGen hslot.slot :)

end

/-- An Erase of a granted slot leaves it EMPTY, with its counter. -/
theorem slot_erased (hop : bits x.e.cdw10 23 21 = 4) (htl : eTl x.e = 0) (hld : (slotOf s (eSecSlot x.e)).loaded = true)
    (hsh : (slotOf s (eSecSlot x.e)).shadow = none) :
    ∃ t, exec (.eraseSlot c) s = .next t ∧ Safety.Ended t c stOk 0 ∧ pending? t 264 = true ∧ (slotOf t (eSecSlot x.e)).loaded = false ∧
      (slotOf t (eSecSlot x.e)).key = 0 ∧ (slotOf t (eSecSlot x.e)).salt = 0 ∧ (slotOf t (eSecSlot x.e)).ctr = (slotOf s (eSecSlot x.e)).ctr ∧
      (∀ j, j ≠ eSecSlot x.e → slotOf t j = slotOf s j) ∧ t = { s with
        ce := { s.ce with ctxs := t.ce.ctxs }, ci := { s.ci with slots := t.ci.slots }, rf := t.rf, att := { s.att with evrec := t.att.evrec } } := by
  obtain ⟨y, hslot, hempty, hzero, hctr, -⟩ := slotBecomes_eraseSlotOp (eSecSlot x.e) s
  have hexec : exec (.eraseSlot c) s = .next (modCtx c (withStatus stOk 0 0) (eraseSlotOp (eSecSlot x.e) s)) := by
    rw [exec, execEraseSlot, onSecSend_eq (onAdmin_of_runs hx) hsecp hop hatt]
    simp only [htl, hgrant, bne_self_eq_false, Bool.not_true, Bool.false_eq_true, if_false, eraseSlotAll_of_no_shadow hsh,
      succeed_of_slotBecomes hx hslot]
  have hpend : pending? (eraseSlotOp (eSecSlot x.e) s) 264 = true := by
    rw [eraseSlotOp_of_loaded hld]
    exact pending?_raise_same (by decide) sevInfo [eSecSlot x.e, 4] _
  generalize eraseSlotOp (eSecSlot x.e) s = t at hslot hexec hpend
  refine ⟨_, hexec, ended_of_slotBecomes hx hslot, hpend, ?_, ?_, ?_, ?_, hslot.others, hslot.ctxFrame _⟩
  · exact (congrArg Slot.loaded hslot.slot :).trans hempty
  · exact (congrArg Slot.key hslot.slot :).trans (hzero hld).1
  · exact (congrArg Slot.salt hslot.slot :).trans (hzero hld).2
  · exact (congrArg Slot.ctr hslot.slot :).trans hctr

end

/-! ### Security Receive (06_cipher.md R184) -/

/-- The entries of slots that all exist are answered in order. -/
theorem slotStatus_answered (hx : Safety.AdminRuns s c x 0x82) (hsecp : bits x.e.cdw10 31 24 = 0xF2) (hop : bits x.e.cdw10 23 21 = 1)
    (hunit : eTl x.e % 16 = 0) (hmin : 16 ≤ eTl x.e) (hmax : eTl x.e ≤ 65536) (hlast : eSecSlot x.e + eTl x.e / 16 ≤ 8192) :
    ∃ t, exec (.slotStatus c) s = .next t ∧
      Safety.Answered t c ((List.range (eTl x.e / 16)).flatMap (fun i => slotEntry s (fnOf s x.fn) (eSecSlot x.e + i))) ∧
      t = { s with ce := { s.ce with ctxs := t.ce.ctxs } } := by
  have hall : ((List.range (eTl x.e / 16)).map (fun i => eSecSlot x.e + i)).filter (fun i => decide (i < 8192)) =
      (List.range (eTl x.e / 16)).map (fun i => eSecSlot x.e + i) := by
    refine List.filter_eq_self.2 fun a ha => ?_
    obtain ⟨i, hi, rfl⟩ := List.mem_map.1 ha
    have := List.mem_range.1 hi
    simp only [decide_eq_true_eq]
    omega
  have hexec : exec (.slotStatus c) s =
      .next (answer c ((List.range (eTl x.e / 16)).flatMap (fun i => slotEntry s (fnOf s x.fn) (eSecSlot x.e + i))) s) := by
    rw [exec, execSlotStatus, onAdmin_of_runs hx]
    simp [eSecp, eSecOp, hsecp, hop, hunit, not_lt.2 hmin, not_lt.2 hmax, hall, List.flatMap_map]
  rw [answer_of_adminRuns hx] at hexec
  exact ⟨_, hexec, answered_of_adminRuns hx _, rfl⟩

/-- The protocol list names protocols 0x00 and 0xF2. -/
theorem protocolList_answered (hx : Safety.AdminRuns s c x 0x82) (hsecp : bits x.e.cdw10 31 24 = 0) :
    ∃ t, exec (.securityProtocolList c) s = .next t ∧
      Safety.Answered t c ([0#8, 0#8, 0#8, 0#8, 0#8, 0#8, 0#8, 2#8, 0#8, 0xF2#8].take (eTl x.e)) ∧
      t = { s with ce := { s.ce with ctxs := t.ce.ctxs } } := by
  have hexec : exec (.securityProtocolList c) s =
      .next (answer c ([0#8, 0#8, 0#8, 0#8, 0#8, 0#8, 0#8, 2#8, 0#8, 0xF2#8].take (eTl x.e)) s) := by
    rw [exec, execSecurityProtocolList, onAdmin_of_runs hx]
    simp only [eSecp, hsecp, if_true]
    rfl
  rw [answer_of_adminRuns hx] at hexec
  exact ⟨_, hexec, answered_of_adminRuns hx _, rfl⟩

end

/-! ### NVMe-MI over the admin queue (17_attic.md R462) -/

section
variable {s u : State} {c opc : Nat} {x : Ctx} {ops : List Nat}

/-- The Attic with the request of an NVMe-MI Send or Receive in progress. -/
def miAsked (x : Ctx) (s : State) : State := onAtt (fun a => { a with miCur := some (miInBand x) }) s

/-- The Attic after it has served such a request beside its endpoints' queue: what was in progress, and the responses, are as they were. -/
def miServed (s : State) (o : MiResp) (u : State) : State :=
  onAtt (fun a => { a with miCur := s.att.miCur, miOut := s.att.miOut, miLast := tdel 6 (tset 6 o a.miLast) }) u

/-- The command ended with the response: its data, and in DW0 its status. -/
def miEnded (c : Nat) (s : State) (o : MiResp) (u : State) : State :=
  modCtx c (withStatus stOk o.status 0) (modCtx c (fun y => { y with out := o.data }) (miServed s o u))

section
variable {o : MiResp} (hx : Safety.AdminRuns s c x opc) (hce : u.ce = s.ce)
include hx hce

/-- A request that is served with a response ends its command. -/
theorem inBand_of_response (hatt : atticRuns s = true) (hop : ops.contains (miInBand x).opcode = true) (hend : o.endpoint = 6)
    (hserve : miServe (miInBand x).opcode (miAsked x s) = miRespond o.status o.data u) (hcur : u.att.miCur = some (miInBand x)) :
    inBand c ops x s = miEnded c s o u := by
  have hresp : miRespond o.status o.data u = onAtt (fun a => { a with
      miOut := a.miOut ++ [o], miLast := tset 6 o a.miLast, miCur := none }) u := by
    obtain ⟨endpoint, status, data⟩ := o
    obtain rfl : endpoint = 6 := hend
    simp only [miRespond, hcur]
    rfl
  have hlast : tget ({} : MiResp) (miRespond o.status o.data u).att.miLast 6 = o := by
    rw [hresp, onAtt_att, tget, tfind_tset_same, Option.getD_some]
  obtain ⟨⟨hctx, -, hst, htun, hfresh⟩, hadm⟩ := hx
  have hctx' : ctxOf u c = some x := (ctxOf_of_ce hce c).trans hctx
  have hfresh' : ctxFresh u x = true := (ctxFresh_of_fnOf (fnOf_of_ce hce x.fn)).trans hfresh
  rw [miEnded, ← complete_of_quiet (x := { x with out := o.data }) (by rw [ctxOf_modCtx_same]; exact congrArg _ hctx') htun (by exact hfresh')
    (by simp [hst]) (.inr hadm)]
  rw [miAsked] at hserve
  simp only [inBand, hatt, hop, hserve, hlast, Bool.not_true, Bool.false_eq_true, if_false, if_true]
  rw [hresp]
  rfl

theorem ctxOf_miEnded : ctxOf (miEnded c s o u) c = some (withStatus stOk o.status 0 { x with out := o.data }) := by
  have hctx : ctxOf (miServed s o u) c = some x := (ctxOf_of_ce hce c).trans hx.1.1
  rw [miEnded, ctxOf_modCtx_same, ctxOf_modCtx_same, hctx, Option.map_some, Option.map_some]

end

/-- Beside the command's context the response leaves what serving the request has made of the Attic, but for what Replay repeats. -/
theorem miEnded_frame (c : Nat) (o : MiResp) (f : Attic → Attic) (s : State) :
    miEnded c s o (onAtt f s) = { s with
      ce := { s.ce with ctxs := (miEnded c s o (onAtt f s)).ce.ctxs },
      att := { f s.att with miCur := s.att.miCur, miOut := s.att.miOut, miLast := (miEnded c s o (onAtt f s)).att.miLast } } := by
  simp only [miEnded, miServed, modCtx, onCe, onAtt]

/-- A request in progress of an opcode is served where the Attic runs. -/
theorem miOn_of_asked {op : Nat} (hatt : atticRuns s = true) (hop : (miInBand x).opcode = op) (f : MiReq → State → State) :
    miOn op f (miAsked x s) = f (miInBand x) (miAsked x s) := by
  have hcur : (miAsked x s).att.miCur = some (miInBand x) := rfl
  have hruns : atticRuns (miAsked x s) = true := hatt
  simp [miOn, hcur, hruns, hop]

/-- The Attic with a value kept by Configuration Set for endpoint 6. -/
def miConfigured (x : Ctx) (s : State) : State :=
  onAtt (fun a => { a with miConfig := tset (1536 + x.e.cdw12 % 256) (leNat (x.e.payload.take 4)) a.miConfig }) s

/-- NVMe-MI Send of Configuration Set keeps the configuration of endpoint 6, by its identifier. -/
theorem configuration_set (hx : Safety.AdminRuns s c x 0x1D) (hatt : atticRuns s = true) (hop : bits x.e.cdw11 7 0 = 3) :
    ∃ t, exec (.nvmeMiSend c) s = .next t ∧ Safety.Ended t c stOk (Config.miStatus 0) ∧
      tfind t.att.miConfig (1536 + x.e.cdw12 % 256) = some (leNat (x.e.payload.take 4)) ∧
      t = { s with ce := { s.ce with ctxs := t.ce.ctxs }, att := { s.att with miConfig := t.att.miConfig, miLast := t.att.miLast } } := by
  have hopc : (miInBand x).opcode = 3 := hop
  have harg : (miInBand x).arg = x.e.cdw12 := if_neg (by omega)
  have hserve : miServe (miInBand x).opcode (miAsked x s) = miRespond (Config.miStatus 0) [] (miConfigured x (miAsked x s)) := by
    rw [hopc, miServe, execConfigurationSet, nextOf, miOn_of_asked hatt hopc, harg]
    rfl
  have hce : (miConfigured x (miAsked x s)).ce = s.ce := rfl
  have hend := inBand_of_response (o := { endpoint := 6, status := Config.miStatus 0 }) (ops := [0x03, 0x06, 0x07]) hx hce hatt
    (by rw [hopc]; rfl) rfl hserve rfl
  refine ⟨_, congrArg Host.Outcome.next ((onAdmin_of_runs hx _).trans hend), ended_withStatus (ctxOf_miEnded hx hce),
    tfind_tset_same (1536 + x.e.cdw12 % 256) _ s.att.miConfig, ?_⟩
  exact miEnded_frame c _ (fun a => { a with
    miCur := some (miInBand x), miConfig := tset (1536 + x.e.cdw12 % 256) (leNat (x.e.payload.take 4)) a.miConfig }) s

/-- NVMe-MI Receive of VPD Read answers bytes of the VPD. -/
theorem vpd_read (hx : Safety.AdminRuns s c x 0x1E) (hatt : atticRuns s = true) (hop : bits x.e.cdw11 7 0 = 5)
    (hlen : bits x.e.cdw12 15 0 + bits x.e.cdw13 15 0 ≤ 256) :
    ∃ t, exec (.nvmeMiReceive c) s = .next t ∧ Safety.Ended t c stOk (Config.miStatus 0) ∧
      Safety.Answered t c (bytesAt s.att.vpd (bits x.e.cdw12 15 0) (bits x.e.cdw13 15 0)) ∧
      t = { s with ce := { s.ce with ctxs := t.ce.ctxs }, att := { s.att with miLast := t.att.miLast } } := by
  have hopc : (miInBand x).opcode = 5 := hop
  have harg : (miInBand x).arg = bits x.e.cdw13 15 0 := if_pos hop
  have hserve : miServe (miInBand x).opcode (miAsked x s) =
      miRespond (Config.miStatus 0) (bytesAt s.att.vpd (bits x.e.cdw12 15 0) (bits x.e.cdw13 15 0)) (miAsked x s) := by
    rw [hopc, miServe, execVpdRead, nextOf, miOn_of_asked hatt hopc, harg]
    exact if_neg (not_lt.2 hlen)
  have hce : (miAsked x s).ce = s.ce := rfl
  have hend := inBand_of_response (ops := [0x00, 0x01, 0x02, 0x04, 0x05]) hx hce hatt (by rw [hopc]; rfl)
    (o := { endpoint := 6, status := Config.miStatus 0, data := bytesAt s.att.vpd (bits x.e.cdw12 15 0) (bits x.e.cdw13 15 0) }) rfl hserve rfl
  have hctx := ctxOf_miEnded hx hce
    (o := { endpoint := 6, status := Config.miStatus 0, data := bytesAt s.att.vpd (bits x.e.cdw12 15 0) (bits x.e.cdw13 15 0) })
  exact ⟨_, congrArg Host.Outcome.next ((onAdmin_of_runs hx _).trans hend), ended_withStatus hctx, ⟨_, hctx, rfl, rfl, rfl⟩, miEnded_frame c _ _ s⟩

end

/-- Settles O34, operation by operation: Install, the Loads of transport keys and of slots, Erase, the answers, and NVMe-MI. -/
theorem keysAreLoadedThroughTheAttic : Obligations.KeysAreLoadedThroughTheAttic := by
  unfold Obligations.KeysAreLoadedThroughTheAttic
  refine ⟨fun _ _ _ => rootTransportKey_installed, ?_, ?_, ?_, ?_, ?_, fun _ _ _ => slotStatus_answered, fun _ _ _ => protocolList_answered,
    fun _ _ _ => configuration_set, fun _ _ _ => vpd_read⟩
  · exact fun s c f k x blob hx hsecp hop hatt hpf htl hf hport hroot hkek hlen =>
      functionTransportKey_loaded hx hsecp hop hatt hpf htl hf hport hroot hkek hlen
  · exact fun s c f k x blob hx hsecp hop hatt hpf htl hf hport hroot hkek =>
      functionTransportKey_refused hx hsecp hop hatt hpf htl hf hport hroot hkek
  · exact fun s c k x blob hx hsecp hop hatt htl hgrant hkey hkek hlen hrsv hsh hld =>
      emptySlot_loaded hx hsecp hatt hgrant hop htl hkey hkek hlen hrsv hsh hld
  · exact fun s c k x blob hx hsecp hop hatt htl hgrant hkey hkek hlen hrsv hsh hld hheld =>
      heldSlot_shadowed hx hsecp hatt hgrant hop htl hkey hkek hlen hrsv hsh hld hheld
  · exact fun s c x hx hsecp hop hatt htl hgrant hld hsh => slot_erased hx hsecp hatt hgrant hop htl hld hsh

end Sys2Proof.Machine

/-! PROOFS. The statements of descriptors posted and of dies that issue and suspend, refuted for a channel that the device does not have: what
the checks of a post and the limit of suspends answer on every channel, and that a reserved event source raises nothing (07_flash_channels.md
R201, R203, R218; 09_tail_latency.md R254; 14_control.md R400). -/

namespace Sys2Proof.Machine

/-- A reserved source raises no event (R400). -/
theorem raise_of_reserved {src : Nat} (h : listedSource src = false) (sev : Nat) (ps : List Nat) (s : State) : raise src sev ps s = s := by
  simp [raise, raiseCode, h]

/-- R218's numbering would give a channel 72 the odd source 273, which is reserved (R400). -/
theorem listedSource_evOdd_72 : listedSource (evOdd 72) = false := by decide

/-! ### A descriptor with a field out of range (R201, R203) -/

section
variable {s : State} {ch : Nat} {d : Desc} {who : Issuer}

@[simp] theorem fillDesc_op (s : State) (ch : Nat) (d : Desc) (who : Issuer) : (fillDesc s ch d who).op = d.op := by
  simp only [fillDesc, apply_ite Desc.op, ite_self]

@[simp] theorem fillDesc_die (s : State) (ch : Nat) (d : Desc) (who : Issuer) : (fillDesc s ch d who).die = d.die := by
  simp only [fillDesc, apply_ite Desc.die, ite_self]

@[simp] theorem fillDesc_tag (s : State) (ch : Nat) (d : Desc) (who : Issuer) : (fillDesc s ch d who).tag = d.tag := by
  simp only [fillDesc, apply_ite Desc.tag, ite_self]

/-- No die-block rule is asked where a field is out of range: an erase and every other descriptor go to the checks of the post alike. -/
theorem postNow_of_badField (hbad : descOk s d.die (fillDesc s ch d who) = false) :
    postNow ch d who s = postDesc ch d.die (fillDesc s ch d who) who s := by
  by_cases hop : d.op = 0x20 <;> simp [postNow, postErase, hop, hbad]

/-- The checks of a post answer a field out of range with status 8 and the channel's odd source. -/
theorem postDesc_of_badField {die : Nat} (hoff : (chanOf s ch).st ≠ .off) (hbad : descOk s die d = false) :
    postDesc ch die d who s = raise (evOdd ch) sevWarning [d.tag] (fcpl ch { d with posted := s.ck.tb } who 8 s) := by
  have hposted : descOk s die { d with posted := s.ck.tb } = false := hbad
  simp [postDesc, postRefused, hoff, hposted]

/-- DESCRIPTOR_POST of a descriptor with a field out of range, on a channel that has power: status 8, and the channel's odd source. -/
theorem exec_descriptorPost_of_badField (hheld : agentHeld s (agentOf ch who) = false) (hoff : (chanOf s ch).st ≠ .off)
    (hbad : descOk s d.die (fillDesc s ch d who) = false) :
    exec (.descriptorPost ch d who) s =
      .next (raise (evOdd ch) sevWarning [d.tag] (fcpl ch { fillDesc s ch d who with posted := s.ck.tb } who 8 s)) := by
  simp only [exec, execDescriptorPost, postBy, hheld, Bool.false_eq_true, if_false]
  rw [postNow_of_badField hbad, postDesc_of_badField hoff hbad, fillDesc_tag]

end

/-- A sequencer with power under a channel number that the device does not have. -/
def strayChannel : State := { fl := { chans := [(72, { st := .halted })] } }

/-- A Reset LUN with a reserved field set. -/
def reservedSet : Desc := { op := 0x48, queue := 3, rsvd := 1 }

/-- Refutes O44: its clause on a field out of range does not bound the channel by the device's 64. In `strayChannel` the post completes with
status 8, and the odd source that R218's numbering would give channel 72 is the reserved source 273, which raises nothing. -/
theorem not_descriptorsArePosted : ¬ Obligations.DescriptorsArePosted := by
  unfold Obligations.DescriptorsArePosted
  rintro ⟨-, -, -, -, badField, -⟩
  have hheld : agentHeld strayChannel (agentOf 72 .firmware) = false := by decide
  have hoff : (chanOf strayChannel 72).st ≠ .off := by decide
  have hbad : descOk strayChannel reservedSet.die (fillDesc strayChannel 72 reservedSet .firmware) = false := by decide
  obtain ⟨t, ht, -, hpending, -⟩ := badField strayChannel 72 reservedSet .firmware hheld hoff hbad
  rw [exec_descriptorPost_of_badField hheld hoff hbad, raise_of_reserved listedSource_evOdd_72] at ht
  cases ht
  exact absurd hpending (by decide)

/-! ### A suspend refused at SUSP_MAX (R254) -/

/-- MINIMUM_RUN_REACHED for an operation that reads wait for and that has had all its suspends: the channel's odd source, and nothing else. -/
theorem exec_minimumRunReached_at_suspMax {s : State} {ch die : Nat} {o : Op} (hcur : (dieOf s (64 * ch + die)).cur = some o)
    (hread : (headOf (dieOf s (64 * ch + die)) 0).isSome = true) (hsusp : Safety.Suspendable s ch die o = true)
    (hmax : o.d.suspMax ≤ o.suspends) :
    exec (.minimumRunReached ch die) s = .next (raise (evOdd ch) sevInfo [die, o.d.tag] s) := by
  have hany : (dieOf s (64 * ch + die)).q.any (fun e => e.1.queue == 0) = true := by
    rwa [headOf, List.find?_isSome, ← List.any_eq_true] at hread
  simp only [Safety.Suspendable, Bool.and_eq_true, beq_iff_eq, Option.isNone_iff_eq_none] at hsusp
  obtain ⟨⟨⟨⟨hlong, hrunning⟩, hchan⟩, hnone⟩, hmin⟩ := hsusp
  simp [exec, execMinimumRunReached, trySuspend, hcur, hlong, hrunning, hany, hchan, hnone, hmin, Nat.not_lt.2 hmax]

/-- A program that may not be suspended, with its minimum run behind it. -/
def unsuspendable : Op := { d := { op := 0x10 }, phase := .running }

/-- The program runs on a die of a channel number that the device does not have, and a read waits for it. -/
def strayDie : State :=
  { fl := { chans := [(72, { st := .running })], dies := [(64 * 72, { cur := some unsuspendable, q := [({ op := 1 }, .firmware)] })] },
    ck := { tb := 60000 } }

/-- Refutes O45: its clause on the minimum run does not bound the channel by the device's 64. In `strayDie` the suspend is refused at SUSP_MAX,
and the odd source of channel 72 would be the reserved source 273, which raises nothing. -/
theorem not_diesIssueSuspendAndResume : ¬ Obligations.DiesIssueSuspendAndResume := by
  unfold Obligations.DiesIssueSuspendAndResume
  rintro ⟨-, -, -, -, -, -, -, minimumRun, -⟩
  have hread : (headOf (dieOf strayDie (64 * 72 + 0)) 0).isSome = true := by decide
  have hsusp : Safety.Suspendable strayDie 72 0 unsuspendable = true := by decide
  obtain ⟨-, atMax, -⟩ := minimumRun strayDie 72 0 unsuspendable rfl hread
  obtain ⟨t, ht, hpending, -⟩ := atMax hsusp (Nat.le_refl 0)
  rw [exec_minimumRunReached_at_suspMax (o := unsuspendable) rfl hread hsusp (Nat.le_refl 0), raise_of_reserved listedSource_evOdd_72] at ht
  cases ht
  exact absurd hpending (by decide)

end Sys2Proof.Machine

/-! PROOFS. The statement of the ends of die operations, refuted (07_flash_channels.md R214; 08_flash_integrity.md R232, R234). -/

namespace Sys2Proof.Machine

/-- An erase of die-block 16 that runs with 15 tokens of the program class. -/
def lastErase : Op := { d := { op := 0x20, queue := 2, block := 16 }, phase := .running, tokens := 15, cls := 1 }

/-- The program of the first wordline of die-block 16. -/
def earlyProgram : Desc := { op := 0x10, queue := 1, block := 16 }

/-- Band 0 is being erased: die-block 16 of the die at position 0 is the last to be erased, and those of the other fifteen dies stand ERASED. The
pool has the erase's 15 tokens and no more, and on the die at position 1 a program of that die-block waits for tokens. -/
def eraseCrossed : State :=
  wr R.ftBudget 15
    { fl := {
        chans := [(0, { st := .running, usable := 1 }), (1, { st := .running, usable := 1 })],
        dies := [(dieAt 0 0, { cur := some lastErase }),
                 (dieAt 0 1, { cur := some { d := earlyProgram, phase := .waitTokens }, q := [(earlyProgram, .firmware)] })],
        blks := (List.range 16).map (fun pos => (4096 * dieAt 0 pos + 16, { st := if pos = 0 then 1 else 2 })),
        peHeld := 15, peReq := [{ die := dieAt 0 1, cost := 8 }] }
      ze := { bands := [(0, { erasing := true })], rows := [(0, { domain := some 0, use := some 0 })] } }

theorem eraseCrossed_runs : Safety.OpRuns eraseCrossed 0 0 0x20 lastErase := by
  unfold Safety.OpRuns
  decide +kernel

/-- The tokens that the erase gives back start the program: its die-block is WRITTEN, and the band does not count as erased. -/
theorem exec_eraseDone_eraseCrossed :
    ∃ t, exec (.eraseDone 0 0 true) eraseCrossed = .next t ∧ (blkOf t (dieAt 0 1) 16).st = 3 ∧ (bandOf t 0).erased = false :=
  ⟨_, rfl, by decide +kernel⟩

/-- Refutes O46: its clause on an erase that ends well looks at the band's other die-blocks as they stand before the end, and the end gives
tokens back (R214). In `eraseCrossed` they start a program on one of those die-blocks, which leaves ERASED (R232), and the band may not be bound. -/
theorem not_dieOperationsEnd : ¬ Obligations.DieOperationsEnd := by
  unfold Obligations.DieOperationsEnd
  rintro ⟨-, -, -, -, eraseEnds, -⟩
  obtain ⟨t, ht, -, -, -, -, -, -, bandErases⟩ :=
    eraseEnds eraseCrossed 0 0 lastErase eraseCrossed_runs rfl rfl (by decide +kernel) rfl (by decide +kernel)
  obtain ⟨t', ht', -, hnot⟩ := exec_eraseDone_eraseCrossed
  obtain rfl : t = t' := by injection ht.symm.trans ht'
  obtain ⟨herased, -, -⟩ := bandErases 0 0 (by decide +kernel) (by decide +kernel) (by decide +kernel)
  exact absurd (herased.symm.trans hnot) (by decide)

end Sys2Proof.Machine

/-! PROOFS. The statement of channels that start, refuted: a first identification after recovery is journalled, and the journal takes a buffer of the
Larder (08_flash_integrity.md R236; 10_granary.md R281; 13_larder.md R370). -/

namespace Sys2Proof.Machine

/-! ### A record that opens a journal segment takes a P_5 buffer (R281, R370) -/

/-- A pool with a free buffer grants it. -/
theorem grants_grantBuf {s : State} {p : Nat} (hfree : 0 < poolFree s p) (owner : Nat) :
    ∃ g, (grantBuf p owner s).lr.grants = (owner, g) :: s.lr.grants := by
  have hlt : (poolBusy s p).length < poolCount s p := Nat.lt_of_sub_pos hfree
  obtain ⟨k, hk, -⟩ := exists_pickFree hlt (bufKey p 0) (freeVal s)
  simp only [grantBuf, hk]
  exact ⟨handleOf p (k % 8388608) (((bufOf s k).gen + 1) % 64),
    (onlyIf_keeps (fun t => t.lr.grants) _ _ _ (fun t => by simp)).trans (by simp [setBuf])⟩

section
variable {s : State}

/-- Where the device's own items may take a segment, a P_5 buffer is free. -/
theorem poolFree_of_ownLeft (hroom : 0 < ownLeft s) : 0 < poolFree s 5 := by
  have hle : ownLeft s ≤ segsLeft s := by
    unfold ownLeft
    split
    · exact Nat.min_le_left _ _
    · exact Nat.le_refl _
  simp only [segsLeft] at hle
  omega

/-- A record journalled where no journal segment has been begun. -/
theorem grants_journal (hopen : openSeg s 4 = none) (hroom : 0 < ownLeft s) (r : JRec) :
    ∃ g, (journal r s).lr.grants = (segOwner 4, g) :: s.lr.grants := by
  have hone : newSegs s 4 [16] = 1 := by simp [newSegs, openRoom, hopen, packSegs, itemBytes]
  obtain ⟨g, hg⟩ := grants_grantBuf (poolFree_of_ownLeft hroom) (segOwner 4)
  refine ⟨g, ?_⟩
  unfold journal journalAll
  refine (onlyIf_keeps (fun t => t.lr.grants) _ _ _ (fun t => ?_)).trans ?_
  · exact forEach_keeps (fun t => t.lr.grants) _ (fun p t => by simp) _ t
  · simp [putState, hone, hroom, Nat.succ_le_of_lt, putItem, hopen, putItem.fresh, takeSegBuf, hg]

/-! ### A first identification after recovery (R236) -/

/-- A die identified for the first time after recovery, with one marked die-block, a spare: its RETIRE is journalled. -/
theorem grants_firstIdent {dk b : Nat} (hknown : s.fl.known.contains dk = false) (hmarks : badMarks s dk = [b])
    (hspare : 16 + zoneBlocks s.board ≤ b) (hrec : s.gr.recovered = true) (hopen : openSeg s 4 = none) (hroom : 0 < ownLeft s) :
    ∃ g, (firstIdent dk s).lr.grants = (segOwner 4, g) :: s.lr.grants := by
  simp only [firstIdent, hknown, hmarks, forEach_cons, forEach_nil, keepRec, modBlk, onFl_gr, hrec, onFl_board,
    Nat.not_lt.2 hspare, decide_false, onlyIf_false, raise_lr, if_true, Bool.false_eq_true, if_false]
  exact grants_journal (s := onFl _ (onFl _ s)) hopen hroom _

end

/-- The channel's initialisation ends after recovery. The factory marked the last spare of die 0, and the device has not identified that die before;
the Granary, of one segment, is empty. -/
def firstFound : State :=
  { fl := { chans := [(0, { st := .init })] }, gr := { size := 1, recovered := true }, board := { factoryBad := [1639] } }

/-- At the end of the initialisation the die's mark is journalled, and the journal holds a buffer of the Larder. -/
theorem exec_channelInitDone_firstFound :
    ∃ t, exec (.channelInitDone 0 [(0, 0)]) firstFound = .next t ∧ t.lr.grants ≠ [] := by
  refine ⟨_, rfl, ?_⟩
  obtain ⟨g, hg⟩ := grants_firstIdent (dk := 0) (b := 1639)
    (s := modChan 0 (fun c => { c with st := .running, usable := 1, volumes := [0], vol := none, initDone := [] }) firstFound)
    rfl (by decide +kernel) (by decide +kernel) rfl rfl (by decide +kernel)
  exact fun hnone => absurd (hg.symm.trans hnone) (by simp)

/-- Refutes O47: the frame of its clause on the end of the initialisation leaves the Larder as it was. After recovery the RETIRE records of a first
identification are journalled (R236), and in `firstFound` the record takes a P_5 buffer for the journal's first segment (R281, R370). -/
theorem not_channelsStartAndFindTheirDies : ¬ Obligations.ChannelsStartAndFindTheirDies := by
  unfold Obligations.ChannelsStartAndFindTheirDies
  rintro ⟨-, -, -, -, initEnds, -⟩
  obtain ⟨t, ht, -, -, -, -, -, -, -, -, -, hframe, -⟩ := initEnds firstFound 0 [(0, 0)] _ (by decide) (.inl rfl)
  obtain ⟨t', ht', hgrants⟩ := exec_channelInitDone_firstFound
  obtain rfl : t = t' := by injection ht.symm.trans ht'
  exact hgrants (by rw [hframe]; rfl)

end Sys2Proof.Machine

/-! PROOFS. The statement of reads decoded, recovered and detoured: what a failed direct read does while its detour runs (08_flash_integrity.md R221,
R222; 09_tail_latency.md R262). -/

namespace Sys2Proof.Machine

/-! ### A direct read that fails beside its detour climbs no step (09_tail_latency.md R262) -/

/-- A counter advanced changes nothing that the STAMP check looks at. -/
theorem stampOk_count (cnt ovf : Ref) (i n : Nat) (s : State) (j : ReadJob) (st : Stamp) :
    stampOk (count cnt ovf i n s) j st = stampOk s j st := by
  obtain ⟨_, h⟩ := count_only_regs cnt ovf i n s
  rw [h]; rfl

theorem jobOf_modJob_same (tag : Nat) (f : ReadJob → ReadJob) (s : State) : jobOf (modJob tag f s) tag = (jobOf s tag).map f :=
  tfind_talter_same tag f s.fl.jobs

/-- A direct read whose detour also runs, and whose STAMP does not match, stays at its step and awaits the detour's result. -/
theorem exec_hardDecodeDone_of_both {s : State} {tag : Nat} {j : ReadJob} {st : Stamp} (hjob : jobOf s tag = some j) (hheld : s.fl.heldPosts = [])
    (hready : j.ready = true) (hop : j.desc.op = 1) (hboth : j.both = true) (hstamp : stampOk s j st = false) (e : Nat) :
    ∃ t, exec (.hardDecodeDone tag (some e) st) s = .next t ∧ jobOf t tag = some { j with both := false, ready := false } := by
  set u := raise 271 sevWarning [j.band, expIndex (count (R.ldCnt 0) R.ldOvf 0 1 s) j, st.index]
    (count (R.ldCnt 4) R.ldOvf 4 1 (count (R.ldCnt 0) R.ldOvf 0 1 s)) with hu
  have hfl : u.fl = s.fl := by rw [hu, raise_fl, count_fl, count_fl]
  have hnone : (directLost tag u).fl.heldPosts = [] := (congrArg Flash.heldPosts hfl).trans hheld
  refine ⟨directLost tag u, ?_, ?_⟩
  · simp only [exec, execHardDecodeDone, hjob, hready, hop, hboth, stampOk_count, hstamp, ← hu, bne_self_eq_false, Bool.not_true, Bool.or_self,
      Bool.false_eq_true, if_false, if_true]
    rw [releaseHeld, hnone]
    rfl
  · rw [directLost, jobOf_modJob_same, jobOf, hfl, ← jobOf, hjob]
    rfl

/-- A host's read of zone 0 of namespace 1 whose descriptor was issued in the cycle of its cancel. -/
def crossedRead : ReadJob :=
  { who := .hostRead 0 0 0, nsid := 1, zone := zKey 1 0, ready := true, detour := true, parts := [6], both := true, left := [0], desc := { op := 1, tag := 5 } }

/-- The detour's read of another die of the stripe. -/
def crossedPart : ReadJob := { who := .constituent 5, nsid := 1, zone := zKey 1 0, ch := 1, left := [0], desc := { op := 1, tag := 6 } }

/-- The read waits for its decoder while its detour runs. -/
def crossedDetour : State := { fl := { jobs := [(5, crossedRead), (6, crossedPart)] } }

/-- Refutes O48: the clause on a STAMP that does not match takes in the read that runs beside its own detour, and asks that it go to step 3 or beyond.
Of the two the first good result is used (R262), so in `crossedDetour` the read, found with INDEX 1 for 0, stays at step 1 for the detour's result. -/
theorem not_readsAreDecodedRecoveredAndDetoured : ¬ Obligations.ReadsAreDecodedRecoveredAndDetoured := by
  unfold Obligations.ReadsAreDecodedRecoveredAndDetoured
  rintro ⟨-, -, stampClimbs, -⟩
  have hstamp : stampOk crossedDetour crossedRead { index := 1 } = false := by decide
  obtain ⟨t, ht, -, ⟨k, hk, -, hstep⟩, -⟩ := stampClimbs crossedDetour 5 crossedRead { index := 1 } rfl rfl (by decide) rfl rfl hstamp 0
  obtain ⟨t', ht', hstays⟩ := exec_hardDecodeDone_of_both (tag := 5) rfl rfl rfl rfl rfl hstamp 0
  obtain rfl : t = t' := by injection ht.symm.trans ht'
  obtain rfl := Option.some.inj (hk.symm.trans hstays)
  exact absurd hstep (by decide)

end Sys2Proof.Machine

/-! PROOFS. Rules of the moves of zones: event sources that stay pending, and what a move's begin and end leave
(14_control.md R401; 06_cipher.md R169, R171; 08_flash_integrity.md R242, R245). -/

namespace Sys2Proof.Machine

/-! ### Event sources stay pending (14_control.md R401) -/

/-- Every event source that is pending in `s` is pending in `t`. -/
structure KeepsPending (s t : State) : Prop where
  mono : ∀ k, k < 512 → pending? s k = true → pending? t k = true

section
variable {s t u : State}

theorem KeepsPending.refl (s : State) : KeepsPending s s := ⟨fun _ _ hp => hp⟩

theorem KeepsPending.trans (h : KeepsPending s t) (h' : KeepsPending t u) : KeepsPending s u :=
  ⟨fun k hk hp => h'.mono k hk (h.mono k hk hp)⟩

theorem keepsPending_of_rf (h : t.rf = s.rf) : KeepsPending s t := ⟨fun k _ hp => by
  rw [pending?, rdb, rd, h]; exact hp⟩

theorem keepsPending_forEach {α : Type} {f : α → State → State} (h : ∀ a t, KeepsPending t (f a t)) (l : List α) (s : State) :
    KeepsPending s (forEach l f s) :=
  forEach_inv (P := KeepsPending s) (fun a t ht => ht.trans (h a t)) l s (KeepsPending.refl s)

theorem keepsPending_onlyIf {f : State → State} (h : ∀ t, KeepsPending t (f t)) (b : Bool) (s : State) : KeepsPending s (onlyIf b f s) := by
  cases b
  · exact KeepsPending.refl s
  · exact h s

/-- The words of the pending sources lie below every register of a block from 0x10020000 on. -/
theorem keepsPending_wr {r : Ref} (h : 0x10020000 ≤ r.addr) (v : Nat) (s : State) : KeepsPending s (wr r v s) := ⟨fun k hk hp => by
  rw [pending?, rdb, rd_wr_other (by simp only [R.evPend]; omega)]; exact hp⟩

theorem keepsPending_count {cnt ovf : Ref} (hc : 0x10020000 ≤ cnt.addr) (ho : 0x10020000 ≤ ovf.addr) (i n : Nat) (s : State) :
    KeepsPending s (count cnt ovf i n s) := by
  simp only [count]
  split
  · exact keepsPending_wr hc _ s
  · exact (keepsPending_wr hc _ s).trans (keepsPending_wr ho _ _)

theorem keepsPending_raise (src sev : Nat) (ps : List Nat) (s : State) : KeepsPending s (raise src sev ps s) := by
  refine ⟨fun k _ hp => ?_⟩
  have hset := pending?_setPend_mono src hp
  simp only [raise, raiseCode]
  split
  · exact hp
  split
  · split
    · split
      · exact pending?_setPend_mono 491 hset
      · exact pending?_setPend_mono 491 hset
    · exact hset
  · exact hset

/-! Frames sent (11_balwen.md R322 to R331). -/

theorem keepsPending_emit (n : Nat) (f : TxFrame) (s : State) : KeepsPending s (emit n f s) :=
  (keepsPending_of_rf (by rfl)).trans (keepsPending_count (by simp only [R.plCnt]; omega) (by simp only [R.plOvf]; omega) 0 1 _)

theorem keepsPending_sessSend (n k : Nat) (f : TxFrame) (s : State) : KeepsPending s (sessSend n k f s) := by
  have hemit : KeepsPending s (sessEmit n k f s) := by
    unfold sessEmit
    split
    · exact KeepsPending.refl s
    · exact (keepsPending_of_rf (by rfl)).trans (keepsPending_emit n _ _)
  unfold sessSend
  split
  · exact KeepsPending.refl s
  · split
    · exact hemit
    · exact keepsPending_of_rf (by rfl)

/-- A session opened, or closed to make room, writes no register. -/
theorem needSess_keepsPending (n node : Nat) (s : State) : KeepsPending s (needSess n node s).1 := by
  have hroom : (roomSess n s).1.rf = s.rf := by
    unfold roomSess
    split
    · rfl
    · split <;> rfl
  have hopen (k : Nat) (t : State) : (openSess k t).rf = t.rf := by
    unfold openSess
    split <;> rfl
  unfold needSess
  dsimp only
  split_ifs
  · exact KeepsPending.refl s
  · exact KeepsPending.refl s
  · split
    · next t ht =>
      exact (keepsPending_of_rf ((hopen _ t).trans (by rw [← hroom, ht]))).trans (keepsPending_sessSend _ _ _ _)
    · next t ht => exact keepsPending_of_rf (by rw [← hroom, ht])

theorem keepsPending_sendFrame (f : TxFrame) (s : State) : KeepsPending s (sendFrame f s).1 := by
  unfold sendFrame
  split
  · exact keepsPending_onlyIf (fun t => keepsPending_raise _ _ _ t) _ s
  · next n _ =>
    have hsess := needSess_keepsPending n (sessNode s n f.dst) s
    dsimp only
    split
    · exact hsess.trans (keepsPending_sessSend _ _ _ _)
    · exact hsess

/-! Items and records of the Granary (10_granary.md R281). -/

theorem keepsPending_grantBuf (p owner : Nat) (s : State) : KeepsPending s (grantBuf p owner s) := by
  unfold grantBuf
  split
  · exact KeepsPending.refl s
  · refine KeepsPending.trans ?_ (keepsPending_onlyIf (fun t => keepsPending_raise _ _ _ t) _ _)
    exact (keepsPending_of_rf (by rfl)).trans (keepsPending_count (by decide) (by decide) 0 1 _)

theorem keepsPending_putState (kind bytes a b : Nat) (s : State) : KeepsPending s (putState kind bytes a b s) := by
  have hfresh (n : Nat) : KeepsPending s (putItem.fresh kind bytes a b n s).2 :=
    (keepsPending_grantBuf 5 (segOwner kind) s).trans (keepsPending_of_rf (by rfl))
  have hitem : KeepsPending s (putItem kind bytes a b s).2 := by
    unfold putItem
    dsimp only
    split
    · split
      · exact keepsPending_of_rf (by rfl)
      · exact hfresh _
    · exact hfresh _
  simp only [putState]
  split
  · exact hitem
  · exact keepsPending_of_rf (by rfl)

theorem keepsPending_sendRecord (item : Nat × Nat) (f : TxFrame) (s : State) : KeepsPending s (sendRecord item f s) := by
  simp only [sendRecord]
  split
  · exact (keepsPending_of_rf (by rfl)).trans (keepsPending_sendFrame _ _)
  · exact KeepsPending.refl s

theorem keepsPending_journal (r : JRec) (s : State) : KeepsPending s (journal r s) := by
  simp only [journal, journalAll]
  refine KeepsPending.trans ?_ (keepsPending_onlyIf (fun t => keepsPending_forEach (fun p u => keepsPending_sendRecord _ _ u) _ t) _ _)
  exact (keepsPending_putState _ _ _ _ s).trans (keepsPending_of_rf (by rfl))

theorem keepsPending_noteDelta (key : Nat) (s : State) : KeepsPending s (noteDelta key s) := by
  obtain ⟨f, h⟩ := noteDelta_eq key s
  have hplace : KeepsPending s (placeDelta key s) := by
    unfold placeDelta
    split
    · exact KeepsPending.refl s
    · exact (keepsPending_putState _ _ _ _ s).trans (keepsPending_of_rf (by rfl))
  have hjournal (t : State) : KeepsPending t (journalDelta key t) := by
    unfold journalDelta
    split
    · exact (keepsPending_journal _ t).trans (keepsPending_of_rf (by rfl))
    · exact KeepsPending.refl t
  rw [h]
  exact (hplace.trans (hjournal _)).trans (keepsPending_sendRecord _ _ _)

/-! Bands unbound, key slots settled, and a move given up (06_cipher.md R171, 08_flash_integrity.md R245). -/

theorem keepsPending_settleRow (r : Nat) (s : State) : KeepsPending s (settleRow r s) := by
  simp only [settleRow]
  split
  · exact KeepsPending.refl s
  · exact ((keepsPending_of_rf (by rfl)).trans (keepsPending_journal _ _)).trans (keepsPending_raise _ _ _ _)

theorem keepsPending_freeBand (b : Nat) (noData : Bool) (s : State) : KeepsPending s (freeBand b noData s) := by
  refine KeepsPending.trans (t := if noData then _ else _) ?_ (keepsPending_settleRow _ _)
  split
  · exact keepsPending_of_rf (by rfl)
  · exact (keepsPending_of_rf (by rfl)).trans (keepsPending_forEach (fun dk t => keepsPending_of_rf (by rfl)) _ _)

theorem keepsPending_settleSlot (k : Nat) (s : State) : KeepsPending s (settleSlot k s) := by
  simp only [settleSlot]
  split
  · exact keepsPending_of_rf (by rfl)
  split
  · exact keepsPending_of_rf (by rfl)
  · exact ((keepsPending_of_rf (by rfl)).trans (keepsPending_count (by decide) (by decide) 3 1 _)).trans (keepsPending_raise _ _ _ _)

theorem keepsPending_dropMove (key reason : Nat) (s : State) : KeepsPending s (dropMove key reason s) := by
  simp only [dropMove]
  split
  · exact KeepsPending.refl s
  · refine KeepsPending.trans ?_ (keepsPending_raise _ _ _ _)
    refine KeepsPending.trans ?_ (keepsPending_forEach (fun k t => keepsPending_settleSlot k t) _ _)
    exact (keepsPending_of_rf (by rfl)).trans (keepsPending_freeBand _ _ _)

end

/-! ### Zones and bands through what a move does (08_flash_integrity.md R242, R245) -/

@[simp] theorem zNsid_zKey {nsid zone : Nat} (h : zone < 1048576) : zNsid (zKey nsid zone) = nsid := by
  simp only [zNsid, zKey]; omega

@[simp] theorem zIdx_zKey {nsid zone : Nat} (h : zone < 1048576) : zIdx (zKey nsid zone) = zone := by
  simp only [zIdx, zKey]; omega

section
variable {s : State} {key : Nat}

theorem zoneOf_nextRelGen_same (key : Nat) (s : State) :
    zoneOf (nextRelGen key s) key = { zoneOf s key with relGen := ((zoneOf s key).relGen + 1) % 65536 } :=
  zoneOf_modZone_same key _ _

theorem zoneOf_nextRelGen_other {k : Nat} (hk : k ≠ key) (s : State) : zoneOf (nextRelGen key s) k = zoneOf s k :=
  zoneOf_modZone_other hk _ _

@[simp] theorem bandOf_modBand_same (b : Nat) (f : Band → Band) (s : State) : bandOf (modBand b f s) b = f (bandOf s b) := by
  simp [bandOf, modBand]

theorem bandOf_of_bands {s t : State} (h : t.ze.bands = s.ze.bands) (b : Nat) : bandOf t b = bandOf s b := by simp [bandOf, h]

/-- The zone table and the bands, which the cipher's changes leave. -/
theorem zoneOf_of_offCipher {s t : State} (h : offCipher t = offCipher s) (k : Nat) : zoneOf t k = zoneOf s k :=
  (congrArg (fun u => zoneOf u k) h :)

theorem bandOf_of_offCipher {s t : State} (h : offCipher t = offCipher s) (b : Nat) : bandOf t b = bandOf s b :=
  (congrArg (fun u => bandOf u b) h :)

theorem offCipher_settleSlots (l : List Nat) (s : State) : offCipher (forEach l settleSlot s) = offCipher s :=
  forEach_keeps offCipher settleSlot (fun k t => offCipher_settleSlot k t) l s

theorem journal_ze (r : JRec) (s : State) : (journal r s).ze = s.ze := (congrArg State.ze (offGranary_journal r s) :)

/-- A row settled binds and frees no band. -/
theorem bandZone_settleRow (r b : Nat) (s : State) : (bandOf (settleRow r s) b).zone = (bandOf s b).zone := by
  simp only [settleRow]
  split
  · rfl
  · simp only [bandOf, raise_ze, journal_ze, onZe_ze, modRow, tget, tfind_tmap]
    cases tfind s.ze.bands b with
    | none => rfl
    | some y => simp only [Option.map_some, Option.getD_some]; split <;> rfl

/-- A band freed is bound to no zone. -/
theorem bandZone_freeBand (b : Nat) (noData : Bool) (s : State) : (bandOf (freeBand b noData s) b).zone = none := by
  have hblks (f : DieBlk → DieBlk) (t : State) : (modBandBlks b f t).ze = t.ze := forEach_keeps State.ze _ (fun _ _ => by rfl) _ t
  simp only [freeBand, bandZone_settleRow]
  split
  · rw [bandOf_modBand_same]
  · rw [bandOf_of_bands (congrArg ZoneEngine.bands (hblks _ _)), bandOf_modBand_same]

/-- A move given up leaves the zone on its band, with its data and another relocation generation. -/
theorem zoneOf_dropMove {m : Move} (hmove : (zoneOf s key).move = some m) (reason : Nat) :
    zoneOf (dropMove key reason s) key = { zoneOf s key with relGen := ((zoneOf s key).relGen + 1) % 65536, move := none } := by
  simp only [dropMove, hmove]
  rw [zoneOf_of_zonePart (zonePart_raise _ _ _ _), zoneOf_of_offCipher (offCipher_settleSlots _ _), zoneOf_of_zonePart (zonePart_freeBand _ _ _),
    zoneOf_modZone_same, zoneOf_nextRelGen_same]

theorem pending?_dropMove {m : Move} (hmove : (zoneOf s key).move = some m) (reason : Nat) : pending? (dropMove key reason s) 426 = true := by
  simp only [dropMove, hmove]
  exact pending?_raise_same (by decide) _ _ _

end

/-! ### A move begun (08_flash_integrity.md R242, R245; 06_cipher.md R169, R171) -/

/-- Counter values reserved leave what a capture of the slot's key looks at. -/
theorem captureGen_of_reserve {k n c : Nat} {s t : State} (h : reserve k n s = some (c, t)) (j : Nat) : captureGen t j = captureGen s j := by
  have ht : t = markSlot k (modSlot k (fun x => { x with ctr := x.ctr + n }) s) := by
    simp only [reserve] at h
    split at h
    · cases h
    · exact (Prod.mk.inj (Option.some.inj h)).2.symm
  have hslot := (slotBecomes_modSlot k (fun x => { x with ctr := x.ctr + n }) s).markSlot
  rw [← ht] at hslot
  by_cases hj : j = k
  · subst hj
    obtain ⟨hl, hs, hg⟩ : (slotOf t j).loaded = (slotOf s j).loaded ∧ (slotOf t j).shadow = (slotOf s j).shadow ∧
        (slotOf t j).keyGen = (slotOf s j).keyGen :=
      ⟨(congrArg Slot.loaded hslot.slot :), (congrArg Slot.shadow hslot.slot :), (congrArg Slot.keyGen hslot.slot :)⟩
    simp only [captureGen, hl, hs, hg]
  · simp only [captureGen, hslot.others j hj]

/-- The move that begins for a zone. -/
def begunMove (s : State) (key target duty : Nat) : Move :=
  { target := target, gen := ((zoneOf s key).relGen + 1) % 65536, duty := duty, ctr := (slotOf s (shapeIn s key).keySlot).ctr,
    due := if duty = 0 then 0 else Nat.max s.ck.tb s.fl.copyBusy + moveNs s (zoneOf s key),
    keys := ((captureGen s (shapeIn s key).keySlot).map (fun g => ((shapeIn s key).keySlot, g))).toList }

/-- What a move's begin changes once its counter values are reserved, before the zone's delta is noted. -/
def bindTarget (d key target : Nat) (paced : Bool) (due : Nat) (move : Zone → Zone) (mark : Engine → Engine) (s : State) : State :=
  s |> fblTake d target |> nextRelGen key |> onlyIf paced (onFl (fun f => { f with copyBusy := due }))
    |> modBand target (fun b => { b with zone := some (zNsid key, zIdx key), prog := [], issued := [], temps := [] })
    |> modZone key move |> onCe mark

/-- A change of the flash side leaves the zones and the key slots. -/
theorem zoneOf_onlyIf_onFl (b : Bool) (f : Flash → Flash) (k : Nat) (s : State) : zoneOf (onlyIf b (onFl f) s) k = zoneOf s k := by
  cases b <;> rfl

theorem ci_onlyIf_onFl (b : Bool) (f : Flash → Flash) (s : State) : (onlyIf b (onFl f) s).ci = s.ci := by
  cases b <;> rfl

section
variable (d key target : Nat) (paced : Bool) (due : Nat) (move : Zone → Zone) (mark : Engine → Engine) (s : State)

theorem zoneOf_bindTarget_same : zoneOf (bindTarget d key target paced due move mark s) key =
    move { zoneOf s key with relGen := ((zoneOf s key).relGen + 1) % 65536 } := by
  refine (zoneOf_modZone_same key move _).trans (congrArg move ?_)
  rw [zoneOf_modBand, zoneOf_onlyIf_onFl, zoneOf_nextRelGen_same, zoneOf_fblTake]

theorem zoneOf_bindTarget_other {k : Nat} (hk : k ≠ key) : zoneOf (bindTarget d key target paced due move mark s) k = zoneOf s k := by
  refine (zoneOf_modZone_other hk move _).trans ?_
  rw [zoneOf_modBand, zoneOf_onlyIf_onFl, zoneOf_nextRelGen_other hk, zoneOf_fblTake]

theorem bandZone_bindTarget : (bandOf (bindTarget d key target paced due move mark s) target).zone = some (zNsid key, zIdx key) := by
  have hband (u : State) : bandOf (onCe mark (modZone key move u)) target = bandOf u target := rfl
  rw [bindTarget, hband, bandOf_modBand_same]

theorem ci_bindTarget : (bindTarget d key target paced due move mark s).ci = s.ci := by
  have hfbl : (fblTake d target s).ci = s.ci := (congrArg State.ci (fblTake_keeps d target s).1 :)
  simp only [bindTarget, onCe_ci, modZone, modBand, onZe_ci, ci_onlyIf_onFl, nextRelGen, onFl_ci, hfbl]

end

section
variable {s t : State} {key target duty : Nat}

/-- From `s` to `t` a zone's move to a band has begun. -/
structure MoveBegun (s t : State) (key target duty : Nat) : Prop where
  zone : ∃ n, zoneOf t key = { zoneOf s key with
    relGen := ((zoneOf s key).relGen + 1) % 65536, move := some (begunMove s key target duty), deltas := true, jseq := n }
  others : ∀ k, k ≠ key → zoneOf t k = zoneOf s k
  band : (bandOf t target).zone = some (zNsid key, zIdx key)
  slot : (slotOf t (shapeIn s key).keySlot).ctr = (slotOf s (shapeIn s key).keySlot).ctr + liveUnits (zoneOf s key)

/-- A move begins where the zone's key slot has a counter value for each of its live units. -/
theorem startMove_of_left (hleft : liveUnits (zoneOf s key) ≤ counterLeft (slotOf s (shapeIn s key).keySlot)) (target duty : Nat) :
    MoveBegun s (startMove key target duty s) key target duty := by
  obtain ⟨r, hres, hctr, hoff⟩ := reserve_of_left hleft
  have hzone (k : Nat) : zoneOf r k = zoneOf s k := zoneOf_of_offCipher hoff k
  have hck : r.ck = s.ck := (congrArg State.ck hoff :)
  have hfl : r.fl = s.fl := (congrArg State.fl hoff :)
  have hboard : r.board = s.board := (congrArg State.board hoff :)
  obtain ⟨due, move, mark, heq, hmove⟩ : ∃ due move mark,
      startMove key target duty s = noteDelta key (bindTarget (((zoneOf s key).shape.map (fun h => h.domain)).getD 0) key target (duty != 0) due move mark r) ∧
      ∀ z, move z = { z with move := some { begunMove s key target duty with gen := z.relGen } } := by
    simp only [startMove, shapeIn_eq, hres]
    refine ⟨_, _, _, rfl, fun z => ?_⟩
    simp only [begunMove, captureGen_of_reserve hres, moveNs, hck, hfl, hboard]
  refine ⟨?_, fun k hk => ?_, ?_, ?_⟩
  · obtain ⟨n, hn⟩ := zoneOf_noteDelta_same key (bindTarget (((zoneOf s key).shape.map (fun h => h.domain)).getD 0) key target (duty != 0) due move mark r)
    exact ⟨n, by rw [heq, hn, zoneOf_bindTarget_same, hzone, hmove]; rfl⟩
  · rw [heq, zoneOf_noteDelta_other hk, zoneOf_bindTarget_other _ _ _ _ _ _ _ _ hk, hzone]
  · rw [heq, bandOf_of_bands (noteDelta_bands key _), bandZone_bindTarget]
  · rw [heq, slotOf_of_ci (noteDelta_ci key _), slotOf_of_ci (ci_bindTarget _ _ _ _ _ _ _ _), hctr]

theorem startMove_of_exhausted (hleft : counterLeft (slotOf s (shapeIn s key).keySlot) < liveUnits (zoneOf s key)) (target duty : Nat) :
    startMove key target duty s = s := by
  simp only [startMove, shapeIn_eq, reserve_of_exhausted hleft]

end

/-- A duty that moves a zone is one of the Termite's, and no die-failure migration. -/
theorem duty_ne_zero_of_dutyMoves {s : State} {z : Zone} {target duty : Nat} (h : dutyMoves s z target duty = true) : duty ≠ 0 := by
  rintro rfl
  simp [dutyMoves] at h

/-! ### The end of a move: what its units are opened under (08_flash_integrity.md R245; 06_cipher.md R171) -/

/-- What of a key slot the units of a move that capture later look at. -/
def currentKey (x : Slot) : Bool × Option (Nat × Nat) × Nat × Nat := (x.loaded, x.shadow, x.key, x.salt)

/-- A slot settled keeps its current key, unless a shadow of its own becomes current. -/
theorem currentKey_settleSlot {s : State} {j : Nat} (hsh : (slotOf s j).shadow = none) (k : Nat) :
    currentKey (slotOf (settleSlot k s) j) = currentKey (slotOf s j) := by
  by_cases hj : j = k
  · subst hj
    simp only [settleSlot, hsh, slotOf_modSlot_same, currentKey]
  · simp only [settleSlot]
    split
    · rw [slotOf_modSlot_other hj]
    split
    · rw [slotOf_modSlot_other hj]
    · rw [slotOf_raise, slotOf_of_ci (count_ci _ _ _ _ _), slotOf_modSlot_other hj, slotOf_modSlot_other hj]

theorem currentKey_settleSlots {s : State} {j : Nat} (hsh : (slotOf s j).shadow = none) (l : List Nat) :
    currentKey (slotOf (forEach l settleSlot s) j) = currentKey (slotOf s j) := by
  refine forEach_inv (P := fun t => currentKey (slotOf t j) = currentKey (slotOf s j)) (fun k t ht => ?_) l s rfl
  have hsht : (slotOf t j).shadow = (slotOf s j).shadow := congrArg (fun q => q.2.1) ht
  exact (currentKey_settleSlot (hsht.trans hsh) k).trans ht

/-- The key and salt of unit `i` of a move (R171). -/
def unitKey (s : State) (key : Nat) (m : Move) (i : Nat) : Nat × Nat :=
  if i = 0 then (firstKey s m (shapeIn s key).keySlot).getD (0, 0)
  else ((slotOf s (shapeIn s key).keySlot).key, (slotOf s (shapeIn s key).keySlot).salt)

/-- The units of a zone that a move decrypts, with their numbers. -/
def numberedUnits (z : Zone) : List (Nat × Nat × Sealed × Nat) := (moveUnits z).mapIdx (fun i u => (i, u))

/-- Whether a move's unit authenticates at its place. -/
def unitOpens (s : State) (key : Nat) (m : Move) (p : Nat × Nat × Sealed × Nat) : Bool :=
  opens (unitKey s key m p.1) (placeAad s key p.2.1) p.2.2.1

/-- The state in which a move's later units capture: the capture of its first unit has ended. -/
def firstTaken (key : Nat) (m : Move) (s : State) : State :=
  if liveUnits (zoneOf s key) ≤ 1 then s else
    s |> modZone key (fun z => { z with move := some { m with keys := [], first := some ((firstKey s m (shapeIn s key).keySlot).getD (0, 0)) } })
      |> forEach (m.keys.map (fun q => q.1)) settleSlot

/-- The state in which all units of a move have been deciphered. -/
def unitsOpened (key : Nat) (m : Move) (s : State) : State :=
  count (R.ciCnt 1) R.ciOvf 1 (((moveUnits (zoneOf s key)).map (fun u => u.2.2)).sum) (firstTaken key m s)

/-- The zone at the target of its move, its stream of `len` words placed anew. -/
def atTarget (m : Move) (units : List (Nat × LUnit)) (frames : List Frame) (len : Nat) (z : Zone) : Zone :=
  { z with band := some m.target, move := none, units := units, frames := frames, parity := [], fills := [], closedCw := [],
           stream := len, tail := len % 256, nextPos := if zoneComp z then ceilDiv len 256 else units.length,
           fill := z.fill - z.abandoned, abandoned := 0, refresh := false, stopped := false }

/-- What the switch of the map does to zone `z`, once all units authenticate and are counted, before the commands that wait are looked at. -/
def mapSwitched (key b : Nat) (z : Zone) (m : Move) (k : Nat → Nat × Nat) (s : State) : State :=
  let frames := movedFrames z k m.ctr (bandOf s m.target).gen
  s |> forEach (z.units.filterMap (fun p => p.2.seg) ++ z.frames.filterMap (fun f => f.seg) ++ z.parity.map (fun p => p.2)) freeItem
    |> releaseCopies (z.units.map (fun p => (key, p.1)) ++ z.frames.map (fun f => (key, 16 * f.slot + f.first)))
    |> modZone key (atTarget m (movedUnits key z k m.ctr (bandOf s m.target).gen) frames (frames.map frameLen).sum)
    |> modZone key (fun z => { z with index := if zoneComp z then rebuildIndex z else {} })
    |> freeBand b false
    |> forEach (m.keys.map (fun q => q.1)) settleSlot
    |> noteDelta key

section
variable {s : State} {key b : Nat} {m : Move}

/-- What the first unit's capture leaves when it ends: the zone but for its move, the bands, and the key of a slot that has no shadow. -/
theorem firstTaken_keeps (hmove : (zoneOf s key).move = some m) {j : Nat} (hsh : (slotOf s j).shadow = none) :
    (∃ m', zoneOf (firstTaken key m s) key = { zoneOf s key with move := some m' }) ∧ (firstTaken key m s).ze.bands = s.ze.bands ∧
      currentKey (slotOf (firstTaken key m s) j) = currentKey (slotOf s j) ∧ (firstTaken key m s).ce = s.ce := by
  unfold firstTaken
  split
  · exact ⟨⟨m, by rw [← hmove]⟩, rfl, rfl, rfl⟩
  · have hoff (u : State) := offCipher_settleSlots (m.keys.map (fun q => q.1)) u
    refine ⟨⟨_, (zoneOf_of_offCipher (hoff _) key).trans (zoneOf_modZone_same _ _ _)⟩, (congrArg (fun u => u.ze.bands) (hoff _) :), ?_,
      (congrArg State.ce (hoff _) :)⟩
    exact currentKey_settleSlots (s := modZone key _ s) hsh _

theorem placeAad_of_band {s t : State} (hband : (zoneOf t key).band = (zoneOf s key).band) (hbands : t.ze.bands = s.ze.bands) (off : Nat) :
    placeAad t key off = placeAad s key off := by
  simp [placeAad, zoneBgen, hband, bandOf, hbands]

/-- A move whose end can be judged: its generation is the zone's, its slot has a key and no shadow, and its values lie below the ceiling. -/
structure Judged (s : State) (key b : Nat) (m : Move) : Prop where
  move : (zoneOf s key).move = some m
  band : (zoneOf s key).band = some b
  gen : m.gen = (zoneOf s key).relGen
  loaded : (slotOf s (shapeIn s key).keySlot).loaded = true
  shadow : (slotOf s (shapeIn s key).keySlot).shadow = none
  ceil : m.ctr + liveUnits (zoneOf s key) ≤ (slotOf s (shapeIn s key).keySlot).ceil

theorem Judged.firstKey_isSome (h : Judged s key b m) : (firstKey s m (shapeIn s key).keySlot).isSome = true := by
  unfold firstKey
  dsimp only
  split
  · rfl
  · simp [h.loaded, h.shadow]

/-- The end of a move that can be judged: the map switches, unless a unit does not authenticate at its place. -/
theorem switchMap_of_judged (h : Judged s key b m) : switchMap key s =
    ((numberedUnits (zoneOf s key)).find? (fun p => !unitOpens s key m p)).elim
      (settleAll (mapSwitched key b (zoneOf s key) m (unitKey s key m)
        (count (R.ciCnt 0) R.ciOvf 0 (((moveUnits (zoneOf s key)).map (fun u => u.2.2)).sum) (unitsOpened key m s))), true)
      (fun p => (abandonMoveOf key 0 (tagFailure b p.2.2.1.lba (shapeIn s key).keySlot (unitsOpened key m s)), false)) := by
  obtain ⟨⟨m', hzone⟩, hbands, hkey, -⟩ := firstTaken_keeps h.move h.shadow
  have hloaded : (slotOf (firstTaken key m s) (shapeIn s key).keySlot).loaded = true := (congrArg Prod.fst hkey).trans h.loaded
  have hshadow : (slotOf (firstTaken key m s) (shapeIn s key).keySlot).shadow = none := (congrArg (fun q => q.2.1) hkey).trans h.shadow
  have hk (i : Nat) : (if i = 0 then (firstKey s m (shapeIn s key).keySlot).getD (0, 0)
      else ((slotOf (firstTaken key m s) (shapeIn s key).keySlot).key, (slotOf (firstTaken key m s) (shapeIn s key).keySlot).salt)) =
      unitKey s key m i := by
    have hpair : ((slotOf (firstTaken key m s) (shapeIn s key).keySlot).key, (slotOf (firstTaken key m s) (shapeIn s key).keySlot).salt) =
        ((slotOf s (shapeIn s key).keySlot).key, (slotOf s (shapeIn s key).keySlot).salt) := congrArg (fun q => q.2.2) hkey
    rw [unitKey, hpair]
  have haad (off : Nat) : placeAad (unitsOpened key m s) key off = placeAad s key off := by
    refine placeAad_of_band ?_ ?_ off
    · rw [unitsOpened, zoneOf_of_zonePart (zonePart_count _ _ _ _ _), hzone]
    · rw [unitsOpened, count_ze, hbands]
  have hone : (if liveUnits (zoneOf s key) ≤ 1 then s else
      forEach (m.keys.map (fun q => q.1)) settleSlot (modZone key (fun z => { z with
        move := some { m with keys := [], first := some ((firstKey s m (shapeIn s key).keySlot).getD (0, 0)) } }) s)) = firstTaken key m s := rfl
  have hopened : count (R.ciCnt 1) R.ciOvf 1 (((moveUnits (zoneOf s key)).map (fun u => u.2.2)).sum) (firstTaken key m s) = unitsOpened key m s := rfl
  have hgen : (m.gen != (zoneOf s key).relGen) = false := by simp [h.gen]
  have hceil : ¬ (slotOf s (shapeIn s key).keySlot).ceil < m.ctr + liveUnits (zoneOf s key) := Nat.not_lt.2 h.ceil
  have hfirst : (firstKey s m (shapeIn s key).keySlot).isNone = false := by simpa using h.firstKey_isSome
  simp only [switchMap, h.move, h.band, hgen, shapeIn_eq, hceil, hfirst, hone, hloaded, hshadow, hk, hopened, haad, decide_false, Option.isSome_none,
    Bool.not_true, Bool.and_false, Bool.or_self, Bool.false_eq_true, if_false]
  rw [show (fun p => !unitOpens s key m p) = fun p => !opens (unitKey s key m p.1) (placeAad s key p.2.1) p.2.2.1 from rfl, numberedUnits]
  cases List.find? _ _ <;> rfl

end

/-! ### Items released (10_granary.md R287, R304) -/

/-- A zone's write pointer and the bands, which the release of the Granary's items leaves. -/
def wpBands (key : Nat) (s : State) : Nat × List (Nat × Band) := ((zoneOf s key).wp, s.ze.bands)

theorem wpBands_of_ze {s t : State} (h : t.ze = s.ze) (key : Nat) : wpBands key t = wpBands key s := by simp [wpBands, zoneOf, h]

theorem wpBands_modZone {f : Zone → Zone} (h : ∀ z, (f z).wp = z.wp) (key k : Nat) (s : State) : wpBands key (modZone k f s) = wpBands key s := by
  refine Prod.ext ?_ rfl
  by_cases hk : key = k
  · subst hk
    simp only [wpBands, zoneOf_modZone_same, h]
  · simp only [wpBands, zoneOf_modZone_other hk]

theorem ze_of_offGranary {s t : State} (h : offGranary t = offGranary s) : t.ze = s.ze := (congrArg State.ze h :)

theorem lrOp_ze (op issuer handle arg : Nat) (s : State) : (lrOp op issuer handle arg s).ze = s.ze := by
  have hserve (p : Nat) (t : State) : (lrServe p t).ze = t.ze := by
    simp only [lrServe]
    split
    · rfl
    · exact ze_of_offGranary (offGranary_grantBuf _ _ _)
  simp only [lrOp]
  split
  · simp [lrRefuse]
  split
  · rfl
  · rw [onlyIf_keeps State.ze _ _ _ (fun t => hserve _ t), onlyIf_keeps State.ze _ _ _ (fun t => by simp)]
    rfl

theorem placeItem_ze (kind bytes a b : Nat) (s : State) : (placeItem kind bytes a b s).2.ze = s.ze := by
  rw [placeItem, apply_ite Prod.snd, apply_ite State.ze, ze_of_offGranary (offGranary_putItem _ _ _ _ s)]
  exact ite_self _

theorem wpBands_placeRest (key : Nat) (s : State) : wpBands key (placeRest s) = wpBands key s := by
  simp only [placeRest]
  split
  · rfl
  rw [forEach_keeps (wpBands key) _ (fun o t => ?_), forEach_keeps (wpBands key) _ (fun z t => ?_)]
  · rfl
  · rw [wpBands_modZone ?_, foldl_snd_keeps (wpBands key) _ (fun acc f => ?_), forEach_keeps (wpBands key) _ (fun u t => ?_)]
    · rw [wpBands_modZone ?_]
      · exact wpBands_of_ze (placeItem_ze _ _ _ _ t) key
      · exact fun _ => rfl
    · split
      · exact wpBands_of_ze (placeItem_ze _ _ _ _ _) key
      · rfl
    · exact fun _ => rfl
  · refine Eq.trans (b := wpBands key (_ : State)) (by rfl) (foldl_snd_keeps (wpBands key) _ (fun acc p => ?_) _ _)
    split
    · exact wpBands_of_ze (placeItem_ze _ _ _ _ _) key
    · rfl

/-- An item released leaves every zone's write pointer and every band. -/
theorem wpBands_freeItem (key k : Nat) (s : State) : wpBands key (freeItem k s) = wpBands key s := by
  have hdrop : (dropSeg k s).ze = s.ze := by
    unfold dropSeg
    split
    · rfl
    · rw [lrOp_ze]; rfl
  have hlate (t : State) : (placeLate t).ze = t.ze := by
    simp only [placeLate]
    split
    · rfl
    · exact forEach_keeps State.ze _ (fun _ u => ze_of_offGranary (offGranary_putState _ _ _ _ u)) _ _
  unfold freeItem
  split
  · rfl
  split
  · rfl
  · exact (wpBands_placeRest key _).trans (wpBands_of_ze ((hlate _).trans hdrop) key)

theorem releaseCopies_ze (gone : List (Nat × Nat)) (s : State) : (releaseCopies gone s).ze = s.ze := by
  have hsend (f : TxFrame) (t : State) : (sendFrame f t).1.ze = t.ze := (congrArg State.ze (offLink_sendFrame f t) :)
  simp only [releaseCopies]
  split
  · rfl
  split
  · exact forEach_keeps State.ze _ (fun l t => hsend _ t) _ _
  · rfl

/-! ### The map switched -/

/-- The zone after the switch: on its target, unmoving, with its write pointer and its data sealed afresh. -/
theorem zoneOf_mapSwitched (s : State) (key b : Nat) (z : Zone) (m : Move) (k : Nat → Nat × Nat) :
    (zoneOf (mapSwitched key b z m k s) key).band = some m.target ∧ (zoneOf (mapSwitched key b z m k s) key).move = none ∧
      (zoneOf (mapSwitched key b z m k s) key).wp = (zoneOf s key).wp ∧
      (zoneOf (mapSwitched key b z m k s) key).units = movedUnits key z k m.ctr (bandOf s m.target).gen := by
  have hwp (l : List Nat) (gone : List (Nat × Nat)) : (zoneOf (releaseCopies gone (forEach l freeItem s)) key).wp = (zoneOf s key).wp :=
    congrArg Prod.fst ((wpBands_of_ze (releaseCopies_ze gone _) key).trans (forEach_keeps (wpBands key) freeItem (wpBands_freeItem key) l s))
  simp only [mapSwitched]
  obtain ⟨n, hn⟩ := zoneOf_noteDelta_same key (forEach (m.keys.map (fun q => q.1)) settleSlot (freeBand b false _))
  rw [hn, zoneOf_of_offCipher (offCipher_settleSlots _ _), zoneOf_of_zonePart (zonePart_freeBand _ _ _), zoneOf_modZone_same, zoneOf_modZone_same]
  exact ⟨rfl, rfl, hwp _ _, rfl⟩

theorem bandZone_mapSwitched (s : State) (key b : Nat) (z : Zone) (m : Move) (k : Nat → Nat × Nat) :
    (bandOf (mapSwitched key b z m k s) b).zone = none := by
  simp only [mapSwitched]
  rw [bandOf_of_bands (noteDelta_bands key _), bandOf_of_offCipher (offCipher_settleSlots _ _), bandZone_freeBand]

theorem mapSwitched_ce (s : State) (key b : Nat) (z : Zone) (m : Move) (k : Nat → Nat × Nat) : (mapSwitched key b z m k s).ce = s.ce := by
  refine ce_of_hostSide ?_
  simp only [mapSwitched, hostSide_noteDelta]
  rw [forEach_keeps hostSide settleSlot (fun j t => hostSide_settleSlot j t), hostSide_freeBand, hostSide_modZone, hostSide_modZone,
    hostSide_releaseCopies, forEach_keeps hostSide freeItem (fun j t => hostSide_freeItem j t)]

/-! ### Appends that wait for a ticket (03_queues.md R95) -/

/-- No command waits for the ticket of an append that is still under way. -/
def NoTicketWaits (s : State) : Prop := ∀ p, p ∈ s.ce.ctxs → p.2.waitTicket = false

theorem noTicketWaits_of_ce {s t : State} (h : t.ce = s.ce) (hs : NoTicketWaits s) : NoTicketWaits t := by
  unfold NoTicketWaits
  rw [h]
  exact hs

theorem noTicketWaits_modCtx {f : Ctx → Ctx} (hf : ∀ x, (f x).waitTicket = x.waitTicket) (c : Nat) {s : State} (hs : NoTicketWaits s) :
    NoTicketWaits (modCtx c f s) := by
  intro p hp
  simp only [modCtx, onCe_ce, talter] at hp
  split at hp
  · exact hs p hp
  · next v hv =>
    obtain rfl | hp := mem_tins hp
    · exact (hf v).trans (hs _ (mem_of_tfind hv))
    · exact hs p (List.mem_of_mem_filter hp)

theorem noTicketWaits_delCtx (c : Nat) {s : State} (hs : NoTicketWaits s) : NoTicketWaits (onCe (fun e => { e with ctxs := tdel c e.ctxs }) s) :=
  fun p hp => hs p (List.mem_of_mem_filter hp)

theorem noTicketWaits_complete (c dw0 dw1 : Nat) {s : State} (hs : NoTicketWaits s) : NoTicketWaits (complete c stOk dw0 dw1 s) := by
  unfold complete
  split
  · exact hs
  next x hx =>
  split
  · refine noTicketWaits_delCtx c (noTicketWaits_of_ce ?_ hs)
    unfold tunnelReply miRespond
    split <;> rfl
  split
  · simp only [freeCtx, hx]
    exact noTicketWaits_delCtx c hs
  split
  · exact hs
  · rw [freezeQueue_of_quiet (x := withStatus stOk dw0 dw1 x) (by exact (ctxOf_modCtx_same c _ s).trans (congrArg _ hx)) (.inl freezing_stOk)]
    exact noTicketWaits_modCtx (by exact fun _ => rfl) c hs

/-- The look at what waits for flash or the partner makes no command wait for a ticket. -/
theorem noTicketWaits_settleAll {s : State} (hs : NoTicketWaits s) : NoTicketWaits (settleAll s) := by
  have hwrite (d : Nat) (t : State) (ht : NoTicketWaits t) : NoTicketWaits (settleWrite d t) := by
    unfold settleWrite
    split
    · exact ht
    split
    · exact ht
    dsimp only
    split
    · exact noTicketWaits_modCtx (by exact fun _ => rfl) d ht
    · exact noTicketWaits_complete d _ _ (noTicketWaits_modCtx (by exact fun _ => rfl) d ht)
  have hzone (d : Nat) (t : State) (ht : NoTicketWaits t) : NoTicketWaits (settleZone d t) := by
    unfold settleZone
    split
    · exact ht
    split
    · exact noTicketWaits_complete d 0 0 ht
    · exact ht
  have hflush (d : Nat) (t : State) (ht : NoTicketWaits t) : NoTicketWaits (settleFlush d t) := by
    obtain he | ⟨left, he | he⟩ := settleFlush_cases d t
    · rwa [he]
    · rw [he]
      exact noTicketWaits_modCtx (by exact fun _ => rfl) d ht
    · rw [he]
      exact noTicketWaits_complete d 0 0 (noTicketWaits_modCtx (by exact fun _ => rfl) d ht)
  exact forEach_inv hflush _ _ (forEach_inv (fun d t ht => hzone d _ (hwrite d t ht)) _ _ hs)

theorem wakeTickets_of_none {s : State} (hs : NoTicketWaits s) : wakeTickets s = s := by
  have hnone : s.ce.ctxs.filterMap (fun p => if p.2.waitTicket && p.2.st == .started then some p.1 else none) = [] := by
    rw [List.filterMap_eq_nil_iff]
    intro p hp
    simp [hs p hp]
  rw [wakeTickets, hnone, forEach_nil]

/-! ### Migrations that go on (08_flash_integrity.md R242) -/

/-- Where a zone's data is, and how far it is written. -/
def placedData (z : Zone) : Option Nat × Nat × List (Nat × LUnit) := (z.band, z.wp, z.units)

theorem placedData_modZone {f : Zone → Zone} (h : ∀ z, placedData (f z) = placedData z) (k key : Nat) (s : State) :
    placedData (zoneOf (modZone k f s) key) = placedData (zoneOf s key) := by
  by_cases hk : key = k
  · subst hk
    rw [zoneOf_modZone_same, h]
  · rw [zoneOf_modZone_other hk]

theorem placedData_noteDelta (k key : Nat) (s : State) : placedData (zoneOf (noteDelta k s) key) = placedData (zoneOf s key) := by
  by_cases hk : key = k
  · subst hk
    obtain ⟨n, hn⟩ := zoneOf_noteDelta_same key s
    rw [hn]; rfl
  · rw [zoneOf_noteDelta_other hk]

theorem placedData_startMove (k target duty key : Nat) (s : State) :
    placedData (zoneOf (startMove k target duty s) key) = placedData (zoneOf s key) := by
  by_cases hleft : liveUnits (zoneOf s k) ≤ counterLeft (slotOf s (shapeIn s k).keySlot)
  · obtain ⟨⟨n, hn⟩, hothers, -⟩ := startMove_of_left hleft target duty
    by_cases hk : key = k
    · subst hk
      rw [hn]; rfl
    · rw [hothers key hk]
  · rw [startMove_of_exhausted (Nat.not_le.1 hleft)]

/-- A migration begun, or a zone made Read Only for want of one, moves no data yet. -/
theorem placedData_tryMigrate (k key : Nat) (s : State) : placedData (zoneOf (tryMigrate k s) key) = placedData (zoneOf s key) := by
  have hro : placedData (zoneOf (makeReadOnly k s) key) = placedData (zoneOf s key) :=
    (placedData_noteDelta k key _).trans (placedData_modZone (by exact fun _ => rfl) k key s)
  simp only [tryMigrate]
  split
  · rfl
  split
  · rfl
  split
  · exact hro
  split
  · exact placedData_startMove _ _ _ _ s
  · split
    · rfl
    · exact hro

theorem zoneOf_settleRow (r key : Nat) (s : State) : zoneOf (settleRow r s) key = zoneOf s key := by
  simp only [settleRow]
  split
  · rfl
  · simp only [zoneOf, raise_ze, journal_ze]
    rfl

theorem placedData_migrateAll (key : Nat) (s : State) : placedData (zoneOf (migrateAll s) key) = placedData (zoneOf s key) := by
  refine forEach_keeps (fun t => placedData (zoneOf t key)) _ (fun r t => ?_) _ s
  rw [migrateRow, zoneOf_settleRow]
  refine forEach_keeps (fun t => placedData (zoneOf t key)) _ (fun k u => ?_) _ t
  split
  · exact placedData_tryMigrate k key u
  · rfl

end Sys2Proof.Machine

/-! PROOFS. The statement of moves, patrol and age (08_flash_integrity.md R225, R226, R242, R245, R247, R248; 06_cipher.md R169, R174). -/

namespace Sys2Proof.Machine

/-! ### A calibration read posted (07_flash_channels.md R201 to R203, 08_flash_integrity.md R231) -/

/-- A state without what a post on a die may change: stored registers, the recorder, and the flash side beside the early-warning queue. -/
def offPosts (s : State) : State := { s with rf := {}, att := {}, fl := { ewq := s.fl.ewq } }

theorem offPosts_onFl {f : Flash → Flash} (h : ∀ x, (f x).ewq = x.ewq) (s : State) : offPosts (onFl f s) = offPosts s := by
  simp only [offPosts, onFl_fl, h]
  rfl

@[simp] theorem offPosts_raise (src sev : Nat) (ps : List Nat) (s : State) : offPosts (raise src sev ps s) = offPosts s := by
  obtain ⟨_, _, h⟩ := raise_only src sev ps s
  rw [h]; rfl

@[simp] theorem offPosts_fcpl (ch : Nat) (d : Desc) (who : Issuer) (st : Nat) (s : State) : offPosts (fcpl ch d who st s) = offPosts s :=
  onlyIf_keeps offPosts _ _ s (fun t => offPosts_onFl (fun _ => rfl) t)

theorem offPosts_deadDesc (ch : Nat) (d : Desc) (who : Issuer) (s : State) : offPosts (deadDesc ch d who s) = offPosts s :=
  (onlyIf_keeps offPosts _ (modJob d.tag _) _ (fun u => offPosts_onFl (fun _ => rfl) u)).trans (offPosts_fcpl ch d who 4 s)

theorem offPosts_postRefused {ch die : Nat} {d : Desc} {who : Issuer} {s t : State} (h : postRefused ch die d who s = some t) :
    offPosts t = offPosts s := by
  simp only [postRefused] at h
  split_ifs at h <;> obtain rfl := Option.some.inj h
  · rfl
  · simp
  · exact offPosts_deadDesc ch d who s
  · simp

theorem offPosts_trySuspend (ch die : Nat) (s : State) : offPosts (trySuspend ch die s) = offPosts s := by
  simp only [trySuspend]
  split
  · rfl
  split
  · rfl
  split
  · exact offPosts_onFl (fun _ => rfl) s
  · simp

/-- A descriptor posted changes the flash side, and no entry of the early-warning queue. -/
theorem offPosts_postDesc (ch die : Nat) (d : Desc) (who : Issuer) (s : State) : offPosts (postDesc ch die d who s) = offPosts s := by
  rw [postDesc]
  dsimp only
  cases hr : postRefused ch die { d with posted := s.ck.tb } who s with
  | some t => exact offPosts_postRefused hr
  | none =>
    refine (onlyIf_keeps offPosts _ _ _ (fun u => offPosts_trySuspend ch die u)).trans ?_
    exact (offPosts_onFl (fun _ => rfl) _).trans (offPosts_onFl (fun _ => rfl) s)

theorem postNow_of_calibration {ch : Nat} {d : Desc} {who : Issuer} {s : State} (hop : d.op = 3) :
    postNow ch d who s = postDesc ch d.die (fillDesc s ch d who) who s := by
  simp [postNow, hop]

/-- A die-block's sets recalibrated leave all but the flash side and the events. -/
theorem offPosts_recalibrate (dk blk : Nat) (s : State) : offPosts (recalibrate dk blk s) = offPosts s := by
  simp only [recalibrate]
  split
  · rfl
  · simp only [postBy]
    split
    · exact (offPosts_onFl (fun _ => rfl) _).trans (offPosts_onFl (fun _ => rfl) s)
    · rw [postNow_of_calibration rfl, offPosts_postDesc]
      exact offPosts_onFl (fun _ => rfl) s

/-! ### The early-warning queue (08_flash_integrity.md R226) -/

theorem rd_count_other {r cnt ovf : Ref} (hc : r.addr ≠ cnt.addr) (ho : r.addr ≠ ovf.addr) (i n : Nat) (s : State) :
    rd (count cnt ovf i n s) r = rd s r := by
  simp only [count]
  split
  · exact rd_wr_other hc _ s
  · exact (rd_wr_other ho _ _).trans (rd_wr_other hc _ s)

/-- What the reads of a patrol leave: the zone engine, the command engine, and the threshold of a density. -/
def patrolFrame (dens : Nat) (s : State) : ZoneEngine × Engine × Nat := (s.ze, s.ce, ewOf s dens)

theorem patrolFrame_count {k : Nat} (h : R.ldEw.addr ≠ (R.ldCnt k).addr) (dens i n : Nat) (s : State) :
    patrolFrame dens (count (R.ldCnt k) R.ldOvf i n s) = patrolFrame dens s := by
  simp only [patrolFrame, count_ze, count_ce, ewOf, rdf, rd_count_other h (by decide : R.ldEw.addr ≠ R.ldOvf.addr)]

theorem rd_markDirty (dk blk : Nat) (s : State) (r : Ref) : rd (markDirty dk blk s) r = rd s r := rfl

theorem patrolFrame_markDirty (dens dk blk : Nat) (s : State) : patrolFrame dens (markDirty dk blk s) = patrolFrame dens s := by
  simp only [patrolFrame, ewOf, rdf, rd_markDirty]
  rfl

theorem patrolFrame_earlyWarn (b dk blk dens m : Nat) (s : State) : patrolFrame dens (earlyWarn b dk blk dens m s) = patrolFrame dens s := by
  have hstat (t : State) : rd (raise 272 sevWarning [] (wrb R.ldEwqStat 31 true t)) R.ldEw = rd t R.ldEw :=
    (rd_raise_other (by decide) (by decide) _ _ _).trans (rd_wr_other (by decide) _ t)
  have hfull (t : State) : patrolFrame dens (raise 272 sevWarning [] (wrb R.ldEwqStat 31 true t)) = patrolFrame dens t := by
    rw [patrolFrame, patrolFrame, ewOf, ewOf, rdf, rdf, hstat, raise_ze, raise_ce, wrb_ze, wrb_ce]
  have hpush (e : Nat × Nat) (t : State) : patrolFrame dens (onFl (fun f => { f with ewq := f.ewq ++ [e] }) t) = patrolFrame dens t := rfl
  simp only [earlyWarn]
  split
  · rfl
  split
  · exact patrolFrame_markDirty dens dk blk s
  split
  · rw [hfull, patrolFrame_markDirty]
  · rw [patrolFrame_count (by decide), hpush, patrolFrame_markDirty]

/-- Whether a band waits in the early-warning queue. -/
def warned (b : Nat) (s : State) : Bool := s.fl.ewq.any (fun e => e.1 == b)

section
variable {s : State} {b dk blk dens m : Nat}

theorem earlyWarn_of_le (h : ewOf s dens ≤ m) : earlyWarn b dk blk dens m s = s := by
  simp [earlyWarn, h]

/-- A margin below the threshold queues its band, unless the queue is full or has it. -/
theorem ewq_earlyWarn (h : m < ewOf s dens) : (earlyWarn b dk blk dens m s).fl.ewq =
    if warned b s = true ∨ 1024 ≤ s.fl.ewq.length then s.fl.ewq else s.fl.ewq ++ [(b, m)] := by
  have hewq : (markDirty dk blk s).fl.ewq = s.fl.ewq := rfl
  simp only [earlyWarn, if_neg (Nat.not_le.2 h), hewq]
  change (if warned b s = true then _ else _ : State).fl.ewq = _
  by_cases hb : warned b s = true
  · rw [if_pos hb, if_pos (.inl hb)]
    exact hewq
  · rw [if_neg hb]
    by_cases hlen : 1024 ≤ s.fl.ewq.length
    · rw [if_pos hlen, if_pos (.inr hlen)]
      simp [hewq]
    · rw [if_neg hlen, if_neg (by simp [hb, hlen])]
      simp [hewq]

theorem warned_earlyWarn (h : m < ewOf s dens) (hlen : s.fl.ewq.length < 1024) : warned b (earlyWarn b dk blk dens m s) = true := by
  rw [warned, ewq_earlyWarn h]
  by_cases hb : warned b s = true
  · rw [if_pos (.inl hb)]
    exact hb
  · rw [if_neg (by simp [hb, hlen])]
    simp

theorem warned_earlyWarn_mono (h : warned b s = true) : warned b (earlyWarn b dk blk dens m s) = true := by
  by_cases hm : ewOf s dens ≤ m
  · rwa [earlyWarn_of_le hm]
  · rw [warned, ewq_earlyWarn (Nat.not_le.1 hm), if_pos (.inl h)]
    exact h

end

/-! ### PATROL (08_flash_integrity.md R247) -/

/-- One read of a patrol counted, with its margin treated. -/
def patrolRead (b dens : Nat) (p : (Nat × Nat) × Nat) (t : State) : State :=
  t |> (if p.2 = 0 then count (R.ldCnt 1) R.ldOvf 1 1 else count (R.ldCnt 0) R.ldOvf 0 1)
    |> earlyWarn b p.1.1 (servingBlk t p.1.1 (bandBlkIdx t b)) dens p.2

section
variable {s : State} {b dens : Nat}

/-- The count of a patrol's read, before its margin is treated. -/
theorem patrolRead_eq (b dens : Nat) (p : (Nat × Nat) × Nat) (t : State) : ∃ u blk, patrolRead b dens p t = earlyWarn b p.1.1 blk dens p.2 u ∧
    patrolFrame dens u = patrolFrame dens t ∧ u.fl = t.fl := by
  refine ⟨_, _, rfl, ?_, ?_⟩
  · split
    · exact patrolFrame_count (by decide) _ _ _ t
    · exact patrolFrame_count (by decide) _ _ _ t
  · split
    · exact count_fl _ _ _ _ t
    · exact count_fl _ _ _ _ t

theorem patrolFrame_patrolRead (p : (Nat × Nat) × Nat) (t : State) : patrolFrame dens (patrolRead b dens p t) = patrolFrame dens t := by
  obtain ⟨u, blk, heq, hframe, -⟩ := patrolRead_eq b dens p t
  rw [heq, patrolFrame_earlyWarn, hframe]

theorem ewOf_of_patrolFrame {s t : State} (h : patrolFrame dens t = patrolFrame dens s) : ewOf t dens = ewOf s dens := congrArg (fun q => q.2.2) h

/-- Where no margin lies below the threshold, the queue is left. -/
theorem ewq_patrolReads {l : List ((Nat × Nat) × Nat)} (h : ∀ p, p ∈ l → ewOf s dens ≤ p.2) : (forEach l (patrolRead b dens) s).fl.ewq = s.fl.ewq := by
  induction l generalizing s with
  | nil => rfl
  | cons p l ih =>
    obtain ⟨u, blk, heq, hframe, hfl⟩ := patrolRead_eq b dens p s
    have hew := ewOf_of_patrolFrame hframe
    have hread : patrolRead b dens p s = u := by rw [heq, earlyWarn_of_le (by rw [hew]; exact h p (by simp))]
    rw [forEach_cons, hread, ih (fun q hq => by rw [hew]; exact h q (by simp [hq])), hfl]

/-- Where a margin lies below the threshold and the queue has room, the band waits in it. -/
theorem warned_patrolReads {l : List ((Nat × Nat) × Nat)} (h : ∃ p, p ∈ l ∧ p.2 < ewOf s dens) (hlen : s.fl.ewq.length < 1024) :
    warned b (forEach l (patrolRead b dens) s) = true := by
  induction l generalizing s with
  | nil => simp at h
  | cons p l ih =>
    obtain ⟨u, blk, heq, hframe, hfl⟩ := patrolRead_eq b dens p s
    have hew := ewOf_of_patrolFrame hframe
    rw [forEach_cons, heq]
    by_cases hp : p.2 < ewOf s dens
    · refine forEach_inv (P := fun t => warned b t = true) (fun q t ht => ?_) l _ (warned_earlyWarn (by rwa [hew]) (by rwa [hfl]))
      obtain ⟨v, blk', heq', -, hfl'⟩ := patrolRead_eq b dens q t
      rw [heq']
      exact warned_earlyWarn_mono (by rwa [warned, hfl'])
    · rw [earlyWarn_of_le (by rw [hew]; exact Nat.not_lt.1 hp)]
      obtain ⟨q, hq, hlow⟩ := h
      obtain rfl | hq := List.mem_cons.1 hq
      · exact absurd hlow hp
      · exact ih ⟨q, hq, by rwa [hew]⟩ (by rwa [hfl])

/-- A patrol that is due reads its wordlines, notes the life time and recalibrates the sets of its die-blocks. -/
theorem exec_patrol_of_due {ms : List Nat} (hne : patrolReads s b ≠ []) (hlen : ms.length = (patrolReads s b).length) (hdue : patrolDue s b = true) :
    exec (.patrol b ms) s = .next (forEach ((patrolReads s b).map (fun p => p.1)).eraseDups
      (fun dk t => recalibrate dk (servingBlk t dk (bandBlkIdx t b)) t)
      (modBand b (fun x => { x with patrolled := some (lifeTime s) })
        (forEach ((patrolReads s b).zip ms) (patrolRead b (((bandOf s b).dens).getD 0)) s))) := by
  have hempty : (patrolReads s b).isEmpty = false := by simpa using hne
  simp only [exec, execPatrol, hempty, hlen, hdue, bne_self_eq_false, Bool.not_true, Bool.or_self, Bool.false_eq_true, if_false]
  rfl

theorem exec_patrol_of_not_due {ms : List Nat} (h : patrolReads s b = [] ∨ ms.length ≠ (patrolReads s b).length ∨ patrolDue s b = false) :
    exec (.patrol b ms) s = .next s := by
  have hskip : ((patrolReads s b).isEmpty || ms.length != (patrolReads s b).length || !patrolDue s b) = true := by
    rcases h with h | h | h <;> simp [h]
  simp only [exec, execPatrol, hskip, if_true]

/-- What a patrol that is due leaves and changes. -/
theorem patrol_noted {ms : List Nat} (hne : patrolReads s b ≠ []) (hlen : ms.length = (patrolReads s b).length) (hdue : patrolDue s b = true) :
    ∃ t, exec (.patrol b ms) s = .next t ∧ (bandOf t b).patrolled = some (lifeTime s) ∧
      ((∀ v, v ∈ ms → ewOf s ((bandOf s b).dens.getD 0) ≤ v) → t.fl.ewq = s.fl.ewq) ∧
      ((∃ v, v ∈ ms ∧ v < ewOf s ((bandOf s b).dens.getD 0)) → s.fl.ewq.length < 1024 → ∃ e, e ∈ t.fl.ewq ∧ e.1 = b) ∧
      t.ze.zones = s.ze.zones ∧ t.ce = s.ce := by
  refine ⟨_, exec_patrol_of_due hne hlen hdue, ?_⟩
  set read := forEach ((patrolReads s b).zip ms) (patrolRead b (((bandOf s b).dens).getD 0)) s with hread
  generalize ht : forEach _ _ (modBand b _ read) = t
  have hoff : offPosts t = offPosts (modBand b (fun x => { x with patrolled := some (lifeTime s) }) read) := by
    rw [← ht]
    exact forEach_keeps offPosts _ (fun dk u => offPosts_recalibrate dk _ u) _ _
  have hframe : patrolFrame ((bandOf s b).dens.getD 0) read = patrolFrame ((bandOf s b).dens.getD 0) s :=
    forEach_keeps (patrolFrame _) _ (fun p u => patrolFrame_patrolRead p u) _ s
  have hbands : t.ze.bands = (modBand b (fun x => { x with patrolled := some (lifeTime s) }) read).ze.bands :=
    (congrArg (fun u : State => u.ze.bands) hoff :)
  have hewq : t.fl.ewq = read.fl.ewq := (congrArg (fun u : State => u.fl.ewq) hoff :)
  refine ⟨?_, fun hall => ?_, fun ⟨v, hv, hlow⟩ hroom => ?_, ?_, ?_⟩
  · rw [bandOf_of_bands hbands, bandOf_modBand_same]
  · rw [hewq, hread, ewq_patrolReads fun p hp => hall p.2 (List.of_mem_zip (a := p.1) (b := p.2) hp).2]
  · have hsnd : v ∈ ((patrolReads s b).zip ms).map Prod.snd := by rwa [List.map_snd_zip hlen.le]
    obtain ⟨p, hp, rfl⟩ := List.mem_map.1 hsnd
    have hq := warned_patrolReads (b := b) ⟨p, hp, hlow⟩ hroom
    rw [← hread, warned, List.any_eq_true] at hq
    obtain ⟨e, he, heb⟩ := hq
    exact ⟨e, by rwa [hewq], by simpa using heb⟩
  · exact (congrArg (fun u : State => u.ze.zones) hoff :).trans (congrArg (fun q => q.1.zones) hframe)
  · exact (congrArg State.ce hoff :).trans (congrArg (fun q => q.2.1) hframe)

end

/-! ### What the end of a move leaves -/

/-- From `s` to `t` the map of a zone has switched from its band to its move's target, its data sealed afresh. -/
structure Switched (s t : State) (key b : Nat) (m : Move) : Prop where
  band : (zoneOf t key).band = some m.target
  move : (zoneOf t key).move = none
  wp : (zoneOf t key).wp = (zoneOf s key).wp
  units : (zoneOf t key).units = movedUnits key (zoneOf s key) (unitKey s key m) m.ctr (bandOf s m.target).gen
  source : (bandOf t b).zone = none
  tickets : NoTicketWaits s → NoTicketWaits t

/-- From `s` to `t` a move of a zone has been given up, for a unit that does not authenticate. -/
structure GivenUp (s t : State) (key b : Nat) : Prop where
  band : (zoneOf t key).band = some b
  move : (zoneOf t key).move = none
  units : (zoneOf t key).units = (zoneOf s key).units
  tag : pending? t 261 = true
  event : pending? t 426 = true

section
variable {s : State} {key b : Nat} {m : Move}

theorem switched_mapSwitched {u : State} (hzone : ∃ m', zoneOf u key = { zoneOf s key with move := some m' })
    (hbands : u.ze.bands = s.ze.bands) (hce : u.ce = s.ce) :
    Switched s (settleAll (mapSwitched key b (zoneOf s key) m (unitKey s key m) u)) key b m := by
  obtain ⟨m', hm'⟩ := hzone
  obtain ⟨hband, hmove, hwp, hunits⟩ := zoneOf_mapSwitched u key b (zoneOf s key) m (unitKey s key m)
  have hsettled := zoneOf_of_zonePart (zonePart_settleAll (mapSwitched key b (zoneOf s key) m (unitKey s key m) u)) key
  have hbands' (v : State) : (settleAll v).ze.bands = v.ze.bands := (congrArg (fun w : State => w.ze.bands) (offEngine_settleAll v) :)
  refine ⟨by rw [hsettled, hband], by rw [hsettled, hmove], by rw [hsettled, hwp, hm'], ?_, ?_, fun hs => ?_⟩
  · rw [hsettled, hunits, bandOf_of_bands hbands]
  · rw [bandOf_of_bands (hbands' _), bandZone_mapSwitched]
  · exact noTicketWaits_settleAll (noTicketWaits_of_ce ((mapSwitched_ce u key b _ m _).trans hce) hs)

/-- The map switches where every unit authenticates at its place. -/
theorem switchMap_of_opens (h : Judged s key b m) (hopen : ∀ p, p ∈ numberedUnits (zoneOf s key) → unitOpens s key m p = true) :
    ∃ t, switchMap key s = (t, true) ∧ Switched s t key b m := by
  obtain ⟨⟨m', hzone⟩, hbands, -, hce⟩ := firstTaken_keeps h.move h.shadow
  have hfind : (numberedUnits (zoneOf s key)).find? (fun p => !unitOpens s key m p) = none :=
    List.find?_eq_none.2 fun p hp => by simp [hopen p hp]
  refine ⟨_, by rw [switchMap_of_judged h, hfind]; rfl, switched_mapSwitched ⟨m', ?_⟩ ?_ ?_⟩
  · rw [zoneOf_of_zonePart (zonePart_count _ _ _ _ _), unitsOpened, zoneOf_of_zonePart (zonePart_count _ _ _ _ _), hzone]
  · rw [count_ze, unitsOpened, count_ze, hbands]
  · rw [count_ce, unitsOpened, count_ce, hce]

/-- The move is given up where a unit does not authenticate at its place. -/
theorem switchMap_of_tag (h : Judged s key b m) (hopen : ¬ ∀ p, p ∈ numberedUnits (zoneOf s key) → unitOpens s key m p = true) :
    ∃ t, switchMap key s = (t, false) ∧ GivenUp s t key b := by
  obtain ⟨⟨m', hzone⟩, -⟩ := firstTaken_keeps h.move h.shadow
  obtain ⟨p, hfind⟩ : ∃ p, (numberedUnits (zoneOf s key)).find? (fun p => !unitOpens s key m p) = some p := by
    rw [← Option.isSome_iff_exists, List.find?_isSome]
    simpa using hopen
  refine ⟨_, by rw [switchMap_of_judged h, hfind]; rfl, ?_⟩
  set u := tagFailure b p.2.2.1.lba (shapeIn s key).keySlot (unitsOpened key m s) with hu
  have hzu : zoneOf u key = { zoneOf s key with move := some m' } := by
    rw [hu, tagFailure, zoneOf_of_zonePart (zonePart_raise _ _ _ _), zoneOf_of_zonePart (zonePart_count _ _ _ _ _), unitsOpened,
      zoneOf_of_zonePart (zonePart_count _ _ _ _ _), hzone]
  have htag : pending? u 261 = true := pending?_raise_same (by decide) _ _ _
  obtain ⟨n, hn⟩ := zoneOf_noteDelta_same key (dropMove key 0 u)
  have hdrop := zoneOf_dropMove (s := u) (key := key) (by rw [hzu]) 0
  rw [← abandonMoveOf] at hn
  refine ⟨?_, ?_, ?_, ?_, ?_⟩
  · rw [hn, hdrop, hzu]; exact h.band
  · rw [hn, hdrop]
  · rw [hn, hdrop, hzu]
  · exact (keepsPending_noteDelta key _).mono 261 (by decide) ((keepsPending_dropMove key 0 u).mono 261 (by decide) htag)
  · exact (keepsPending_noteDelta key _).mono 426 (by decide) (pending?_dropMove (by rw [hzu]) 0)

end

/-! ### TERMITE_MOVE_START, TERMITE_MOVE_DONE and MIGRATION_MOVE_DONE (08_flash_integrity.md R242, R245) -/

section
variable {s t : State} {nsid zone target duty b : Nat} {m : Move}

/-- What a Termite move of a zone needs of it, of its target and of the device, beside values of its counter. -/
structure MayMove (s : State) (nsid zone target duty : Nat) : Prop where
  full : (zoneOf s (zKey nsid zone)).st = .full
  bound : (zoneOf s (zKey nsid zone)).band.isSome = true
  still : (zoneOf s (zKey nsid zone)).move = none
  queue : (zoneOf s (zKey nsid zone)).queue = []
  ready : bandReady s target = true
  holds : bandHolds s (zoneOf s (zKey nsid zone)) target = true
  domain : bandDom s target = (zoneOf s (zKey nsid zone)).shape.map (fun h => h.domain)
  loaded : (slotOf s (shapeOf s nsid (zoneOf s (zKey nsid zone))).keySlot).loaded = true
  moves : termiteMoves s < s.board.moves
  duty : dutyMoves s (zoneOf s (zKey nsid zone)) target duty = true
  holdup : s.gr.holdup = false

theorem exec_termiteMoveStart_of_mayMove (h : MayMove s nsid zone target duty)
    (hleft : liveUnits (zoneOf s (zKey nsid zone)) ≤ counterLeft (slotOf s (shapeOf s nsid (zoneOf s (zKey nsid zone))).keySlot)) :
    exec (.termiteMoveStart nsid zone target duty) s = .next (startMove (zKey nsid zone) target duty s) := by
  obtain ⟨h1, h2, h3, h4, h5, h6, h7, h8, h9, h10, h11⟩ := h
  simp only [exec, execTermiteMoveStart, h1, h2, h3, h4, h5, h6, h7, h8, h9, h10, h11, hleft, Option.isNone_none, List.isEmpty_nil, beq_self_eq_true,
    decide_true, Bool.and_self, Bool.not_false, if_true]

theorem exec_termiteMoveStart_of_refused (h : (zoneOf s (zKey nsid zone)).st ≠ .full ∨ (zoneOf s (zKey nsid zone)).move.isSome = true ∨
    bandReady s target = false ∨ s.board.moves ≤ termiteMoves s ∨ dutyMoves s (zoneOf s (zKey nsid zone)) target duty = false ∨ s.gr.holdup = true) :
    exec (.termiteMoveStart nsid zone target duty) s = .next s := by
  have hskip (c : Bool) (u v : State) (hc : c = false) : (Host.Outcome.next (if c then u else v) : Host.Outcome State Fault Refusal) = .next v := by simp [hc]
  refine hskip _ _ _ ?_
  rcases h with h | h | h | h | h | h
  · simp [h]
  · simp [Option.isNone_eq_false_iff.2 h]
  · simp [h]
  · simp [Nat.not_lt.2 h]
  · simp [h]
  · simp [h]

theorem exec_termiteMoveDone_of_early (hmove : (zoneOf s (zKey nsid zone)).move = some m) (h : m.duty = 0 ∨ s.ck.tb < m.due) :
    exec (.termiteMoveDone nsid zone) s = .next s := by
  have hearly : (decide (m.duty = 0) || decide (s.ck.tb < m.due)) = true := by simpa using h
  simp only [exec, execTermiteMoveDone, hmove, hearly, if_true]

theorem exec_termiteMoveDone_of_due (hmove : (zoneOf s (zKey nsid zone)).move = some m) (hduty : m.duty ≠ 0) (hdue : m.due ≤ s.ck.tb) :
    (switchMap (zKey nsid zone) s = (t, true) → exec (.termiteMoveDone nsid zone) s =
      .next (wakeTickets (raise 425 sevInfo [(zoneOf s (zKey nsid zone)).band.getD 0, m.target, m.duty] t))) ∧
    (switchMap (zKey nsid zone) s = (t, false) → exec (.termiteMoveDone nsid zone) s = .next t) := by
  have hearly : (decide (m.duty = 0) || decide (s.ck.tb < m.due)) = false := by simpa using ⟨hduty, hdue⟩
  constructor
  · intro h
    simp only [exec, execTermiteMoveDone, hmove, hearly, h, Bool.false_eq_true, if_false]
  · intro h
    simp only [exec, execTermiteMoveDone, hmove, hearly, h, Bool.false_eq_true, if_false]

/-- The end of a Termite move whose units all authenticate. -/
theorem termiteMove_done (h : Judged s (zKey nsid zone) b m) (hduty : m.duty ≠ 0) (hdue : m.due ≤ s.ck.tb) (htickets : NoTicketWaits s)
    (hopen : ∀ p, p ∈ numberedUnits (zoneOf s (zKey nsid zone)) → unitOpens s (zKey nsid zone) m p = true) :
    ∃ t, exec (.termiteMoveDone nsid zone) s = .next t ∧ Switched s t (zKey nsid zone) b m ∧ pending? t 425 = true := by
  obtain ⟨t, hswitch, hsw⟩ := switchMap_of_opens h hopen
  have hwake (sev : Nat) (ps : List Nat) : wakeTickets (raise 425 sev ps t) = raise 425 sev ps t :=
    wakeTickets_of_none (noTicketWaits_of_ce (raise_ce _ _ _ _) (hsw.tickets htickets))
  refine ⟨_, (exec_termiteMoveDone_of_due h.move hduty hdue).1 hswitch, ?_⟩
  rw [hwake]
  have hzone (sev : Nat) (ps : List Nat) : zoneOf (raise 425 sev ps t) (zKey nsid zone) = zoneOf t (zKey nsid zone) :=
    zoneOf_of_zonePart (zonePart_raise _ _ _ _) _
  refine ⟨⟨?_, ?_, ?_, ?_, ?_, fun hs => ?_⟩, pending?_raise_same (by decide) _ _ _⟩
  · rw [hzone, hsw.band]
  · rw [hzone, hsw.move]
  · rw [hzone, hsw.wp]
  · rw [hzone, hsw.units]
  · rw [bandOf_of_bands (congrArg ZoneEngine.bands (raise_ze _ _ _ _)), hsw.source]
  · exact noTicketWaits_of_ce (raise_ce _ _ _ _) (hsw.tickets hs)

/-- The end of a Termite move of which a unit does not authenticate. -/
theorem termiteMove_givenUp (h : Judged s (zKey nsid zone) b m) (hduty : m.duty ≠ 0) (hdue : m.due ≤ s.ck.tb)
    (hopen : ¬ ∀ p, p ∈ numberedUnits (zoneOf s (zKey nsid zone)) → unitOpens s (zKey nsid zone) m p = true) :
    ∃ t, exec (.termiteMoveDone nsid zone) s = .next t ∧ GivenUp s t (zKey nsid zone) b := by
  obtain ⟨t, hswitch, hup⟩ := switchMap_of_tag h hopen
  exact ⟨t, (exec_termiteMoveDone_of_due h.move hduty hdue).2 hswitch, hup⟩

/-- The end of a die-failure move whose units all authenticate. -/
theorem migrationMove_done (h : Judged s (zKey nsid zone) b m) (hduty : m.duty = 0)
    (hopen : ∀ p, p ∈ numberedUnits (zoneOf s (zKey nsid zone)) → unitOpens s (zKey nsid zone) m p = true) :
    ∃ t, exec (.migrationMoveDone nsid zone) s = .next t ∧ placedData (zoneOf t (zKey nsid zone)) = (some m.target, (zoneOf s (zKey nsid zone)).wp,
      movedUnits (zKey nsid zone) (zoneOf s (zKey nsid zone)) (unitKey s (zKey nsid zone) m) m.ctr (bandOf s m.target).gen) := by
  obtain ⟨t, hswitch, hsw⟩ := switchMap_of_opens h hopen
  refine ⟨migrateAll t, ?_, ?_⟩
  · simp only [exec, execMigrationMoveDone, h.move, hduty, hswitch, if_true]
  · rw [placedData_migrateAll, placedData, hsw.band, hsw.wp, hsw.units]

/-! ### AGE_REFRESH (08_flash_integrity.md R248) -/

theorem exec_ageRefresh_of_old (hfull : (zoneOf s (zKey nsid zone)).st = .full) (hband : (zoneOf s (zKey nsid zone)).band = some b) {days : Nat}
    (hdays : days = ageDays s (shapeOf s nsid (zoneOf s (zKey nsid zone))).life (shapeOf s nsid (zoneOf s (zKey nsid zone))).density)
    (hne : days ≠ 0) (hage : days * 86400000000000 ≤ poweredAge s b) :
    exec (.ageRefresh nsid zone) s = .next (modZone (zKey nsid zone) (fun z => { z with refresh := true }) s) := by
  have hne' : (days != 0) = true := by simpa using hne
  simp only [exec, execAgeRefresh, ← hdays, hfull, hband, hne', hage, Option.isSome_some, Option.getD_some, decide_true, Bool.and_self, if_true]

theorem exec_ageRefresh_of_young (hband : (zoneOf s (zKey nsid zone)).band = some b) {days : Nat}
    (hdays : days = ageDays s (shapeOf s nsid (zoneOf s (zKey nsid zone))).life (shapeOf s nsid (zoneOf s (zKey nsid zone))).density)
    (h : days = 0 ∨ poweredAge s b < days * 86400000000000) : exec (.ageRefresh nsid zone) s = .next s := by
  have hskip : ((days != 0) && decide (days * 86400000000000 ≤ poweredAge s b)) = false := by
    rcases h with h | h
    · simp [h]
    · simp [Nat.not_le.2 h]
  simp only [exec, execAgeRefresh, ← hdays, hband, Option.getD_some, Bool.and_assoc, hskip, Bool.and_false, Bool.false_eq_true, if_false]

end

/-- Settles O49: a move's begin and its end are read off the zone, band and slot they leave, a patrol off its reads in order. -/
theorem zonesMovePatrolAndAge : Obligations.ZonesMovePatrolAndAge := by
  unfold Obligations.ZonesMovePatrolAndAge
  refine ⟨?_, fun s nsid zone target duty h => exec_termiteMoveStart_of_refused h, ?_, ?_, fun s nsid zone m hmove h => exec_termiteMoveDone_of_early hmove h,
    fun s b ms h => exec_patrol_of_not_due h, fun s b ms hne hlen hdue => patrol_noted hne hlen hdue, ?_⟩
  · rintro s nsid zone target duty key z hlt rfl rfl hfull hbound hstill hqueue hready hholds hdom hloaded hleft hmoves hduty hholdup
    have hshape : shapeIn s (zKey nsid zone) = shapeOf s nsid (zoneOf s (zKey nsid zone)) := by rw [shapeIn, zNsid_zKey hlt]
    have hexec := exec_termiteMoveStart_of_mayMove ⟨hfull, hbound, hstill, hqueue, hready, hholds, hdom, hloaded, hmoves, hduty, hholdup⟩ hleft
    obtain ⟨⟨n, hzone⟩, hothers, hband, hslot⟩ := startMove_of_left (by rwa [hshape]) target duty
    refine ⟨_, hexec, ?_, ?_, ?_, ?_, ?_, hothers⟩
    · rw [hzone, begunMove, if_neg (duty_ne_zero_of_dutyMoves hduty), hshape]
    · rw [hzone]
    · rw [hzone]
    · rw [hband, zNsid_zKey hlt, zIdx_zKey hlt]
    · rw [← hshape, hslot]
  · rintro s nsid zone key b z m i rfl rfl hmove hband - hgen hloaded hshadow hceil - hopen hdue htickets hi
    have hjudged : Judged s (zKey nsid zone) b m := ⟨hmove, hband, hgen, hloaded, hshadow, hceil⟩
    obtain ⟨rfl, hduty⟩ | ⟨rfl, hduty⟩ := hi
    · obtain ⟨t, hexec, hsw, hev⟩ := termiteMove_done hjudged hduty (hdue hduty) htickets hopen
      exact ⟨t, hexec, hsw.band, hsw.wp, fun _ => ⟨hsw.move, hev, hsw.source⟩, fun _ => hsw.units⟩
    · obtain ⟨t, hexec, hdata⟩ := migrationMove_done hjudged hduty hopen
      simp only [placedData, Prod.mk.injEq] at hdata
      obtain ⟨htarget, hwp, hunits⟩ := hdata
      exact ⟨t, hexec, htarget, hwp, fun h => absurd hduty h, fun _ => hunits⟩
  · rintro s nsid zone key b z m rfl rfl hmove hband - hgen hloaded hshadow hceil - hduty hdue hopen
    obtain ⟨t, hexec, hup⟩ := termiteMove_givenUp ⟨hmove, hband, hgen, hloaded, hshadow, hceil⟩ hduty hdue hopen
    exact ⟨t, hexec, hup.band, hup.move, hup.units, hup.tag, hup.event⟩
  · rintro s nsid zone key rfl hfull
    refine ⟨fun b hband hne hage => ⟨_, exec_ageRefresh_of_old hfull hband rfl hne hage, zoneOf_modZone_same _ _ s, fun k hk => zoneOf_modZone_other hk _ s, rfl⟩,
      fun b hband h => exec_ageRefresh_of_young hband rfl h⟩

end Sys2Proof.Machine

/-! PROOFS. Rules of the entry into HOLDUP and of the changes of mode that resets make: what they leave of the pending event sources, the line
monitor, the Granary, the clocks and the command engine (14_control.md R401; 10_granary.md R296 to R302; 16_power_thermal.md R436;
18_bring_up.md R487). -/

namespace Sys2Proof.Machine

/-! ### What stopping work and switching domains leaves -/

/-- The events pending in `s` are pending in `t`, and the line monitor's record is the same. -/
structure KeepsAlarms (s t : State) : Prop where
  pending : KeepsPending s t
  line : rd t R.lmStat = rd s R.lmStat

/-- What the steps of a change of mode leave: besides the alarms the Granary, the clocks and the resets; fetching that has stopped stays stopped, and
no context appears where there is none. -/
structure KeepsHeld (s t : State) : Prop extends KeepsAlarms s t where
  gr : t.gr = s.gr
  ck : t.ck = s.ck
  rs : t.rs = s.rs
  fetch : s.ce.fetchStop = true → t.ce.fetchStop = true
  ctxs : s.ce.ctxs = [] → t.ce.ctxs = []

/-- The same, and the mode. -/
structure KeepsMode (s t : State) : Prop extends KeepsHeld s t where
  mode : t.pw.mode = s.pw.mode

section
variable {s t u : State}

theorem KeepsAlarms.trans (h : KeepsAlarms s t) (k : KeepsAlarms t u) : KeepsAlarms s u := ⟨h.pending.trans k.pending, k.line.trans h.line⟩

/-- The registers of the events and of hold-up decide what is pending and what the line monitor has recorded. -/
theorem keepsAlarms_of_rd (h : ∀ r : Ref, r.addr / 65536 = 0x1001 ∨ r.addr / 65536 = 0x1007 → rd t r = rd s r) : KeepsAlarms s t :=
  ⟨⟨fun k hk hp => by rwa [pending?, rdb, h _ (.inl (by simp only [R.evPend]; omega))]⟩, h _ (.inr (by decide))⟩

theorem keepsAlarms_of_regs (h : t.rf.regs = s.rf.regs) : KeepsAlarms s t := keepsAlarms_of_rd fun r _ => by rw [rd, h, rd]

theorem keepsAlarms_onGr (f : Granary → Granary) (s : State) : KeepsAlarms s (onGr f s) := keepsAlarms_of_regs rfl
theorem keepsAlarms_onPw (f : Power → Power) (s : State) : KeepsAlarms s (onPw f s) := keepsAlarms_of_regs rfl
theorem keepsAlarms_onCe (f : Engine → Engine) (s : State) : KeepsAlarms s (onCe f s) := keepsAlarms_of_regs rfl

theorem keepsAlarms_raise (src sev : Nat) (ps : List Nat) (s : State) : KeepsAlarms s (raise src sev ps s) := by
  refine ⟨keepsPending_raise src sev ps s, ?_⟩
  cases hsrc : listedSource src with
  | false => rw [raise_of_reserved hsrc]
  | true =>
    have hlt : src < 512 := by
      simp only [listedSource, List.any_cons, List.any_nil, Bool.or_eq_true, decide_eq_true_eq, Bool.false_eq_true, or_false] at hsrc
      omega
    exact rd_raise_other (by simp only [R.lmStat, R.evPend]; omega) (by decide) sev ps s

theorem KeepsHeld.trans (h : KeepsHeld s t) (k : KeepsHeld t u) : KeepsHeld s u :=
  ⟨h.toKeepsAlarms.trans k.toKeepsAlarms, k.gr.trans h.gr, k.ck.trans h.ck, k.rs.trans h.rs, fun hs => k.fetch (h.fetch hs),
    fun hs => k.ctxs (h.ctxs hs)⟩

theorem KeepsMode.trans (h : KeepsMode s t) (k : KeepsMode t u) : KeepsMode s u :=
  ⟨h.toKeepsHeld.trans k.toKeepsHeld, k.mode.trans h.mode⟩

/-- A step that writes no register of the events or of hold-up, and of the rest changes only what a change of mode may. -/
theorem keepsMode_of_rd (h : ∀ r : Ref, r.addr / 65536 = 0x1001 ∨ r.addr / 65536 = 0x1007 → rd t r = rd s r) (hgr : t.gr = s.gr)
    (hck : t.ck = s.ck) (hrs : t.rs = s.rs) (hfetch : s.ce.fetchStop = true → t.ce.fetchStop = true)
    (hctxs : s.ce.ctxs = [] → t.ce.ctxs = []) (hmode : t.pw.mode = s.pw.mode) : KeepsMode s t :=
  ⟨⟨keepsAlarms_of_rd h, hgr, hck, hrs, hfetch, hctxs⟩, hmode⟩

/-- What a change of the zones, the flash, the links, the Larder, the memories or the cipher leaves. -/
theorem keepsMode_of_parts (hrf : t.rf.regs = s.rf.regs) (hgr : t.gr = s.gr) (hck : t.ck = s.ck) (hrs : t.rs = s.rs) (hce : t.ce = s.ce)
    (hmode : t.pw.mode = s.pw.mode) : KeepsMode s t :=
  keepsMode_of_rd (fun r _ => by rw [rd, hrf, rd]) hgr hck hrs (fun h => hce ▸ h) (fun h => hce ▸ h) hmode

theorem KeepsMode.refl (s : State) : KeepsMode s s := keepsMode_of_parts rfl rfl rfl rfl rfl rfl

theorem keepsMode_onZe (f : ZoneEngine → ZoneEngine) (s : State) : KeepsMode s (onZe f s) := keepsMode_of_parts rfl rfl rfl rfl rfl rfl
theorem keepsMode_onFl (f : Flash → Flash) (s : State) : KeepsMode s (onFl f s) := keepsMode_of_parts rfl rfl rfl rfl rfl rfl
theorem keepsMode_onDm (f : Memory → Memory) (s : State) : KeepsMode s (onDm f s) := keepsMode_of_parts rfl rfl rfl rfl rfl rfl
theorem keepsMode_onPb (f : Balwen → Balwen) (s : State) : KeepsMode s (onPb f s) := keepsMode_of_parts rfl rfl rfl rfl rfl rfl

theorem keepsMode_filterCtxs (p : Nat × Ctx → Bool) (s : State) : KeepsMode s (onCe (fun e => { e with ctxs := e.ctxs.filter p }) s) :=
  keepsMode_of_rd (fun _ _ => rfl) rfl rfl rfl id (fun h => by simp [h]) rfl

theorem keepsMode_forEach {α : Type} {f : α → State → State} (h : ∀ a t, KeepsMode t (f a t)) (l : List α) (s : State) :
    KeepsMode s (forEach l f s) :=
  forEach_inv (P := KeepsMode s) (fun a t ht => ht.trans (h a t)) l s (.refl s)

theorem keepsMode_onlyIf {f : State → State} (h : ∀ t, KeepsMode t (f t)) (b : Bool) (s : State) : KeepsMode s (onlyIf b f s) := by
  cases b
  · exact .refl s
  · exact h s

theorem keepsMode_count {cnt ovf : Ref} (hc : 0x10080000 ≤ cnt.addr) (ho : 0x10080000 ≤ ovf.addr) (i n : Nat) (s : State) :
    KeepsMode s (count cnt ovf i n s) :=
  keepsMode_of_rd (fun r hr => rd_count_other (by omega) (by omega) i n s) (by simp) (by simp) (by simp) (by simp) (by simp) (by simp)

theorem keepsMode_raise (src sev : Nat) (ps : List Nat) (s : State) : KeepsMode s (raise src sev ps s) :=
  ⟨⟨keepsAlarms_raise src sev ps s, by simp, by simp, by simp, by simp, by simp⟩, by simp⟩

/-! ### Flash work given up (07_flash_channels.md R200, R210, R215) -/

/-- A state without its flash. -/
def offFlash (s : State) : State := { s with fl := {} }

theorem keepsMode_of_offFlash (h : offFlash t = offFlash s) : KeepsMode s t :=
  keepsMode_of_parts (congrArg (fun u => u.rf.regs) h :) (congrArg State.gr h :) (congrArg State.ck h :) (congrArg State.rs h :)
    (congrArg State.ce h :) (congrArg (fun u => u.pw.mode) h :)

/-- A state without the channels and dies of its flash, and their requests for tokens. -/
def offDies (s : State) : State := { s with fl := { s.fl with chans := [], dies := [], rdReq := [], peReq := [], dumpReq := [] } }

theorem offFlash_of_offDies (h : offDies t = offDies s) : offFlash t = offFlash s := (congrArg offFlash h :)

theorem offDies_unchoose (dk : Nat) (s : State) : offDies (unchoose dk s) = offDies s := by
  simp only [unchoose]
  split <;> rfl

theorem offDies_stopChans (p : Nat → Bool) (s : State) : offDies (stopChans p s) = offDies s :=
  forEach_keeps offDies _ offDies_unchoose _ s

theorem eq_of_offDies (h : offDies t = offDies s) : t = { s with fl := { s.fl with
    chans := t.fl.chans, dies := t.fl.dies, rdReq := t.fl.rdReq, peReq := t.fl.peReq, dumpReq := t.fl.dumpReq } } :=
  (congrArg (fun u => { u with fl := { u.fl with
    chans := t.fl.chans, dies := t.fl.dies, rdReq := t.fl.rdReq, peReq := t.fl.peReq, dumpReq := t.fl.dumpReq } }) h :)

theorem stopChans_only (p : Nat → Bool) (s : State) : ∃ chans dies rd pe dump, stopChans p s =
    { s with fl := { s.fl with chans := chans, dies := dies, rdReq := rd, peReq := pe, dumpReq := dump } } :=
  ⟨_, _, _, _, _, eq_of_offDies (offDies_stopChans p s)⟩

/-- A sequencer that is to stop is no longer in HOLDUP. -/
theorem chans_stopChans {p : Nat → Bool} {n : Nat} {c : Chan} (hc : (n, c) ∈ (stopChans p s).fl.chans) (hp : p n = true) : c.st ≠ .holdup := by
  simp only [stopChans, onFl_fl, tmap, List.mem_map, Prod.mk.injEq] at hc
  obtain ⟨⟨m, d⟩, -, rfl, rfl⟩ := hc
  by_cases hst : d.st = .holdup
  · simp [hst, hp]
  · simp [hst]

theorem chans_stopFlash {n : Nat} {c : Chan} (hc : (n, c) ∈ (stopFlash s).fl.chans) : c.st ≠ .holdup :=
  chans_stopChans (p := fun _ => true) hc rfl

theorem offFlash_modBandBlks (b : Nat) (f : DieBlk → DieBlk) (s : State) : offFlash (modBandBlks b f s) = offFlash s := by
  refine forEach_keeps offFlash _ (fun dk t => ?_) _ s
  rfl

theorem offFlash_dropDescs (dk st : Nat) (p : Desc × Issuer → Bool) (s : State) : offFlash (dropDescs dk st p s) = offFlash s := by
  have hfcpl (e : Desc × Issuer) (t : State) : offFlash (fcpl (dk / 64) e.1 e.2 st t) = offFlash t :=
    onlyIf_keeps offFlash _ _ t (fun _ => rfl)
  simp only [dropDescs]
  split
  · rfl
  · refine (forEach_keeps offFlash _ hfcpl _ _).trans ?_
    exact onlyIf_keeps offFlash _ _ s (fun u => offFlash_of_offDies (offDies_unchoose dk u))

theorem offFlash_flashHoldup (s : State) : offFlash (flashHoldup s) = offFlash s := by
  refine forEach_keeps offFlash holdupDie (fun dk t => ?_) _ s
  refine (offFlash_dropDescs dk 6 _ _).trans ((forEach_keeps offFlash _ (fun o u => ?_) _ _).trans ?_)
  · exact onlyIf_keeps offFlash _ _ u (fun _ => rfl)
  · exact offFlash_of_offDies (offDies_unchoose dk t)

/-! ### Keys let go, moves given up and links off (06_cipher.md R171; 08_flash_integrity.md R245; 11_balwen.md R319) -/

theorem keepsMode_settleSlot (k : Nat) (s : State) : KeepsMode s (settleSlot k s) := by
  simp only [settleSlot]
  split
  · exact keepsMode_of_parts rfl rfl rfl rfl rfl rfl
  split
  · exact keepsMode_of_parts rfl rfl rfl rfl rfl rfl
  · refine (KeepsMode.trans ?_ (keepsMode_count (by decide) (by decide) 3 1 _)).trans (keepsMode_raise _ _ _ _)
    exact keepsMode_of_parts rfl rfl rfl rfl rfl rfl

theorem keepsMode_abandonMoves (p : Nat → Bool) (reason : Nat) (s : State) : KeepsMode s (abandonMoves p reason s) := by
  refine keepsMode_forEach (fun q t => ?_) _ s
  refine KeepsMode.trans ?_ (keepsMode_raise _ _ _ _)
  refine KeepsMode.trans ?_ (keepsMode_forEach (fun k u => keepsMode_settleSlot k u) _ _)
  refine KeepsMode.trans ?_ (keepsMode_of_offFlash (offFlash_modBandBlks _ _ _))
  refine KeepsMode.trans ?_ (keepsMode_onZe _ _)
  exact keepsMode_onZe _ t

theorem keepsMode_dropKeys (c : Nat) (s : State) : KeepsMode s (dropKeys c s) := by
  unfold dropKeys
  split
  · exact .refl s
  · next x hx =>
    refine KeepsMode.trans ?_ (keepsMode_forEach (fun k t => keepsMode_settleSlot k t) _ _)
    refine keepsMode_of_rd (fun _ _ => rfl) rfl rfl rfl id (fun h => ?_) rfl
    rw [ctxOf, h] at hx
    cases hx

theorem keepsMode_dropChunks (gone : Nat → Nat → Nat → Bool) (s : State) : KeepsMode s (dropChunks gone s) := by
  simp only [dropChunks]
  exact ((keepsMode_forEach keepsMode_dropKeys _ s).trans (keepsMode_filterCtxs _ _)).trans (keepsMode_onPb _ _)

theorem keepsMode_linksOff (s : State) : KeepsMode s (linksOff s) := by
  unfold linksOff
  exact (keepsMode_onPb _ s).trans (keepsMode_dropChunks _ _)

theorem keepsMode_sendNotices (cause : Nat) (s : State) : KeepsMode s (sendNotices cause s) := by
  refine KeepsMode.trans (keepsMode_forEach (fun o t => ?_) _ s) (keepsMode_linksOff _)
  refine KeepsMode.trans ?_ (keepsMode_count (by simp only [R.plCnt]; omega) (by simp only [R.plOvf]; omega) 0 1 _)
  exact keepsMode_onPb _ t

/-! ### Domains and modes (16_power_thermal.md R433, R436) -/

/-- The blocks of the events and of hold-up lie in no domain that goes off (14_control.md R385). -/
theorem keepsMode_resetRegs (k : Nat) (s : State) : KeepsMode s (resetRegs (outsideDomain k) s) := by
  refine keepsMode_of_rd (fun r hr => ?_) rfl rfl rfl id id rfl
  have hmod : r.addr % 4294967296 = r.addr := Nat.mod_eq_of_lt (by omega)
  have hflash : (decide (0x10200000 ≤ r.addr) && decide (r.addr < 0x10240000)) = false := by
    rw [Bool.and_eq_false_iff, decide_eq_false_iff_not]
    exact .inl (by omega)
  have hout : outsideDomain k r.addr = true := by
    rcases hr with hr | hr <;> simp [outsideDomain, blkAt, hflash, hr, blkDomain]
  rw [rd, rd, resetRegs, onRf_rf, tget, tget]
  simp only [tfind_filter_key (fun a => outsideDomain k (a % 4294967296)), hmod, hout, if_true]

theorem keepsMode_powerOff (k : Nat) (s : State) : KeepsMode s (powerOff k s) := by
  have hmem (f : Memory → Memory) : KeepsMode s (onlyIf (decide (k ≤ 1)) (onDm f) (resetRegs (outsideDomain k) s)) :=
    (keepsMode_resetRegs k s).trans (keepsMode_onlyIf (keepsMode_onDm f) _ _)
  simp only [powerOff]
  split_ifs
  · exact (hmem _).trans (keepsMode_of_parts rfl rfl rfl rfl rfl rfl)
  · exact (hmem _).trans (keepsMode_of_rd (fun _ _ => rfl) rfl rfl rfl (fun _ => rfl) (fun _ => rfl) rfl)
  · exact (hmem _).trans (keepsMode_forEach (fun _ => keepsMode_onFl _) _ _)
  · exact (hmem _).trans (keepsMode_onDm _ _)
  · exact (hmem _).trans (keepsMode_linksOff _)
  · exact hmem _

theorem keepsMode_setDom (k v : Nat) (s : State) : KeepsMode s (setDom k v s) :=
  (keepsMode_onlyIf (keepsMode_powerOff k) _ s).trans (keepsMode_of_parts rfl rfl rfl rfl rfl rfl)

theorem keepsMode_setDoms (mode : Nat) (s : State) : KeepsMode s (setDoms mode s) :=
  keepsMode_forEach (fun k t => keepsMode_setDom k _ t) _ s

/-- A change of mode reaches the mode and leaves the rest of what its steps leave. -/
theorem setMode_enters (mode cause : Nat) (s : State) : KeepsHeld s (setMode mode cause s) ∧ (setMode mode cause s).pw.mode = mode := by
  have hpw (f : Power → Power) : KeepsHeld s (onPw f s) := ⟨keepsAlarms_of_regs rfl, rfl, rfl, rfl, id, id⟩
  have hrest : KeepsMode (onPw (fun p => { p with prev := s.pw.mode, mode := mode, cause := cause }) s) (setMode mode cause s) :=
    (keepsMode_raise _ _ _ _).trans (keepsMode_setDoms mode _)
  exact ⟨(hpw _).trans hrest.toKeepsHeld, hrest.mode⟩

end

end Sys2Proof.Machine

/-! PROOFS. The statement of the loss of the supply: the line monitor, the brown-out levels and HU_LINE, the entry into HOLDUP, and the end of its dump
(10_granary.md R293 to R302, R304, R313; 16_power_thermal.md R440). -/

namespace Sys2Proof.Machine

/-! ### Half-periods of the line (10_granary.md R294) -/

/-- A half-period kept among the last eight. -/
def halfPeriodKept (us : Nat) (s : State) : State :=
  onGr (fun g => { g with lmRun := (g.lmRun ++ [us]).drop (g.lmRun.length + 1 - 8) }) s

section
variable {s : State} {us : Nat}

theorem length_halfPeriodKept (us : Nat) (s : State) : (halfPeriodKept us s).gr.lmRun.length < 8 ↔ ¬ 7 ≤ s.gr.lmRun.length := by
  simp only [halfPeriodKept, onGr_gr, List.length_drop, List.length_append, List.length_singleton]
  omega

theorem exec_lineHalfPeriod_of_other_mode (h1 : lmMode s ≠ 1) (h2 : lmMode s ≠ 2) : exec (.lineHalfPeriod us) s = .next s := by
  simp [exec, execLineHalfPeriod, h1, h2]

theorem exec_lineHalfPeriod_in_range (hoff : s.pw.mode ≠ mOff) (hmode : lmMode s = 1 ∨ lmMode s = 2) (hlo : 7580 ≤ us) (hhi : us ≤ 11110) :
    exec (.lineHalfPeriod us) s = .next (if s.gr.lmLocked = true ∨ ¬ 7 ≤ s.gr.lmRun.length then halfPeriodKept us s else
      raise 354 sevWarning [lmMean (halfPeriodKept us s)] (onGr (fun g => { g with lmLocked := true }) (halfPeriodKept us s))) := by
  have hmon : ¬ (!(lmMode s == 1 || lmMode s == 2) || decide (s.pw.mode = mOff)) = true := by rcases hmode with h | h <;> simp [h, hoff]
  have hlen : (s.gr.lmLocked || decide ((halfPeriodKept us s).gr.lmRun.length < 8)) = true ↔ s.gr.lmLocked = true ∨ ¬ 7 ≤ s.gr.lmRun.length := by
    rw [Bool.or_eq_true, decide_eq_true_eq, length_halfPeriodKept]
  rw [← if_congr hlen rfl rfl]
  exact congrArg Host.Outcome.next ((if_neg hmon).trans (if_pos (by simp [hlo, hhi])))

theorem exec_lineHalfPeriod_out_of_range (hoff : s.pw.mode ≠ mOff) (hmode : lmMode s = 1 ∨ lmMode s = 2) (hout : us < 7580 ∨ 11110 < us) :
    exec (.lineHalfPeriod us) s = .next (if s.gr.lmLocked = true then
      onGr (fun g => { g with lmLocked := false, lmRun := [] }) (raise 354 sevWarning [lmMean s] s) else onGr (fun g => { g with lmRun := [] }) s) := by
  have hmon : (!(lmMode s == 1 || lmMode s == 2)) = false := by rcases hmode with h | h <;> simp [h]
  have hrange : (decide (7580 ≤ us) && decide (us ≤ 11110)) = false := by
    rw [Bool.and_eq_false_iff, decide_eq_false_iff_not, decide_eq_false_iff_not]
    omega
  simp [exec, execLineHalfPeriod, hoff, hmon, hrange]

theorem halfPeriod_in_range (hoff : s.pw.mode ≠ mOff) (hmode : lmMode s = 1 ∨ lmMode s = 2) (hlo : 7580 ≤ us) (hhi : us ≤ 11110) :
    ∃ t, exec (.lineHalfPeriod us) s = .next t ∧
      t.gr.lmRun = (s.gr.lmRun ++ [us]).drop (s.gr.lmRun.length + 1 - 8) ∧ t.gr.lmLocked = (s.gr.lmLocked || decide (7 ≤ s.gr.lmRun.length)) ∧
      (s.gr.lmLocked = false → 7 ≤ s.gr.lmRun.length → pending? t 354 = true) ∧
      t = { s with rf := t.rf, att := { s.att with evrec := t.att.evrec }, gr := { s.gr with lmRun := t.gr.lmRun, lmLocked := t.gr.lmLocked } } := by
  refine ⟨_, exec_lineHalfPeriod_in_range hoff hmode hlo hhi, ?_⟩
  split
  · next h =>
    refine ⟨rfl, ?_, fun hunlocked hlen => ?_, rfl⟩
    · rcases h with h | h <;> simp [halfPeriodKept, h]
    · simp [hunlocked, hlen] at h
  · next h =>
    rw [not_or, not_not] at h
    refine ⟨by rw [raise_gr]; rfl, by simp [h.2], fun _ _ => pending?_raise_same (by decide) _ _ _, ?_⟩
    rw [raise_eq]
    rfl

theorem halfPeriod_out_of_range (hoff : s.pw.mode ≠ mOff) (hmode : lmMode s = 1 ∨ lmMode s = 2) (hout : us < 7580 ∨ 11110 < us) :
    ∃ t, exec (.lineHalfPeriod us) s = .next t ∧ t.gr.lmRun = [] ∧ t.gr.lmLocked = false ∧ (s.gr.lmLocked = true → pending? t 354 = true) ∧
      t = { s with rf := t.rf, att := { s.att with evrec := t.att.evrec }, gr := { s.gr with lmRun := [], lmLocked := false } } := by
  refine ⟨_, exec_lineHalfPeriod_out_of_range hoff hmode hout, ?_⟩
  split
  · refine ⟨rfl, rfl, fun _ => pending?_raise_same (by decide) _ _ _, ?_⟩
    rw [raise_eq]
    rfl
  · next h =>
    have hunlocked : s.gr.lmLocked = false := by simpa using h
    refine ⟨rfl, hunlocked, fun h' => absurd h' h, ?_⟩
    rw [← hunlocked]
    rfl

theorem lineLost_iff (s : State) (mv us : Nat) :
    lineLost s mv us = true ↔ (lmMode s = 1 ∧ s.gr.lmLocked = true ∧ mv < rdf s R.lmLevel 11 0 ∧ lmMean s + 2000 ≤ us) ∨
      (lmMode s = 2 ∧ s.gr.lmLocked = true ∧ lmMean s + 1000 ≤ us) ∨ (lmMode s = 3 ∧ mv < rdf s R.lmLevel 27 16 ∧ 100 ≤ us) := by
  unfold lineLost
  split
  · next h => simp [h, and_assoc]
  · next h => simp [h]
  · next h => simp [h]
  · next h1 h2 h3 =>
    simp only [Bool.false_eq_true, false_iff, not_or, not_and]
    exact ⟨fun h => absurd h h1, fun h => absurd h h2, fun h => absurd h h3⟩

end

/-! ### The entry into HOLDUP (10_granary.md R296 to R300, R304) -/

/-- HOLDUP and its cause noted, a test given up, and HU_LINE driven where that is set. -/
def holdupMarked (cause : Nat) (s : State) : State :=
  onGr (fun g => { g with holdup := true, huCause := cause, huTestN := true, testing := false, testEnded := false, huIn := g.huIn && !rdb s R.lmCfg 4 }) s

/-- The dump frozen in the armed half; with none armed there is nothing to dump. -/
def dumpBegun (cause : Nat) (s : State) : State :=
  if s.gr.armedOk then
    raise 359 sevCritical [cause, segCount s] (onGr (fun g => { g with
      halves := tset g.armed (newDump cause s) g.halves, lastId := (newDump cause s).id, dumpSt := 1 }) s)
  else onGr (fun g => { g with dumpSt := 2, endTime := s.ck.tb }) s

/-- From CELLAR no domain wakes: the mode is entered with nothing to dump. -/
def cellarHeld (cause : Nat) (s : State) : State :=
  s |> holdupMarked cause
    |> onPw (fun p => { p with prev := s.pw.mode, mode := mHoldup, cause := cHoldup, entering := false, waking := false })
    |> raise 10 sevInfo [s.pw.mode, mHoldup, cHoldup]
    |> onGr (fun g => { g with dumpSt := 2, endTime := s.ck.tb })

section
variable {s : State}

theorem holdup_of_cellar (hcellar : s.pw.mode = mCellar) (cause : Nat) :
    holdup cause s = linksOff (stopFlash (flashHoldup (abandonMoves (fun _ => true) 3 (cellarHeld cause s)))) := by
  have hlive : ¬ (decide (s.pw.mode = mOff) || decide (s.pw.mode = mHoldup)) = true := by rw [hcellar]; decide
  have hfrom : (s.pw.mode == mCellar) = true := by simpa using hcellar
  unfold holdup
  exact (if_neg hlive).trans (if_pos hfrom)

/-- A powered device enters HOLDUP with what its dump freezes, its alarms as they were then. -/
theorem holdup_of_powered (hoff : s.pw.mode ≠ mOff) (hhold : s.pw.mode ≠ mHoldup) (hcellar : s.pw.mode ≠ mCellar) (cause : Nat) :
    KeepsAlarms (dumpBegun cause (holdupMarked cause s)) (holdup cause s) ∧ (holdup cause s).gr = (dumpBegun cause (holdupMarked cause s)).gr ∧
      (holdup cause s).pw.mode = mHoldup ∧ (holdup cause s).ce.fetchStop = true := by
  have hlive : ¬ (decide (s.pw.mode = mOff) || decide (s.pw.mode = mHoldup)) = true := by simp [hoff, hhold]
  have hfrom : ¬ (s.pw.mode == mCellar) = true := by simpa using hcellar
  obtain ⟨u, hu, hholdup⟩ : ∃ u, KeepsMode (dumpBegun cause (holdupMarked cause s)) u ∧
      holdup cause s = setDom 12 0 (setMode mHoldup cHoldup (onCe (fun e => { e with fetchStop := true }) u)) := by
    refine ⟨_, ?_, by unfold holdup; exact (if_neg hlive).trans (if_neg hfrom)⟩
    exact (((keepsMode_abandonMoves _ 3 _).trans (keepsMode_of_offFlash (offFlash_flashHoldup _))).trans
      (keepsMode_onlyIf (fun t => keepsMode_of_offFlash (offFlash_of_offDies (offDies_stopChans _ t))) _ _)).trans (keepsMode_sendNotices cause _)
  obtain ⟨hset, hmode⟩ := setMode_enters mHoldup cHoldup (onCe (fun e => { e with fetchStop := true }) u)
  have hend := keepsMode_setDom 12 0 (setMode mHoldup cHoldup (onCe (fun e => { e with fetchStop := true }) u))
  have hlast := hset.trans hend.toKeepsHeld
  rw [hholdup]
  exact ⟨(hu.toKeepsAlarms.trans (keepsAlarms_onCe _ u)).trans hlast.toKeepsAlarms, hlast.gr.trans hu.gr, hend.mode.trans hmode, hlast.fetch rfl⟩

theorem keepsAlarms_dumpBegun (cause : Nat) (s : State) : KeepsAlarms s (dumpBegun cause s) := by
  unfold dumpBegun
  split
  · exact (keepsAlarms_onGr _ s).trans (keepsAlarms_raise _ _ _ _)
  · exact keepsAlarms_onGr _ s

/-- Whether or not a half is armed, the marks of HOLDUP stand once the dump has begun. -/
theorem marks_dumpBegun (cause : Nat) (s : State) : (dumpBegun cause (holdupMarked cause s)).gr.holdup = true ∧
    (dumpBegun cause (holdupMarked cause s)).gr.huCause = cause ∧ (dumpBegun cause (holdupMarked cause s)).gr.testing = false ∧
    (dumpBegun cause (holdupMarked cause s)).gr.huTestN = true ∧ (s.gr.huIn = false → (dumpBegun cause (holdupMarked cause s)).gr.huIn = false) := by
  unfold dumpBegun
  split
  · rw [raise_gr]
    exact ⟨rfl, rfl, rfl, rfl, fun h => by simp [holdupMarked, h]⟩
  · exact ⟨rfl, rfl, rfl, rfl, fun h => by simp [holdupMarked, h]⟩

/-- With a half armed, the dump is frozen there under the next identifier. -/
theorem dumpBegun_of_armed (harmed : s.gr.armedOk = true) (cause : Nat) :
    (dumpBegun cause (holdupMarked cause s)).gr.dumpSt = 1 ∧ pending? (dumpBegun cause (holdupMarked cause s)) 359 = true ∧
      (dumpBegun cause (holdupMarked cause s)).gr.lastId = s.gr.lastId + 1 ∧
      tfind (dumpBegun cause (holdupMarked cause s)).gr.halves s.gr.armed = some (newDump cause (holdupMarked cause s)) := by
  have harmed' : (holdupMarked cause s).gr.armedOk = true := harmed
  rw [dumpBegun, if_pos harmed', raise_gr]
  exact ⟨rfl, pending?_raise_same (by decide) _ _ _, rfl, tfind_tset_same _ _ _⟩

/-- With none armed, nothing is dumped. -/
theorem dumpBegun_of_unarmed (harmed : s.gr.armedOk = false) (cause : Nat) :
    (dumpBegun cause (holdupMarked cause s)).gr.dumpSt = 2 ∧ (dumpBegun cause (holdupMarked cause s)).gr.halves = s.gr.halves := by
  have harmed' : ¬ (holdupMarked cause s).gr.armedOk = true := by simp [holdupMarked, harmed]
  rw [dumpBegun, if_neg harmed']
  exact ⟨rfl, rfl⟩

/-- A device that is neither OFF nor in HOLDUP enters HOLDUP, its alarms as they were, and HU_LINE as low as it was. -/
theorem holdup_entered (hoff : s.pw.mode ≠ mOff) (hhold : s.pw.mode ≠ mHoldup) (cause : Nat) :
    Safety.HoldupEntered s (holdup cause s) cause ∧ KeepsAlarms s (holdup cause s) ∧
      (s.gr.huIn = false → (holdup cause s).gr.huIn = false) := by
  by_cases hcellar : s.pw.mode = mCellar
  · have hk : KeepsMode (cellarHeld cause s) (holdup cause s) := by
      rw [holdup_of_cellar hcellar]
      exact (((keepsMode_abandonMoves _ 3 _).trans (keepsMode_of_offFlash (offFlash_flashHoldup _))).trans
        (keepsMode_of_offFlash (offFlash_of_offDies (offDies_stopChans _ _)))).trans (keepsMode_linksOff _)
    have halarms : KeepsAlarms s (cellarHeld cause s) :=
      (((keepsAlarms_onGr _ s).trans (keepsAlarms_onPw _ _)).trans (keepsAlarms_raise _ _ _ _)).trans (keepsAlarms_onGr _ _)
    have hmode : (cellarHeld cause s).pw.mode = mHoldup := by simp [cellarHeld]
    refine ⟨⟨hk.mode.trans hmode, ?_⟩, halarms.trans hk.toKeepsAlarms, ?_⟩
    · rw [hk.gr]
      simp [cellarHeld, holdupMarked, hcellar]
    · rw [hk.gr]
      simp +contextual [cellarHeld, holdupMarked]
  · obtain ⟨halarms, hgr, hmode, hfetch⟩ := holdup_of_powered hoff hhold hcellar cause
    obtain ⟨hheld, hcause, htest, hpin, hline⟩ := marks_dumpBegun cause s
    have hall : KeepsAlarms s (holdup cause s) := ((keepsAlarms_onGr _ s).trans (keepsAlarms_dumpBegun cause _)).trans halarms
    refine ⟨⟨hmode, ?_⟩, hall, by rwa [hgr]⟩
    rw [hgr]
    refine ⟨hheld, hcause, htest, hpin, fun _ harmed => ?_, fun h => dumpBegun_of_unarmed (h.resolve_left hcellar) cause⟩
    obtain ⟨hst, hpend, hid, hdump⟩ := dumpBegun_of_armed harmed cause
    exact ⟨hst, hfetch, halarms.pending.mono 359 (by decide) hpend, hid, _, hdump, rfl, rfl, rfl, rfl, rfl, rfl, rfl⟩

/-- A state without what the alarms that call for HOLDUP record: registers, the event recorder and HU_LINE. -/
def offAlarms (s : State) : State :=
  { s with rf := { s.rf with regs := [] }, att := { s.att with evrec := {} }, gr := { s.gr with huIn := true } }

theorem offAlarms_raise (src sev : Nat) (ps : List Nat) (s : State) : offAlarms (raise src sev ps s) = offAlarms s := by
  obtain ⟨_, _, h⟩ := raise_only src sev ps s
  rw [h]
  rfl

/-- HOLDUP entered upon an alarm, as from the state before it. -/
theorem holdup_entered_upon {u : State} (h : offAlarms u = offAlarms s) (hoff : s.pw.mode ≠ mOff) (hhold : s.pw.mode ≠ mHoldup) (cause : Nat) :
    Safety.HoldupEntered s (holdup cause u) cause ∧ KeepsAlarms u (holdup cause u) ∧ (u.gr.huIn = false → (holdup cause u).gr.huIn = false) := by
  have hmode : u.pw.mode = s.pw.mode := (congrArg (fun t => t.pw.mode) h :)
  obtain ⟨hentered, hrest⟩ := holdup_entered (by rwa [hmode]) (by rwa [hmode]) cause
  have hfrom : Safety.HoldupEntered (offAlarms u) (holdup cause u) cause := hentered
  rw [h] at hfrom
  exact ⟨hfrom, hrest⟩

end

/-! ### The alarms (10_granary.md R293 to R296, R301) -/

section
variable {s : State} {mv us ns : Nat}

theorem exec_lineLossDetected_of_not (h : lineLost s mv us = false) : exec (.lineLossDetected mv us) s = .next s := by
  simp [exec, execLineLossDetected, h]

theorem exec_lineLossDetected (hoff : s.pw.mode ≠ mOff) (hlost : lineLost s mv us = true) :
    exec (.lineLossDetected mv us) s = .next (holdup 1 (raise 355 sevCritical [] (wrb R.lmStat 31 true s))) :=
  congrArg Host.Outcome.next (if_neg (by simp [hoff, hlost]))

theorem offAlarms_wrb (r : Ref) (i : Nat) (b : Bool) (s : State) : offAlarms (wrb r i b s) = offAlarms s := rfl

theorem lineLoss_enters (hoff : s.pw.mode ≠ mOff) (hhold : s.pw.mode ≠ mHoldup) (hlost : lineLost s mv us = true) :
    ∃ t, exec (.lineLossDetected mv us) s = .next t ∧ pending? t 355 = true ∧ rdb t R.lmStat 31 = true ∧ Safety.HoldupEntered s t 1 := by
  obtain ⟨hentered, hk, -⟩ := holdup_entered_upon ((offAlarms_raise 355 sevCritical [] _).trans (offAlarms_wrb R.lmStat 31 true s)) hoff hhold 1
  have hset : rdb (wrb R.lmStat 31 true s) R.lmStat 31 = true := rdb_wrb_same _ _ _ _
  have hline := hk.line.trans (keepsAlarms_raise 355 sevCritical [] (wrb R.lmStat 31 true s)).line
  refine ⟨_, exec_lineLossDetected hoff hlost, hk.pending.mono 355 (by decide) (pending?_raise_same (by decide) _ _ _), ?_, hentered⟩
  rw [rdb, hline]
  exact hset

theorem exec_bo1Crossed_of_above (h : bo1Level s ≤ (mv : Int)) : exec (.bo1Crossed mv) s = .next s := by
  simp [exec, execBo1Crossed, h]

theorem exec_bo1Crossed_of_below (hoff : s.pw.mode ≠ mOff) (h : (mv : Int) < bo1Level s) :
    exec (.bo1Crossed mv) s = .next (holdup 2 (raise 356 sevCritical [] s)) := by
  simp [exec, execBo1Crossed, hoff, Int.not_le.2 h]

theorem bo1_enters (hoff : s.pw.mode ≠ mOff) (h : (mv : Int) < bo1Level s) (hhold : s.pw.mode ≠ mHoldup) :
    ∃ t, exec (.bo1Crossed mv) s = .next t ∧ pending? t 356 = true ∧ Safety.HoldupEntered s t 2 := by
  obtain ⟨hentered, hk, -⟩ := holdup_entered_upon (offAlarms_raise 356 sevCritical [] s) hoff hhold 2
  exact ⟨_, exec_bo1Crossed_of_below hoff h, hk.pending.mono 356 (by decide) (pending?_raise_same (by decide) _ _ _), hentered⟩

theorem bo1_in_holdup (hhold : s.pw.mode = mHoldup) (h : (mv : Int) < bo1Level s) :
    ∃ t, exec (.bo1Crossed mv) s = .next t ∧ pending? t 356 = true ∧ t = { s with rf := t.rf, att := { s.att with evrec := t.att.evrec } } := by
  have hstays : holdup 2 (raise 356 sevCritical [] s) = raise 356 sevCritical [] s := by simp [holdup, hhold]
  refine ⟨_, exec_bo1Crossed_of_below (by rw [hhold]; decide) h, ?_⟩
  rw [hstays]
  exact ⟨pending?_raise_same (by decide) _ _ _, raise_eq _ _ _ _⟩

theorem exec_huLineLow_of_short (h : ns < 200) : exec (.huLineLow ns) s = .next s := by
  simp [exec, execHuLineLow, h]

theorem exec_huLineLow_in_holdup (hhold : s.pw.mode = mHoldup) (h : 200 ≤ ns) :
    exec (.huLineLow ns) s = .next { s with gr := { s.gr with huIn := false } } := by
  have hoff : s.pw.mode ≠ mOff := by rw [hhold]; decide
  exact congrArg Host.Outcome.next ((if_neg (by simp [hoff, Nat.not_lt.2 h])).trans (if_pos hhold))

theorem huLine_enters (hoff : s.pw.mode ≠ mOff) (hhold : s.pw.mode ≠ mHoldup) (h : 200 ≤ ns) :
    ∃ t, exec (.huLineLow ns) s = .next t ∧ pending? t 358 = true ∧ t.gr.huIn = false ∧ Safety.HoldupEntered s t 3 := by
  obtain ⟨hentered, hk, hline⟩ := holdup_entered_upon (u := raise 358 sevCritical [] (onGr (fun g => { g with huIn := false }) s))
    (offAlarms_raise _ _ _ _) hoff hhold 3
  refine ⟨_, by simp [exec, execHuLineLow, hoff, hhold, Nat.not_lt.2 h], hk.pending.mono 358 (by decide) (pending?_raise_same (by decide) _ _ _),
    hline ?_, hentered⟩
  rw [raise_gr, onGr_gr]

/-- A dump cut where it is. -/
def dumpCut (s : State) (g : Granary) : Granary :=
  { g with dumpSt := 3, endTime := s.ck.tb, lastDumpUs := (s.ck.tb - (armedDump s).time) / 1000, lastDumpMib := (armedDump s).cws.length / 256,
           lastDumpCause := (armedDump s).cause, halves := talter g.armed (fun d => { d with cut := true }) g.halves }

theorem exec_bo2Crossed_of_above (h : bo2Level s ≤ (mv : Int)) : exec (.bo2Crossed mv) s = .next s := by
  simp [exec, execBo2Crossed, h]

theorem exec_bo2Crossed_of_below (hoff : s.pw.mode ≠ mOff) (h : (mv : Int) < bo2Level s) :
    exec (.bo2Crossed mv) s = .next (stopQuiet (onlyIf (s.gr.dumpSt == 1) (onGr (dumpCut s))
      (raise 357 sevCritical [] (onGr (fun g => { g with bo2 := true }) s)))) :=
  congrArg Host.Outcome.next (if_neg (by simp [hoff, Int.not_le.2 h]))

/-- BO2 crossed: no new pulse starts, and a dump that runs is cut. -/
theorem bo2_crossed (hoff : s.pw.mode ≠ mOff) (h : (mv : Int) < bo2Level s) :
    ∃ t, exec (.bo2Crossed mv) s = .next t ∧ pending? t 357 = true ∧ t.gr.bo2 = true ∧
      (s.gr.dumpSt = 1 → t.gr.dumpSt = 3 ∧ t.gr.endTime = s.ck.tb ∧
        (∀ d, tfind s.gr.halves s.gr.armed = some d → tfind t.gr.halves s.gr.armed = some { d with cut := true })) ∧
      (s.gr.dumpSt ≠ 1 → t.gr.dumpSt = s.gr.dumpSt ∧ t.gr.halves = s.gr.halves) ∧
      t = { s with
        rf := t.rf, att := { s.att with evrec := t.att.evrec },
        gr := { s.gr with bo2 := true, dumpSt := t.gr.dumpSt, endTime := t.gr.endTime, halves := t.gr.halves,
                          lastDumpUs := t.gr.lastDumpUs, lastDumpMib := t.gr.lastDumpMib, lastDumpCause := t.gr.lastDumpCause },
        fl := { s.fl with chans := t.fl.chans, dies := t.fl.dies, rdReq := t.fl.rdReq, peReq := t.fl.peReq, dumpReq := t.fl.dumpReq } } := by
  obtain ⟨regs, rec', hraise⟩ := raise_only 357 sevCritical [] (onGr (fun g => { g with bo2 := true }) s)
  have hpend : pending? (raise 357 sevCritical [] (onGr (fun g => { g with bo2 := true }) s)) 357 = true := pending?_raise_same (by decide) _ _ _
  refine ⟨_, exec_bo2Crossed_of_below hoff h, ?_⟩
  rw [hraise] at hpend ⊢
  unfold stopQuiet
  by_cases hdump : s.gr.dumpSt = 1
  · have hcuts : (s.gr.dumpSt == 1) = true := beq_iff_eq.2 hdump
    rw [hcuts]
    obtain ⟨chans, dies, rd, pe, dump, hstop⟩ := stopChans_only _ _
    rw [hstop]
    refine ⟨hpend, rfl, fun _ => ⟨rfl, rfl, fun d hd => ?_⟩, fun h' => absurd hdump h', rfl⟩
    have hcut := tfind_talter_same s.gr.armed (fun d : Dump => { d with cut := true }) s.gr.halves
    rwa [hd] at hcut
  · rw [beq_eq_false_iff_ne.2 hdump]
    obtain ⟨chans, dies, rd, pe, dump, hstop⟩ := stopChans_only _ _
    rw [hstop]
    exact ⟨hpend, rfl, fun h' => absurd h' hdump, fun _ => ⟨rfl, rfl⟩, rfl⟩

end

/-! ### The dump's end (10_granary.md R300, R302) -/

theorem garret_raise (src sev : Nat) (ps : List Nat) (s : State) : (raise src sev ps s).att.evrec.garret = s.att.evrec.garret := by
  have hpush (e : Event) (r : Recorder) : (recPush e r).1.garret = r.garret := by
    unfold recPush
    split <;> rfl
  simp only [raise, raiseCode]
  split
  · rfl
  split
  · split
    · split
      · exact hpush _ _
      · exact hpush _ _
    · exact hpush _ _
  · rfl

section
variable {s : State} {d : Dump}

/-- The end of a dump as the Granary records it. -/
def dumpEnded (s : State) (d : Dump) (g : Granary) : Granary :=
  { g with dumpSt := 2, endTime := s.ck.tb, dumpFailed := false,
           halves := tset g.armed { d with
             cws := d.cws ++ [(dumpTotal d, 0xFFFFFFFF)] ++ (if s.gr.bo2 then [] else (List.range 32).map (fun i => (dumpTotal d + 1 + i, 0xFFFFFFFE))),
             ended := true, recs := Nat.min 4096 s.att.evrec.recs.length } g.halves,
           lastDumpUs := (s.ck.tb - d.time) / 1000, lastDumpMib := dumpTotal d / 256, lastDumpCause := d.cause }

/-- The newest 4,096 event records programmed with the end of a dump. -/
def recordsDumped (a : Attic) : Attic := { a with evrec := { a.evrec with garret := a.evrec.recs.drop (a.evrec.recs.length - 4096) } }

theorem exec_dumpEnd_of_none (h : s.gr.dumpSt ≠ 1) : exec .dumpEnd s = .next s := by
  simp [exec, execDumpEnd, h]

theorem exec_dumpEnd_of_untried (hd : tfind s.gr.halves s.gr.armed = some d) (h : dumpTried s d = false) : exec .dumpEnd s = .next s := by
  simp [exec, execDumpEnd, armedDump, hd, h]

/-- The dump recorded as ended, with its records and its event, before the sequencers stop. -/
def dumpClosed (s : State) (d : Dump) : State :=
  raise 360 sevInfo (words64 d.id ++ [dumpTotal d]) (onlyIf (!s.gr.bo2) (onAtt recordsDumped) (onGr (dumpEnded s d) s))

theorem exec_dumpEnd (hst : s.gr.dumpSt = 1) (hd : tfind s.gr.halves s.gr.armed = some d) (htried : dumpTried s d = true) :
    exec .dumpEnd s = .next (stopFlash (dumpClosed s d)) := by
  simp only [exec, execDumpEnd, armedDump, hd, Option.getD_some, htried, hst]
  rfl

/-- Besides what the Granary and the records take, the end of a dump leaves all as it was. -/
theorem dumpClosed_parts (s : State) (d : Dump) : (dumpClosed s d).gr = dumpEnded s d s.gr ∧ (dumpClosed s d).ze = s.ze ∧ (dumpClosed s d).ce = s.ce ∧
    (dumpClosed s d).pw = s.pw := by
  unfold dumpClosed
  rw [raise_gr, raise_ze, raise_ce, raise_pw]
  cases s.gr.bo2
  · exact ⟨rfl, rfl, rfl, rfl⟩
  · exact ⟨rfl, rfl, rfl, rfl⟩

/-- Once BO2 has been crossed the Garret keeps its records; otherwise it takes the newest. -/
theorem garret_dumpClosed (s : State) (d : Dump) : (s.gr.bo2 = true → (dumpClosed s d).att.evrec.garret = s.att.evrec.garret) ∧
    (s.gr.bo2 = false → (dumpClosed s d).att.evrec.garret = s.att.evrec.recs.drop (s.att.evrec.recs.length - 4096)) := by
  unfold dumpClosed
  rw [garret_raise]
  exact ⟨fun h => by rw [h]; rfl, fun h => by simp [h, recordsDumped]⟩

theorem dump_ends (hst : s.gr.dumpSt = 1) (hd : tfind s.gr.halves s.gr.armed = some d) (htried : dumpTried s d = true) :
    ∃ t, exec .dumpEnd s = .next t ∧ pending? t 360 = true ∧ t.gr.dumpSt = 2 ∧
      t.gr.endTime = s.ck.tb ∧ t.gr.lastDumpCause = d.cause ∧ t.gr.lastDumpMib = dumpTotal d / 256 ∧
      tfind t.gr.halves s.gr.armed = some { d with
        cws := d.cws ++ [(dumpTotal d, 0xFFFFFFFF)] ++ (if s.gr.bo2 then [] else (List.range 32).map (fun i => (dumpTotal d + 1 + i, 0xFFFFFFFE))),
        ended := true, recs := Nat.min 4096 s.att.evrec.recs.length } ∧
      (s.gr.bo2 = true → t.att.evrec.garret = s.att.evrec.garret) ∧
      (s.gr.bo2 = false → t.att.evrec.garret = s.att.evrec.recs.drop (s.att.evrec.recs.length - 4096)) ∧
      (∀ n c, (n, c) ∈ t.fl.chans → c.st ≠ .holdup) ∧ t.ze = s.ze ∧ t.ce = s.ce ∧ t.pw = s.pw := by
  have hpend : pending? (dumpClosed s d) 360 = true := pending?_raise_same (by decide) _ _ _
  obtain ⟨hgr, hze, hce, hpw⟩ := dumpClosed_parts s d
  obtain ⟨hkept, hnewest⟩ := garret_dumpClosed s d
  have hflash := offFlash_of_offDies (offDies_stopChans (fun _ => true) (dumpClosed s d))
  have hstopped : (stopFlash (dumpClosed s d)).gr = dumpEnded s d s.gr := (congrArg State.gr hflash :).trans hgr
  have hatt : (stopFlash (dumpClosed s d)).att = (dumpClosed s d).att := (congrArg State.att hflash :)
  refine ⟨_, exec_dumpEnd hst hd htried, (keepsMode_of_offFlash hflash).pending.mono 360 (by decide) hpend, ?_⟩
  rw [hstopped, hatt]
  exact ⟨rfl, rfl, rfl, rfl, tfind_tset_same _ _ _, hkept, hnewest, fun n c hc => chans_stopFlash hc, (congrArg State.ze hflash :).trans hze,
    (congrArg State.ce hflash :).trans hce, (congrArg State.pw hflash :).trans hpw⟩

end

/-! ### The supply's return (10_granary.md R302, R313; 18_bring_up.md R487) -/

theorem memWriteBack_gr (sram : Bool) (a : Nat) (s : State) : (memWriteBack sram a s).gr = s.gr := by
  unfold memWriteBack
  extract_lets tgt hit s' mask parts
  split
  · rfl
  · clear_value parts
    match parts with
    | [] => simp [s']
    | [k] => simp [s']
    | _ :: _ :: _ => simp [s']

theorem memFull_gr (sram : Bool) (a : Nat) (s : State) : (memFull sram a s).gr = s.gr :=
  memWriteBack_gr sram a _

theorem l2Clean_gr (a : Nat) (s : State) : (l2Clean a s).gr = s.gr := by
  have hstore (w : Nat × Nat) (t : State) : (dramStore w.1 w.2 t).gr = t.gr := by
    simp only [dramStore, thtWrite]
    split <;> rfl
  simp only [l2Clean]
  split
  · rfl
  · exact (forEach_keeps State.gr _ hstore _ _).trans (memFull_gr false a s)

theorem l2WriteBack_gr (w : Nat) (s : State) : (l2WriteBack w s).gr = s.gr := by
  have hevict (a : Nat) (t : State) : (l2Evict w a t).gr = t.gr := by
    refine (onlyIf_keeps State.gr _ _ _ fun u => ?_).trans (l2Clean_gr a t)
    rfl
  exact forEach_keeps State.gr _ hevict _ s

section
variable {s : State}

theorem gr_chanOffs (l : List Nat) (s : State) : (forEach l chanOff s).gr = s.gr := forEach_keeps State.gr chanOff (fun _ _ => rfl) l s
theorem ce_chanOffs (l : List Nat) (s : State) : (forEach l chanOff s).ce = s.ce := forEach_keeps State.ce chanOff (fun _ _ => rfl) l s
theorem engineLost_gr (s : State) : (engineLost s).gr = s.gr := rfl

/-- A chip reset ends HOLDUP and the commands; a dump that no longer runs stays as it is. -/
theorem resetMain_restarts (h : s.gr.dumpSt ≠ 1) : (resetMain s).gr.holdup = false ∧ (resetMain s).gr.dumpSt = 0 ∧
    (resetMain s).gr.halves = s.gr.halves ∧ (resetMain s).ce.ctxs = [] := by
  have hdump : (s.gr.dumpSt == 1) = false := beq_eq_false_iff_ne.2 h
  have hlinks (t : State) : (linksOff t).gr = t.gr := (keepsMode_linksOff t).gr
  refine ⟨rfl, rfl, ?_, ?_⟩
  · unfold resetMain
    simp only [hdump, onRs_gr, onAtt_gr, onPw_gr, onGr_gr, onCtl_gr, onDm_gr, onPb_gr, hlinks, onZe_gr, onFl_gr, gr_chanOffs, onCe_gr, engineLost_gr,
      onlyIf_false]
    rfl
  · unfold resetMain
    simp only [onRs_ce, onAtt_ce, onPw_ce, onGr_ce, onCtl_ce, onDm_ce, onPb_ce]
    refine (keepsMode_linksOff _).ctxs ?_
    simp only [onZe_ce, onFl_ce, ce_chanOffs]
    rfl

/-- BOOT as the mode, with the age counted on and the margin histograms zeroed, before the domains follow. -/
def bootMarked (s : State) : State :=
  s |> tookFree
    |> onRs (fun r => { r with age := Nat.min 4294967295 (s.rs.age + freeVal s) })
    |> onZe (fun z => { z with nss := tmap (fun _ n => { n with hist := { since := s.ck.tb } }) z.nss })
    |> onPw (fun p => { p with prev := p.mode, mode := mBoot, cause := cSequence })

theorem toBoot_eq (s : State) : toBoot s = setDoms mBoot (raise 10 sevInfo [s.pw.mode, mBoot, cSequence] (bootMarked s)) := rfl

/-- The step to BOOT leaves the Granary, the record of the reset and the clocks, and no command comes. -/
theorem toBoot_enters (s : State) : (toBoot s).pw.mode = mBoot ∧ (toBoot s).gr = s.gr ∧ (toBoot s).ck = s.ck ∧ (toBoot s).rs.last = s.rs.last ∧
    (s.ce.ctxs = [] → (toBoot s).ce.ctxs = []) := by
  have hk := (keepsMode_raise 10 sevInfo [s.pw.mode, mBoot, cSequence] (bootMarked s)).trans (keepsMode_setDoms mBoot _)
  rw [toBoot_eq]
  exact ⟨hk.mode, hk.gr, hk.ck, (congrArg Resets.last hk.rs :), hk.ctxs⟩

/-- What a warm reset writes back and gives up before the domains restart. -/
def restReady (s : State) : State := abandonMoves (fun _ => true) 6 (forEach (List.range 4) l2WriteBack s)

theorem restReady_gr (s : State) : (restReady s).gr = s.gr :=
  (keepsMode_abandonMoves _ 6 _).gr.trans (forEach_keeps State.gr l2WriteBack l2WriteBack_gr _ s)

theorem warmReset_of_on (hoff : s.pw.mode ≠ mOff) (last : Nat) : warmReset last s =
    toBoot (onRs (fun r => { r with last := last, undumped := last == 4 && segCount s != 0 }) (onCk (freshClocks s.ck.tb) (resetMain (restReady s)))) :=
  if_neg hoff

/-- A warm reset of a device whose dump has ended. -/
theorem warmReset_restarts (hoff : s.pw.mode ≠ mOff) (hst : s.gr.dumpSt ≠ 1) (last : Nat) :
    (warmReset last s).pw.mode = mBoot ∧ (warmReset last s).rs.last = last ∧ (warmReset last s).gr.holdup = false ∧ (warmReset last s).gr.dumpSt = 0 ∧
      (warmReset last s).gr.halves = s.gr.halves ∧ (warmReset last s).ce.ctxs = [] ∧ (warmReset last s).ck.tb = s.ck.tb := by
  obtain ⟨hheld, hdump, hhalves, hctxs⟩ := resetMain_restarts (s := restReady s) (by rwa [restReady_gr])
  rw [restReady_gr] at hhalves
  rw [warmReset_of_on hoff]
  obtain ⟨hmode, hgr, hck, hlast, hnone⟩ := toBoot_enters (onRs (fun r => { r with last := last, undumped := last == 4 && segCount s != 0 })
    (onCk (freshClocks s.ck.tb) (resetMain (restReady s))))
  rw [hgr, hck, hlast]
  exact ⟨hmode, rfl, hheld, hdump, hhalves, hnone hctxs, rfl⟩

end

theorem exec_holdUpCompletedReset_of_not {s : State} {mv : Nat} (h : s.pw.mode ≠ mHoldup ∨ s.gr.dumpSt < 2 ∨
    elapsed s s.gr.endTime 100000000 = false ∨ (mv : Int) ≤ bo1Level s) : exec (.holdUpCompletedReset mv) s = .next s := by
  rcases h with h | h | h | h <;> simp [exec, execHoldUpCompletedReset, h]

theorem exec_holdUpCompletedReset {s : State} {mv : Nat} (hhold : s.pw.mode = mHoldup) (hst : 2 ≤ s.gr.dumpSt)
    (hdue : elapsed s s.gr.endTime 100000000 = true) (hlevel : bo1Level s < (mv : Int)) : exec (.holdUpCompletedReset mv) s = .next (warmReset 3 s) := by
  simp [exec, execHoldUpCompletedReset, hhold, hst, hdue, hlevel]

/-- Settles O56, by what the entry into HOLDUP, the end of a dump and a warm reset each make of the state. -/
theorem supplyLossEntersHoldup : Obligations.SupplyLossEntersHoldup := by
  unfold Obligations.SupplyLossEntersHoldup
  refine ⟨fun s us hoff => ⟨exec_lineHalfPeriod_of_other_mode, fun hmode => ⟨halfPeriod_in_range hoff hmode, halfPeriod_out_of_range hoff hmode⟩⟩,
    fun s mv us hoff hhold => ⟨lineLoss_enters hoff hhold, exec_lineLossDetected_of_not, lineLost_iff s mv us⟩,
    fun s mv hoff => ⟨exec_bo1Crossed_of_above, bo1_enters hoff, fun h hhold => bo1_in_holdup hhold h, exec_bo2Crossed_of_above, bo2_crossed hoff⟩,
    fun s ns hoff => ⟨exec_huLineLow_of_short, fun h hhold => huLine_enters hoff hhold h, fun h hhold => exec_huLineLow_in_holdup hhold h⟩,
    fun s => ⟨exec_dumpEnd_of_none, fun d => exec_dumpEnd_of_untried, fun d => dump_ends⟩,
    fun s mv => ⟨exec_holdUpCompletedReset_of_not, fun hhold hst hdue hlevel => ⟨_, exec_holdUpCompletedReset hhold hst hdue hlevel,
      warmReset_restarts (by rw [hhold]; decide) (by omega) 3⟩⟩⟩

end Sys2Proof.Machine

/-! PROOFS. Rules of the writes that write-through takes hold of and of the copies that go to a mirror partner: they leave the power side, the hold-up
test and mirror mode as they were, and forget no copy (10_granary.md R281, R288, R309, R311; 11_balwen.md R333, R334). -/

namespace Sys2Proof.Machine

/-! ### What forcing and copying leave of the Granary -/

/-- The Granary without its segments, its counts of forcing and of write-through, and the copies that have been sent. -/
def steady (g : Granary) : Granary :=
  { g with segs := [], nextSeg := 0, nextItem := 0, peak := 0, late := [], fillCw := 0, forceFua := 0, forceFlush := 0, forceWt := 0, forcePress := 0,
           wtNs := 0, wtSince := 0, mirOut := [], mirHeld := [], mirLbas := [], mirNext := 0 }

/-- The partner has a copy, not yet released, under an offset. -/
def Copied (off : Nat) (s : State) : Prop := (tfind s.gr.mirLbas off).isSome = true

/-- What forcing stripes and copying pages leave: the power side, all that is steady of the Granary, and the copies that the partner has. -/
structure KeepsSteady (s t : State) : Prop where
  pw : t.pw = s.pw
  gr : steady t.gr = steady s.gr
  copies : ∀ off, Copied off s → Copied off t

section
variable {s t u : State}

theorem KeepsSteady.refl (s : State) : KeepsSteady s s := ⟨rfl, rfl, fun _ h => h⟩

theorem KeepsSteady.trans (h : KeepsSteady s t) (k : KeepsSteady t u) : KeepsSteady s u :=
  ⟨k.pw.trans h.pw, k.gr.trans h.gr, fun off hs => k.copies off (h.copies off hs)⟩

theorem keepsSteady_forEach {α : Type} {f : α → State → State} (h : ∀ a t, KeepsSteady t (f a t)) (l : List α) (s : State) :
    KeepsSteady s (forEach l f s) :=
  forEach_inv (P := KeepsSteady s) (fun a t ht => ht.trans (h a t)) l s (.refl s)

theorem keepsSteady_ite {c : Prop} [Decidable c] (ht : KeepsSteady s t) (hu : KeepsSteady s u) : KeepsSteady s (if c then t else u) := by
  split
  · exact ht
  · exact hu

theorem keepsSteady_onlyIf {f : State → State} (h : ∀ t, KeepsSteady t (f t)) (b : Bool) (s : State) : KeepsSteady s (onlyIf b f s) := by
  cases b
  · exact .refl s
  · exact h s

theorem keepsSteady_whenSome {α : Type} {f : α → State → State} (h : ∀ a t, KeepsSteady t (f a t)) (o : Option α) (s : State) :
    KeepsSteady s (whenSome o f s) := by
  cases o
  · exact .refl s
  · exact h _ s

theorem keepsSteady_of_gr (hgr : t.gr = s.gr) (hpw : t.pw = s.pw) : KeepsSteady s t :=
  ⟨hpw, by rw [hgr], fun _ h => by rwa [Copied, hgr]⟩

theorem keepsSteady_modZone (key : Nat) (f : Zone → Zone) (s : State) : KeepsSteady s (modZone key f s) := keepsSteady_of_gr rfl rfl
theorem keepsSteady_modCtx (c : Nat) (f : Ctx → Ctx) (s : State) : KeepsSteady s (modCtx c f s) := keepsSteady_of_gr rfl rfl
theorem keepsSteady_count (cnt ovf : Ref) (i n : Nat) (s : State) : KeepsSteady s (count cnt ovf i n s) := keepsSteady_of_gr (by simp) (by simp)
theorem keepsSteady_raise (src sev : Nat) (ps : List Nat) (s : State) : KeepsSteady s (raise src sev ps s) := keepsSteady_of_gr (by simp) (by simp)

theorem keepsSteady_of_offLink (h : offLink t = offLink s) : KeepsSteady s t :=
  keepsSteady_of_gr (congrArg State.gr h :) (congrArg State.pw h :)

theorem keepsSteady_of_offEngine (h : offEngine t = offEngine s) : KeepsSteady s t :=
  keepsSteady_of_gr (congrArg State.gr h :) (congrArg State.pw h :)

/-- A change of the Granary's segments or of its counts. -/
theorem keepsSteady_onGr {f : Granary → Granary} (h : ∀ g, steady (f g) = steady g ∧ (f g).mirLbas = g.mirLbas) (s : State) :
    KeepsSteady s (onGr f s) :=
  ⟨rfl, (h s.gr).1, fun _ hs => by rwa [Copied, onGr_gr, (h s.gr).2]⟩

/-- A copy entered under an offset. -/
theorem keepsSteady_enterCopy {f : Granary → Granary} {off : Nat} {item : Nat × Nat}
    (h : ∀ g, steady (f g) = steady g ∧ (f g).mirLbas = tset off item g.mirLbas) (s : State) :
    KeepsSteady s (onGr f s) ∧ Copied off (onGr f s) := by
  refine ⟨⟨rfl, (h s.gr).1, fun o ho => ?_⟩, ?_⟩
  · rw [Copied, onGr_gr, (h s.gr).2]
    by_cases hoff : o = off
    · rw [hoff, tfind_tset_same]; rfl
    · rwa [tfind_tset_other hoff]
  · rw [Copied, onGr_gr, (h s.gr).2, tfind_tset_same]; rfl

/-! ### Items placed in the Granary (10_granary.md R281) -/

theorem keepsSteady_grantBuf (p owner : Nat) (s : State) : KeepsSteady s (grantBuf p owner s) := by
  refine keepsSteady_of_gr ?_ (congrArg State.pw (offGranary_grantBuf p owner s) :)
  unfold grantBuf
  split
  · rfl
  · exact (onlyIf_keeps State.gr _ _ _ (fun t => raise_gr _ _ _ t)).trans (count_gr _ _ _ _ _)

theorem keepsSteady_putState (kind bytes a b : Nat) (s : State) : KeepsSteady s (putState kind bytes a b s) := by
  have hfresh (n : Nat) : KeepsSteady s (putItem.fresh kind bytes a b n s).2 := by
    simp only [putItem.fresh, takeSegBuf]
    exact (keepsSteady_grantBuf 5 (segOwner kind) s).trans <| keepsSteady_onGr (fun _ => by exact ⟨rfl, rfl⟩) _
  have hitem : KeepsSteady s (putItem kind bytes a b s).2 := by
    unfold putItem
    dsimp only
    split
    · split
      · dsimp only
        exact keepsSteady_onGr (fun _ => by exact ⟨rfl, rfl⟩) s
      · exact hfresh _
    · exact hfresh _
  simp only [putState]
  split
  · exact hitem
  · exact keepsSteady_onGr (fun _ => by exact ⟨rfl, rfl⟩) s

theorem keepsSteady_sendRecord (item : Nat × Nat) (f : TxFrame) (s : State) : KeepsSteady s (sendRecord item f s) := by
  simp only [sendRecord]
  split
  · exact (keepsSteady_enterCopy (fun _ => by exact ⟨rfl, rfl⟩) s).1.trans (keepsSteady_of_offLink (offLink_sendFrame _ _))
  · exact .refl s

theorem keepsSteady_noteDelta (key : Nat) (s : State) : KeepsSteady s (noteDelta key s) := by
  obtain ⟨f, h⟩ := noteDelta_eq key s
  have hplace : KeepsSteady s (placeDelta key s) := by
    unfold placeDelta
    split
    · exact .refl s
    · exact (keepsSteady_putState 3 4096 key 0 s).trans (keepsSteady_of_gr rfl rfl)
  have hjournal (r : JRec) (t : State) : KeepsSteady t (journal r t) := by
    simp only [journal, journalAll]
    refine KeepsSteady.trans ?_ (keepsSteady_onlyIf (fun t => keepsSteady_forEach (fun p u => keepsSteady_sendRecord _ _ u) _ t) _ _)
    exact (keepsSteady_putState _ _ _ _ t).trans (keepsSteady_of_gr rfl rfl)
  have hdelta (t : State) : KeepsSteady t (journalDelta key t) := by
    unfold journalDelta
    split
    · exact (hjournal _ t).trans (keepsSteady_of_gr rfl rfl)
    · exact .refl t
  rw [h]
  exact (hplace.trans (hdelta _)).trans (keepsSteady_sendRecord _ _ _)

/-! ### Stripes forced when write-through comes into force (10_granary.md R288, R311) -/

theorem keepsSteady_forceOut (key slot : Nat) (s : State) : KeepsSteady s (forceOut key slot s) := by
  simp only [forceOut]
  split
  · exact .refl s
  · exact (((keepsSteady_modZone key _ s).trans (keepsSteady_noteDelta key _)).trans (keepsSteady_count _ _ _ _ _)).trans
      (keepsSteady_raise _ _ _ _)

theorem keepsSteady_forceStripe (key w : Nat) (why : Force) (s : State) : KeepsSteady s (forceStripe key w why s) := by
  have hcount (t : State) : KeepsSteady t (countForce why t) := keepsSteady_onGr (fun g => by cases why <;> exact ⟨rfl, rfl⟩) t
  simp only [forceStripe]
  split
  · exact .refl s
  · refine keepsSteady_ite ?_ (.refl s)
    exact (((keepsSteady_modZone key _ s).trans (keepsSteady_onGr (fun _ => by exact ⟨rfl, rfl⟩) _)).trans (hcount _)).trans
      (keepsSteady_noteDelta key _)

theorem keepsSteady_forceTo (key e : Nat) (why : Force) (s : State) : KeepsSteady s (forceTo key e why s) := by
  have hout : KeepsSteady s (if why = .fua || why = .flush then forceOutBelow key e s else forceOutAll key s) := by
    split
    · exact keepsSteady_forEach (fun k t => keepsSteady_forceOut key k t) _ s
    · exact keepsSteady_forEach (fun k t => keepsSteady_forceOut key k t) _ s
  simp only [forceTo]
  generalize (if why = .fua || why = .flush then forceOutBelow key e s else forceOutAll key s) = t at hout ⊢
  split
  · exact hout
  split
  · split
    · exact hout
    · exact hout.trans (keepsSteady_forceStripe key _ why t)
  · exact hout

theorem keepsSteady_forceWaiting (s : State) : KeepsSteady s (forceWaiting s) := by
  have hfor (c : Nat) (t : State) : KeepsSteady t (forceFor c t) := by
    unfold forceFor
    split
    · exact .refl t
    split_ifs
    · exact .refl t
    · exact keepsSteady_forceTo _ _ _ t
    · exact keepsSteady_forceTo _ _ _ t
    · exact .refl t
  refine KeepsSteady.trans ?_ (keepsSteady_of_offEngine (offEngine_settleAll _))
  exact (keepsSteady_forEach (fun c => keepsSteady_modCtx c _) _ s).trans (keepsSteady_forEach hfor _ _)

/-- Whatever a change makes of write-through, what follows leaves what the change has made of the steady Granary. -/
theorem keepsSteady_withWt (f : State → State) (s : State) : KeepsSteady (f s) (withWt f s) := by
  simp only [withWt]
  split
  · exact .refl _
  split
  · exact (keepsSteady_onGr (fun _ => by exact ⟨rfl, rfl⟩) _).trans (keepsSteady_forceWaiting _)
  · exact (keepsSteady_onGr (fun _ => by exact ⟨rfl, rfl⟩) _).trans (keepsSteady_of_offEngine (offEngine_settleAll _))

/-! ### Pages copied to the partner (10_granary.md R309; 11_balwen.md R333, R334) -/

/-- A page copied while mirroring is at work, or waiting for the partner's return, is entered under its offset. -/
theorem mirrorPage_enters (c key lba kind off : Nat) (sl : Sealed) (s : State) : KeepsSteady s (mirrorPage c key lba kind off sl s) ∧
    (s.gr.mirEn = true → s.gr.mirPolicy = 0 → Copied off (mirrorPage c key lba kind off sl s)) := by
  have henter := keepsSteady_enterCopy (off := off) (item := (key, lba)) (f := fun g => { g with
    mirOut := g.mirOut.filter (fun o => o.1 != off) ++ [(off, c)], mirHeld := g.mirHeld.filter (fun o => o != off),
    mirLbas := tset off (key, lba) g.mirLbas }) (fun _ => by exact ⟨rfl, rfl⟩) s
  simp only [mirrorPage]
  split
  · split
    · refine ⟨henter.1.trans ?sent, fun _ _ => KeepsSteady.copies ?sent off henter.2⟩
      exact (keepsSteady_of_offLink (offLink_sendFrame _ _)).trans (keepsSteady_of_offLink (offLink_sendFrame _ _))
    · exact ⟨henter.1, fun _ _ => henter.2⟩
  · next h => exact ⟨.refl s, fun hen hpol => by simp [hen, hpol] at h⟩

/-- A copy that one element's change enters stands once the change has been made for all. -/
theorem copied_forEach {α : Type} {f : α → State → State} (hf : ∀ a t, KeepsSteady t (f a t)) {l : List α} {a : α} (ha : a ∈ l) {off : Nat}
    (hcopy : ∀ t, KeepsSteady s t → Copied off (f a t)) : Copied off (forEach l f s) := by
  obtain ⟨before, after, rfl⟩ := List.append_of_mem ha
  have hsplit : forEach (before ++ a :: after) f s = forEach after f (f a (forEach before f s)) := by simp [forEach]
  rw [hsplit]
  exact (keepsSteady_forEach hf after _).copies off (hcopy _ (keepsSteady_forEach hf before s))

end

end Sys2Proof.Machine

/-! PROOFS. The statement of the hold-up test, of the mirror partner and of a mirror owner's loss (10_granary.md R309 to R314; 11_balwen.md R335,
R336). -/

namespace Sys2Proof.Machine

/-! ### The hold-up test begins (10_granary.md R311) -/

/-- What the start of a test sets. -/
def testBegun (v0 : Nat) (g : Granary) : Granary := { g with testing := true, wtForced := true, testV0 := v0, botCrossed := false, huTestN := false }

section
variable {s : State}

theorem startTest_of_idle (htest : s.gr.testing = false) (hhold : s.pw.mode ≠ mHoldup) (hoff : s.pw.mode ≠ mOff) (v0 : Nat) :
    startTest v0 s = withWt (onGr (testBegun v0)) s := by
  unfold startTest
  exact if_neg (by simp [htest, hhold, hoff])

theorem startTest_of_busy (h : s.gr.testing = true ∨ s.pw.mode = mHoldup) (v0 : Nat) : startTest v0 s = s := by
  rcases h with h | h <;> simp [startTest, h]

/-- A test that may begin is running: write-through is forced, V0 sampled and HU_TEST_N driven low. -/
theorem startTest_begins (htest : s.gr.testing = false) (hhold : s.pw.mode ≠ mHoldup) (hoff : s.pw.mode ≠ mOff) (v0 : Nat) :
    (startTest v0 s).gr.testing = true ∧ (startTest v0 s).gr.wtForced = true ∧ (startTest v0 s).gr.testV0 = v0 ∧
      (startTest v0 s).gr.huTestN = false ∧ (startTest v0 s).gr.botCrossed = false ∧ (startTest v0 s).pw = s.pw := by
  rw [startTest_of_idle htest hhold hoff]
  have hk := keepsSteady_withWt (onGr (testBegun v0)) s
  exact ⟨(congrArg Granary.testing hk.gr :), (congrArg Granary.wtForced hk.gr :), (congrArg Granary.testV0 hk.gr :),
    (congrArg Granary.huTestN hk.gr :), (congrArg Granary.botCrossed hk.gr :), hk.pw⟩

theorem exec_holdUpTestStart (hsb : s.rs.standby = true) (hrel : s.att.released = true) (hact : active s = true) (hload : s.pw.mode ≠ mLoad)
    (v0 : Nat) : exec (.holdUpTestStart v0) s = .next (startTest v0 s) := by
  simp [exec, execHoldUpTestStart, hsb, hrel, hact, hload]

/-- An active device is neither OFF nor in HOLDUP. -/
theorem mode_of_active (hact : active s = true) : s.pw.mode ≠ mHoldup ∧ s.pw.mode ≠ mOff := by
  simp only [active, serving, Bool.or_eq_true, beq_iff_eq, mLoad, mRun, mCapped, mDoze, mCellar, mQuiesce, mSafe] at hact
  simp only [mHoldup, mOff]
  omega

/-- A field written with the value that it has is unchanged. -/
theorem setBits_self (v hi lo : Nat) : setBits v hi lo (bits v hi lo) = v := by
  refine Nat.eq_of_testBit_eq fun j => ?_
  rw [testBit_setBits]
  split
  · next h =>
    rw [bits, Nat.testBit_mod_two_pow, Nat.testBit_div_two_pow, Nat.sub_add_cancel h.1, decide_eq_true (by omega), Bool.true_and]
  · rfl

/-- A SECURE master's write of a register without locked fields stores what its fields store, and acts by all that was written. -/
theorem accessOne_of_secure {m : Master} {d : RegD} (hm : masterSilent s m = false) (hsec : masterCls m = .secure) (hon : reachable s d.blk 0 = true)
    (hd : d.fields ≠ []) (hnarrow : d.wide = false) (hfree : ∀ f ∈ d.fields, f.acc ≠ .rwl) (v : Nat) (act : Nat → State → State) :
    accessOne m d v act s = act (maskTo d.fields v) (onlyIf (d.fields.foldl (fun a f => f.store (isLocked s d 0) a v) (rd s (d.at 0 0)) != rd s (d.at 0 0))
      (wr (d.at 0 0) (d.fields.foldl (fun a f => f.store (isLocked s d 0) a v) (rd s (d.at 0 0)))) s) := by
  have hadmits (w : Who) : w.admits 0 .secure = true := by cases w <;> rfl
  have hlock (l : Bool) (old : Nat) : d.fields.any (fun f => f.lockHit l old v) = false :=
    List.any_eq_false.2 fun f hf => by simp [Field.lockHit, hfree f hf]
  simp [accessOne, accessReg, hm, hsec, hon, hadmits, hd, hnarrow, hlock, maskTo]

/-- START written by a SECURE master reaches the test, and BOT stays as it is stored. -/
theorem accessOne_huTest_secure {m : Master} (hm : masterSilent s m = false) (hsec : masterCls m = .secure) (f : State → State) :
    accessOne m D.huTest (setBits (rd s R.huTest) 0 0 1) (fun v => onlyIf (bit v 0) f) s = f s := by
  have hat : D.huTest.at 0 0 = R.huTest := rfl
  have hbot : bits (setBits (rd s R.huTest) 0 0 1) 27 16 = bits (rd s R.huTest) 27 16 := bits_setBits_other (.inl (by decide)) _ _
  have hstart : bits (setBits (rd s R.huTest) 0 0 1) 0 0 = 1 := bits_setBits_same _ _ _ _
  have hstored (l : Bool) : D.huTest.fields.foldl (fun a f => f.store l a (setBits (rd s R.huTest) 0 0 1)) (rd s R.huTest) = rd s R.huTest := by
    simp [D.huTest, Field.store, hbot, setBits_self]
  have hmask : bit (maskTo D.huTest.fields (setBits (rd s R.huTest) 0 0 1)) 0 = true := by
    simp only [maskTo, D.huTest, List.foldl_cons, List.foldl_nil, hstart, bit, beq_iff_eq]
    omega
  rw [accessOne_of_secure hm hsec rfl (by decide) rfl (by decide), hat, hstored, hmask]
  simp

/-- A PRIV master has no access to HU_TEST. -/
theorem accessOne_huTest_priv {m : Master} (hm : masterSilent s m = false) (hpriv : masterCls m = .priv) (v : Nat) (act : Nat → State → State) :
    accessOne m D.huTest v act s = accessEvent m R.huTest.addr true 1 s := by
  simp [accessOne, accessReg, hm, hpriv, reachable, D.huTest, blkDomain, Who.admits, RegD.at, R.huTest]

theorem exec_huTestStart_secure {m : Master} (hm : masterSilent s m = false) (hsec : masterCls m = .secure) (v0 : Nat) :
    exec (.huTestStart m v0) s = .next (startTest v0 s) :=
  congrArg Host.Outcome.next (accessOne_huTest_secure hm hsec (startTest v0))

theorem exec_huTestStart_priv {m : Master} (hm : masterSilent s m = false) (hpriv : masterCls m = .priv) (v0 : Nat) :
    ∃ t, exec (.huTestStart m v0) s = .next t ∧ pending? t 461 = true ∧
      t = { s with rf := t.rf, att := { s.att with evrec := t.att.evrec }, ctl := t.ctl } := by
  refine ⟨_, congrArg Host.Outcome.next (accessOne_huTest_priv hm hpriv _ _), pending?_raise_same (by decide) _ _ _, ?_⟩
  rw [accessEvent, raise_eq]
  rfl

/-! ### The hold-up test ends and is judged (10_granary.md R311, R312) -/

theorem exec_holdUpTestEnd_of_going (v1 us : Nat) (h : s.gr.testing = false ∨ (us < testUs s.board ∧ rdf s R.huTest 27 16 < v1)) :
    exec (.holdUpTestEnd v1 us) s = .next s := by
  rcases h with h | h <;> simp [exec, execHoldUpTestEnd, h]

theorem holdUpTest_ends (v1 us : Nat) (htest : s.gr.testing = true) (h : testUs s.board ≤ us ∨ v1 ≤ rdf s R.huTest 27 16) :
    ∃ t, exec (.holdUpTestEnd v1 us) s = .next t ∧ t.gr.testing = false ∧ t.gr.testEnded = true ∧ t.gr.testV1 = v1 ∧
      t.gr.huTestN = true ∧ (t.gr.botCrossed = true ↔ v1 ≤ rdf s R.huTest 27 16) ∧
      (t.gr.testGood = true ↔ s.gr.testV0 - v1 ≤ s.board.dvMax ∧ rdf s R.huTest 27 16 < v1) ∧ t.gr.dv = s.gr.testV0 - v1 ∧ t.gr.lastTest = s.ck.tb ∧
      t.gr.wtForced = s.gr.wtForced ∧ t = { s with gr := t.gr } := by
  have hends : (!s.gr.testing || (decide (us < testUs s.board) && decide (rdf s R.huTest 27 16 < v1))) = false := by
    rcases h with h | h <;> simp [htest, h]
  simp only [exec, execHoldUpTestEnd, hends, Bool.false_eq_true, if_false]
  exact ⟨_, rfl, rfl, rfl, rfl, rfl, decide_eq_true_iff, by simp, rfl, rfl, rfl, rfl⟩

/-- What a test's result sets. -/
def testApplied (good : Bool) (g : Granary) : Granary :=
  { g with testEnded := false, wtForced := g.testing, health := if good then .good else .degraded, recorded := some good,
           testsFailed := if good then g.testsFailed else satBits 32 (g.testsFailed + 1) }

theorem exec_holdUpTestResult_of_none (h : s.gr.testEnded = false ∨ elapsed s s.gr.lastTest 2000000000 = false) :
    exec .holdUpTestResult s = .next s := by
  rcases h with h | h <;> simp [exec, execHoldUpTestResult, h]

theorem exec_holdUpTestResult (hend : s.gr.testEnded = true) (hdue : elapsed s s.gr.lastTest 2000000000 = true) :
    exec .holdUpTestResult s = .next ((if s.gr.testGood then raise 365 sevInfo [s.gr.dv] else raise 364 sevError [s.gr.dv])
      (withWt (onGr (testApplied s.gr.testGood)) s)) :=
  congrArg Host.Outcome.next (if_neg (by simp [hend, hdue]))

theorem holdUpTest_good (hend : s.gr.testEnded = true) (hdue : elapsed s s.gr.lastTest 2000000000 = true) (hgood : s.gr.testGood = true) :
    ∃ t, exec .holdUpTestResult s = .next t ∧ t.gr.health = .good ∧ t.gr.recorded = some true ∧ t.gr.wtForced = s.gr.testing ∧
      t.gr.testEnded = false ∧ t.gr.testsFailed = s.gr.testsFailed ∧ pending? t 365 = true ∧ t.pw = s.pw := by
  have hk := keepsSteady_withWt (onGr (testApplied true)) s
  refine ⟨_, exec_holdUpTestResult hend hdue, ?_⟩
  rw [hgood, if_pos rfl, raise_gr, raise_pw]
  exact ⟨(congrArg Granary.health hk.gr :), (congrArg Granary.recorded hk.gr :), (congrArg Granary.wtForced hk.gr :),
    (congrArg Granary.testEnded hk.gr :), (congrArg Granary.testsFailed hk.gr :), pending?_raise_same (by decide) _ _ _, hk.pw⟩

theorem holdUpTest_bad (hend : s.gr.testEnded = true) (hdue : elapsed s s.gr.lastTest 2000000000 = true) (hbad : s.gr.testGood = false) :
    ∃ t, exec .holdUpTestResult s = .next t ∧ t.gr.health = .degraded ∧ t.gr.recorded = some false ∧ t.gr.wtForced = s.gr.testing ∧
      t.gr.testEnded = false ∧ writeThrough t = true ∧ pending? t 364 = true ∧ t.pw = s.pw := by
  have hk := keepsSteady_withWt (onGr (testApplied false)) s
  have hhealth : (withWt (onGr (testApplied false)) s).gr.health = .degraded := (congrArg Granary.health hk.gr :)
  refine ⟨_, exec_holdUpTestResult hend hdue, ?_⟩
  rw [hbad, if_neg Bool.false_ne_true, raise_gr, raise_pw]
  exact ⟨hhealth, (congrArg Granary.recorded hk.gr :), (congrArg Granary.wtForced hk.gr :), (congrArg Granary.testEnded hk.gr :),
    by simp [writeThrough, healthBad, hhealth], pending?_raise_same (by decide) _ _ _, hk.pw⟩

/-! ### The mirror partner lost and restored (10_granary.md R309) -/

theorem mirrorPartner_lost {ms : Nat} (hen : s.gr.mirEn = true) (hlost : s.gr.mirLost = false) (hout : s.gr.mirOut ≠ []) (htmo : s.gr.mirTmo ≤ ms) :
    ∃ t, exec (.mirrorPartnerLost ms) s = .next t ∧ t.gr.mirLost = true ∧ pending? t 366 = true ∧ t.gr.mirPartner = s.gr.mirPartner := by
  have hk := keepsSteady_withWt (onGr (fun g => { g with mirLost := true })) s
  refine ⟨partnerLost s, by simp [exec, execMirrorPartnerLost, hen, hlost, hout, htmo], ?_⟩
  simp only [partnerLost, raise_gr]
  exact ⟨(congrArg Granary.mirLost hk.gr :), pending?_raise_same (by decide) _ _ _, (congrArg Granary.mirPartner hk.gr :)⟩

theorem exec_mirrorPartnerLost_of_not {ms : Nat} (h : s.gr.mirEn = false ∨ s.gr.mirLost = true ∨ s.gr.mirOut = [] ∨ ms < s.gr.mirTmo) :
    exec (.mirrorPartnerLost ms) s = .next s := by
  rcases h with h | h | h | h <;> simp [exec, execMirrorPartnerLost, h]

/-- The pages of one zone sent to the partner. -/
def copyZone (s : State) (z : Nat × Zone) (t : State) : State :=
  t |> forEach z.2.units (fun u => whenSome u.2.seg (fun g => mirrorPage (mirWaiter s (z.1, u.1)) z.1 u.1 0 (pageOf s g z.1 u.1) u.2.sealed))
    |> forEach z.2.frames (fun f => whenSome f.seg (fun g => mirrorFrame (mirWaiter s (z.1, 16 * f.slot + f.first)) z.1 g f))

/-- The copies of before are forgotten, and the pages of every zone and the deltas are sent. -/
theorem copyAll_eq (s : State) : copyAll s =
    forEach (s.ze.zones.filterMap (fun z => if z.2.deltas then some z.1 else none)) noteDelta
      (forEach s.ze.zones (copyZone s) (onGr (fun g => { g with mirOut := [], mirHeld := [], mirLbas := [] }) s)) := rfl

theorem keepsSteady_copyUnit (s : State) (key : Nat) (u : Nat × LUnit) (t : State) : KeepsSteady t
    (whenSome u.2.seg (fun g => mirrorPage (mirWaiter s (key, u.1)) key u.1 0 (pageOf s g key u.1) u.2.sealed) t) :=
  keepsSteady_whenSome (fun _ v => (mirrorPage_enters _ _ _ _ _ _ v).1) _ t

theorem keepsSteady_copyFrames (s : State) (z : Nat × Zone) (t : State) : KeepsSteady t
    (forEach z.2.frames (fun f => whenSome f.seg (fun g => mirrorFrame (mirWaiter s (z.1, 16 * f.slot + f.first)) z.1 g f)) t) :=
  keepsSteady_forEach (fun _ v => keepsSteady_whenSome (fun _ w => keepsSteady_forEach (fun _ x => (mirrorPage_enters _ _ _ _ _ _ x).1) _ w) _ v) _ t

theorem keepsSteady_copyZone (s : State) (z : Nat × Zone) (t : State) : KeepsSteady t (copyZone s z t) :=
  (keepsSteady_forEach (keepsSteady_copyUnit s z.1) _ t).trans (keepsSteady_copyFrames s z _)

/-- Of the Granary, sending every page changes what forcing and copying may. -/
theorem steady_copyAll (s : State) : steady (copyAll s).gr = steady s.gr := by
  rw [copyAll_eq]
  exact ((keepsSteady_forEach (keepsSteady_copyZone s) _ _).trans (keepsSteady_forEach keepsSteady_noteDelta _ _)).gr

/-- Every page not yet released is sent under its offset, or waits to be. -/
theorem copied_copyAll {key off g : Nat} {z : Zone} {u : LUnit} (hen : s.gr.mirEn = true) (hpol : s.gr.mirPolicy = 0) (hz : (key, z) ∈ s.ze.zones)
    (hu : (off, u) ∈ z.units) (hg : u.seg = some g) : Copied (pageOf s g key off) (copyAll s) := by
  rw [copyAll_eq]
  refine (keepsSteady_forEach keepsSteady_noteDelta _ _).copies _ (copied_forEach (keepsSteady_copyZone s) hz fun t ht => ?_)
  refine (keepsSteady_copyFrames s (key, z) _).copies _ (copied_forEach (keepsSteady_copyUnit s key) hu fun v hv => ?_)
  have hsteady := (ht.trans hv).gr
  simp only [hg, whenSome_some]
  exact (mirrorPage_enters _ _ _ _ _ _ v).2 ((congrArg Granary.mirEn hsteady).trans hen) ((congrArg Granary.mirPolicy hsteady).trans hpol)

/-- The partner is there again. -/
def partnerBack (g : Granary) : Granary := { g with mirLost := false }

/-- Under POLICY 0 the partner's return takes no write-through out of force. -/
theorem withWt_partnerBack (hpol : s.gr.mirPolicy = 0) : withWt (onGr partnerBack) s = onGr partnerBack s := by
  have hwt : writeThrough s = writeThrough (onGr partnerBack s) := by simp [writeThrough, healthBad, partnerBack, hpol]
  simp [withWt, hwt]

theorem exec_mirrorPartnerRestored (hen : s.gr.mirEn = true) (hlost : s.gr.mirLost = true) : exec .mirrorPartnerRestored s =
    .next (raise 367 sevInfo [s.gr.mirPartner] (settleAll (copyAll (withWt (onGr partnerBack) s)))) :=
  congrArg Host.Outcome.next (if_pos (by simp [hen, hlost]))

theorem mirrorPartner_restored (hen : s.gr.mirEn = true) (hlost : s.gr.mirLost = true) :
    ∃ t, exec .mirrorPartnerRestored s = .next t ∧ t.gr.mirLost = false ∧ pending? t 367 = true ∧
      (s.gr.mirPolicy = 0 → ∀ key z off u g, (key, z) ∈ s.ze.zones → (off, u) ∈ z.units → u.seg = some g →
        (tfind t.gr.mirLbas (pageOf s g key off)).isSome = true) := by
  have hsettle := keepsSteady_of_offEngine (offEngine_settleAll (copyAll (withWt (onGr partnerBack) s)))
  have hsteady := (hsettle.gr.trans (steady_copyAll _)).trans (keepsSteady_withWt (onGr partnerBack) s).gr
  refine ⟨_, exec_mirrorPartnerRestored hen hlost, ?_⟩
  rw [raise_gr]
  refine ⟨(congrArg Granary.mirLost hsteady :), pending?_raise_same (by decide) _ _ _, fun hpol key z off u g hz hu hg => ?_⟩
  refine hsettle.copies _ ?_
  rw [withWt_partnerBack hpol]
  exact copied_copyAll (s := onGr partnerBack s) hen hpol hz hu hg

theorem exec_mirrorPartnerRestored_of_not (h : s.gr.mirEn = false ∨ s.gr.mirLost = false) : exec .mirrorPartnerRestored s = .next s := by
  rcases h with h | h <;> simp [exec, execMirrorPartnerRestored, h]

end

/-! ### A mirror owner lost (11_balwen.md R335) -/

/-- An owner as its loss marks it: to be persisted, or with a persisting that goes on. -/
def ownerMarked (s : State) (o : Owner) : Owner := { o with state := if o.jobBands.isEmpty then 1 else 2, lostTime := s.ck.tb }

/-- The loss noted, before the copies are persisted. -/
def lossNoted (node : Nat) (o : Owner) (s : State) : State := raise 399 sevError [node] (setOwner node (ownerMarked s o) s)

section
variable {s t : State} {node ms : Nat} {o : Owner}

theorem exec_ownerLost_of_kept (ho : tfind s.pb.owners node = some o) (h : o.state ≠ 0 ∧ o.state ≠ 4 ∨ ms < Nat.max 1 (rdf s R.pbOrph 25 16)) :
    exec (.ownerLost node ms) s = .next s := by
  rcases h with h | h
  · simp [exec, execOwnerLost, loseOwner, ho, h]
  · simp [exec, execOwnerLost, Nat.not_le.2 h]

theorem exec_ownerLost (ho : tfind s.pb.owners node = some o) (hst : o.state = 0 ∨ o.state = 4) (hms : Nat.max 1 (rdf s R.pbOrph 25 16) ≤ ms) :
    exec (.ownerLost node ms) s = .next (persistOwner node (lossNoted node o s)) := by
  have hlive : (o.state != 0 && o.state != 4) = false := by rcases hst with h | h <;> simp [h]
  simp only [exec, execOwnerLost, hms, if_true, loseOwner, ho, hlive, Bool.false_eq_true, if_false]
  rfl

theorem owner_lossNoted (node : Nat) (o : Owner) (s : State) : tfind (lossNoted node o s).pb.owners node = some (ownerMarked s o) := by
  simp [lossNoted, setOwner]

/-- The loss is noted beside the zones, the flash, the command engine and the Granary. -/
theorem lossNoted_eq (node : Nat) (o : Owner) (s : State) : ∃ regs rec', lossNoted node o s = { s with
    pb := { s.pb with owners := tset node (ownerMarked s o) s.pb.owners }, rf := { s.rf with regs := regs }, att := { s.att with evrec := rec' } } := by
  obtain ⟨regs, rec', h⟩ := raise_only 399 sevError [node] (setOwner node (ownerMarked s o) s)
  exact ⟨regs, rec', h⟩

theorem takeBands_of_same (hze : t.ze = s.ze) (hboard : t.board = s.board) (l : List Nat) : ∀ n, takeBands t l n = takeBands s l n := by
  have hcws (b : Nat) : bandCws t.board 0 (dataWidth t b) = bandCws s.board 0 (dataWidth s b) := by
    simp only [dataWidth, dataPositions, parityPos, rowOf, bandRow, bandIdx, hze, hboard]
  induction l with
  | nil => intro n; cases n <;> rfl
  | cons b r ih =>
    intro n
    cases n with
    | zero => rfl
    | succ n => simp only [takeBands, hcws, ih]

theorem takeBands_lossNoted (node : Nat) (o : Owner) (s : State) (d n : Nat) :
    takeBands (lossNoted node o s) (readyBands (lossNoted node o s) d) n = takeBands s (readyBands s d) n := by
  obtain ⟨regs, rec', h⟩ := lossNoted_eq node o s
  rw [takeBands_of_same (s := s) (t := lossNoted node o s) (by rw [h]) (by rw [h]), h]
  rfl

end

/-! ### Copies of a lost owner persisted (11_balwen.md R335) -/

/-- Bands of a domain taken for an owner's copies, in SLC. -/
def bandsTaken (node d : Nat) (bs : List Nat) (s : State) : State :=
  forEach bs (fun b t => t |> fblTake d b |> modBand b (fun x => { x with zone := some (0, node), dens := some 0 })) s

section
variable {s u : State} {node : Nat} {o p : Owner} {bs : List Nat}

theorem persistOwner_of_other_state (hp : tfind u.pb.owners node = some p) (hst : p.state ≠ 1) : persistOwner node u = u := by
  simp [persistOwner, hp, hst]

theorem persistOwner_of_no_pages (hp : tfind u.pb.owners node = some p) (hst : p.state = 1) (hnone : p.pages = []) :
    persistOwner node u = setOwner node { p with state := 3 } u := by
  simp [persistOwner, hp, hst, hnone]

theorem persistOwner_of_full (hp : tfind u.pb.owners node = some p) (hst : p.state = 1) (hpages : p.pages ≠ [])
    (hfull : takeBands u (readyBands u (rdf u R.pbOrph 7 0)) p.pages.length = none) :
    persistOwner node u = setOwner node { p with domFull := true } u := by
  simp [persistOwner, hp, hst, hpages, hfull]

theorem persistOwner_of_bands (hp : tfind u.pb.owners node = some p) (hst : p.state = 1) (hpages : p.pages ≠ [])
    (hbands : takeBands u (readyBands u (rdf u R.pbOrph 7 0)) p.pages.length = some bs) : persistOwner node u =
      setOwner node { p with state := 2, domFull := false, bands := p.bands ++ bs, job := p.pages.length, jobBands := bs }
        (bandsTaken node (rdf u R.pbOrph 7 0) bs u) := by
  simp [persistOwner, hp, hst, hpages, hbands, bandsTaken]

theorem keepsPending_fblTake (d b : Nat) (s : State) : KeepsPending s (fblTake d b s) := by
  simp only [fblTake, fblDrop]
  split_ifs
  · exact .refl s
  · exact (keepsPending_of_rf (by rfl)).trans (keepsPending_raise _ _ _ _)
  · exact keepsPending_of_rf (by rfl)

theorem keepsPending_bandsTaken (node d : Nat) (bs : List Nat) (s : State) : KeepsPending s (bandsTaken node d bs s) :=
  keepsPending_forEach (fun b t => (keepsPending_fblTake d b t).trans (keepsPending_of_rf (by rfl))) bs s

theorem offBands_bandsTaken (node d : Nat) (bs : List Nat) (s : State) : offBands (bandsTaken node d bs s) = offBands s := by
  refine forEach_keeps offBands _ (fun b t => ?_) bs s
  exact (fblTake_keeps d b t).1

/-- The loss of an owner stands noted: its event is pending, it stands as given, and the other owners, the command engine and the Granary are
as before. -/
structure LossStands (node : Nat) (o : Owner) (s t : State) : Prop where
  pending : pending? t 399 = true
  owner : tfind t.pb.owners node = some o
  others : ∀ k, k ≠ node → tfind t.pb.owners k = tfind s.pb.owners k
  ce : t.ce = s.ce
  gr : t.gr = s.gr

theorem lossStands_lossNoted (node : Nat) (o : Owner) (s : State) : LossStands node (ownerMarked s o) s (lossNoted node o s) where
  pending := pending?_raise_same (by decide) _ _ _
  owner := owner_lossNoted node o s
  others k hk := by simp [lossNoted, setOwner, tfind_tset_other hk]
  ce := by simp [lossNoted, setOwner]
  gr := by simp [lossNoted, setOwner]

theorem LossStands.setOwner (h : LossStands node p s u) (q : Owner) : LossStands node q s (setOwner node q u) where
  pending := (keepsPending_of_rf rfl).mono 399 (by decide) h.pending
  owner := tfind_tset_same _ _ _
  others k hk := (tfind_tset_other hk _ _).trans (h.others k hk)
  ce := h.ce
  gr := h.gr

theorem LossStands.bandsTaken (h : LossStands node p s u) (d : Nat) (bs : List Nat) : LossStands node p s (bandsTaken node d bs u) := by
  have hoff := offBands_bandsTaken node d bs u
  have hpb : (Machine.bandsTaken node d bs u).pb = u.pb := (congrArg State.pb hoff :)
  exact ⟨(keepsPending_bandsTaken node d bs u).mono 399 (by decide) h.pending, hpb ▸ h.owner, hpb ▸ h.others,
    (congrArg State.ce hoff :).trans h.ce, (congrArg State.gr hoff :).trans h.gr⟩

theorem ze_lossNoted (node : Nat) (o : Owner) (s : State) : (lossNoted node o s).ze = s.ze := by simp [lossNoted, setOwner]

/-- PB_ORPH as the persisting reads it. -/
theorem pbOrph_lossNoted (node : Nat) (o : Owner) (s : State) : rdf (lossNoted node o s) R.pbOrph 7 0 = rdf s R.pbOrph 7 0 := by
  rw [rdf, lossNoted, rd_raise_other (by decide) (by decide)]
  rfl

theorem takeBands_after_loss (node : Nat) (o : Owner) (s : State) (n : Nat) :
    takeBands (lossNoted node o s) (readyBands (lossNoted node o s) (rdf (lossNoted node o s) R.pbOrph 7 0)) n =
      takeBands s (readyBands s (rdf s R.pbOrph 7 0)) n := by
  rw [pbOrph_lossNoted, takeBands_lossNoted]

/-- A live owner that has been silent for long enough is lost, and its copies are persisted where there is a place for them. -/
theorem owner_lost {ms : Nat} (ho : tfind s.pb.owners node = some o) (hst : o.state = 0 ∨ o.state = 4) (hms : Nat.max 1 (rdf s R.pbOrph 25 16) ≤ ms) :
    ∃ t, exec (.ownerLost node ms) s = .next t ∧ pending? t 399 = true ∧
      (∀ k, k ≠ node → tfind t.pb.owners k = tfind s.pb.owners k) ∧ t.ce = s.ce ∧ t.gr = s.gr ∧
      (o.jobBands ≠ [] → tfind t.pb.owners node = some { o with state := 2, lostTime := s.ck.tb } ∧ t.ze = s.ze) ∧
      (o.jobBands = [] → o.pages = [] → tfind t.pb.owners node = some { o with state := 3, lostTime := s.ck.tb } ∧ t.ze = s.ze) ∧
      (o.jobBands = [] → o.pages ≠ [] → ∀ bs, takeBands s (readyBands s (rdf s R.pbOrph 7 0)) o.pages.length = some bs →
        tfind t.pb.owners node = some { o with
          state := 2, lostTime := s.ck.tb, domFull := false, bands := o.bands ++ bs, job := o.pages.length, jobBands := bs }) ∧
      (o.jobBands = [] → o.pages ≠ [] → takeBands s (readyBands s (rdf s R.pbOrph 7 0)) o.pages.length = none →
        tfind t.pb.owners node = some { o with state := 1, lostTime := s.ck.tb, domFull := true } ∧ t.ze = s.ze) := by
  have hexec := exec_ownerLost ho hst hms
  have hnoted := lossStands_lossNoted node o s
  by_cases hjob : o.jobBands = []
  · have hmark : ownerMarked s o = { o with state := 1, lostTime := s.ck.tb } := by simp [ownerMarked, hjob]
    rw [hmark] at hnoted
    by_cases hpages : o.pages = []
    · rw [persistOwner_of_no_pages hnoted.owner rfl hpages] at hexec
      obtain ⟨hpend, howner, hothers, hce, hgr⟩ := hnoted.setOwner { o with state := 3, lostTime := s.ck.tb }
      exact ⟨_, hexec, hpend, hothers, hce, hgr, fun h => absurd hjob h, fun _ _ => ⟨howner, ze_lossNoted node o s⟩, fun _ h => absurd hpages h,
        fun _ h => absurd hpages h⟩
    · cases hbands : takeBands s (readyBands s (rdf s R.pbOrph 7 0)) o.pages.length with
      | none =>
        rw [persistOwner_of_full hnoted.owner rfl hpages ((takeBands_after_loss node o s _).trans hbands)] at hexec
        obtain ⟨hpend, howner, hothers, hce, hgr⟩ := hnoted.setOwner { o with state := 1, lostTime := s.ck.tb, domFull := true }
        exact ⟨_, hexec, hpend, hothers, hce, hgr, fun h => absurd hjob h, fun _ h => absurd h hpages, fun _ _ _ h => (nomatch h),
          fun _ _ _ => ⟨howner, ze_lossNoted node o s⟩⟩
      | some bs =>
        rw [persistOwner_of_bands hnoted.owner rfl hpages ((takeBands_after_loss node o s _).trans hbands)] at hexec
        obtain ⟨hpend, howner, hothers, hce, hgr⟩ := (hnoted.bandsTaken (rdf (lossNoted node o s) R.pbOrph 7 0) bs).setOwner
          { o with state := 2, lostTime := s.ck.tb, domFull := false, bands := o.bands ++ bs, job := o.pages.length, jobBands := bs }
        refine ⟨_, hexec, hpend, hothers, hce, hgr, fun h => absurd hjob h, fun _ h => absurd h hpages, fun _ _ cs hcs => ?_,
          fun _ _ h => (nomatch h)⟩
        cases hcs
        exact howner
  · have hmark : ownerMarked s o = { o with state := 2, lostTime := s.ck.tb } := by simp [ownerMarked, hjob]
    rw [hmark] at hnoted
    rw [persistOwner_of_other_state hnoted.owner (by simp)] at hexec
    obtain ⟨hpend, howner, hothers, hce, hgr⟩ := hnoted
    exact ⟨_, hexec, hpend, hothers, hce, hgr, fun _ => ⟨howner, ze_lossNoted node o s⟩, fun h => absurd h hjob, fun h => absurd h hjob,
      fun h => absurd h hjob⟩

/-! ### A pull given up (11_balwen.md R336) -/

theorem exec_orphanPullTimeout (hstart : starting s = true) (hrec : s.gr.recovered = false) (hsaved : s.board.mirSaved = true) (hnone : s.gr.pulled = []) :
    exec .orphanPullTimeout s = .next { s with gr := { s.gr with pullDone := true } } :=
  congrArg Host.Outcome.next (if_pos (by simp [hstart, hrec, hsaved, hnone]))

theorem exec_orphanPullTimeout_of_not (h : starting s = false ∨ s.gr.recovered = true ∨ s.board.mirSaved = false ∨ s.gr.pulled ≠ []) :
    exec .orphanPullTimeout s = .next s := by
  rcases h with h | h | h | h <;> simp [exec, execOrphanPullTimeout, h]

end

/-- Settles O57, by what a test, a partner's loss and return, and an owner's loss each make of the Granary and of the owners. -/
theorem holdUpTestsAndPartnersAreJudged : Obligations.HoldUpTestsAndPartnersAreJudged := by
  unfold Obligations.HoldUpTestsAndPartnersAreJudged
  refine ⟨fun s v0 hsb hrel hact hload => ?_, fun s m v0 hm => ?_, fun s v1 us => ⟨exec_holdUpTestEnd_of_going v1 us, holdUpTest_ends v1 us⟩,
    fun s => ⟨exec_holdUpTestResult_of_none, holdUpTest_good, holdUpTest_bad⟩,
    fun s ms => ⟨mirrorPartner_lost, exec_mirrorPartnerLost_of_not, mirrorPartner_restored, exec_mirrorPartnerRestored_of_not⟩,
    fun s node ms o ho => ⟨owner_lost ho, exec_ownerLost_of_kept ho⟩, fun s => ⟨exec_orphanPullTimeout, exec_orphanPullTimeout_of_not⟩⟩
  · obtain ⟨hhold, hoff⟩ := mode_of_active hact
    have hexec := exec_holdUpTestStart hsb hrel hact hload v0
    exact ⟨fun htest => ⟨_, hexec, startTest_begins htest hhold hoff v0⟩, fun htest => by rw [hexec, startTest_of_busy (.inl htest)]⟩
  · refine ⟨fun hsec hhold hoff htest => ?_, fun hsec hbusy => ?_, fun hpriv => exec_huTestStart_priv hm hpriv v0⟩
    · obtain ⟨htesting, hforced, hv0, hpin, -, hpw⟩ := startTest_begins htest hhold hoff v0
      exact ⟨_, exec_huTestStart_secure hm hsec v0, htesting, hforced, hv0, hpin, hpw⟩
    · rw [exec_huTestStart_secure hm hsec, startTest_of_busy hbusy]

end Sys2Proof.Machine

/-! PROOFS. Rules of the frames sent in sessions that stand, and of the receipt of a frame that is expected (11_balwen.md R322, R328 to R333). -/

namespace Sys2Proof.Machine

/-! ### What sending in a session leaves -/

/-- The registers beside the counters of the four links: among them those that routing reads. -/
def WireSetting (r : Ref) : Prop := r.addr < 0x10190108 ∨ 0x10190200 ≤ r.addr ∨ r.addr % 64 = 0

/-- The part of the state that frames sent and acknowledged leave alone. -/
def wireless (s : State) : State :=
  { s with rf := { s.rf with regs := [] }, pb := { s.pb with links := [], sessions := [], sent := [] } }

/-- A link without its count of frames sent past the bulk class. -/
def linkCore (l : Link) : Link := { l with run := 0 }

/-- From one state to another routing has not changed: its registers, the links and the sessions that stand. -/
structure SameRoutes (s t : State) : Prop where
  regs : ∀ r : Ref, 0x10190000 ≤ r.addr → WireSetting r → rd t r = rd s r
  links : ∀ m, linkCore (linkOf t m) = linkCore (linkOf s m)
  sess : ∀ k, (sessOf t k).isSome = (sessOf s k).isSome

/-- From one state to another, links have counted frames, and sent and kept some in sessions that stood. -/
structure OnWire (s t : State) : Prop where
  rest : wireless t = wireless s
  regs : ∀ r : Ref, WireSetting r → rd t r = rd s r
  links : ∀ m, linkCore (linkOf t m) = linkCore (linkOf s m)
  sess : ∀ k, (sessOf t k).isSome = (sessOf s k).isSome

section
variable {s t u : State}

theorem SameRoutes.refl (s : State) : SameRoutes s s := ⟨fun _ _ _ => rfl, fun _ => rfl, fun _ => rfl⟩

theorem SameRoutes.trans (h : SameRoutes s t) (k : SameRoutes t u) : SameRoutes s u :=
  ⟨fun r ha hr => (k.regs r ha hr).trans (h.regs r ha hr), fun m => (k.links m).trans (h.links m), fun j => (k.sess j).trans (h.sess j)⟩

theorem OnWire.refl (s : State) : OnWire s s := ⟨rfl, fun _ _ => rfl, fun _ => rfl, fun _ => rfl⟩

theorem OnWire.trans (h : OnWire s t) (k : OnWire t u) : OnWire s u :=
  ⟨k.rest.trans h.rest, fun r hr => (k.regs r hr).trans (h.regs r hr), fun m => (k.links m).trans (h.links m), fun j => (k.sess j).trans (h.sess j)⟩

theorem OnWire.sameRoutes (h : OnWire s t) : SameRoutes s t := ⟨fun r _ hr => h.regs r hr, h.links, h.sess⟩

theorem sameRoutes_of_pb (hrf : t.rf.regs = s.rf.regs) (hl : t.pb.links = s.pb.links) (hs : t.pb.sessions = s.pb.sessions) : SameRoutes s t :=
  ⟨fun r _ _ => by rw [rd, rd, hrf], fun m => by rw [linkOf, linkOf, hl], fun k => by rw [sessOf, sessOf, hs]⟩

/-! ### What routing reads -/

section
variable (h : SameRoutes s t)
include h

theorem rd_plCtl_of_sameRoutes (n : Nat) : rd t (R.plCtl n) = rd s (R.plCtl n) :=
  h.regs _ (by simp only [R.plCtl]; omega) (.inr (.inr (by simp only [R.plCtl]; omega)))

theorem linkEth_of_sameRoutes (n : Nat) : linkEth t n = linkEth s n := by
  rw [linkEth, linkEth, rdb, rdb, rd_plCtl_of_sameRoutes h]

theorem ownNode_of_sameRoutes : ownNode t = ownNode s := by
  rw [ownNode, ownNode, rdf, rdf, h.regs R.pbNode (by decide) (.inl (by decide))]

theorem rd_rtRef_of_sameRoutes (i : Nat) : rd t (rtRef i) = rd s (rtRef i) := by
  refine h.regs _ (by simp only [rtRef, Ref.bank, R.pbRt]; omega) ?_
  simp only [WireSetting, rtRef, Ref.bank, R.pbRt]
  omega

theorem linkUp_of_sameRoutes (n : Nat) : linkUp t n = linkUp s n := by
  have hst : (linkOf t n).st = (linkOf s n).st := (congrArg Link.st (h.links n) :)
  rw [linkUp, linkUp, hst]

theorem routeTo_of_sameRoutes (node : Nat) : routeTo t node = routeTo s node := by
  simp only [routeTo, rdb, rdf, rd_rtRef_of_sameRoutes h]

theorem sessNode_of_sameRoutes (n node : Nat) : sessNode t n node = sessNode s n node := by
  rw [sessNode, sessNode, linkEth_of_sameRoutes h]

theorem leadsTo_of_sameRoutes (n node : Nat) : leadsTo t n node = leadsTo s n node := by
  have hknown : (linkOf t n).known = (linkOf s n).known := (congrArg Link.known (h.links n) :)
  have hpeer : (linkOf t n).peer = (linkOf s n).peer := (congrArg Link.peer (h.links n) :)
  rw [leadsTo, leadsTo, linkEth_of_sameRoutes h, hknown, hpeer, routeTo_of_sameRoutes h]

theorem carries_of_sameRoutes (n node : Nat) : carries t n node = carries s n node := by
  have hst : (linkOf t n).st = (linkOf s n).st := (congrArg Link.st (h.links n) :)
  rw [carries, carries, linkUp_of_sameRoutes h, hst, sessNode_of_sameRoutes h, h.sess]

theorem linkTo_of_sameRoutes (node : Nat) : linkTo t node = linkTo s node := by
  simp only [linkTo, linkUp_of_sameRoutes h, leadsTo_of_sameRoutes h, carries_of_sameRoutes h]

end

/-! ### The steps of sending -/

theorem onWire_modSess (k : Nat) (f : Session → Session) (s : State) : OnWire s (modSess k f s) := by
  refine ⟨rfl, fun _ _ => rfl, fun _ => rfl, fun j => ?_⟩
  rw [sessOf, modSess, onPb_pb]
  by_cases h : j = k
  · subst h
    rw [tfind_talter_same, Option.isSome_map, sessOf]
  · rw [tfind_talter_other h, sessOf]

theorem onWire_run {f : Link → Link} (hf : ∀ l, linkCore (f l) = linkCore l) (n : Nat) (s : State) : OnWire s (modLink n f s) := by
  refine ⟨rfl, fun _ _ => rfl, fun m => ?_, fun _ => by rfl⟩
  rw [linkOf, modLink, onPb_pb]
  by_cases h : m = n
  · subst h
    rw [tget_tmod_same, hf, linkOf]
  · rw [tget_tmod_other h, linkOf]

theorem onWire_count {n i : Nat} (hn : n < 4) (hi : i < 4) (j v : Nat) (s : State) : OnWire s (count (R.plCnt n i) (R.plOvf n) j v s) := by
  refine ⟨?_, fun r hr => rd_count_other ?_ ?_ _ _ s, fun m => ?_, fun k => ?_⟩
  · obtain ⟨regs, h⟩ := count_only_regs (R.plCnt n i) (R.plOvf n) j v s
    rw [h]
    rfl
  · simp only [WireSetting, R.plCnt] at hr ⊢
    omega
  · simp only [WireSetting, R.plOvf] at hr ⊢
    omega
  · rw [linkOf, count_pb, linkOf]
  · rw [sessOf, count_pb, sessOf]

theorem onWire_emit {n : Nat} (hn : n < 4) (f : TxFrame) (s : State) : OnWire s (emit n f s) := by
  have hsent : OnWire s (onPb (fun p => { p with sent := (n, addressed s n f) :: p.sent }) s) :=
    ⟨rfl, fun _ _ => rfl, fun _ => rfl, fun _ => rfl⟩
  exact hsent.trans (onWire_count hn (by decide : 0 < 4) 0 1 _)

theorem onWire_sessEmit {n : Nat} (hn : n < 4) (k : Nat) (f : TxFrame) (s : State) : OnWire s (sessEmit n k f s) := by
  unfold sessEmit
  split
  · exact .refl s
  · exact ((onWire_modSess k _ s).trans (onWire_run (by exact fun _ => rfl) n _)).trans (onWire_emit hn _ _)

theorem onWire_flushFrames {n : Nat} (hn : n < 4) (k fuel : Nat) (s : State) : OnWire s (flushFrames n k fuel s) := by
  induction fuel generalizing s with
  | zero => exact .refl s
  | succ fuel ih =>
    unfold flushFrames
    split
    · exact .refl s
    split
    · exact .refl s
    · exact ((onWire_modSess k _ s).trans (onWire_sessEmit hn k _ _)).trans (ih _)

theorem onWire_sessFlush {n : Nat} (hn : n < 4) (k : Nat) (s : State) : OnWire s (sessFlush n k s) := by
  unfold sessFlush
  split
  · exact onWire_flushFrames hn k _ s
  · exact .refl s

theorem onWire_sessSend {n : Nat} (hn : n < 4) (k : Nat) (f : TxFrame) (s : State) : OnWire s (sessSend n k f s) := by
  unfold sessSend
  split
  · exact .refl s
  split
  · exact onWire_sessEmit hn k f s
  · exact onWire_modSess k _ s

theorem onWire_answerHop {n : Nat} (hn : n < 4) (k typ : Nat) (f : BFrame) (credit cls : Nat) (s : State) :
    OnWire s (answerHop n k typ f credit cls s) := by
  unfold answerHop
  split
  · exact .refl s
  · exact onWire_emit hn _ s

theorem onWire_takeCredit {n : Nat} (hn : n < 4) (k : Nat) (f : BFrame) (s : State) : OnWire s (takeCredit n k f s) := by
  unfold takeCredit
  split
  · exact onWire_sessFlush hn k s
  · exact (onWire_modSess k _ s).trans (onWire_sessFlush hn k _)

theorem onWire_returnUnits {n : Nat} (hn : n < 4) (k dst units cls : Nat) (s : State) : OnWire s (returnUnits n k dst units cls s) := by
  unfold returnUnits
  split
  · exact .refl s
  · refine forEach_inv (P := OnWire s) (fun u t ht => ht.trans ?_) _ s (.refl s)
    unfold whenSome
    split
    · exact .refl t
    · exact onWire_emit hn _ t

/-- A link that a route gives is one of the four. -/
theorem lt_of_linkTo {node n : Nat} (h : linkTo s node = some n) : n < 4 := by
  unfold linkTo at h
  split at h
  · next hfind =>
    cases h
    exact List.mem_range.1 (List.mem_of_find?_eq_some hfind)
  · exact List.mem_range.1 (List.mem_of_find?_eq_some h)

theorem onWire_returnCopies (node : Nat) (gone : List MirrorPage) (s : State) : OnWire s (returnCopies node gone s) := by
  unfold returnCopies whenSome
  split
  · exact .refl s
  · next n hn => exact onWire_returnUnits (lt_of_linkTo hn) _ _ _ _ s

/-! ### A frame in a direct link's session -/

/-- A session with a frame sent in it. -/
def emitted (f : TxFrame) (s : State) (x : Session) : Session :=
  { x with txSeq := (x.txSeq + 1) % 4294967296, replay := x.replay ++ [{ f with seq := x.txSeq, ack := x.rxSeq }],
           credits := tput 0 f.cls (credOf x f.cls - frameUnits f.len) x.credits, lastUse := s.ck.tb }

/-- A frame given to a session that stands is kept for replay, or waits. -/
theorem sends_sessSend {n : Nat} (hsess : (sessOf s (sessKey n 0)).isSome = true) (f : TxFrame) :
    Safety.Sends (sessSend n (sessKey n 0) f s) n f.typ f.msg := by
  obtain ⟨x, hx⟩ := Option.isSome_iff_exists.1 hsess
  have hfind (g : Session → Session) : sessOf (modSess (sessKey n 0) g s) (sessKey n 0) = some (g x) := by
    rw [sessOf, modSess, onPb_pb, tfind_talter_same, ← sessOf, hx, Option.map_some]
  simp only [sessSend, hx]
  split
  · have hkept : sessOf (sessEmit n (sessKey n 0) f s) (sessKey n 0) = some (emitted f s x) := by
      simp only [sessEmit, hx]
      rw [sessOf, emit, count_pb, onPb_pb]
      exact hfind _
    refine ⟨emitted f s x, { f with seq := x.txSeq, ack := x.rxSeq }, hkept, rfl, rfl, .inl ?_⟩
    exact List.mem_append_right _ (List.mem_singleton_self _)
  · exact ⟨_, f, hfind _, rfl, rfl, .inr (List.mem_append_right _ (List.mem_singleton_self _))⟩

/-- The frame as it goes out in a session. -/
def framed (s : State) (n : Nat) (f : TxFrame) : TxFrame :=
  { f with src := ownNode s, cls := msgClass f.typ, seqd := true, ttl := ttlOn s n }

/-- Where the route leads over a direct link whose session stands, the frame goes to that session. -/
theorem sendFrame_of_direct {n : Nat} {f : TxFrame} (hlink : linkTo s f.dst = some n) (heth : linkEth s n = false)
    (hsess : (sessOf s (sessKey n 0)).isSome = true) : sendFrame f s = (sessSend n (sessKey n 0) (framed s n f) s, true) := by
  have hnode : sessNode s n f.dst = 0 := by simp [sessNode, heth]
  simp [sendFrame, hlink, hnode, needSess, hsess, framed]

end

/-! ### The receipt of a frame that is expected -/

/-- A sequenced frame that is expected reaches what its message does here, after what its acknowledgement sends. -/
theorem rxFrame_of_expected {s : State} {n typ : Nat} {f : BFrame} {x : Session} (h : Safety.Expected s n typ f x) (hseqd : msgSeqd typ = true)
    (body : TxFrame) (act : State → State) (keeps : State → Bool) : ∃ u, OnWire s u ∧ rxFrame n typ f body act s keeps = act u := by
  obtain ⟨⟨hn, hup, heth, hcrc, hpcrc, hver, hdst, hsrc, hrsvd, htyp⟩, hun, hx, hseq⟩ := h
  have hhere : (decide (f.dst = ownNode s) || hopMsg typ) = true := by simpa using hdst
  let k := sessKey n 0
  let a := takeCredit n k f (modSess k (fun y => { y with rxSeq := (y.rxSeq + 1) % 4294967296, lastUse := (takeAck k f.ack s).ck.tb }) (takeAck k f.ack s))
  let b := answerHop n k tAck f (if !false && true && keeps a then 0 else frameUnits f.len) (msgClass typ) a
  have ha : OnWire s a := ((onWire_modSess k _ s).trans (onWire_modSess k _ _)).trans (onWire_takeCredit hn k f _)
  have hb : OnWire s b := ha.trans (onWire_answerHop hn k _ f _ _ a)
  refine ⟨_, hb.trans (onWire_count hn (by decide : 1 < 4) 1 1 b), ?_⟩
  simp only [rxFrame, hup, hcrc, heth, hver, hsrc, hrsvd, htyp, hun, hseq, hpcrc, hseqd, hhere]
  simp [b, a, k, hx]

end Sys2Proof.Machine

/-! PROOFS. The statement of the links, refuted (11_balwen.md R323, R329). -/

namespace Sys2Proof.Machine

/-- Link 0 is UP in Ethernet mode, and its session with node 5 keeps one frame, for that node, for replay. -/
def replayOnEthernet : State :=
  { rf := { regs := [(0x10190100, 2)] },
    pb := { links := [(0, { st := .up })], sessions := [(5, { replay := [{ dst := 5 }] })] } }

/-- The frame goes out again with the MAC address of link 0 of node 5, which the replay buffer does not hold. -/
theorem exec_replayTimer_replayOnEthernet : ∃ t, exec (.replayTimer 0 5) replayOnEthernet = .next t ∧
    t.pb.sent.map (fun p => p.2.dmac) = [0x02B000000014] :=
  ⟨_, rfl, by decide +kernel⟩

/-- Refutes O50: its clause on the replay timer has every unacknowledged frame sent just as the replay buffer holds it, on links of both modes. In
`replayOnEthernet` the frame gets its MAC address as it is sent (R323). -/
theorem not_linksTrainGoUpAndFail : ¬ Obligations.LinksTrainGoUpAndFail := by
  unfold Obligations.LinksTrainGoUpAndFail
  rintro ⟨-, -, -, -, -, replays, -⟩
  obtain ⟨replaysAll, -⟩ := replays replayOnEthernet 0 5 { replay := [{ dst := 5 }] } (by decide) (by decide +kernel) (by decide) (by decide +kernel)
  obtain ⟨t, ht, hsent, -⟩ := replaysAll (by decide)
  obtain ⟨t', ht', hmac⟩ := exec_replayTimer_replayOnEthernet
  obtain rfl : t = t' := by injection ht.symm.trans ht'
  rw [hsent] at hmac
  exact absurd hmac (by decide)

end Sys2Proof.Machine

/-! PROOFS. The statement of the receipt of frames, refuted (02_zones.md R56, R64; 11_balwen.md R321, R328, R334, R341). -/

namespace Sys2Proof.Machine

/-! ### A validated write that fails (02_zones.md R60) -/

/-- What the failure of a validated write does before replays that waited for it go on. -/
def writeFailed (c : Nat) (x : Ctx) (st : Status) (cause : Nat) (s : State) : State :=
  let key := zKey x.nsid x.zone
  s |> leaveZone c x
    |> modZone key (fun z => { z with vp := x.first + x.applied })
    |> failAt c st cause (some x.zone) (some (ctxLba x))
    |> failBehind key ((zoneOf s key).queue.dropWhile (fun i => i != c)).tail
    |> drainStopped key
    |> runWaiting key
    |> runHeld

theorem failWrite_of_validated {s : State} {c : Nat} {x : Ctx} (hc : ctxOf s c = some x) (hval : x.validated = true) (st : Status) (cause : Nat) :
    failWrite c st cause s = wakeTickets (writeFailed c x st cause s) := by
  simp [failWrite, failWriteWith, hc, hval, writeFailed]

/-! ### A session closed to make room (11_balwen.md R328) -/

section
variable {s : State} {j k n : Nat}

theorem sessOf_modCtx (c : Nat) (f : Ctx → Ctx) (s : State) : sessOf (modCtx c f s) k = sessOf s k := rfl

theorem sessOf_modSess_other (h : j ≠ k) (f : Session → Session) (s : State) : sessOf (modSess k f s) j = sessOf s j := tfind_talter_other h _ _

theorem sessOf_openSess_other (h : j ≠ k) (s : State) : sessOf (openSess k s) j = sessOf s j := by
  unfold openSess
  split
  · rfl
  · exact tfind_tset_other h _ _

theorem sessOf_sessSend_other (h : j ≠ k) (f : TxFrame) (s : State) : sessOf (sessSend n k f s) j = sessOf s j := by
  unfold sessSend
  split
  · rfl
  split
  · unfold sessEmit
    split
    · rfl
    · rw [sessOf, emit, count_pb]
      exact sessOf_modSess_other h _ s
  · exact sessOf_modSess_other h _ s

theorem sameRoutes_sessSend (hn : n < 4) (f : TxFrame) (s : State) : SameRoutes s (sessSend n k f s) := (onWire_sessSend hn k f s).sameRoutes

theorem openSess_regs (k : Nat) (s : State) : (openSess k s).rf.regs = s.rf.regs := by
  unfold openSess
  split <;> rfl

theorem roomSess_regs (n : Nat) (s : State) : (roomSess n s).1.rf.regs = s.rf.regs := by
  unfold roomSess
  split
  · rfl
  split <;> rfl

theorem linkEth_of_regs {t : State} (h : t.rf.regs = s.rf.regs) (n : Nat) : linkEth t n = linkEth s n := by
  rw [linkEth, linkEth, rdb, rdb, rd, rd, h]

/-- A frame that needs a session of an Ethernet-mode link leaves the session gone that is closed for it. -/
theorem sessOf_sendFrame_of_closed {f : TxFrame} (hlink : linkTo s f.dst = some n) (heth : linkEth s n = true)
    (hnone : sessOf s (sessKey n f.dst) = none) (hroom : (roomSess n s).2 = true) (hgone : sessOf (roomSess n s).1 j = none)
    (hj : j ≠ sessKey n f.dst) : sessOf (sendFrame f s).1 j = none := by
  have hnode {t : State} (ht : linkEth t n = true) : sessNode t n f.dst = f.dst := if_pos ht
  have hu : linkEth (roomSess n s).1 n = true := (linkEth_of_regs (roomSess_regs n s) n).trans heth
  generalize hr : roomSess n s = r at hroom hgone hu
  obtain ⟨u, b⟩ := r
  cases hroom
  have hopened : linkEth (openSess (sessKey n f.dst) u) n = true := (linkEth_of_regs (openSess_regs _ u) n).trans hu
  have hsent (g : TxFrame) : linkEth (sessSend n (sessKey n f.dst) g (openSess (sessKey n f.dst) u)) n = true :=
    (linkEth_of_sameRoutes (sameRoutes_sessSend (lt_of_linkTo hlink) g _) n).trans hopened
  simp only [sendFrame, hlink, hnode heth, needSess, hnone, heth, hr, hnode (hsent _), Option.isSome_none, Bool.not_true, Bool.false_eq_true,
    if_false, if_true]
  rw [sessOf_sessSend_other hj, sessOf_sessSend_other hj, sessOf_openSess_other hj, hgone]

end

/-! ### The counterexample -/

/-- A Peer Copy into zone 0 that is validated and waits for a chunk of node 9. -/
def awaitingCopy : Ctx :=
  { st := .started, sqid := 1, e := { opc := 0x85, nsid := 1, cdw13 := 9 }, started := true, chunks := 1, validated := true, nsid := 1, zone := 0 }

/-- A write to zone 0 that goes on once the Peer Copy has ended. -/
def lateWrite : Ctx := { st := .started, sqid := 1, waitTicket := true, e := { opc := 0x01, nsid := 1 } }

/-- Link 1 is UP and direct, and lists 256 sessions beside its own. Beside the Peer Copy, a write to zone 1, for which no band is free, and one to
zone 0 wait. Submission queue 1 has a home that is no cluster: the tag of its mailbox lies at PL_CTL_1. -/
def strayHome : State :=
  { ce := { ctxs := [(4096, awaitingCopy), (4098, { st := .started, sqid := 1, waitTicket := true, e := { opc := 0x01, nsid := 1, cdw10 := 1048576 } }),
              (4099, lateWrite)],
            sqs := [(1, { home := 11778 })] },
    ze := { nss := [(1, { zones := 4, attached := some 0 })],
            zones := [(zKey 1 0, { st := .implOpen, shape := some {}, deltas := true, width := 1 }), (zKey 1 1, { shape := some {} })],
            rows := [(0, { domain := some 0, use := some 0 })] },
    gr := { mirEn := true, mirPartner := 7 },
    ci := { slots := [(0, { loaded := true, ceil := 10 })] },
    pb := { links := [(1, { st := .up })], sessions := (sessKey 1 0, {}) :: List.replicate 256 (sessKey 1 5, { replay := [{}] }) } }

/-- A frame from node 9 with the number that link 1 expects. -/
def copyEndFrame : BFrame := { src := 9 }

theorem copyEndFrame_expected : Safety.Expected strayHome 1 tCopyEnd copyEndFrame {} := by
  unfold Safety.Expected Safety.ForUs
  decide +kernel

/-- The frame received, and the chunk that it ends. -/
def chunkEnded : State := modCtx 4096 (fun y => { y with chunks := y.chunks - 1 }) (rxFrame 1 tCopyEnd copyEndFrame {} id strayHome)

/-- The Peer Copy failed, and the write to zone 1 handed to firmware: its message's tag has turned link 1 to Ethernet mode. -/
def strayTurned : State := tryWrite 4098 false (writeFailed 4096 { awaitingCopy with chunks := 0 } stPath 0 chunkEnded)

theorem exec_copyEnd_strayHome : exec (.copyEnd 1 copyEndFrame 4096 stPath) strayHome = .next (failWrite 4096 stPath 0 chunkEnded) := rfl

theorem failWrite_chunkEnded : failWrite 4096 stPath 0 chunkEnded = tryWrite 4099 false strayTurned := by
  have hc : ctxOf chunkEnded 4096 = some { awaitingCopy with chunks := 0 } := by decide +kernel
  have hwait : (writeFailed 4096 { awaitingCopy with chunks := 0 } stPath 0 chunkEnded).ce.ctxs.filterMap
      (fun p => if p.2.waitTicket && p.2.st == .started then some p.1 else none) = [4098, 4099] := by decide +kernel
  rw [failWrite_of_validated hc rfl, wakeTickets, hwait, forEach_cons, forEach_cons, forEach_nil, ← strayTurned]

/-- The write to zone 0 as it has its counter value. -/
def strayReserved : State := markSlot 0 (modSlot 0 (fun x => { x with ctr := x.ctr + 1 }) strayTurned)

/-- The write to zone 0 as it has taken its place. -/
def strayPlaced : State :=
  strayReserved |> modZone (zKey 1 0) (withWrite strayTurned 4099 (zKey 1 0) lateWrite.e 0 1) |> onZe (fun e => { e with stamp := e.stamp + 1 })
    |> modCtx 4099 (withPlace strayTurned (zKey 1 0) lateWrite.e 0 0 false)

theorem strayTurned_takes : Safety.TakesWrites strayTurned 0 (zKey 1 0) false none := by
  unfold Safety.TakesWrites
  exact ⟨by decide +kernel, by decide +kernel, by decide +kernel, by decide +kernel, .inl ⟨by decide +kernel, rfl⟩⟩

/-- The write to zone 0 passes its checks, and the zone's change is noted. -/
theorem validateIn_strayTurned : validateIn 4099 (zKey 1 0) (lateWrite.e.opc == 0x7D) (eSlba lateWrite.e % zoneLbas) (writeNlb lateWrite.e) 0 none
    strayTurned = .ok (noteDelta (zKey 1 0) strayPlaced) := by
  have hstart : Safety.startOf strayTurned (zKey 1 0) lateWrite.e = (zoneOf strayTurned (zKey 1 0)).vp := by decide +kernel
  have hcap : ¬ zcapOf strayTurned (shapeIn strayTurned (zKey 1 0)) (zoneOf strayTurned (zKey 1 0)).width <
      (zoneOf strayTurned (zKey 1 0)).vp + writeNlb lateWrite.e := by decide +kernel
  have hslot : (shapeIn strayTurned (zKey 1 0)).keySlot = 0 := by decide +kernel
  have hkey : captureGen strayTurned 0 = some 0 := by decide +kernel
  have hvalues : valuesFor (shapeIn strayTurned (zKey 1 0)) (writeNlb lateWrite.e) = 1 := by decide +kernel
  have hleft : ¬ counterLeft (slotOf strayTurned 0) < 1 := by decide +kernel
  have hres : reserve 0 1 strayTurned = some ((slotOf strayTurned 0).ctr, strayReserved) := by
    simp only [reserve, hleft, if_false, strayReserved]
  have hceil : pastCeil strayReserved 0 ((slotOf strayTurned 0).ctr + 1 - 1) = false := by decide +kernel
  have hstamp : strayReserved.ze.stamp + 1 = 1 := by decide +kernel
  simp only [validateIn, start_eq, hstart, Option.map_none, Option.getD_none, gt_iff_lt, shapeIn_eq, hcap, bne_self_eq_false, Bool.false_eq_true,
    if_false, hslot, hkey, hvalues, hres, hceil, hstamp, onlyIf_false]
  rfl

/-- The record of it that goes to the mirror partner, and the state in which it is sent. -/
def strayRecord : TxFrame :=
  { typ := tMirrorState, dst := 7, len := 4096, msg := [4194304, zKey 1 0, 0, 0], delta := some (deltaOf (zoneOf strayPlaced (zKey 1 0))) }
def strayNoted : State :=
  onGr (fun g => { g with mirNext := g.mirNext + 1, mirLbas := tset 4194304 (deltaItem (zKey 1 0)) g.mirLbas }) strayPlaced

theorem noteDelta_strayPlaced : noteDelta (zKey 1 0) strayPlaced = (sendFrame strayRecord strayNoted).1 := by
  have hdeltas : (zoneOf strayPlaced (zKey 1 0)).deltas = true := by decide +kernel
  have hlimited : strayPlaced.gr.limited = false := by decide +kernel
  have hmirror : mirroring strayPlaced = true := by decide +kernel
  have hwp : (zoneOf strayPlaced (zKey 1 0)).wp = 0 ∧ (zoneOf strayPlaced (zKey 1 0)).ap = 0 := by decide +kernel
  have hgr : strayPlaced.gr.mirNext = 0 ∧ strayPlaced.gr.mirPartner = 7 := by decide +kernel
  simp [noteDelta, sendRecord, hdeltas, hlimited, hmirror, hwp, hgr, strayRecord, strayNoted]

/-- The record asks for a session more, and the idle one closed for it is the direct link's own. -/
theorem sessOf_strayNoted_sent : sessOf (sendFrame strayRecord strayNoted).1 (sessKey 1 0) = none := by
  have hroom : (sessOf (roomSess 1 strayNoted).1 (sessKey 1 0)).isNone = true := by decide +kernel
  have hnone : (sessOf strayNoted (sessKey 1 7)).isNone = true := by decide +kernel
  exact sessOf_sendFrame_of_closed (n := 1) (by decide +kernel) (by decide +kernel) (Option.isNone_iff_eq_none.1 hnone) (by decide +kernel)
    (Option.isNone_iff_eq_none.1 hroom) (by decide)

theorem tryWrite_strayTurned : ∃ f, tryWrite 4099 false strayTurned = modCtx 4099 f (sendFrame strayRecord strayNoted).1 := by
  have hctx : ctxOf strayTurned 4099 = some lateWrite := by decide +kernel
  have hvalid := (validate_of_takesWrites (c := 4099) 0 lateWrite.e strayTurned_takes).trans validateIn_strayTurned
  rw [noteDelta_strayPlaced] at hvalid
  exact ⟨_, tryWrite_of_ok hctx rfl rfl (by decide +kernel) (replayed_of_no_ticket (by decide +kernel)) hvalid⟩

/-- Refutes O51: its clause on the frame that is expected has the link's session stand after all that the message does, also where a submission
queue's home is no cluster. In `strayHome` the failing of the Peer Copy turns link 1 to Ethernet mode, and a record takes the session's place. -/
theorem not_framesAreAcceptedInSequence : ¬ Obligations.FramesAreAcceptedInSequence := by
  unfold Obligations.FramesAreAcceptedInSequence
  rintro ⟨accepted, -⟩
  obtain ⟨t, ht, ⟨y, hy, -⟩, -⟩ := accepted strayHome 1 4096 0 0 tCopyEnd copyEndFrame [] [] {} [] stPath (.copyEnd 1 copyEndFrame 4096 stPath)
    (by simp [Safety.sequenced]) {} copyEndFrame_expected
  obtain ⟨f, hf⟩ := tryWrite_strayTurned
  rw [exec_copyEnd_strayHome, failWrite_chunkEnded, hf] at ht
  have hgone : sessOf t (sessKey 1 0) = none := by rw [← Host.Outcome.next.inj ht, sessOf_modCtx, sessOf_strayNoted_sent]
  rw [hgone] at hy
  cases hy

end Sys2Proof.Machine

/-! PROOFS. Rules of the copies that a partner holds, and of what goes on beside the links while it does (10_granary.md R287, R308; 11_balwen.md
R322, R328, R333 to R335). -/

namespace Sys2Proof.Machine

/-! ### What leaves the links alone -/

/-- From one state to another the links are as they were, and so are the registers of their block. -/
structure KeepsLinks (s t : State) : Prop where
  pb : t.pb = s.pb
  regs : ∀ r : Ref, 0x10190000 ≤ r.addr → rd t r = rd s r

section
variable {s t u : State}

theorem KeepsLinks.refl (s : State) : KeepsLinks s s := ⟨rfl, fun _ _ => rfl⟩

theorem KeepsLinks.trans (h : KeepsLinks s t) (k : KeepsLinks t u) : KeepsLinks s u :=
  ⟨k.pb.trans h.pb, fun r hr => (k.regs r hr).trans (h.regs r hr)⟩

theorem keepsLinks_of_eq (hpb : t.pb = s.pb) (hrf : t.rf = s.rf) : KeepsLinks s t := ⟨hpb, fun r _ => by rw [rd, rd, hrf]⟩

theorem KeepsLinks.sameRoutes (h : KeepsLinks s t) : SameRoutes s t :=
  ⟨fun r hr _ => h.regs r hr, fun m => by rw [linkOf, linkOf, h.pb], fun k => by rw [sessOf, sessOf, h.pb]⟩

theorem keepsLinks_raise {src : Nat} (hsrc : src < 512) (sev : Nat) (ps : List Nat) (s : State) : KeepsLinks s (raise src sev ps s) := by
  refine ⟨by rw [raise_pb], fun r hr => rd_raise_other ?_ ?_ sev ps s⟩
  · simp only [R.evPend]; omega
  · simp only [R.evPend]; omega

theorem keepsLinks_count {cnt ovf : Ref} (hc : cnt.addr < 0x10190000) (ho : ovf.addr < 0x10190000) (i n : Nat) (s : State) :
    KeepsLinks s (count cnt ovf i n s) :=
  ⟨by rw [count_pb], fun r hr => rd_count_other (by omega) (by omega) i n s⟩

theorem keepsLinks_forEach {α : Type} {f : α → State → State} (h : ∀ a t, KeepsLinks t (f a t)) (l : List α) (s : State) :
    KeepsLinks s (forEach l f s) :=
  forEach_inv (P := KeepsLinks s) (fun a t ht => ht.trans (h a t)) l s (.refl s)

theorem keepsLinks_onlyIf {f : State → State} (h : ∀ t, KeepsLinks t (f t)) (b : Bool) (s : State) : KeepsLinks s (onlyIf b f s) := by
  cases b
  · exact .refl s
  · exact h s

theorem keepsLinks_grantBuf (p owner : Nat) (s : State) : KeepsLinks s (grantBuf p owner s) := by
  unfold grantBuf
  split
  · exact .refl s
  · refine KeepsLinks.trans ?_ (keepsLinks_onlyIf (fun t => keepsLinks_raise (by decide) _ _ t) _ _)
    refine KeepsLinks.trans ?_ (keepsLinks_count (by decide) (by decide) 0 1 _)
    exact keepsLinks_of_eq rfl rfl

theorem keepsLinks_putItem (kind bytes a b : Nat) (s : State) : KeepsLinks s (putItem kind bytes a b s).2 := by
  have hfresh (n : Nat) : KeepsLinks s (putItem.fresh kind bytes a b n s).2 :=
    (keepsLinks_grantBuf 5 (segOwner kind) s).trans (keepsLinks_of_eq (by rfl) (by rfl))
  unfold putItem
  dsimp only
  split
  · split
    · exact keepsLinks_of_eq rfl rfl
    · exact hfresh _
  · exact hfresh _

theorem keepsLinks_settleSlot (k : Nat) (s : State) : KeepsLinks s (settleSlot k s) := by
  simp only [settleSlot]
  split
  · exact keepsLinks_of_eq rfl rfl
  split
  · exact keepsLinks_of_eq rfl rfl
  · refine KeepsLinks.trans ?_ (keepsLinks_raise (by decide) _ _ _)
    refine KeepsLinks.trans ?_ (keepsLinks_count (by decide) (by decide) 3 1 _)
    exact keepsLinks_of_eq rfl rfl

theorem keepsLinks_dropKeys (c : Nat) (s : State) : KeepsLinks s (dropKeys c s) := by
  unfold dropKeys
  split
  · exact .refl s
  · exact (keepsLinks_of_eq (by rfl) (by rfl)).trans (keepsLinks_forEach keepsLinks_settleSlot _ _)

theorem offFlash_cancelTags (ts : List Nat) (s : State) : offFlash (cancelTags ts s) = offFlash s := by
  unfold cancelTags
  dsimp only
  split
  · rfl
  · exact (forEach_keeps offFlash _ (fun dk t => offFlash_dropDescs dk 5 _ t) _ _).trans rfl

theorem keepsLinks_cancelTags (ts : List Nat) (s : State) : KeepsLinks s (cancelTags ts s) :=
  keepsLinks_of_eq (congrArg State.pb (offFlash_cancelTags ts s) :) (congrArg State.rf (offFlash_cancelTags ts s) :)

theorem keepsLinks_endRead (c : Nat) (s : State) : KeepsLinks s (endRead c s) :=
  (keepsLinks_cancelTags _ s).trans (keepsLinks_dropKeys c _)

/-! ### What sending leaves of the copies held and the chunks that wait -/

/-- The Balwen block beside its links, their sessions and the frames sent. -/
def linkless (s : State) : Balwen := { s.pb with links := [], sessions := [], sent := [] }

theorem linkless_of_pb (h : t.pb = s.pb) : linkless t = linkless s := by rw [linkless, linkless, h]

theorem owners_of_linkless (h : linkless t = linkless s) : t.pb.owners = s.pb.owners := (congrArg Balwen.owners h :)
theorem chunks_of_linkless (h : linkless t = linkless s) : t.pb.chunks = s.pb.chunks := (congrArg Balwen.chunks h :)

theorem linkless_of_onWire (h : OnWire s t) : linkless t = linkless s := (congrArg State.pb h.rest :)

theorem linkless_sessSend (n k : Nat) (f : TxFrame) (s : State) : linkless (sessSend n k f s) = linkless s := by
  have hemit (g : TxFrame) (t : State) : linkless (emit n g t) = linkless t := by
    rw [linkless, emit, count_pb]
    rfl
  unfold sessSend
  split
  · rfl
  split
  · unfold sessEmit
    split
    · rfl
    · exact hemit _ _
  · rfl

theorem linkless_openSess (k : Nat) (s : State) : linkless (openSess k s) = linkless s := by
  unfold openSess
  split <;> rfl

theorem linkless_roomSess (n : Nat) (s : State) : linkless (roomSess n s).1 = linkless s := by
  unfold roomSess
  split
  · rfl
  split <;> rfl

theorem linkless_needSess (n node : Nat) (s : State) : linkless (needSess n node s).1 = linkless s := by
  have hroom := linkless_roomSess n s
  unfold needSess
  dsimp only
  split_ifs
  · rfl
  · rfl
  · generalize roomSess n s = r at hroom
    obtain ⟨u, b⟩ := r
    cases b
    · exact hroom
    · exact (linkless_sessSend _ _ _ _).trans ((linkless_openSess _ u).trans hroom)

@[simp] theorem linkless_sendFrame (f : TxFrame) (s : State) : linkless (sendFrame f s).1 = linkless s := by
  unfold sendFrame
  split
  · exact onlyIf_keeps linkless _ _ s (fun t => linkless_of_pb (raise_pb _ _ _ t))
  · next n _ =>
    have hneed := linkless_needSess n (sessNode s n f.dst) s
    dsimp only
    split
    · exact (linkless_sessSend _ _ _ _).trans hneed
    · exact hneed

/-! ### The way to a node over a direct link -/

/-- A node is reached over a direct link whose session stands. -/
structure Direct (s : State) (node n : Nat) : Prop where
  route : linkTo s node = some n
  direct : linkEth s n = false
  stands : (sessOf s (sessKey n 0)).isSome = true

theorem Direct.of_sameRoutes {node n : Nat} (h : Direct s node n) (k : SameRoutes s t) : Direct t node n :=
  ⟨(linkTo_of_sameRoutes k node).trans h.route, (linkEth_of_sameRoutes k n).trans h.direct, (k.sess _).trans h.stands⟩

/-- A message to the node goes to that session. -/
theorem sendMsg_of_direct {node n : Nat} (h : Direct s node n) (typ len : Nat) (msg : List Nat) (block : Block) :
    ∃ f, sendMsg typ node len msg block s = (sessSend n (sessKey n 0) f s, true) ∧ f.typ = typ ∧ f.msg = msg :=
  ⟨_, sendFrame_of_direct h.route h.direct h.stands, rfl, rfl⟩

theorem sends_sendMsg {node n : Nat} (h : Direct s node n) (typ len : Nat) (msg : List Nat) (block : Block) :
    Safety.Sends (sendMsg typ node len msg block s).1 n typ msg := by
  obtain ⟨f, hsend, rfl, rfl⟩ := sendMsg_of_direct h typ len msg block
  rw [hsend]
  exact sends_sessSend h.stands f

theorem onWire_sendMsg {node n : Nat} (h : Direct s node n) (typ len : Nat) (msg : List Nat) (block : Block) :
    OnWire s (sendMsg typ node len msg block s).1 := by
  obtain ⟨f, hsend, -⟩ := sendMsg_of_direct h typ len msg block
  rw [hsend]
  exact onWire_sessSend (lt_of_linkTo h.route) _ f s

theorem ce_sendFrame (f : TxFrame) (s : State) : (sendFrame f s).1.ce = s.ce := (congrArg State.ce (offLink_sendFrame f s) :)
theorem ze_sendFrame (f : TxFrame) (s : State) : (sendFrame f s).1.ze = s.ze := (congrArg State.ze (offLink_sendFrame f s) :)
theorem ce_sendMsg (typ dst len : Nat) (msg : List Nat) (block : Block) (s : State) : (sendMsg typ dst len msg block s).1.ce = s.ce :=
  ce_sendFrame _ s

/-! ### The receipt of a message -/

/-- An instruction that is the receipt of a frame, where the frame is expected: what its message does, in a state that only the links have changed. -/
theorem exec_of_expected {i : Instr} {n typ : Nat} {f : BFrame} {x : Session} {body : TxFrame} {act : State → State} {keeps : State → Bool}
    (hi : exec i s = .next (rxFrame n typ f body act s keeps)) (h : Safety.Expected s n typ f x) (hseqd : msgSeqd typ = true) :
    ∃ u, OnWire s u ∧ exec i s = .next (act u) := by
  obtain ⟨u, hu, hrx⟩ := rxFrame_of_expected h hseqd body act keeps
  exact ⟨u, hu, hi.trans (congrArg Host.Outcome.next hrx)⟩

theorem Direct.of_expected {n typ : Nat} {f : BFrame} {x : Session} (h : Safety.Expected s n typ f x) {node : Nat} (hlink : linkTo s node = some n) :
    Direct s node n := by
  obtain ⟨⟨-, -, heth, -⟩, -, hx, -⟩ := h
  exact ⟨hlink, heth, by rw [hx]; rfl⟩

section
variable (h : OnWire s u)
include h

theorem ce_of_onWire : u.ce = s.ce := (congrArg State.ce h.rest :)
theorem ze_of_onWire : u.ze = s.ze := (congrArg State.ze h.rest :)
theorem gr_of_onWire : u.gr = s.gr := (congrArg State.gr h.rest :)
theorem ci_of_onWire : u.ci = s.ci := (congrArg State.ci h.rest :)
theorem owners_of_onWire : u.pb.owners = s.pb.owners := owners_of_linkless (linkless_of_onWire h)
theorem chunks_of_onWire : u.pb.chunks = s.pb.chunks := chunks_of_linkless (linkless_of_onWire h)
theorem ctxOf_of_onWire (c : Nat) : ctxOf u c = ctxOf s c := ctxOf_of_ce (ce_of_onWire h) c

theorem copyRoom_of_onWire (bytes : Nat) : copyRoom u bytes = copyRoom s bytes := by
  have hlr : u.lr = s.lr := (congrArg State.lr h.rest :)
  have hrsv : rd u (lrCfg 5) = rd s (lrCfg 5) := h.regs _ (.inr (.inl (by decide)))
  simp only [copyRoom, partnerSegs, newSegs, openRoom, openSeg, segsLeft, poolFree, poolBusy, poolCount, poolRsv, rdf, gr_of_onWire h, hlr, hrsv]

end

/-! ### Copies held (11_balwen.md R333, R334) -/

/-- A copy held lies behind the others of its owner, and what is not the links' or the Granary's is as it was. -/
theorem holdCopy_held (node : Nat) (page : MirrorPage) (s : State) :
    (∃ g, (tget {} (holdCopy node page s).pb.owners node).pages = (tget {} s.pb.owners node).pages ++ [(g, page)]) ∧
      (holdCopy node page s).ze = s.ze ∧ (holdCopy node page s).ce = s.ce := by
  have hoff := offGranary_putItem 5 page.bytes node page.offset s
  have hpb := (keepsLinks_putItem 5 page.bytes node page.offset s).pb
  refine ⟨⟨(putItem 5 page.bytes node page.offset s).1, ?_⟩, (congrArg State.ze hoff :), (congrArg State.ce hoff :)⟩
  simp only [holdCopy, onPb_pb, tget_tmod_same, hpb]
  split <;> rfl

theorem sameRoutes_holdCopy (node : Nat) (page : MirrorPage) (s : State) : SameRoutes s (holdCopy node page s) :=
  (keepsLinks_putItem 5 page.bytes node page.offset s).sameRoutes.trans (sameRoutes_of_pb rfl rfl rfl)

end

section
variable {s : State} {n : Nat} {f : BFrame} {x : Session}

theorem mirrorData_held {page : MirrorPage} (h : Safety.Expected s n tMirrorData f x) (hroom : copyRoom s page.bytes = true)
    (hlink : linkTo s f.src = some n) : ∃ t, exec (.mirrorData n f page) s = .next t ∧ Safety.Sends t n tMirrorAck [page.offset] ∧
      (∃ g, (tget {} t.pb.owners f.src).pages = (tget {} s.pb.owners f.src).pages ++ [(g, { page with state := false })]) ∧ t.ze = s.ze ∧
      t.ce = s.ce := by
  obtain ⟨u, hu, hexec⟩ := exec_of_expected (i := .mirrorData n f page) rfl h rfl
  simp only [copyRoom_of_onWire hu, hroom, if_true] at hexec
  obtain ⟨⟨g, hpages⟩, hze, hce⟩ := holdCopy_held f.src { page with state := false } u
  have hdirect := (Direct.of_expected h hlink).of_sameRoutes (hu.sameRoutes.trans (sameRoutes_holdCopy f.src { page with state := false } u))
  have hwire := onWire_sendMsg hdirect tMirrorAck 0 [page.offset] []
  refine ⟨_, hexec, sends_sendMsg hdirect _ _ _ _, ⟨g, ?_⟩, ?_, ?_⟩
  · rw [owners_of_onWire hwire, hpages, owners_of_onWire hu]
  · rw [ze_of_onWire hwire, hze, ze_of_onWire hu]
  · rw [ce_of_onWire hwire, hce, ce_of_onWire hu]

theorem mirrorData_of_no_room {page : MirrorPage} (h : Safety.Expected s n tMirrorData f x) (hroom : copyRoom s page.bytes = false) :
    ∃ t, exec (.mirrorData n f page) s = .next t ∧ t.pb.owners = s.pb.owners ∧ t.gr = s.gr ∧ t.ce = s.ce := by
  obtain ⟨u, hu, hexec⟩ := exec_of_expected (i := .mirrorData n f page) rfl h rfl
  simp only [copyRoom_of_onWire hu, hroom, Bool.false_eq_true, if_false] at hexec
  exact ⟨u, hexec, owners_of_onWire hu, gr_of_onWire hu, ce_of_onWire hu⟩

theorem mirrorState_held {page : MirrorPage} (h : Safety.Expected s n tMirrorState f x) (hroom : copyRoom s page.bytes = true) :
    ∃ t, exec (.mirrorState n f page) s = .next t ∧
      (∃ g, (tget {} t.pb.owners f.src).pages = (tget {} s.pb.owners f.src).pages ++ [(g, { page with state := true })]) ∧ t.ze = s.ze ∧
      t.ce = s.ce := by
  obtain ⟨u, hu, hexec⟩ := exec_of_expected (i := .mirrorState n f page) rfl h rfl
  simp only [copyRoom_of_onWire hu, hroom, if_true] at hexec
  obtain ⟨hpages, hze, hce⟩ := holdCopy_held f.src { page with state := true } u
  rw [owners_of_onWire hu] at hpages
  exact ⟨_, hexec, hpages, hze.trans (ze_of_onWire hu), hce.trans (ce_of_onWire hu)⟩

end

end Sys2Proof.Machine

/-! PROOFS. What acknowledgements, releases and the giving back of copies do (11_balwen.md R333 to R336; 10_granary.md R307 to R309). -/

namespace Sys2Proof.Machine

/-! ### MIRROR_ACK (11_balwen.md R333) -/

section
variable {s : State} {c : Nat} {w : Ctx}

theorem settleWrite_gr (c : Nat) (s : State) : (settleWrite c s).gr = s.gr := by
  unfold settleWrite
  split
  · rfl
  split
  · rfl
  dsimp only
  split
  · rfl
  · exact (congrArg State.gr (offEngine_complete c stOk _ _ _) :)

/-- A write whose data is all applied, and which waits for nothing more, has its status fixed with success. -/
theorem settleWrite_ended (hc : ctxOf s c = some w) (hst : w.st = .committed) (hnlb : w.nlb ≠ 0) (hall : w.applied = w.nlb)
    (hflash : waitsFlash s w = false) (hmirror : waitsMirror s c = false) (htun : w.tunnel = false) (hfresh : ctxFresh s w = true) :
    Safety.Ended (settleWrite c s) c stOk (writeDws w).1 := by
  have hmarked : ctxOf (modCtx c (fun x => { x with waitFlash := false, waitMirror := false }) s) c =
      some { w with waitFlash := false, waitMirror := false } := by rw [ctxOf_modCtx_same, hc, Option.map_some]
  have hsettle : settleWrite c s = complete c stOk (writeDws w).1 (writeDws w).2
      (modCtx c (fun x => { x with waitFlash := false, waitMirror := false }) s) := by
    simp [settleWrite, hc, hst, hall, hnlb, hflash, hmirror]
  rw [hsettle, complete_of_quiet hmarked htun hfresh (by simp [hst]) (.inl (by decide))]
  exact ⟨_, by rw [ctxOf_modCtx_same, hmarked]; rfl, rfl, rfl, rfl⟩

end

section
variable {s : State} {n a : Nat} {f : BFrame} {x : Session}

/-- The copy acknowledged is no longer awaited, and counts as held where the owner knows what it stands for. -/
def copyAcked (a : Nat) (s : State) : State :=
  onGr (fun g => { g with mirOut := g.mirOut.filter (fun o => o.1 != a),
                          mirHeld := if (tfind g.mirLbas a).isSome then g.mirHeld ++ [a] else g.mirHeld }) s

theorem mirrorAck_taken (h : Safety.Expected s n tMirrorAck f x) (hen : s.gr.mirEn = true) (hsrc : f.src = s.gr.mirPartner) :
    ∃ t, exec (.mirrorAck n f a) s = .next t ∧ t.gr.mirOut = s.gr.mirOut.filter (fun o => o.1 != a) ∧
      (∀ c w, s.gr.mirOut = [(a, c)] → ctxOf s c = some w → w.st = .committed → w.nlb ≠ 0 → w.applied = w.nlb → w.fua = false →
        writeThrough s = false → w.tunnel = false → ctxFresh s w = true → Safety.Ended t c stOk (writeDws w).1) := by
  obtain ⟨u, hu, hexec⟩ := exec_of_expected (i := .mirrorAck n f a) rfl h rfl
  have hgr := gr_of_onWire hu
  have hact : exec (.mirrorAck n f a) s =
      .next (whenSome ((u.gr.mirOut.find? (fun o => o.1 == a)).map (fun o => o.2)) settleWrite (copyAcked a u)) := by
    have hgo : (!u.gr.mirEn || f.src != u.gr.mirPartner) = false := by simp [hgr, hen, hsrc]
    simp only [hgo, Bool.false_eq_true, if_false] at hexec
    exact hexec
  refine ⟨_, hact, ?_, fun c w hout hc hst hnlb hall hfua hwt htun hfresh => ?_⟩
  · unfold whenSome
    split
    · rw [copyAcked, onGr_gr, hgr]
    · rw [settleWrite_gr, copyAcked, onGr_gr, hgr]
  · have hfind : (u.gr.mirOut.find? (fun o => o.1 == a)).map (fun o => o.2) = some c := by simp [hgr, hout]
    have hflash : waitsFlash (copyAcked a u) w = false := by
      have hthrough : writeThrough u = false := by simpa only [writeThrough, healthBad, hgr] using hwt
      simp [waitsFlash, hfua, show writeThrough (copyAcked a u) = false from hthrough]
    have hmirror : waitsMirror (copyAcked a u) c = false := by simp [waitsMirror, copyAcked, hgr, hout]
    rw [hfind]
    refine settleWrite_ended ((ctxOf_of_onWire hu c).trans hc) hst hnlb hall hflash hmirror htun ?_
    have hce : (copyAcked a u).ce = s.ce := (ce_of_onWire hu :)
    rwa [ctxFresh, fnOf_of_ce hce]

theorem mirrorAck_of_other (h : Safety.Expected s n tMirrorAck f x) (hno : s.gr.mirEn = false ∨ f.src ≠ s.gr.mirPartner) :
    ∃ t, exec (.mirrorAck n f a) s = .next t ∧ t.gr = s.gr ∧ t.ce = s.ce := by
  obtain ⟨u, hu, hexec⟩ := exec_of_expected (i := .mirrorAck n f a) rfl h rfl
  have hskip : (!u.gr.mirEn || f.src != u.gr.mirPartner) = true := by
    rw [gr_of_onWire hu]
    rcases hno with hno | hno <;> simp [hno]
  simp only [hskip, if_true] at hexec
  exact ⟨u, hexec, gr_of_onWire hu, ce_of_onWire hu⟩

/-! ### MIRROR_RELEASE (10_granary.md R309; 11_balwen.md R335) -/

/-- A state without what the release of an item of the Granary may change, where no recovered item waits for room. -/
def offStore (s : State) : State := { s with rf := {}, att := {}, gr := {}, lr := {}, free := 0 }

@[simp] theorem offStore_onGr (f : Granary → Granary) (s : State) : offStore (onGr f s) = offStore s := rfl
@[simp] theorem offStore_onLr (f : Larder → Larder) (s : State) : offStore (onLr f s) = offStore s := rfl
@[simp] theorem offStore_setBuf (k : Nat) (b : Buf) (s : State) : offStore (setBuf k b s) = offStore s := rfl
@[simp] theorem offStore_tookFree (s : State) : offStore (tookFree s) = offStore s := rfl
@[simp] theorem offStore_count (cnt ovf : Ref) (i n : Nat) (s : State) : offStore (count cnt ovf i n s) = offStore s := by
  obtain ⟨_, h⟩ := count_only_regs cnt ovf i n s
  rw [h]; rfl
@[simp] theorem offStore_raise (src sev : Nat) (ps : List Nat) (s : State) : offStore (raise src sev ps s) = offStore s := by
  obtain ⟨_, _, h⟩ := raise_only src sev ps s
  rw [h]; rfl

@[simp] theorem offStore_grantBuf (p owner : Nat) (s : State) : offStore (grantBuf p owner s) = offStore s := by
  unfold grantBuf
  split
  · rfl
  · exact (onlyIf_keeps offStore _ _ _ (fun t => offStore_raise _ _ _ t)).trans (by simp)

@[simp] theorem offStore_putItem (kind bytes a b : Nat) (s : State) : offStore (putItem kind bytes a b s).2 = offStore s := by
  have hfresh (n : Nat) : offStore (putItem.fresh kind bytes a b n s).2 = offStore s := offStore_grantBuf 5 _ s
  unfold putItem
  dsimp only
  split
  · split
    · rfl
    · exact hfresh _
  · exact hfresh _

@[simp] theorem offStore_placeItem (kind bytes a b : Nat) (s : State) : offStore (placeItem kind bytes a b s).2 = offStore s := by
  rw [placeItem, apply_ite Prod.snd, apply_ite offStore, offStore_putItem]
  exact ite_self _

@[simp] theorem offStore_placeLate (s : State) : offStore (placeLate s) = offStore s := by
  have hput (kind bytes a b : Nat) (t : State) : offStore (putState kind bytes a b t) = offStore t := by
    simp only [putState]
    split
    · exact offStore_putItem kind bytes a b t
    · rfl
  simp only [placeLate]
  split
  · rfl
  · exact forEach_keeps offStore _ (fun i t => hput _ _ _ _ t) _ _

@[simp] theorem offStore_lrServe (p : Nat) (s : State) : offStore (lrServe p s) = offStore s := by
  simp only [lrServe]
  split <;> simp

@[simp] theorem offStore_dropSeg (k : Nat) (s : State) : offStore (dropSeg k s) = offStore s := by
  have hop (op issuer handle arg : Nat) (t : State) : offStore (lrOp op issuer handle arg t) = offStore t := by
    simp only [lrOp]
    split
    · simp [lrRefuse]
    split
    · rfl
    · rw [onlyIf_keeps offStore _ _ _ (fun t => offStore_lrServe _ t), onlyIf_keeps offStore _ _ _ (fun t => by simp), offStore_setBuf]
  unfold dropSeg
  split
  · rfl
  · exact (hop _ _ _ _ _).trans rfl

/-- Where no recovered item waits for room, the items released change nothing beside the Granary and its buffers. -/
theorem offStore_freeItems (l : List Nat) (s : State) (hun : s.gr.unplaced = false) : offStore (forEach l freeItem s) = offStore s := by
  have hone (k : Nat) (t : State) (ht : t.gr.unplaced = false) : offStore (freeItem k t) = offStore t := by
    have hdrop : zonePart (placeLate (dropSeg k t)) = zonePart t := by
      rw [zonePart_placeLate, dropSeg]
      split
      · rfl
      · exact zonePart_lrOp _ _ _ _ _
    unfold freeItem
    split
    · rfl
    split
    · rfl
    · simp [segsFreed, placeRest, unplaced_of_zonePart hdrop, ht]
  have hboth := forEach_inv (P := fun t => t.gr.unplaced = false ∧ offStore t = offStore s)
    (fun k t ht => ⟨(unplaced_of_zonePart (zonePart_freeItem ht.1 k)).trans ht.1, (hone k t ht.1).trans ht.2⟩) l s ⟨hun, rfl⟩
  exact hboth.2

theorem tfind_talter_of_none {α : Type} {j : Nat} {l : List (Nat × α)} (h : tfind l j = none) (k : Nat) (g : α → α) :
    tfind (talter k g l) j = none := by
  by_cases hk : j = k
  · subst hk
    rw [tfind_talter_same, h, Option.map_none]
  · rw [tfind_talter_other hk, h]

section
variable {node : Nat}

theorem no_owner_placeRest (h : tfind s.pb.owners node = none) : tfind (placeRest s).pb.owners node = none := by
  have hplace (kind bytes a b : Nat) (t : State) : (placeItem kind bytes a b t).2.pb = t.pb := (congrArg State.pb (offStore_placeItem kind bytes a b t) :)
  simp only [placeRest]
  split
  · exact h
  refine forEach_inv (P := fun t => tfind t.pb.owners node = none) (fun o t ht => ?_) _ _ ?_
  · refine tfind_talter_of_none ?_ _ _
    rw [foldl_snd_keeps State.pb _ (fun acc p => ?_)]
    · exact ht
    · split
      · exact hplace _ _ _ _ _
      · rfl
  · rw [forEach_keeps State.pb _ (fun z t => ?_)]
    · exact h
    · refine (foldl_snd_keeps State.pb _ (fun acc f => ?_) _ _).trans (forEach_keeps State.pb _ (fun u t => ?_) _ t)
      · split
        · exact hplace _ _ _ _ _
        · rfl
      · exact hplace _ _ _ _ _

/-- Items released make no owner of a node that is none. -/
theorem no_owner_freeItem (h : tfind s.pb.owners node = none) (k : Nat) : tfind (freeItem k s).pb.owners node = none := by
  have hpb : (placeLate (dropSeg k s)).pb = s.pb := (congrArg State.pb (show offStore (placeLate (dropSeg k s)) = offStore s by simp) :)
  unfold freeItem
  split
  · exact h
  split
  · exact h
  · exact no_owner_placeRest (by rw [hpb]; exact h)

/-- An owner freed is gone, with event source 401, and no command is touched. -/
theorem freeOwner_gone (node : Nat) (s : State) :
    tfind (freeOwner node s).pb.owners node = none ∧ pending? (freeOwner node s) 401 = true ∧ (freeOwner node s).ce = s.ce := by
  refine ⟨?_, pending?_raise_same (by decide) _ _ _, ?_⟩
  · rw [freeOwner, raise_pb, owners_of_onWire (onWire_returnCopies _ _ _)]
    exact forEach_inv (P := fun t => tfind t.pb.owners node = none) (fun k t ht => no_owner_freeItem ht k) _ _ (tfind_tdel_same _ _)
  · rw [freeOwner, raise_ce, ce_of_onWire (onWire_returnCopies _ _ _)]
    refine ce_of_hostSide ((forEach_keeps hostSide _ hostSide_freeItem _ _).trans ?_)
    rw [hostSide_onPb, forEach_keeps hostSide _ (fun b t => hostSide_freeBand b false t)]

/-- Where every owner is there and none is being persisted, there is nothing to persist. -/
theorem persistAll_of_quiet (h : ∀ k o, tfind s.pb.owners k = some o → o.state = 0 ∧ o.jobBands = []) : persistAll s = s := by
  have hone (k : Nat) : endPersist k (persistOwner k s) = s := by
    cases ho : tfind s.pb.owners k with
    | none => simp [persistOwner, endPersist, ho]
    | some o =>
      obtain ⟨hst, hjob⟩ := h k o ho
      rw [persistOwner_of_other_state ho (by rw [hst]; decide)]
      simp [endPersist, ho, hjob]
  exact forEach_inv (P := fun t => t = s) (fun k t ht => by rw [ht]; exact hone k) _ s rfl

/-- An owner with the copies that are named taken off. -/
def ownerLess (offs : List Nat) (o : Owner) : Owner :=
  { o with pages := o.pages.filter (fun q => !offs.contains q.2.offset), saved := o.saved.filter (fun m => !offs.contains m.offset),
           job := ((o.pages.take o.job).filter (fun q => !offs.contains q.2.offset)).length }

end

theorem mirrorRelease_all {o : Owner} (h : Safety.Expected s n tMirrorRelease f x) (ho : tfind s.pb.owners f.src = some o) :
    ∃ t, exec (.mirrorRelease n f []) s = .next t ∧ tfind t.pb.owners f.src = none ∧ pending? t 401 = true ∧ t.ce = s.ce := by
  obtain ⟨u, hu, hexec⟩ := exec_of_expected (i := .mirrorRelease n f []) rfl h rfl
  simp only [owners_of_onWire hu, ho, List.isEmpty_nil, if_true] at hexec
  obtain ⟨hgone, hpending, hce⟩ := freeOwner_gone f.src u
  exact ⟨_, hexec, hgone, hpending, hce.trans (ce_of_onWire hu)⟩

theorem mirrorRelease_named {o : Owner} {offs : List Nat} (h : Safety.Expected s n tMirrorRelease f x) (ho : tfind s.pb.owners f.src = some o)
    (hoffs : offs ≠ []) (hun : s.gr.unplaced = false) (hquiet : ∀ p, p ∈ s.pb.owners → p.2.state = 0 ∧ p.2.jobBands = []) :
    ∃ t, exec (.mirrorRelease n f offs) s = .next t ∧ tfind t.pb.owners f.src = some (ownerLess offs o) ∧ t.ze = s.ze ∧ t.ce = s.ce := by
  obtain ⟨u, hu, hexec⟩ := exec_of_expected (i := .mirrorRelease n f offs) rfl h rfl
  have hne : offs.isEmpty = false := by simpa using hoffs
  simp only [owners_of_onWire hu, ho, hne, Bool.false_eq_true, if_false] at hexec
  let v := setOwner f.src (ownerLess offs o) u
  let gone := o.pages.filter (fun p => offs.contains p.2.offset)
  let w := returnCopies f.src (gone.map (fun p => p.2)) (forEach (gone.map (fun p => p.1)) freeItem v)
  have hact : exec (.mirrorRelease n f offs) s = .next (persistAll w) := hexec
  have hwire := onWire_returnCopies f.src (gone.map (fun p => p.2)) (forEach (gone.map (fun p => p.1)) freeItem v)
  have hstore : offStore (forEach (gone.map (fun p => p.1)) freeItem v) = offStore v :=
    offStore_freeItems _ v ((congrArg Granary.unplaced (gr_of_onWire hu)).trans hun)
  have hpb : (forEach (gone.map (fun p => p.1)) freeItem v).pb = v.pb := (congrArg State.pb hstore :)
  have hze : (forEach (gone.map (fun p => p.1)) freeItem v).ze = u.ze := (congrArg State.ze hstore :)
  have hce : (forEach (gone.map (fun p => p.1)) freeItem v).ce = u.ce := (congrArg State.ce hstore :)
  have howners : w.pb.owners = tset f.src (ownerLess offs o) s.pb.owners := by
    rw [owners_of_onWire hwire, hpb, ← owners_of_onWire hu]
    rfl
  have hall (k : Nat) (p : Owner) (hp : tfind w.pb.owners k = some p) : p.state = 0 ∧ p.jobBands = [] := by
    rw [howners] at hp
    by_cases hk : k = f.src
    · rw [hk, tfind_tset_same] at hp
      cases hp
      exact hquiet _ (mem_of_tfind ho)
    · rw [tfind_tset_other hk] at hp
      exact hquiet _ (mem_of_tfind hp)
  rw [persistAll_of_quiet hall] at hact
  refine ⟨w, hact, by rw [howners, tfind_tset_same], ?_, ?_⟩
  · exact (ze_of_onWire hwire).trans (hze.trans (ze_of_onWire hu))
  · exact (ce_of_onWire hwire).trans (hce.trans (ce_of_onWire hu))

/-! ### ORPHAN_PULL and ORPHAN_DATA (11_balwen.md R336) -/

theorem orphanPull_begins {o : Owner} (h : Safety.Expected s n tOrphanPull f x) (ho : tfind s.pb.owners f.src = some o) :
    ∃ t, exec (.orphanPull n f) s = .next t ∧ tfind t.pb.owners f.src = some { o with state := 4 } ∧ t.ze = s.ze ∧ t.ce = s.ce := by
  obtain ⟨u, hu, hexec⟩ := exec_of_expected (i := .orphanPull n f) rfl h rfl
  simp only [owners_of_onWire hu, ho] at hexec
  refine ⟨_, hexec, ?_, ?_, ?_⟩
  · refine (congrArg (tfind · f.src) (owners_of_linkless (forEach_keeps linkless _ (fun p t => linkless_sendFrame _ t) _ _))).trans ?_
    exact tfind_tset_same _ _ _
  · exact (forEach_keeps State.ze _ (fun p t => ze_sendFrame _ t) _ _).trans (ze_of_onWire hu :)
  · exact (forEach_keeps State.ce _ (fun p t => ce_sendFrame _ t) _ _).trans (ce_of_onWire hu :)

theorem orphanPull_of_none (h : Safety.Expected s n tOrphanPull f x) (ho : tfind s.pb.owners f.src = none) :
    ∃ t, exec (.orphanPull n f) s = .next t ∧ t.pb.owners = s.pb.owners ∧ t.gr = s.gr := by
  obtain ⟨u, hu, hexec⟩ := exec_of_expected (i := .orphanPull n f) rfl h rfl
  simp only [owners_of_onWire hu, ho] at hexec
  exact ⟨u, hexec, owners_of_onWire hu, gr_of_onWire hu⟩

/-- A copy given back is kept while LOAD waits for it, and no other is. -/
theorem orphanData_received (h : Safety.Expected s n tOrphanData f x) (page : MirrorPage) : ∃ t, exec (.orphanData n f page) s = .next t ∧ t.ce = s.ce ∧
    t.gr = if starting s && s.gr.pullSent && !s.gr.recovered && !s.gr.pullDone && f.src == s.gr.mirPartner then { s.gr with pulled := s.gr.pulled ++ [page] }
      else s.gr := by
  obtain ⟨u, hu, hexec⟩ := exec_of_expected (i := .orphanData n f page) rfl h rfl
  have hstart : starting u = starting s := by
    have hpw : u.pw = s.pw := (congrArg State.pw hu.rest :)
    simp only [starting, hpw, gr_of_onWire hu]
  simp only [hstart, gr_of_onWire hu] at hexec
  refine ⟨_, hexec, ?_, ?_⟩
  · rw [apply_ite State.ce, onGr_ce, ite_self, ce_of_onWire hu]
  · rw [apply_ite State.gr, onGr_gr, gr_of_onWire hu]

end

end Sys2Proof.Machine

/-! PROOFS. Rules of what follows the end of a validated write: a command whose status is fixed keeps it (02_zones.md R60, R64; 03_queues.md R78). -/

namespace Sys2Proof.Machine

/-! ### A status that is fixed stays -/

/-- The fields of a context that say whose it is, and what has become of it. -/
def outcome (x : Ctx) : Nat × Nat × Bool × CtxState × Status × Nat := (x.fn, x.fgen, x.tunnel, x.st, x.status, x.dw0)

/-- From one state to another the functions keep their generations, and context `i` keeps its outcome, if it is one of a present generation
whose status is fixed. -/
structure KeepsEnded (i : Nat) (s t : State) : Prop where
  gens : ∀ g, (fnOf t g).gen = (fnOf s g).gen
  ended : ∀ x, ctxOf s i = some x → x.st = .completed → x.tunnel = false → ctxFresh s x = true → ∃ y, ctxOf t i = some y ∧ outcome y = outcome x

section
variable {i : Nat}

theorem KeepsEnded.refl (s : State) : KeepsEnded i s s := ⟨fun _ => rfl, fun x hx _ _ _ => ⟨x, hx, rfl⟩⟩

theorem KeepsEnded.trans {s t u : State} (h : KeepsEnded i s t) (k : KeepsEnded i t u) : KeepsEnded i s u := by
  refine ⟨fun g => (k.gens g).trans (h.gens g), fun x hx hst htun hfresh => ?_⟩
  obtain ⟨y, hy, hout⟩ := h.ended x hx hst htun hfresh
  have hfn : y.fn = x.fn := congrArg (fun p => p.1) hout
  have hfgen : y.fgen = x.fgen := congrArg (fun p => p.2.1) hout
  have hytun : y.tunnel = x.tunnel := congrArg (fun p => p.2.2.1) hout
  have hyst : y.st = x.st := congrArg (fun p => p.2.2.2.1) hout
  have hyfresh : ctxFresh t y = true := by rwa [ctxFresh, hfn, hfgen, h.gens]
  obtain ⟨z, hz, hzout⟩ := k.ended y hy (hyst.trans hst) (hytun.trans htun) hyfresh
  exact ⟨z, hz, hzout.trans hout⟩

theorem AddsNothing.gens {s t : State} (h : AddsNothing s t) (g : Nat) : (fnOf t g).gen = (fnOf s g).gen := (congrArg Fn.gen (h.fns g) :)

/-- Where the tables of functions and contexts are as they were. -/
theorem keepsEnded_of_tables {s t : State} (hf : t.ce.fns = s.ce.fns) (hc : t.ce.ctxs = s.ce.ctxs) : KeepsEnded i s t :=
  ⟨fun g => by rw [fnOf, fnOf, hf], fun x hx _ _ _ => ⟨x, by rw [ctxOf, hc]; exact hx, rfl⟩⟩

theorem keepsEnded_of_ce {s t : State} (h : t.ce = s.ce) : KeepsEnded i s t := keepsEnded_of_tables (by rw [h]) (by rw [h])

theorem keepsEnded_of_hostSide {s t : State} (h : hostSide t = hostSide s) : KeepsEnded i s t := keepsEnded_of_ce (ce_of_hostSide h)

theorem keepsEnded_forEach {α : Type} {f : α → State → State} (h : ∀ a t, KeepsEnded i t (f a t)) (l : List α) (s : State) :
    KeepsEnded i s (forEach l f s) :=
  forEach_inv (P := KeepsEnded i s) (fun a t ht => ht.trans (h a t)) l s (.refl s)

theorem keepsEnded_onlyIf {f : State → State} (h : ∀ t, KeepsEnded i t (f t)) (b : Bool) (s : State) : KeepsEnded i s (onlyIf b f s) := by
  cases b
  · exact .refl s
  · exact h s

/-! ### Changes of the command engine's tables -/

theorem keepsEnded_modCtx_other {c : Nat} (h : c ≠ i) (f : Ctx → Ctx) (s : State) : KeepsEnded i s (modCtx c f s) :=
  ⟨fun _ => rfl, fun x hx _ _ _ => ⟨x, by rw [ctxOf_modCtx_other h.symm]; exact hx, rfl⟩⟩

/-- A context changed beside its outcome. -/
theorem keepsEnded_modCtx {f : Ctx → Ctx} (h : ∀ x, outcome (f x) = outcome x) (c : Nat) (s : State) : KeepsEnded i s (modCtx c f s) := by
  by_cases hc : c = i
  · subst hc
    exact ⟨fun _ => rfl, fun x hx _ _ _ => ⟨f x, by rw [ctxOf_modCtx_same, hx, Option.map_some], h x⟩⟩
  · exact keepsEnded_modCtx_other hc f s

theorem keepsEnded_modSq (fn q : Nat) (f : Sq → Sq) (s : State) : KeepsEnded i s (modSq fn q f s) := keepsEnded_of_tables rfl rfl

theorem keepsEnded_delCtx_other {c : Nat} (h : c ≠ i) (s : State) : KeepsEnded i s (onCe (fun e => { e with ctxs := tdel c e.ctxs }) s) :=
  ⟨fun _ => rfl, fun x hx _ _ _ => ⟨x, by rw [ctxOf, onCe_ce, tfind_tdel_other h.symm]; exact hx, rfl⟩⟩

theorem keepsEnded_freeCtx_other {c : Nat} (h : c ≠ i) (s : State) : KeepsEnded i s (freeCtx c s) := by
  unfold freeCtx
  split
  · exact .refl s
  · exact (keepsEnded_delCtx_other h s).trans (keepsEnded_modSq _ _ _ _)

/-! ### A command's end (03_queues.md R78, R97, R98) -/

theorem keepsEnded_raise (src sev : Nat) (ps : List Nat) (s : State) : KeepsEnded i s (raise src sev ps s) :=
  keepsEnded_of_ce (raise_ce src sev ps s)

/-- An asynchronous event completes a request that is started, or waits. -/
theorem keepsEnded_sendAsync (fn : Nat) (ev : Nat × Nat × Nat) (s : State) : KeepsEnded i s (sendAsync fn ev s) :=
  ⟨(addsNothing_sendAsync fn ev s).gens, fun x hx hst _ _ => ⟨x, ctxOf_sendAsync_of_completed hx hst fn ev, rfl⟩⟩

theorem keepsEnded_freezeQueue (c : Nat) (s : State) : KeepsEnded i s (freezeQueue c s) := by
  have hfrozen (fn q : Nat) (f : Sq → Sq) (b : Bool) (ps : List Nat) :
      KeepsEnded i s (raise 97 sevWarning ps (wrb R.ceFrozen 31 b (modSq fn q f s))) :=
    ((keepsEnded_modSq fn q f s).trans (keepsEnded_of_ce (wrb_ce _ _ _ _))).trans (keepsEnded_raise _ _ _ _)
  have hmask (fn : Nat) (t : State) : KeepsEnded i t (sendAsync fn (7, 0xC0, 0xC0) (modFn fn (fun f => { f with freezeMasked := true }) t)) := by
    have hmod : KeepsEnded i t (modFn fn (fun f => { f with freezeMasked := true }) t) :=
      ⟨(addsNothing_modFn (by exact fun _ => rfl) fn t).gens, fun x hx _ _ _ => ⟨x, hx, rfl⟩⟩
    exact hmod.trans (keepsEnded_sendAsync _ _ _)
  unfold freezeQueue
  split
  · exact .refl s
  split
  · exact .refl s
  split
  · exact .refl s
  dsimp only
  split
  · exact .refl s
  split
  · split
    · exact hfrozen _ _ _ _ _
    · exact (hfrozen _ _ _ _ _).trans (hmask _ _)
  · split
    · exact (keepsEnded_modSq _ _ _ s).trans (keepsEnded_raise _ _ _ _)
    · exact .refl s

/-- A status is fixed once: a command that has one keeps it. -/
theorem keepsEnded_complete (c : Nat) (st : Status) (dw0 dw1 : Nat) (s : State) : KeepsEnded i s (complete c st dw0 dw1 s) := by
  by_cases hc : c = i
  · subst hc
    refine ⟨(addsNothing_complete c st dw0 dw1 s).gens, fun x hx hst htun hfresh => ⟨x, ?_, rfl⟩⟩
    simp [complete, hx, htun, hfresh, hst]
  · unfold complete
    split
    · exact .refl s
    split_ifs
    · exact (keepsEnded_of_ce (s := s) (by unfold tunnelReply miRespond; split <;> rfl)).trans (keepsEnded_delCtx_other hc _)
    · exact keepsEnded_freeCtx_other hc s
    · exact .refl s
    · exact (keepsEnded_modCtx_other hc _ s).trans (keepsEnded_freezeQueue c _)

theorem keepsEnded_succeed (c : Nat) (s : State) : KeepsEnded i s (succeed c s) := keepsEnded_complete c stOk 0 0 s

theorem keepsEnded_failAt (c : Nat) (st : Status) (cause : Nat) (zone lba : Option Nat) (s : State) :
    KeepsEnded i s (failAt c st cause zone lba s) :=
  (keepsEnded_modCtx (by exact fun _ => rfl) c s).trans (keepsEnded_complete c st 0 0 _)

theorem keepsEnded_mbPump (cluster : Nat) (s : State) : KeepsEnded i s (mbPump cluster s) := by
  unfold mbPump
  split
  · exact .refl s
  split
  · exact keepsEnded_of_tables (by simp) (by simp)
  split
  · exact .refl s
  · exact (keepsEnded_of_ce (mbPut_ce _ _ _ s)).trans (keepsEnded_modCtx (by exact fun _ => rfl) _ _)

theorem keepsEnded_toFirmware (c : Nat) (s : State) : KeepsEnded i s (toFirmware c s) := by
  unfold toFirmware
  split
  · exact .refl s
  · exact (keepsEnded_modCtx (by exact fun _ => rfl) c s).trans (keepsEnded_mbPump _ _)

/-! ### Commands that wait for flash or for the partner (02_zones.md R64, R86, R88) -/

theorem keepsEnded_settleWrite (c : Nat) (s : State) : KeepsEnded i s (settleWrite c s) := by
  unfold settleWrite
  split
  · exact .refl s
  split
  · exact .refl s
  dsimp only
  split
  · exact keepsEnded_modCtx (by exact fun _ => rfl) c s
  · exact (keepsEnded_modCtx (by exact fun _ => rfl) c s).trans (keepsEnded_complete c stOk _ _ _)

theorem keepsEnded_settleZone (c : Nat) (s : State) : KeepsEnded i s (settleZone c s) := by
  unfold settleZone
  split
  · exact .refl s
  split
  · exact keepsEnded_succeed c s
  · exact .refl s

theorem keepsEnded_settleFlush (c : Nat) (s : State) : KeepsEnded i s (settleFlush c s) := by
  obtain h | ⟨left, h | h⟩ := settleFlush_cases c s <;> rw [h]
  · exact .refl s
  · exact keepsEnded_modCtx (by exact fun _ => rfl) c s
  · exact (keepsEnded_modCtx (by exact fun _ => rfl) c s).trans (keepsEnded_succeed c _)

theorem keepsEnded_settleAll (s : State) : KeepsEnded i s (settleAll s) :=
  (keepsEnded_forEach (fun c t => (keepsEnded_settleWrite c t).trans (keepsEnded_settleZone c _)) _ s).trans
    (keepsEnded_forEach keepsEnded_settleFlush _ _)

theorem keepsEnded_discardMarks (key : Nat) (s : State) : KeepsEnded i s (discardMarks key s) :=
  ⟨fun _ => rfl, fun x hx _ _ _ => ⟨discardedCtx key x, by rw [ctxOf_discardMarks, hx, Option.map_some], rfl⟩⟩

theorem keepsEnded_discardZone (key : Nat) (s : State) : KeepsEnded i s (discardZone key s) := by
  rw [discardZone_eq]
  exact ((keepsEnded_discardMarks key s).trans (keepsEnded_of_hostSide (by simp))).trans (keepsEnded_settleAll _)

/-! ### Changes of zones and bands (02_zones.md R62 to R65) -/

theorem keepsEnded_zoneDone {c : Nat} (hc : c ≠ i) (s : State) : KeepsEnded i s (zoneDone c s) := by
  unfold zoneDone
  split
  · exact ((keepsEnded_modCtx_other hc _ s).trans (keepsEnded_settleZone c _)).trans (keepsEnded_of_hostSide (hostSide_pressure _))
  · exact (keepsEnded_succeed c s).trans (keepsEnded_of_hostSide (hostSide_pressure _))

theorem keepsEnded_noteDelta (key : Nat) (s : State) : KeepsEnded i s (noteDelta key s) := keepsEnded_of_hostSide (hostSide_noteDelta key s)

theorem keepsEnded_modZone (key : Nat) (f : Zone → Zone) (s : State) : KeepsEnded i s (modZone key f s) := keepsEnded_of_ce rfl

theorem keepsEnded_bindBand (key b : Nat) (s : State) : KeepsEnded i s (bindBand key b s) := keepsEnded_of_hostSide (hostSide_bindBand key b s)

/-- A zone changed, and its delta noted. -/
theorem keepsEnded_zoneNoted (key : Nat) (f : Zone → Zone) (s : State) : KeepsEnded i s (noteDelta key (modZone key f s)) :=
  (keepsEnded_modZone key f s).trans (keepsEnded_noteDelta key _)

/-! ### Attempts to act on a zone (02_zones.md R49, R56, R58, R62) -/

theorem keepsEnded_ok {s t : State} (h : KeepsEnded i s t) : KeepsEnded i s (ZRes.ok t).left := h

theorem keepsEnded_waitAt (key c : Nat) (s : State) : KeepsEnded i s (waitAt key c s).left := keepsEnded_of_ce rfl

section
variable {s : State} {k : State → ZRes} (hk : ∀ t, KeepsEnded i s t → KeepsEnded i s (k t).left)
include hk

theorem keepsEnded_leaveGrants (c fn key : Nat) : KeepsEnded i s (leaveGrants c fn key s k).left := by
  have hs : KeepsEnded i s (k s).left := hk s (.refl s)
  have hkept (v : Nat × (Nat × Nat)) : KeepsEnded i s (match k s with
      | .wait t => ZRes.wait (modCtx c (fun x => { x with passed := some v }) t)
      | r => r).left := by
    generalize k s = r at hs
    cases r with
    | ok t => exact hs
    | fail st cause t => exact hs
    | wait t => exact hs.trans (keepsEnded_modCtx (by exact fun _ => rfl) c t)
  unfold leaveGrants
  dsimp only
  split_ifs
  · exact hs
  · exact hkept _
  · exact keepsEnded_raise _ _ _ s
  · exact keepsEnded_raise _ _ _ s
  · exact hkept _

theorem keepsEnded_withResources (c key : Nat) (needOpen : Bool) : KeepsEnded i s (withResources c key needOpen s k).left := by
  unfold withResources
  dsimp only
  split
  · exact .refl s
  split
  · split
    · exact .refl s
    · next v _ =>
      split
      · exact hk _ (keepsEnded_of_hostSide (hostSide_closeZone v s))
      · exact keepsEnded_waitAt v c s
  · exact hk s (.refl s)

end

/-- A transition that finds no band to bind fails, or waits for firmware. -/
theorem keepsEnded_bandless {s t : State} (ht : KeepsEnded i s t) (c d : Nat) (ps : List Nat) (b : Bool) :
    KeepsEnded i s (if domFree t d = 0 then ZRes.fail stDomainFull 0 (raise 418 sevWarning ps t)
      else .wait (onlyIf b (toFirmware c) (onZe (fun z => { z with
        bandWait := if z.bandWait.contains c then z.bandWait else z.bandWait ++ [c] }) t))).left := by
  split
  · exact ht.trans (keepsEnded_raise _ _ _ t)
  · refine KeepsEnded.trans ?_ (keepsEnded_onlyIf (keepsEnded_toFirmware c) b _)
    exact ht.trans (keepsEnded_of_ce rfl)

theorem keepsEnded_withBand {s : State} {k : Nat → State → ZRes} (hk : ∀ b t, KeepsEnded i s t → KeepsEnded i s (k b t).left)
    (c fn key : Nat) (fw implicit : Bool) : KeepsEnded i s (withBand c fn key fw implicit s k).left := by
  unfold withBand
  dsimp only
  split
  · exact hk _ s (.refl s)
  split
  · exact keepsEnded_bandless (keepsEnded_of_ce (by rw [raise_ce, wrb_ce])) c _ _ _
  · exact keepsEnded_bandless (.refl s) c _ _ _

/-! ### Writes tried (02_zones.md R59) -/

theorem keepsEnded_validateIn {s t : State} (ht : KeepsEnded i s t) (c key : Nat) (append : Bool) (first nlb ticket : Nat) (band : Option Nat) :
    KeepsEnded i s (validateIn c key append first nlb ticket band t).left := by
  unfold validateIn
  dsimp only
  generalize (if append = true then (zoneOf t key).vp else first) = start
  split
  · exact ht
  split
  · exact ht
  split
  · exact ht
  split
  · exact ht
  · next ctr r hr =>
    have hreserved : KeepsEnded i s r := ht.trans (keepsEnded_of_hostSide (hostSide_of_reserve hr))
    refine KeepsEnded.trans ?_ (keepsEnded_of_hostSide (hostSide_noteDelta key _))
    refine KeepsEnded.trans ?_ (keepsEnded_onlyIf (keepsEnded_raise 267 sevWarning _) _ _)
    refine KeepsEnded.trans ?_ (keepsEnded_modCtx (by exact fun _ => rfl) c _)
    cases band with
    | none => exact hreserved.trans (keepsEnded_of_ce rfl)
    | some b => exact (hreserved.trans (keepsEnded_bindBand key b r)).trans (keepsEnded_of_ce rfl)

theorem keepsEnded_validate (c fn key : Nat) (append : Bool) (first nlb ticket : Nat) (fw : Bool) (s : State) :
    KeepsEnded i s (validate c fn key append first nlb ticket fw s).left := by
  unfold validate
  dsimp only
  split
  · exact keepsEnded_waitAt key c s
  split
  · exact .refl s
  · exact .refl s
  · exact .refl s
  split
  · exact .refl s
  refine keepsEnded_leaveGrants (fun t ht => ?_) c fn key
  split
  · exact keepsEnded_validateIn ht _ _ _ _ _ _ _
  have hplaced : KeepsEnded i t (withResources c key true t (fun u =>
      if (zoneOf s key).st == .empty then withBand c fn key fw true u (fun b v => validateIn c key append first nlb ticket (some b) v)
      else validateIn c key append first nlb ticket none u)).left := by
    refine keepsEnded_withResources (fun u hu => ?_) c key true
    split
    · exact hu.trans (keepsEnded_withBand (fun b v hv => keepsEnded_validateIn hv _ _ _ _ _ _ _) _ _ _ _ _)
    · exact keepsEnded_validateIn hu _ _ _ _ _ _ _
  exact ht.trans hplaced

theorem keepsEnded_dropKeys (c : Nat) (s : State) : KeepsEnded i s (dropKeys c s) := by
  unfold dropKeys
  split
  · exact .refl s
  · exact (keepsEnded_modCtx (by exact fun _ => rfl) c s).trans (keepsEnded_of_hostSide (forEach_keeps hostSide _ hostSide_settleSlot _ _))

theorem keepsEnded_tryWrite (c : Nat) (fw : Bool) (s : State) : KeepsEnded i s (tryWrite c fw s) := by
  unfold tryWrite
  split
  · exact .refl s
  split
  · exact .refl s
  split
  · exact keepsEnded_failAt _ _ _ _ _ s
  split
  · split_ifs
    · exact keepsEnded_modCtx (by exact fun _ => rfl) c s
    · exact keepsEnded_failAt _ _ _ _ _ s
    · exact keepsEnded_complete _ _ _ _ s
  · next x _ _ _ key _ _ _ =>
    have hleft := keepsEnded_validate (i := i) c x.fn key (x.e.opc == 0x7D) (eSlba x.e % zoneLbas) (writeNlb x.e) (ticketOf s x) fw s
    split
    · next heq =>
      rw [heq] at hleft
      exact hleft.trans (keepsEnded_modCtx (by exact fun _ => rfl) c _)
    · next heq =>
      rw [heq] at hleft
      exact (hleft.trans (keepsEnded_dropKeys c _)).trans (keepsEnded_failAt _ _ _ _ _ _)
    · next heq =>
      rw [heq] at hleft
      exact hleft.trans (keepsEnded_modCtx (by exact fun _ => rfl) c _)

/-! ### Zone Management Send tried (02_zones.md R62, R64, R535) -/

theorem keepsEnded_actOpen (c fn key : Nat) (fw : Bool) (s : State) : KeepsEnded i s (actOpen c fn key fw s).left := by
  unfold actOpen
  dsimp only
  split
  · refine keepsEnded_leaveGrants (fun t ht => ht.trans ?_) c fn key
    refine keepsEnded_withResources (fun u hu => hu.trans ?_) c key true
    refine keepsEnded_withBand (fun b v hv => ?_) _ _ _ _ _
    exact keepsEnded_ok ((hv.trans (keepsEnded_bindBand key b v)).trans (keepsEnded_zoneNoted key _ _))
  · exact keepsEnded_ok (keepsEnded_zoneNoted key _ s)
  · exact keepsEnded_withResources (fun t ht => keepsEnded_ok (ht.trans (keepsEnded_zoneNoted key _ t))) c key true
  · exact .refl s

theorem keepsEnded_actExt (c fn key : Nat) (ext : List Byte) (fw : Bool) (s : State) : KeepsEnded i s (actExt c fn key ext fw s).left := by
  unfold actExt
  split
  · refine keepsEnded_leaveGrants (fun t ht => ht.trans ?_) c fn key
    refine keepsEnded_withResources (fun u hu => hu.trans ?_) c key false
    refine keepsEnded_withBand (fun b v hv => ?_) _ _ _ _ _
    exact keepsEnded_ok ((hv.trans (keepsEnded_bindBand key b v)).trans (keepsEnded_zoneNoted key _ _))
  · exact .refl s

theorem keepsEnded_actClose (key : Nat) (s : State) : KeepsEnded i s (actClose key s).left := by
  have hclosed : KeepsEnded i s (ZRes.ok (closeZone key s)).left := keepsEnded_ok (keepsEnded_of_hostSide (hostSide_closeZone key s))
  unfold actClose
  split
  · exact hclosed
  · exact hclosed
  · exact .refl s
  · exact .refl s

theorem keepsEnded_actFinish (key : Nat) (s : State) : KeepsEnded i s (actFinish key s).left := by
  have hforced : KeepsEnded i s (forceOpen key .finish (makeFull key s)) := keepsEnded_of_hostSide (by simp)
  have hfull : KeepsEnded i s (ZRes.ok (noteDelta key (forceOpen key .finish (makeFull key s)))).left :=
    keepsEnded_ok (hforced.trans (keepsEnded_noteDelta key _))
  unfold actFinish
  split
  · exact keepsEnded_ok (keepsEnded_zoneNoted key _ s)
  · exact hfull
  · exact hfull
  · exact hfull
  · exact .refl s
  · exact .refl s

theorem keepsEnded_resetZone (key : Nat) (s : State) : KeepsEnded i s (resetZone key s) :=
  (keepsEnded_discardZone key s).trans (keepsEnded_zoneNoted key _ _)

theorem keepsEnded_actReset (key : Nat) (s : State) : KeepsEnded i s (actReset key s).left := by
  have hreset : KeepsEnded i s (ZRes.ok (resetZone key s)).left := keepsEnded_ok (keepsEnded_resetZone key s)
  unfold actReset
  split
  · exact hreset
  · exact hreset
  · exact hreset
  · exact hreset
  · exact hreset
  · exact .refl s

theorem keepsEnded_actOffline (key : Nat) (s : State) : KeepsEnded i s (actOffline key s).left := by
  unfold actOffline
  split
  · exact keepsEnded_ok ((keepsEnded_discardZone key s).trans (keepsEnded_zoneNoted key _ _))
  · exact .refl s

theorem keepsEnded_zoneAct (c fn key act : Nat) (ext : List Byte) (fw : Bool) (s : State) : KeepsEnded i s (zoneAct c fn key act ext fw s).left := by
  unfold zoneAct
  split_ifs
  · exact keepsEnded_waitAt key c s
  · exact keepsEnded_actOpen c fn key fw s
  · exact keepsEnded_actClose key s
  · exact keepsEnded_actFinish key s
  · exact keepsEnded_actReset key s
  · exact keepsEnded_actOffline key s
  · exact keepsEnded_actExt c fn key ext fw s
  · exact .refl s

section
variable {c : Nat} (hc : c ≠ i)
include hc

theorem keepsEnded_selectFrom (fn act : Nat) (fw : Bool) (l : List Nat) (s : State) : KeepsEnded i s (selectFrom c fn act fw l s).left := by
  induction l generalizing s with
  | nil => exact .refl s
  | cons key rest ih =>
    unfold selectFrom
    split
    · exact ih s
    have hact := keepsEnded_zoneAct (i := i) c fn key act [] fw s
    split
    · next heq =>
      rw [heq] at hact
      exact (hact.trans (keepsEnded_modCtx_other hc _ _)).trans (ih _)
    · next heq =>
      rw [heq] at hact
      exact (hact.trans (keepsEnded_modCtx_other hc _ _)).trans (ih _)
    · next heq =>
      rw [heq] at hact
      exact hact

theorem keepsEnded_endAct {s : State} {r : ZRes} (h : KeepsEnded i s r.left) (key : Nat) : KeepsEnded i s (endAct c key r) := by
  unfold endAct
  split
  · split
    · split
      · exact h.trans (keepsEnded_zoneDone hc _)
      · exact h.trans (keepsEnded_failAt _ _ _ _ _ _)
    · exact h
  · exact h.trans (keepsEnded_failAt _ _ _ _ _ _)
  · exact h

end

/-- A Zone Management Send whose status is fixed is not tried again. -/
theorem keepsEnded_tryZms (c : Nat) (fw : Bool) (s : State) : KeepsEnded i s (tryZms c fw s) := by
  by_cases hc : c = i
  · subst hc
    exact ⟨(addsNothing_tryZms c fw s).gens, fun x hx hst _ _ => ⟨x, by simp [tryZms, hx, hst], rfl⟩⟩
  unfold tryZms
  split
  · exact .refl s
  split
  · exact .refl s
  split
  · exact keepsEnded_endAct hc (keepsEnded_selectFrom hc _ _ _ _ s) 0
  split
  · exact keepsEnded_failAt _ _ _ _ _ s
  split
  · exact keepsEnded_failAt _ _ _ _ _ s
  · exact keepsEnded_endAct hc (keepsEnded_zoneAct _ _ _ _ _ _ s) _

/-! ### Commands that waited (02_zones.md R64) -/

theorem keepsEnded_tryCmd (c : Nat) (fw : Bool) (s : State) : KeepsEnded i s (tryCmd c fw s) := by
  unfold tryCmd
  split
  · exact .refl s
  split_ifs
  · exact keepsEnded_tryZms c true s
  · exact keepsEnded_tryWrite c fw s
  · exact .refl s

theorem keepsEnded_runWaiting (key : Nat) (s : State) : KeepsEnded i s (runWaiting key s) := by
  unfold runWaiting
  dsimp only
  split
  · exact .refl s
  · exact (keepsEnded_of_hostSide (hostSide_modZone key _ s)).trans (keepsEnded_forEach (fun c t => keepsEnded_tryCmd c false t) _ _)

theorem keepsEnded_runHeld (s : State) : KeepsEnded i s (runHeld s) := keepsEnded_forEach keepsEnded_runWaiting _ s

/-! ### A context squashed (04_tenants.md R134, R135) -/

theorem keepsEnded_leaveZone (c : Nat) (x : Ctx) (s : State) : KeepsEnded i s (leaveZone c x s) := by
  unfold leaveZone
  dsimp only
  split
  · exact keepsEnded_dropKeys c s
  · refine KeepsEnded.trans ?_ (keepsEnded_dropKeys c _)
    exact keepsEnded_of_ce rfl

theorem keepsEnded_failBehind (key : Nat) (cs : List Nat) (s : State) : KeepsEnded i s (failBehind key cs s) := by
  unfold failBehind
  refine keepsEnded_forEach (fun c t => ?_) cs s
  split
  · exact .refl t
  · exact (keepsEnded_leaveZone c _ t).trans (keepsEnded_failAt _ _ _ _ _ _)

theorem keepsEnded_wakeTickets (s : State) : KeepsEnded i s (wakeTickets s) := keepsEnded_forEach (fun c t => keepsEnded_tryWrite c false t) _ s

end

/-! ### A write that fails (02_zones.md R60) -/

section
variable {s t : State} {c : Nat} {x : Ctx}

theorem ctxFresh_of_addsNothing (h : AddsNothing s t) (x : Ctx) : ctxFresh t x = ctxFresh s x := by rw [ctxFresh, ctxFresh, h.gens]

/-- A command whose status is fixed has it after what keeps outcomes. -/
theorem KeepsEnded.still_ended (h : KeepsEnded c s t) (hx : ctxOf s c = some x) (hst : x.st = .completed) (htun : x.tunnel = false)
    (hfresh : ctxFresh s x = true) : Safety.Ended t c x.status x.dw0 := by
  obtain ⟨y, hy, hout⟩ := h.ended x hx hst htun hfresh
  have hyst : y.st = x.st := congrArg (fun p => p.2.2.2.1) hout
  have hystatus : y.status = x.status := congrArg (fun p => p.2.2.2.2.1) hout
  have hydw0 : y.dw0 = x.dw0 := congrArg (fun p => p.2.2.2.2.2) hout
  exact ⟨y, hy, hyst.trans hst, hystatus, hydw0⟩

/-- A context that has failed. -/
def failedCtx (st : Status) (cause : Nat) (zone lba : Option Nat) (x : Ctx) : Ctx :=
  withStatus st 0 0 { x with cause := cause, errZone := zone, errLba := lba }

theorem ctxOf_failAt (hc : ctxOf s c = some x) (htun : x.tunnel = false) (hfresh : ctxFresh s x = true) (hst : x.st ≠ .completed) (st : Status)
    (cause : Nat) (zone lba : Option Nat) : ctxOf (failAt c st cause zone lba s) c = some (failedCtx st cause zone lba x) := by
  have hnoted : ctxOf (modCtx c (fun x => { x with cause := cause, errZone := zone, errLba := lba }) s) c =
      some { x with cause := cause, errZone := zone, errLba := lba } := by rw [ctxOf_modCtx_same, hc, Option.map_some]
  rw [failAt, complete_of_fresh hnoted htun hfresh hst]
  exact ctxOf_freezeQueue_of_completed (by rw [ctxOf_modCtx_same, hnoted]; rfl) rfl

theorem ctxOf_leaveZone (hc : ctxOf s c = some x) : ctxOf (leaveZone c x s) c = some { x with keys := [] } := by
  unfold leaveZone
  dsimp only
  split
  · exact (ctxOf_dropKeys hc).1
  · exact (ctxOf_dropKeys (by exact hc)).1

theorem keepsEnded_of_failed (key : Nat) (cs : List Nat) (s : State) :
    KeepsEnded c s (wakeTickets (runHeld (runWaiting key (drainStopped key (failBehind key cs s))))) :=
  ((((keepsEnded_failBehind key cs s).trans (keepsEnded_of_hostSide (hostSide_drainStopped key _))).trans (keepsEnded_runWaiting key _)).trans
    (keepsEnded_runHeld _)).trans (keepsEnded_wakeTickets _)

/-- A write that fails ends with the failure's status, whatever goes on after it. -/
theorem failWrite_ended (hc : ctxOf s c = some x) (htun : x.tunnel = false) (hfresh : ctxFresh s x = true) (hst : x.st ≠ .completed) (st : Status)
    (cause : Nat) : Safety.Ended (failWrite c st cause s) c st 0 := by
  have hleft := ctxOf_leaveZone hc
  have hadds := addsNothing_leaveZone c x s
  have hleftFresh : ctxFresh (leaveZone c x s) { x with keys := [] } = true := (ctxFresh_of_addsNothing hadds _).trans hfresh
  by_cases hval : x.validated = true
  · rw [failWrite_of_validated hc hval]
    let v := modZone (zKey x.nsid x.zone) (fun z => { z with vp := x.first + x.applied }) (leaveZone c x s)
    have hfailed : ctxOf (failAt c st cause (some x.zone) (some (ctxLba x)) v) c =
        some (failedCtx st cause (some x.zone) (some (ctxLba x)) { x with keys := [] }) := ctxOf_failAt (s := v) hleft htun hleftFresh hst st cause _ _
    have hfailedFresh : ctxFresh (failAt c st cause (some x.zone) (some (ctxLba x)) v)
        (failedCtx st cause (some x.zone) (some (ctxLba x)) { x with keys := [] }) = true :=
      (ctxFresh_of_addsNothing (addsNothing_failAt c st cause _ _ v) _).trans hleftFresh
    exact (keepsEnded_of_failed _ _ _).still_ended hfailed rfl htun hfailedFresh
  · have hfail : failWrite c st cause s = failAt c st cause none none (leaveZone c x s) := by simp [failWrite, failWriteWith, hc, hval]
    rw [hfail]
    exact ⟨_, ctxOf_failAt hleft htun hleftFresh hst st cause none none, rfl, rfl, rfl⟩

/-- A Peer Copy that fails ends with the failure's status. -/
theorem failRead_peerCopy_ended (hc : ctxOf s c = some x) (hopc : x.e.opc = 0x85) (htun : x.tunnel = false) (hfresh : ctxFresh s x = true)
    (hst : x.st ≠ .completed) (st : Status) (cause margin : Nat) (zone lba : Option Nat) :
    Safety.Ended (failRead c st cause margin zone lba s) c st 0 := by
  have hce : (cancelTags (jobTags s c) s).ce = s.ce := ce_of_hostSide (hostSide_cancelTags _ s)
  have hfail : failRead c st cause margin zone lba s = failWrite c st cause (cancelTags (jobTags s c) s) := by
    simp [failRead, hc, hopc, isWriteOpc]
  rw [hfail]
  exact failWrite_ended ((ctxOf_of_ce hce c).trans hc) htun (by rwa [ctxFresh, fnOf_of_ce hce]) hst st cause

end

end Sys2Proof.Machine

/-! PROOFS. What the messages of a Peer Copy do at the node that issued it (11_balwen.md R340 to R342). -/

namespace Sys2Proof.Machine

section
variable {s : State} {n c : Nat} {f : BFrame} {x : Ctx} {w : Session}

/-- A Peer Copy waits for chunks of the node that a frame comes from. -/
structure AwaitsChunks (s : State) (c : Nat) (f : BFrame) (x : Ctx) : Prop where
  ctx : ctxOf s c = some x
  opc : x.e.opc = 0x85
  io : ioCtx ≤ c
  started : x.started = true
  running : x.st = .started ∨ x.st = .committed
  chunks : x.chunks ≠ 0
  node : pcNode x.e = f.src

theorem AwaitsChunks.of_onWire {u : State} (h : AwaitsChunks s c f x) (hu : OnWire s u) : AwaitsChunks u c f x :=
  { h with ctx := (ctxOf_of_onWire hu c).trans h.ctx }

/-- What a source's message does for a Peer Copy that waits for chunks of the source. -/
theorem onPeerCopy_of_running (hx : AwaitsChunks s c f x) (act : Ctx → State → State) :
    onPeerCopy c f act s = act x s := by
  obtain ⟨hc, hopc, hio, hstarted, hst, hchunks, hnode⟩ := hx
  rcases hst with hst | hst <;> simp [onPeerCopy, hc, hopc, hio, hstarted, hst, hchunks, hnode]

/-! ### COPY_DATA -/

/-- A Peer Copy with one LBA more of its source. -/
def withBlock (block : Block) (x : Ctx) : Ctx := { x with got := tset x.got.length (bytesAt block 0 4096) x.got }

theorem copyData_brings {block : Block} (h : Safety.Expected s n tCopyData f w) (hx : AwaitsChunks s c f x)
    (hasked : x.got.length < x.asked) : ∃ t, exec (.copyData n f c block) s = .next t ∧
      (∃ y, ctxOf t c = some y ∧ tfind y.got x.got.length = some (bytesAt block 0 4096) ∧ (ctxFresh s x = true → y.arrived = gotPrefix y)) ∧
      (∀ d, d ≠ c → ctxOf t d = ctxOf s d) ∧ t.ze = s.ze ∧ t.gr = s.gr := by
  obtain ⟨u, hu, hexec⟩ := exec_of_expected (i := .copyData n f c block) rfl h rfl
  have hxu := hx.of_onWire hu
  have hfresh : ctxFresh u x = ctxFresh s x := ctxFresh_of_fnOf (fnOf_of_ce (ce_of_onWire hu) x.fn)
  rw [onPeerCopy_of_running hxu] at hexec
  simp only [not_le.2 hasked, if_false, hfresh] at hexec
  have hgot : ctxOf (modCtx c (withBlock block) u) c = some (withBlock block x) := by rw [ctxOf_modCtx_same, hxu.ctx, Option.map_some]
  have hother (d : Nat) (hd : d ≠ c) : ctxOf (modCtx c (withBlock block) u) d = ctxOf s d := by rw [ctxOf_modCtx_other hd, ctxOf_of_onWire hu]
  by_cases hf : ctxFresh s x = true
  · have hact : exec (.copyData n f c block) s = .next (noteArrived c (modCtx c (withBlock block) u)) := by rw [hf] at hexec; exact hexec
    refine ⟨_, hact, ⟨{ withBlock block x with arrived := gotPrefix (withBlock block x) }, ?_, tfind_tset_same _ _ _, fun _ => rfl⟩,
      fun d hd => ?_, (ze_of_onWire hu :), (gr_of_onWire hu :)⟩
    · rw [noteArrived, ctxOf_modCtx_same, hgot, Option.map_some]
    · rw [noteArrived, ctxOf_modCtx_other hd, hother d hd]
  · have hact : exec (.copyData n f c block) s = .next (modCtx c (withBlock block) u) := by rw [Bool.eq_false_of_not_eq_true hf] at hexec; exact hexec
    exact ⟨_, hact, ⟨_, hgot, tfind_tset_same _ _ _, fun hft => absurd hft hf⟩, hother, (ze_of_onWire hu :), (gr_of_onWire hu :)⟩

/-- Data that was not asked for is left. -/
theorem copyData_of_unasked {block : Block} (h : Safety.Expected s n tCopyData f w) (hx : AwaitsChunks s c f x)
    (hasked : x.asked ≤ x.got.length) : ∃ t, exec (.copyData n f c block) s = .next t ∧ t.ce = s.ce ∧ t.ze = s.ze := by
  obtain ⟨u, hu, hexec⟩ := exec_of_expected (i := .copyData n f c block) rfl h rfl
  rw [onPeerCopy_of_running (hx.of_onWire hu)] at hexec
  simp only [hasked, if_true] at hexec
  exact ⟨u, hexec, ce_of_onWire hu, ze_of_onWire hu⟩

/-! ### COPY_END -/

/-- A Peer Copy with one chunk less outstanding. -/
def chunkLess (x : Ctx) : Ctx := { x with chunks := x.chunks - 1 }

/-- Nothing more is asked for of a Peer Copy that has asked for all its LBAs. -/
theorem askChunks_of_all (hc : ctxOf s c = some x) (hall : eNlb x.e ≤ x.asked) (fuel : Nat) : askChunks c fuel s = s := by
  cases fuel with
  | zero => rfl
  | succ fuel => simp [askChunks, hc, hall]

/-- The frame received, and the chunk it ends noted. -/
theorem exec_copyEnd (h : Safety.Expected s n tCopyEnd f w) (hx : AwaitsChunks s c f x) (st : Status) :
    ∃ u, OnWire s u ∧ ctxOf (modCtx c chunkLess u) c = some (chunkLess x) ∧ exec (.copyEnd n f c st) s =
      .next (if st = stOk then askChunks c 4 (modCtx c chunkLess u) else failRead c st (causeOf st) 0 none none (modCtx c chunkLess u)) := by
  obtain ⟨u, hu, hexec⟩ := exec_of_expected (i := .copyEnd n f c st) rfl h rfl
  have hxu := hx.of_onWire hu
  rw [onPeerCopy_of_running hxu] at hexec
  exact ⟨u, hu, by rw [ctxOf_modCtx_same, hxu.ctx, Option.map_some], hexec⟩

theorem copyEnd_ends_chunk (h : Safety.Expected s n tCopyEnd f w) (hx : AwaitsChunks s c f x)
    (hall : eNlb x.e ≤ x.asked) :
    ∃ t, exec (.copyEnd n f c stOk) s = .next t ∧ (∃ y, ctxOf t c = some y ∧ y.chunks = x.chunks - 1 ∧ y.st = x.st) ∧
      (∀ d, d ≠ c → ctxOf t d = ctxOf s d) ∧ t.ze = s.ze := by
  obtain ⟨u, hu, hless, hexec⟩ := exec_copyEnd h hx stOk
  rw [if_pos rfl, askChunks_of_all hless hall] at hexec
  exact ⟨_, hexec, ⟨_, hless, rfl, rfl⟩, fun d hd => by rw [ctxOf_modCtx_other hd, ctxOf_of_onWire hu], (ze_of_onWire hu :)⟩

theorem copyEnd_fails (h : Safety.Expected s n tCopyEnd f w) (hx : AwaitsChunks s c f x) {st : Status}
    (hbad : st ≠ stOk) (hfresh : ctxFresh s x = true) (htun : x.tunnel = false) :
    ∃ t, exec (.copyEnd n f c st) s = .next t ∧ Safety.Ended t c st 0 := by
  obtain ⟨u, hu, hless, hexec⟩ := exec_copyEnd h hx st
  rw [if_neg hbad] at hexec
  have hlessFresh : ctxFresh (modCtx c chunkLess u) (chunkLess x) = true :=
    (ctxFresh_of_fnOf (x := x) (fnOf_of_ce (ce_of_onWire hu) x.fn)).trans hfresh
  refine ⟨_, hexec, failRead_peerCopy_ended hless hx.opc htun hlessFresh ?_ st _ _ _ _⟩
  rcases hx.running with hst | hst <;> simp [chunkLess, hst]

end

end Sys2Proof.Machine

/-! PROOFS. What a source does with the chunks that are asked of it (11_balwen.md R341, R342; 01_architecture.md R18). -/

namespace Sys2Proof.Machine

/-! ### Tables and lists -/

theorem tfind_isSome_of_mem {α : Type} {t : List (Nat × α)} {k : Nat} {v : α} (h : (k, v) ∈ t) : (tfind t k).isSome = true := by
  refine Option.isSome_iff_ne_none.2 fun hnone => ?_
  induction t with
  | nil => cases h
  | cons p r ih =>
    obtain ⟨j, w⟩ := p
    simp only [tfind] at hnone
    split at hnone
    · cases hnone
    · next hj =>
      refine ih ((List.mem_cons.1 h).resolve_left fun he => hj ?_) hnone
      cases he
      rfl

/-- A place that a test does not pass bounds the run of those before it which do. -/
theorem takeWhile_range_le {p : Nat → Bool} {i : Nat} (m : Nat) (hp : p i = false) : ((List.range m).takeWhile p).length ≤ i := by
  by_contra hlt
  have hi : i < ((List.range m).takeWhile p).length := not_le.1 hlt
  have hmem := List.mem_takeWhile_imp (List.getElem_mem hi)
  have heq : ((List.range m).takeWhile p)[i] = i := by
    rw [(List.takeWhile_prefix p).getElem hi, List.getElem_range]
  rw [heq, hp] at hmem
  cases hmem

/-! ### What a command begins to read (01_architecture.md R18) -/

section
variable (s : State) (nsid : Nat) (lbas : List Nat)

/-- The keys captured for the zones that a list of LBAs touches. -/
def readCaps : List (Nat × (Nat × Nat)) :=
  (touched s nsid lbas).map (fun k => (k, ((shapeOf s nsid (zoneOf s k)).keySlot, (captureGen s (shapeOf s nsid (zoneOf s k)).keySlot).getD 0)))

/-- Where the data of an LBA is; none where it reads as zeros. -/
def readRef (l : Nat) : Option SrcRef :=
  match tfind (readCaps s nsid lbas) (lbaKey nsid l) with
  | some q => if lbaOff l < (zoneOf s (lbaKey nsid l)).wp then srcRef s (lbaKey nsid l) (lbaOff l) q.2 else none
  | none => none

/-- The places of a list of LBAs, with where their data is. -/
def readRefs : List (Nat × Option SrcRef) := lbas.mapIdx (fun i l => (i, readRef s nsid lbas l))

/-- The places that read as zeros, with their data. -/
def readZeros : List (Nat × Block) := (readRefs s nsid lbas).filterMap (fun r => if r.2.isNone then some (r.1, zeroBlock) else none)

end

section
variable {s : State} {nsid i l : Nat} {lbas : List Nat}

theorem mem_readRefs {r : Option SrcRef} : (i, r) ∈ readRefs s nsid lbas ↔ ∃ l, lbas[i]? = some l ∧ r = readRef s nsid lbas l := by
  simp only [readRefs, List.mem_mapIdx, Prod.mk.injEq]
  constructor
  · rintro ⟨j, hj, rfl, rfl⟩
    exact ⟨lbas[j], List.getElem?_eq_getElem hj, rfl⟩
  · rintro ⟨l, hl, rfl⟩
    obtain ⟨hi, rfl⟩ := List.getElem?_eq_some_iff.1 hl
    exact ⟨i, hi, rfl, rfl⟩

/-- A place with data is not among the zeros. -/
theorem tfind_readZeros_of_data (hl : lbas[i]? = some l) (hdata : (readRef s nsid lbas l).isSome = true) :
    tfind (readZeros s nsid lbas) i = none := by
  refine tfind_eq_none_of_forall_ne fun p hp hpi => ?_
  obtain ⟨⟨j, r⟩, hmem, hr⟩ := List.mem_filterMap.1 hp
  obtain ⟨m, hm, rfl⟩ := mem_readRefs.1 hmem
  by_cases hnone : (readRef s nsid lbas m).isNone = true
  · simp only [hnone, if_true, Option.some.injEq] at hr
    subst hr
    obtain rfl : j = i := hpi
    obtain rfl : m = l := by rw [hl] at hm; exact (Option.some.inj hm).symm
    simp [Option.isNone_iff_eq_none.1 hnone] at hdata
  · simp [hnone] at hr

/-- A place without data is. -/
theorem tfind_readZeros_of_none (hl : lbas[i]? = some l) (hnone : readRef s nsid lbas l = none) : (tfind (readZeros s nsid lbas) i).isSome = true :=
  tfind_isSome_of_mem (v := zeroBlock) (List.mem_filterMap.2 ⟨(i, readRef s nsid lbas l), mem_readRefs.2 ⟨l, hl, rfl⟩, by rw [hnone]; rfl⟩)

/-- Where the list touches no zone's data, all of it reads as zeros. -/
theorem readRef_of_untouched (h : touched s nsid lbas = []) (l : Nat) : readRef s nsid lbas l = none := by simp [readRef, readCaps, h]

theorem mem_touched {k : Nat} : k ∈ touched s nsid lbas ↔ ∃ l, l ∈ lbas ∧ lbaOff l < (zoneOf s (lbaKey nsid l)).wp ∧ lbaKey nsid l = k := by
  simp only [touched, List.mem_eraseDups, List.mem_filterMap]
  refine exists_congr fun l => and_congr_right fun _ => ?_
  split <;> simp [*]

/-- An LBA below its zone's write pointer has its data where the zone has it. -/
theorem readRef_of_data (hl : l ∈ lbas) (hwp : lbaOff l < (zoneOf s (lbaKey nsid l)).wp)
    (hsrc : ∀ g, (srcRef s (lbaKey nsid l) (lbaOff l) g).isSome = true) : (readRef s nsid lbas l).isSome = true := by
  have hcap : (tfind (readCaps s nsid lbas) (lbaKey nsid l)).isSome = true :=
    tfind_isSome_of_mem (List.mem_map.2 ⟨_, mem_touched.2 ⟨l, hl, hwp, rfl⟩, rfl⟩)
  obtain ⟨q, hq⟩ := Option.isSome_iff_exists.1 hcap
  simp only [readRef, hq, hwp, if_true, hsrc]

end

/-- A command that begins to read: it is started, has the zeros, and has still to read what has data. -/
structure BeginsRead (s : State) (nsid : Nat) (lbas : List Nat) (x y : Ctx) : Prop where
  same : y.e = x.e ∧ y.st = x.st ∧ y.arrived = x.arrived
  started : y.started = true
  got : y.got = readZeros s nsid lbas
  todo : ∀ i r, (i, some r) ∈ readRefs s nsid lbas → i ∈ y.todo

section
variable {s t : State} {c : Nat} {x y : Ctx}

/-- Where no zone is Offline and every key can be captured, the reading begins. -/
theorem beginRead_of_ready (hc : ctxOf s c = some x) (hon : ∀ l, l ∈ srcLbas x.e → (zoneOf s (lbaKey (srcNsid x.e) l)).st ≠ .offline)
    (hcap : ∀ k, k ∈ touched s (srcNsid x.e) (srcLbas x.e) → (captureGen s (shapeOf s (srcNsid x.e) (zoneOf s k)).keySlot).isSome = true) :
    linkless (beginRead c x s) = linkless s ∧ SameRoutes s (beginRead c x s) ∧
      ∃ y, ctxOf (beginRead c x s) c = some y ∧ BeginsRead s (srcNsid x.e) (srcLbas x.e) x y := by
  have hoffline : (srcLbas x.e).find? (fun l => (zoneOf s (lbaKey (srcNsid x.e) l)).st == .offline) = none :=
    List.find?_eq_none.2 fun l hl => by simpa using hon l hl
  have hkeys : ((touched s (srcNsid x.e) (srcLbas x.e)).map (fun k => (k, (shapeOf s (srcNsid x.e) (zoneOf s k)).keySlot))).find?
      (fun z => (captureGen s z.2).isNone) = none := by
    refine List.find?_eq_none.2 fun z hz => ?_
    obtain ⟨k, hk, rfl⟩ := List.mem_map.1 hz
    simpa using Option.isSome_iff_ne_none.1 (hcap k hk)
  obtain ⟨g, h, hbegin, hg⟩ : ∃ g h, beginRead c x s = onHist (srcNsid x.e) h (modCtx c g s) ∧
      ∀ z, BeginsRead s (srcNsid x.e) (srcLbas x.e) z (g z) := by
    have hcaps : (((touched s (srcNsid x.e) (srcLbas x.e)).map (fun k => (k, (shapeOf s (srcNsid x.e) (zoneOf s k)).keySlot))).map
        (fun z => (z.1, (z.2, (captureGen s z.2).getD 0)))) = readCaps s (srcNsid x.e) (srcLbas x.e) := List.map_map
    unfold beginRead
    dsimp only
    rw [hoffline]
    dsimp only
    rw [hkeys]
    dsimp only
    rw [hcaps]
    refine ⟨_, _, rfl, fun z => ⟨⟨rfl, rfl, rfl⟩, rfl, rfl, fun i r hr => ?_⟩⟩
    refine List.mem_map.2 ⟨(i, r), List.mem_append_left _ (List.mem_filterMap.2 ⟨(i, some r), hr, rfl⟩), rfl⟩
  rw [hbegin]
  exact ⟨rfl, sameRoutes_of_pb rfl rfl rfl, g x, by
    show ctxOf (modCtx c g s) c = _
    rw [ctxOf_modCtx_same, hc, Option.map_some], hg x⟩

end

/-! ### A chunk that ends -/

section
variable {s : State} {c n : Nat} {x : Ctx}

theorem linkless_endChunk (c : Nat) (st : Status) (s : State) : linkless (endChunk c st s) = linkless s := by
  unfold endChunk
  split
  · rfl
  · exact (linkless_sendFrame _ _).trans (linkless_of_pb (keepsLinks_endRead c s).pb)

/-- A chunk's end frees its context, and COPY_END with its status goes to the node that asked. -/
theorem endChunk_ends (hc : ctxOf s c = some x) (hd : Direct s x.e.cdw13 n) (st : Status) :
    Safety.Sends (endChunk c st s) n tCopyEnd [x.e.cdw14, st.sct, st.sc] ∧ ctxOf (endChunk c st s) c = none := by
  have hend : endChunk c st s =
      (sendMsg tCopyEnd x.e.cdw13 0 [x.e.cdw14, st.sct, st.sc] [] (onCe (fun e => { e with ctxs := tdel c e.ctxs }) (endRead c s))).1 := by
    simp only [endChunk, hc]
  have hdirect : Direct (onCe (fun e => { e with ctxs := tdel c e.ctxs }) (endRead c s)) x.e.cdw13 n :=
    (hd.of_sameRoutes (keepsLinks_endRead c s).sameRoutes).of_sameRoutes (sameRoutes_of_pb rfl rfl rfl)
  rw [hend]
  exact ⟨sends_sendMsg hdirect _ _ _ _, (ctxOf_of_ce (ce_sendMsg _ _ _ _ _ _) c).trans (tfind_tdel_same c _)⟩

theorem failRead_of_chunk (hc : ctxOf s c = some x) (hopc : x.e.opc = chunkOpc) (st : Status) (cause margin : Nat) (zone lba : Option Nat) :
    failRead c st cause margin zone lba s = endChunk c st s := by
  have hwrite : isWriteOpc chunkOpc = false := by decide
  simp only [failRead, hc, hopc, hwrite, Bool.false_eq_true, if_false, if_true]

/-- A chunk with an LBA of an Offline zone ends with that. -/
theorem beginRead_of_offline (hc : ctxOf s c = some x) (hopc : x.e.opc = chunkOpc)
    (hoff : ∃ l, l ∈ srcLbas x.e ∧ (zoneOf s (lbaKey (srcNsid x.e) l)).st = .offline) : beginRead c x s = endChunk c stOffline s := by
  obtain ⟨l, hl, hst⟩ := hoff
  obtain ⟨m, hm⟩ : ∃ m, (srcLbas x.e).find? (fun l => (zoneOf s (lbaKey (srcNsid x.e) l)).st == .offline) = some m :=
    Option.isSome_iff_exists.1 (List.find?_isSome.2 ⟨l, hl, by simp [hst]⟩)
  unfold beginRead
  dsimp only
  rw [hm]
  exact failRead_of_chunk hc hopc _ _ _ _ _

theorem linkless_beginRead (hc : ctxOf s c = some x) (hopc : x.e.opc = chunkOpc) : linkless (beginRead c x s) = linkless s := by
  have hfail (st : Status) (cause margin : Nat) (zone lba : Option Nat) : linkless (failRead c st cause margin zone lba s) = linkless s := by
    rw [failRead_of_chunk hc hopc, linkless_endChunk]
  unfold beginRead
  dsimp only
  split
  · exact hfail _ _ _ _ _
  split
  · exact hfail _ _ _ _ _
  · rfl

/-! ### COPY_DATA and COPY_END of a chunk -/

theorem linkless_sendLbas (c : Nat) (x : Ctx) (k : Nat) : ∀ i s, linkless (sendLbas c x k i s) = linkless s := by
  induction k with
  | zero => exact fun i s => rfl
  | succ k ih =>
    intro i s
    have hsend := linkless_sendFrame { typ := tCopyData, dst := x.e.cdw13, len := 4096, msg := [x.e.cdw14, eSlba x.e + i], block := tget zeroBlock x.got i } s
    unfold sendLbas
    split
    · next t ht => exact (ih _ _).trans ((congrArg (fun p => linkless p.1) ht).symm.trans hsend)
    · next t ht => exact (congrArg (fun p => linkless p.1) ht).symm.trans hsend

theorem linkless_sendChunk (c : Nat) (s : State) : linkless (sendChunk c s) = linkless s := by
  unfold sendChunk
  split
  · rfl
  · exact (onlyIf_keeps linkless _ _ _ (linkless_endChunk c stOk)).trans (linkless_sendLbas c _ _ _ s)

/-- Sending moves the mark of what has gone no further than the LBAs it is given. -/
theorem ctxOf_sendLbas (x : Ctx) (k : Nat) : ∀ (i : Nat) (s : State) (y : Ctx), ctxOf s c = some y →
    ∃ a, ctxOf (sendLbas c x k i s) c = some { y with arrived := a } ∧ (a = y.arrived ∨ a ≤ i + k) := by
  induction k with
  | zero => exact fun i s y hy => ⟨y.arrived, hy, .inl rfl⟩
  | succ k ih =>
    intro i s y hy
    have hce := ce_sendMsg tCopyData x.e.cdw13 4096 [x.e.cdw14, eSlba x.e + i] (tget zeroBlock x.got i) s
    unfold sendLbas
    split
    · next t ht =>
      rw [ht] at hce
      obtain ⟨a, ha, hle⟩ := ih (i + 1) (modCtx c (fun y => { y with arrived := i + 1 }) t) { y with arrived := i + 1 }
        (by rw [ctxOf_modCtx_same, ctxOf_of_ce hce, hy, Option.map_some])
      exact ⟨a, ha, .inr (hle.elim (fun h => by rw [show a = i + 1 from h]; omega) (fun h => by omega))⟩
    · next t ht =>
      rw [ht] at hce
      exact ⟨y.arrived, (ctxOf_of_ce hce c).trans hy, .inl rfl⟩

/-- Over a direct link's session all of them go. -/
theorem sendLbas_of_direct (x : Ctx) (k : Nat) : ∀ (i : Nat) (s : State) (y : Ctx), ctxOf s c = some y → Direct s x.e.cdw13 n →
    Direct (sendLbas c x k i s) x.e.cdw13 n ∧ ctxOf (sendLbas c x k i s) c = some { y with arrived := if k = 0 then y.arrived else i + k } := by
  induction k with
  | zero => exact fun i s y hy hd => ⟨hd, hy⟩
  | succ k ih =>
    intro i s y hy hd
    obtain ⟨f, hsend, -⟩ := sendMsg_of_direct hd tCopyData 4096 [x.e.cdw14, eSlba x.e + i] (tget zeroBlock x.got i)
    have hce := ce_sendMsg tCopyData x.e.cdw13 4096 [x.e.cdw14, eSlba x.e + i] (tget zeroBlock x.got i) s
    have hwire := onWire_sendMsg hd tCopyData 4096 [x.e.cdw14, eSlba x.e + i] (tget zeroBlock x.got i)
    rw [hsend] at hce hwire
    have hmarked := ih (i + 1) (modCtx c (fun y => { y with arrived := i + 1 }) (sessSend n (sessKey n 0) f s)) { y with arrived := i + 1 }
      (by rw [ctxOf_modCtx_same, ctxOf_of_ce hce, hy, Option.map_some])
      (hd.of_sameRoutes (hwire.sameRoutes.trans (sameRoutes_of_pb rfl rfl rfl)))
    simp only [sendLbas, hsend]
    refine ⟨hmarked.1, hmarked.2.trans ?_⟩
    split <;> simp [*]
    omega

/-- A chunk some LBA of which is still to be read goes on. -/
theorem sendChunk_of_unread {i : Nat} (hc : ctxOf s c = some x) (hi : i < eNlb x.e) (hgot : tfind x.got i = none) (harr : x.arrived = 0) :
    ∃ a, ctxOf (sendChunk c s) c = some { x with arrived := a } := by
  have hle : ((List.range (eNlb x.e)).takeWhile (fun j => (tfind x.got j).isSome)).length ≤ i := takeWhile_range_le _ (by rw [hgot]; rfl)
  obtain ⟨a, ha, hbound⟩ := ctxOf_sendLbas (c := c) x
    (((List.range (eNlb x.e)).takeWhile (fun j => (tfind x.got j).isSome)).length - x.arrived) x.arrived s x hc
  have hshort : (a == eNlb x.e) = false := beq_eq_false_iff_ne.2 (by omega)
  refine ⟨a, ?_⟩
  simp only [sendChunk, hc]
  rw [ha]
  simpa only [Option.any_some, hshort, onlyIf_false] using ha

/-- A chunk that has all its LBAs is sent whole, and ends with success. -/
theorem sendChunk_of_read (hc : ctxOf s c = some x) (hd : Direct s x.e.cdw13 n) (hall : ∀ i, i < eNlb x.e → (tfind x.got i).isSome = true)
    (harr : x.arrived = 0) : Safety.Sends (sendChunk c s) n tCopyEnd [x.e.cdw14, 0, 0] ∧ ctxOf (sendChunk c s) c = none := by
  have hlen : ((List.range (eNlb x.e)).takeWhile (fun j => (tfind x.got j).isSome)).length = eNlb x.e := by
    rw [List.takeWhile_eq_self_iff.2 (fun i hi => hall i (List.mem_range.1 hi)), List.length_range]
  have hpos : eNlb x.e ≠ 0 := by simp [eNlb]
  obtain ⟨hdirect, hsent⟩ := sendLbas_of_direct (c := c) x (eNlb x.e) 0 s x hc hd
  rw [if_neg hpos, Nat.zero_add] at hsent
  have hend : sendChunk c s = endChunk c stOk (sendLbas c x (eNlb x.e) 0 s) := by
    simp only [sendChunk, hc, hlen, harr, Nat.sub_zero]
    rw [hsent]
    simp
  rw [hend]
  exact endChunk_ends (x := { x with arrived := eNlb x.e }) hsent hdirect stOk

end

end Sys2Proof.Machine

/-! PROOFS. What the messages of mirroring and of Peer Copy do, settled (10_granary.md R307 to R309; 11_balwen.md R333 to R337, R340 to R342). -/

namespace Sys2Proof.Machine

/-! ### Chunks served (11_balwen.md R342) -/

/-- The context that reads a chunk, as its service begins. -/
def chunkStarted (q : ChunkReq) : Ctx := { fn := chunkFn, sqid := 1, st := .started, e := chunkEntry q, via := [q.via] }

/-- A chunk taken from those that wait, into a context of its own. -/
def chunkTaken (q : ChunkReq) (c : Nat) (s : State) : State :=
  s |> onPb (fun p => { p with chunks := p.chunks.erase q }) |> onCe (fun e => { e with ctxs := tset c (chunkStarted q) e.ctxs })

/-- A chunk that waits behind the others. -/
def chunkQueued (q : ChunkReq) (s : State) : State := onPb (fun p => { p with chunks := p.chunks ++ [q] }) s

section
variable {s u : State} {q : ChunkReq}

theorem ctxOf_chunkTaken (q : ChunkReq) (c : Nat) (s : State) : ctxOf (chunkTaken q c s) c = some (chunkStarted q) := tfind_tset_same _ _ _

theorem startChunk_of_free (hfree : ctxOf s chunkCtx = none) :
    startChunk q s = sendChunk chunkCtx (beginRead chunkCtx (chunkStarted q) (chunkTaken q chunkCtx s)) := by
  have hfind : ((List.range 64).map (fun i => chunkCtx + i)).find? (fun c => (ctxOf s c).isNone) = some chunkCtx := by
    rw [List.range_succ_eq_map, List.map_cons]
    exact List.find?_cons_of_pos (by simp [hfree])
  unfold startChunk
  rw [hfind]
  rfl

/-- A chunk that waits alone is served where its zones' indexes stand and fewer than 64 are. -/
theorem serveChunks_of_one (hq : s.pb.chunks = [q]) (hlive : (chunkLive s).length < 64)
    (hlost : indexLost s q.nsid ((List.range q.n).map (fun i => q.slba + i)) = false) : serveChunks s = startChunk q s := by
  simp [serveChunks, hq, forEach_cons, forEach_nil, hlive, hlost]

/-- Behind 64 that are served no other is begun. -/
theorem serveChunks_of_busy (hlive : 64 ≤ (chunkLive s).length) : serveChunks s = s := by
  refine forEach_inv (P := fun t => t = s) (fun q t ht => ?_) _ s rfl
  subst ht
  simp [Nat.not_lt.2 hlive]

/-- A chunk begun leaves those that wait. -/
theorem chunks_startChunk (q : ChunkReq) (s : State) : ∀ p, p ∈ (startChunk q s).pb.chunks → p ∈ s.pb.chunks := by
  unfold startChunk
  split
  · exact fun p hp => hp
  · next c _ =>
    have hrest : linkless (sendChunk c (beginRead c (chunkStarted q) (chunkTaken q c s))) = linkless (chunkTaken q c s) :=
      (linkless_sendChunk c _).trans (linkless_beginRead (ctxOf_chunkTaken q c s) rfl)
    exact fun p hp => List.mem_of_mem_erase (((chunks_of_linkless hrest :) ▸ hp :))

theorem chunks_serveChunks (s : State) : ∀ p, p ∈ (serveChunks s).pb.chunks → p ∈ s.pb.chunks := by
  refine forEach_inv (P := fun t => ∀ p, p ∈ t.pb.chunks → p ∈ s.pb.chunks) (fun q t ht => ?_) _ s fun p hp => hp
  split
  · exact fun p hp => ht p (chunks_startChunk q t p hp)
  · exact ht

theorem chunks_dropChunks (gone : Nat → Nat → Nat → Bool) (s : State) :
    (dropChunks gone s).pb.chunks = s.pb.chunks.filter (fun q => !gone q.node q.ctx q.via) := by
  have hpb (cs : List Nat) : (forEach cs dropKeys s).pb = s.pb := (keepsLinks_forEach keepsLinks_dropKeys cs s).pb
  rw [dropChunks, onPb_pb, onCe_pb, hpb]

end

/-! ### What a source's zones and keys are asked -/

section
variable {s t : State} (hze : t.ze = s.ze)
include hze

theorem zoneOf_of_ze (k : Nat) : zoneOf t k = zoneOf s k := by rw [zoneOf, zoneOf, hze]
theorem shapeOf_of_ze (nsid : Nat) (z : Zone) : shapeOf t nsid z = shapeOf s nsid z := by simp only [shapeOf, nsOf, hze]
theorem touched_of_ze (nsid : Nat) (lbas : List Nat) : touched t nsid lbas = touched s nsid lbas := by simp only [touched, zoneOf_of_ze hze]
theorem indexLost_of_ze (nsid : Nat) (lbas : List Nat) : indexLost t nsid lbas = indexLost s nsid lbas := by simp only [indexLost, zoneOf_of_ze hze]
theorem srcRef_of_ze (key off gen : Nat) : srcRef t key off gen = srcRef s key off gen := by
  simp only [srcRef, frameRef, placeAad, zoneBgen, bandOf, zoneOf_of_ze hze, shapeOf_of_ze hze, hze]

end

theorem captureGen_of_ci {s t : State} (hci : t.ci = s.ci) (k : Nat) : captureGen t k = captureGen s k := by
  rw [captureGen, captureGen, slotOf_of_ci hci]

/-! ### COPY_REQ (11_balwen.md R341, R342) -/

/-- The chunk that a COPY_REQ on a direct link asks for. -/
def chunkAsked (n : Nat) (f : BFrame) (ctx nsid slba cnt : Nat) : ChunkReq :=
  { node := f.src, ctx := ctx, nsid := nsid, slba := slba, n := cnt, via := sessKey n 0 }

/-- The LBAs of a namespace. -/
def sourceLbas (s : State) (nsid : Nat) : Nat := ((nsOf s nsid).map (fun w => w.zones * zoneLbas)).getD 0

/-- The LBAs from one on. -/
def lbasFrom (slba cnt : Nat) : List Nat := (List.range cnt).map (fun i => slba + i)

section
variable {s u : State} (hu : OnWire s u)
include hu

theorem sourceLets_of_onWire (nsid node : Nat) : sourceLets u nsid node = sourceLets s nsid node := by
  rw [sourceLets, nsOf, ze_of_onWire hu]
  simp only [fnOf, ce_of_onWire hu]
  rfl

theorem sourceLbas_of_onWire (nsid : Nat) : sourceLbas u nsid = sourceLbas s nsid := by rw [sourceLbas, sourceLbas, nsOf, nsOf, ze_of_onWire hu]

end

section
variable {s : State} {n ctx nsid slba cnt : Nat} {f : BFrame} {x : Session} (h : Safety.Expected s n tCopyReq f x)
include h

/-- The message received, with what is asked of its namespace as it stood. -/
theorem exec_copyReq : ∃ u, OnWire s u ∧ exec (.copyReq n f nsid slba cnt false ctx) s = .next (
    if !sourceLets s nsid f.src then (sendMsg tCopyEnd f.src 0 [ctx, stGrant.sct, stGrant.sc] [] (raise 402 sevWarning [f.src, nsid] u)).1
    else if sourceLbas s nsid < slba + cnt then (sendMsg tCopyEnd f.src 0 [ctx, stLbaRange.sct, stLbaRange.sc] [] u).1
    else if cnt = 0 then (sendMsg tCopyEnd f.src 0 [ctx, stOk.sct, stOk.sc] [] u).1
    else serveChunks (chunkQueued (chunkAsked n f ctx nsid slba cnt) u)) := by
  obtain ⟨u, hu, hexec⟩ := exec_of_expected (i := .copyReq n f nsid slba cnt false ctx) rfl h rfl
  have hnode : sessNode u n f.src = 0 := by
    obtain ⟨⟨-, -, heth, -⟩, -⟩ := h
    rw [sessNode_of_sameRoutes hu.sameRoutes, sessNode, heth]
    rfl
  refine ⟨u, hu, ?_⟩
  simp only [hnode, Bool.false_eq_true, if_false] at hexec
  rw [← sourceLets_of_onWire hu, ← sourceLbas_of_onWire hu]
  exact hexec

theorem copyReq_refused (hlink : linkTo s f.src = some n) (hlets : sourceLets s nsid f.src = false) :
    ∃ t, exec (.copyReq n f nsid slba cnt false ctx) s = .next t ∧ pending? t 402 = true ∧
      Safety.Sends t n tCopyEnd [ctx, stGrant.sct, stGrant.sc] := by
  obtain ⟨u, hu, hexec⟩ := exec_copyReq (nsid := nsid) (slba := slba) (cnt := cnt) (ctx := ctx) h
  simp only [hlets, Bool.not_false, if_true] at hexec
  have hdirect : Direct (raise 402 sevWarning [f.src, nsid] u) f.src n :=
    ((Direct.of_expected h hlink).of_sameRoutes hu.sameRoutes).of_sameRoutes (keepsLinks_raise (by decide) _ _ u).sameRoutes
  exact ⟨_, hexec, (keepsPending_sendFrame _ _).mono 402 (by decide) (pending?_raise_same (by decide) _ _ u), sends_sendMsg hdirect _ _ _ _⟩

section
variable (hlets : sourceLets s nsid f.src = true)
include hlets

theorem copyReq_past_end (hlink : linkTo s f.src = some n) (hpast : sourceLbas s nsid < slba + cnt) :
    ∃ t, exec (.copyReq n f nsid slba cnt false ctx) s = .next t ∧ Safety.Sends t n tCopyEnd [ctx, stLbaRange.sct, stLbaRange.sc] ∧ t.ce = s.ce := by
  obtain ⟨u, hu, hexec⟩ := exec_copyReq (nsid := nsid) (slba := slba) (cnt := cnt) (ctx := ctx) h
  simp only [hlets, Bool.not_true, Bool.false_eq_true, hpast, if_false, if_true] at hexec
  exact ⟨_, hexec, sends_sendMsg ((Direct.of_expected h hlink).of_sameRoutes hu.sameRoutes) _ _ _ _, (ce_sendMsg _ _ _ _ _ _).trans (ce_of_onWire hu)⟩

section
variable (hin : slba + cnt ≤ sourceLbas s nsid) (hpos : 0 < cnt)
include hin hpos

/-- A chunk that a node may have waits behind the others. -/
theorem copyReq_queued : ∃ u, OnWire s u ∧
    exec (.copyReq n f nsid slba cnt false ctx) s = .next (serveChunks (chunkQueued (chunkAsked n f ctx nsid slba cnt) u)) := by
  obtain ⟨u, hu, hexec⟩ := exec_copyReq (nsid := nsid) (slba := slba) (cnt := cnt) (ctx := ctx) h
  simp only [hlets, Bool.not_true, Bool.false_eq_true, Nat.not_lt.2 hin, hpos.ne', if_false] at hexec
  exact ⟨u, hu, hexec⟩

theorem copyReq_waits (hbusy : 64 ≤ (chunkLive s).length) : ∃ t, exec (.copyReq n f nsid slba cnt false ctx) s = .next t ∧
    t.pb.chunks = s.pb.chunks ++ [chunkAsked n f ctx nsid slba cnt] ∧ t.ce = s.ce := by
  obtain ⟨u, hu, hexec⟩ := copyReq_queued (ctx := ctx) h hlets hin hpos
  have hlive : chunkLive (chunkQueued (chunkAsked n f ctx nsid slba cnt) u) = chunkLive s := by
    rw [chunkLive, chunkLive, ← ce_of_onWire hu]
    rfl
  rw [serveChunks_of_busy (by rw [hlive]; exact hbusy)] at hexec
  exact ⟨_, hexec, by rw [chunkQueued, onPb_pb, chunks_of_onWire hu], (ce_of_onWire hu :)⟩

/-- A chunk that may be served at once is read in a context of its own, in a state whose zones, keys and links are as they were. -/
theorem copyReq_served (hnone : s.pb.chunks = []) (hlive : (chunkLive s).length < 64) (hfree : ctxOf s chunkCtx = none)
    (hlost : indexLost s nsid (lbasFrom slba cnt) = false) : ∃ v, SameRoutes s v ∧ v.ze = s.ze ∧ v.ci = s.ci ∧ v.pb.chunks = [] ∧
      ctxOf v chunkCtx = some (chunkStarted (chunkAsked n f ctx nsid slba cnt)) ∧
      exec (.copyReq n f nsid slba cnt false ctx) s =
        .next (sendChunk chunkCtx (beginRead chunkCtx (chunkStarted (chunkAsked n f ctx nsid slba cnt)) v)) := by
  obtain ⟨u, hu, hexec⟩ := copyReq_queued (ctx := ctx) h hlets hin hpos
  let q := chunkAsked n f ctx nsid slba cnt
  have hchunks : (chunkQueued q u).pb.chunks = [q] := by rw [chunkQueued, onPb_pb, chunks_of_onWire hu, hnone, List.nil_append]
  have hliveu : chunkLive (chunkQueued q u) = chunkLive s := by
    rw [chunkLive, chunkLive, ← ce_of_onWire hu]
    rfl
  have hlostu : indexLost (chunkQueued q u) q.nsid ((List.range q.n).map (fun i => q.slba + i)) = false :=
    (indexLost_of_ze (ze_of_onWire hu :) _ _).trans hlost
  have hfreeu : ctxOf (chunkQueued q u) chunkCtx = none := (ctxOf_of_onWire hu chunkCtx).trans hfree
  rw [serveChunks_of_one hchunks (by rw [hliveu]; exact hlive) hlostu, startChunk_of_free hfreeu] at hexec
  refine ⟨chunkTaken q chunkCtx (chunkQueued q u), hu.sameRoutes.trans (sameRoutes_of_pb rfl rfl rfl), (ze_of_onWire hu :), (ci_of_onWire hu :), ?_,
    ctxOf_chunkTaken q chunkCtx _, hexec⟩
  rw [chunkTaken, onCe_pb, onPb_pb, hchunks, List.erase_cons_head]

end

end

/-- A cancel takes the chunks of its context away. -/
theorem copyReq_cancelled : ∃ t, exec (.copyReq n f nsid slba cnt true ctx) s = .next t ∧
    ∀ p, p ∈ t.pb.chunks → p ∈ s.pb.chunks ∧ ¬ (p.node = f.src ∧ p.ctx = ctx) := by
  obtain ⟨u, hu, hexec⟩ := exec_of_expected (i := .copyReq n f nsid slba cnt true ctx) rfl h rfl
  refine ⟨_, hexec, fun p hp => ?_⟩
  have hmem := chunks_serveChunks _ p hp
  rw [unqueueCopy, onPb_pb, chunks_dropChunks, chunks_of_onWire hu] at hmem
  obtain ⟨hps, hkeep⟩ := List.mem_filter.1 hmem
  exact ⟨hps, fun ⟨hnode, hctx⟩ => by simp [hnode, hctx] at hkeep⟩

end

/-! ### A chunk read (11_balwen.md R342) -/

section
variable {s v : State} {n : Nat} {q : ChunkReq} {slba cnt : Nat} (hv : ctxOf v chunkCtx = some (chunkStarted q))
  (hslba : eSlba (chunkEntry q) = slba) (hcnt : eNlb (chunkEntry q) = cnt)

/-- A chunk's LBAs are read as a Read would read them. -/
theorem srcLbas_chunk (hslba : eSlba (chunkEntry q) = slba) (hcnt : eNlb (chunkEntry q) = cnt) :
    srcLbas (chunkStarted q).e = lbasFrom slba cnt := by
  rw [← hslba, ← hcnt]
  rfl

theorem srcNsid_chunk (q : ChunkReq) : srcNsid (chunkStarted q).e = q.nsid := rfl

theorem mem_lbasFrom {i : Nat} (hi : i < cnt) : (lbasFrom slba cnt)[i]? = some (slba + i) := by
  simp [lbasFrom, hi]

include hv hslba hcnt

theorem chunk_offline (hze : v.ze = s.ze) (hd : Direct v q.node n)
    (hoff : ∃ l, l ∈ lbasFrom slba cnt ∧ (zoneOf s (lbaKey q.nsid l)).st = .offline) :
    Safety.Sends (sendChunk chunkCtx (beginRead chunkCtx (chunkStarted q) v)) n tCopyEnd [q.ctx, stOffline.sct, stOffline.sc] ∧
      ctxOf (sendChunk chunkCtx (beginRead chunkCtx (chunkStarted q) v)) chunkCtx = none := by
  obtain ⟨l, hl, hst⟩ := hoff
  have hbegin : beginRead chunkCtx (chunkStarted q) v = endChunk chunkCtx stOffline v :=
    beginRead_of_offline hv rfl ⟨l, by rwa [srcLbas_chunk hslba hcnt], by rwa [srcNsid_chunk, zoneOf_of_ze hze]⟩
  have hends := endChunk_ends hv hd stOffline
  have hsend : sendChunk chunkCtx (endChunk chunkCtx stOffline v) = endChunk chunkCtx stOffline v := by simp only [sendChunk, hends.2]
  rw [hbegin, hsend]
  exact hends

section
variable (hze : v.ze = s.ze) (hci : v.ci = s.ci) (hon : ∀ l, l ∈ lbasFrom slba cnt → (zoneOf s (lbaKey q.nsid l)).st ≠ .offline)
  (hcap : ∀ k, k ∈ touched s q.nsid (lbasFrom slba cnt) → (captureGen s (shapeOf s q.nsid (zoneOf s k)).keySlot).isSome = true)
include hze hci hon hcap

/-- A chunk whose zones are not Offline and whose keys can be captured begins to be read. -/
theorem chunk_begins : linkless (beginRead chunkCtx (chunkStarted q) v) = linkless v ∧ SameRoutes v (beginRead chunkCtx (chunkStarted q) v) ∧
    ∃ y, ctxOf (beginRead chunkCtx (chunkStarted q) v) chunkCtx = some y ∧ BeginsRead v q.nsid (lbasFrom slba cnt) (chunkStarted q) y := by
  have hbegin := beginRead_of_ready hv (fun l hl => ?_) (fun k hk => ?_)
  · rwa [srcLbas_chunk hslba hcnt] at hbegin
  · rw [srcNsid_chunk, zoneOf_of_ze hze]
    exact hon l (by rwa [srcLbas_chunk hslba hcnt] at hl)
  · rw [srcNsid_chunk, srcLbas_chunk hslba hcnt, touched_of_ze hze] at hk
    rw [srcNsid_chunk, captureGen_of_ci hci, shapeOf_of_ze hze, zoneOf_of_ze hze]
    exact hcap k hk

/-- A chunk with an LBA whose data is to be read goes on in its context. -/
theorem chunk_read_on (hchunks : v.pb.chunks = []) (htouched : touched s q.nsid (lbasFrom slba cnt) ≠ [])
    (hsrc : ∀ l, l ∈ lbasFrom slba cnt → lbaOff l < (zoneOf s (lbaKey q.nsid l)).wp → ∀ g, (srcRef s (lbaKey q.nsid l) (lbaOff l) g).isSome = true) :
    (sendChunk chunkCtx (beginRead chunkCtx (chunkStarted q) v)).pb.chunks = [] ∧
      ∃ y, ctxOf (sendChunk chunkCtx (beginRead chunkCtx (chunkStarted q) v)) chunkCtx = some y ∧ y.e = chunkEntry q ∧ y.st = .started ∧
        y.started = true ∧ y.todo ≠ [] := by
  obtain ⟨hlinkless, -, y, hy, ⟨he, hst, harr⟩, hstarted, hgot, htodo⟩ := chunk_begins hv hslba hcnt hze hci hon hcap
  obtain ⟨k, hk⟩ := List.exists_mem_of_ne_nil _ htouched
  obtain ⟨l, hl, hwp, rfl⟩ := mem_touched.1 hk
  obtain ⟨i, hi⟩ := List.mem_iff_getElem?.1 hl
  have hdata : (readRef v q.nsid (lbasFrom slba cnt) l).isSome = true :=
    readRef_of_data hl (by rwa [zoneOf_of_ze hze]) fun g => by rw [srcRef_of_ze hze]; exact hsrc l hl hwp g
  obtain ⟨r, hr⟩ := Option.isSome_iff_exists.1 hdata
  have hlen : i < eNlb y.e := by
    obtain ⟨hlt, -⟩ := List.getElem?_eq_some_iff.1 hi
    simpa [he, chunkStarted, hcnt, lbasFrom] using hlt
  obtain ⟨a, ha⟩ := sendChunk_of_unread hy hlen (by rw [hgot]; exact tfind_readZeros_of_data hi hdata) (harr.trans rfl)
  refine ⟨?_, _, ha, he, hst, hstarted, List.ne_nil_of_mem (htodo i r (mem_readRefs.2 ⟨l, hi, hr.symm⟩))⟩
  rw [chunks_of_linkless ((linkless_sendChunk _ _).trans hlinkless), hchunks]

/-- A chunk without data is sent as zeros, and ends. -/
theorem chunk_of_zeros (hd : Direct v q.node n) (htouched : touched s q.nsid (lbasFrom slba cnt) = []) :
    Safety.Sends (sendChunk chunkCtx (beginRead chunkCtx (chunkStarted q) v)) n tCopyEnd [q.ctx, 0, 0] ∧
      ctxOf (sendChunk chunkCtx (beginRead chunkCtx (chunkStarted q) v)) chunkCtx = none := by
  obtain ⟨-, hroutes, y, hy, ⟨he, hst, harr⟩, hstarted, hgot, htodo⟩ := chunk_begins hv hslba hcnt hze hci hon hcap
  have hread := sendChunk_of_read hy (n := n) (by rw [he]; exact hd.of_sameRoutes hroutes) (fun i hi => ?_) (harr.trans rfl)
  · rwa [he] at hread
  · rw [he, chunkStarted, hcnt] at hi
    rw [hgot]
    exact tfind_readZeros_of_none (mem_lbasFrom hi) (readRef_of_untouched (by rw [touched_of_ze hze]; exact htouched) _)

end

end

/-- Settles O52, by what each message does in the state that the receipt of its frame leaves. -/
theorem mirrorAndCopyMessagesAct : Obligations.MirrorAndCopyMessagesAct := by
  unfold Obligations.MirrorAndCopyMessagesAct
  refine ⟨fun s n f page x h => ⟨mirrorData_held h, mirrorData_of_no_room h⟩, fun s n f page x h => mirrorState_held h,
    fun s n a f x h => ⟨mirrorAck_taken h, mirrorAck_of_other h⟩, fun s n f offs x o h ho => ⟨?_, mirrorRelease_named h ho⟩,
    fun s n f x h => ⟨fun o => orphanPull_begins h, orphanPull_of_none h⟩, fun s n f page x h => ?_, fun s n ctx nsid slba cnt f x q h hlink hq => ?_,
    fun s n c f block x w h hc hopc hio hstarted hst hchunks hnode => ?_, fun s n c f x w h hc hopc hio hstarted hst hchunks hnode => ?_⟩
  · rintro rfl
    exact mirrorRelease_all h ho
  · obtain ⟨t, ht, hce, hgr⟩ := orphanData_received h page
    refine ⟨fun hstart hsent hrec hdone hsrc => ⟨t, ht, ?_, hce⟩, fun hno => ⟨t, ht, ?_, hce⟩⟩
    · simpa [hstart, hsent, hrec, hdone, hsrc] using hgr
    · rcases hno with hno | hno | hno | hno | hno <;> simpa [hno] using hgr
  · have hdirect := Direct.of_expected h hlink
    obtain rfl : q = chunkAsked n f ctx nsid slba cnt := hq
    refine ⟨copyReq_refused h hlink, fun hlets => copyReq_past_end h hlets hlink, fun hlets hin hpos => copyReq_waits h hlets hin hpos,
      fun hlets hin hpos hnone hlive hfree hlost hslba hcnt hon htouched hcap hsrc => ?_,
      fun hlets hin hpos hnone hlive hfree hlost hslba hcnt hoff => ?_,
      fun hlets hin hpos hnone hlive hfree hlost hslba hcnt hon htouched => ?_, copyReq_cancelled h⟩
    · obtain ⟨v, -, hze, hci, hchunks, hv, hexec⟩ := copyReq_served (ctx := ctx) h hlets hin hpos hnone hlive hfree hlost
      exact ⟨_, hexec, chunk_read_on hv hslba hcnt hze hci hon hcap hchunks htouched hsrc⟩
    · obtain ⟨v, hroutes, hze, -, -, hv, hexec⟩ := copyReq_served (ctx := ctx) h hlets hin hpos hnone hlive hfree hlost
      exact ⟨_, hexec, chunk_offline hv hslba hcnt hze (hdirect.of_sameRoutes hroutes) hoff⟩
    · obtain ⟨v, hroutes, hze, hci, -, hv, hexec⟩ := copyReq_served (ctx := ctx) h hlets hin hpos hnone hlive hfree hlost
      have hcap (k : Nat) (hk : k ∈ touched s nsid (lbasFrom slba cnt)) :
          (captureGen s (shapeOf s nsid (zoneOf s k)).keySlot).isSome = true := by
        rw [show touched s nsid (lbasFrom slba cnt) = [] from htouched] at hk
        cases hk
      exact ⟨_, hexec, chunk_of_zeros hv hslba hcnt hze hci hon hcap (hdirect.of_sameRoutes hroutes) htouched⟩
  · have hx : AwaitsChunks s c f x := ⟨hc, hopc, hio, hstarted, hst, hchunks, hnode⟩
    exact ⟨copyData_brings h hx, copyData_of_unasked h hx⟩
  · have hx : AwaitsChunks s c f x := ⟨hc, hopc, hio, hstarted, hst, hchunks, hnode⟩
    exact ⟨copyEnd_ends_chunk h hx, fun st => copyEnd_fails h hx⟩

end Sys2Proof.Machine
